-- ==== Sys2Proof/Word.lean ====
section
/-! DEFINITION. The words of the model: bytes and unit identifiers. -/

namespace Sys2Proof

/-- One byte of a structure in memory, a descriptor, a record or a frame. -/
abbrev Byte := BitVec 8

/-- A unit identifier (R20, Table 1.3). -/
abbrev Uid := BitVec 32

end Sys2Proof
end

