-- ==== Sys2Proof/Syntax.lean ====
section
/-! DEFINITION. The commands of the block and the data they carry. The opcode table gives its rows no operands
(its "fields" are empty); the operands here are the model's, taken from the rules each row cites. -/

namespace Sys2Proof

/-- An access to host memory that R117 covers, with its command or event ring. -/
inductive HostAccess where
  | fetch (ring : Nat) | completion (ring : Nat) | event (ring : Nat) | buffer (ring : Nat) | doorbell | status
  deriving DecidableEq, Repr

/-- What the cryptographic checks of one authorisation block find (R406): the SHA-384 of the block's public key,
whether its content digest is that of the covered content, and whether its signature verifies. -/
structure AuthFact where
  keyHash : BitVec 384 := 0
  digestOk : Bool := false
  sigOk : Bool := false
  deriving DecidableEq, Repr

/-- A descriptor as it is taken from a command ring (Table 4.5), with the contents of its input buffer and what the
cryptographic checks of that buffer find. -/
structure Desc where
  /-- Command ring the descriptor is on. -/
  ring : Nat := 0
  /-- The 64 bytes of the descriptor. -/
  bytes : List Byte := []
  /-- Contents of the buffer, read from host memory. -/
  buf : List Byte := []
  /-- The blocks at the end of the buffer, in their order (R405). -/
  auth : List AuthFact := []
  /-- SHA-384 of the public key that the buffer's first 96 bytes hold (Table 17.5). -/
  keyHash : BitVec 384 := 0
  /-- SHA-384 of the key under which the signature of the pack or image in the buffer verifies; none when it verifies under no key (R132, R361). -/
  sigKey : Option (BitVec 384) := none
  /-- A read of the input buffer is answered with ERROR, or not within 100 us (R117). -/
  bufLost : Bool := false
  deriving DecidableEq, Repr

/-- What a Warden voter measures of a reference against its own ring oscillator (R81): edges in the last 1 us, and the distance of its
frequency from 100 MHz averaged over 10 us [ppm]. -/
structure RefView where
  edges : Nat := 100
  ppm : Int := 0
  deriving DecidableEq, Repr

/-- What the flash device says of itself over SFDP (R83): its size in MiB, whether it declares the 4-byte-address commands and the quad
I/O read, and its identification bytes. -/
structure FlashId where
  mib : Nat := 64
  fourByte : Bool := true
  quadIo : Bool := true
  ident : List Byte := []
  deriving DecidableEq, Repr

/-- A data-plane report on the err group of a Flock Service Port (R48, R271). -/
structure FspErr where
  grp : Nat := 0
  cls : Nat := 0
  scope : Nat := 0
  core : Nat := 0
  lane : Nat := 0
  elem : Nat := 0
  low : Nat := 0
  parityOk : Bool := true
  deriving DecidableEq, Repr

/-- An error that a Beyja part reports by itself (R273): its code, its part, its class where the code carries two
classes, and payload bytes 44-55. -/
structure InfraErr where
  code : Nat := 0
  uid : Uid := 0
  cls : Nat := 1
  payload : List Byte := []
  deriving DecidableEq, Repr

/-- A firmware image as read from flash or from a buffer (R361, Table 15.2), with the outcome of its checks. -/
structure FwImage where
  version : BitVec 32 := 0
  contract : Nat := 1
  schema : Nat := 0
  lowSchema : Nat := 0
  serial : Nat := 0
  floor : Nat := 0
  part : BitVec 32 := 0
  /-- Minimum and maximum of HRP, GPK, EMF, TRF and SVF: bytes 36-45. -/
  sup : List Byte := []
  /-- Creation time: seconds since 1970-01-01 UTC. -/
  created : Nat := 0
  /-- The signature, r and then s. -/
  sig : List Byte := []
  sigOk : Bool := false
  headerOk : Bool := true
  deriving DecidableEq, Repr

/-- The readings of one rail in a PMBus telemetry round (R90, Table 3.6). -/
structure RailReading where
  field : Nat := 0
  page : Nat := 0
  milliVolt : Nat := 0
  milliAmp : Nat := 0
  /-- STATUS_WORD, STATUS_VOUT, STATUS_IOUT and STATUS_TEMPERATURE, in a round that reads them and finds a flag set. -/
  status : Option (Nat × Nat × Nat × Nat) := none
  /-- VOUT_MODE is ULINEAR16, as R89 requires. -/
  linear : Bool := true
  deriving DecidableEq, Repr

/-- What the flits of a mesh message show at a router (R27): the router that sees it, by the field it stands in, and its link
(0 N, 1 E, 2 S, 3 W, 4 local). The router is of the plane the message travels on. -/
inductive FlitState where
  | clean | corrected (field link : Nat) | uncorrectable (field link : Nat)
  deriving DecidableEq, Repr

/-- What a mesh message carries, where a rule acts on it. -/
inductive MeshBody where
  | other
  /-- The counts a Drover sends when its event buffer drains (R354). -/
  | counts (f : Nat)
  deriving DecidableEq, Repr

/-- A Drove mesh message on a plane (R26): flit 0 is the header of Table 1.7, up to seven more follow. -/
structure MeshMsg where
  head : BitVec 128 := 0
  rest : List (BitVec 128) := []
  /-- 0 upwind, 1 downwind (R25). -/
  plane : Nat := 0
  flits : FlitState := .clean
  body : MeshBody := .other
  deriving DecidableEq, Repr

/-- What a Warden voter votes (R349); the Shepherd named is SHC-A for false and SHC-B for true. -/
inductive Vote where
  | loss (b : Bool) | mismatch (late : Bool) | challenge (outcome : Nat) | partrst (b : Bool) | swap
  deriving DecidableEq, Repr

/-- One wait-table entry in use (Table 12.3). -/
structure WaitEntry where
  node : Nat := 0
  flags : Nat := 0
  waits : Nat := 0
  owes1 : Nat := 0
  owes2 : Nat := 0
  deriving DecidableEq, Repr

/-- The wait table of one physical flock, as read (R292). -/
structure WaitTable where
  f : Nat := 0
  k : Nat := 0
  entries : List WaitEntry := []
  deriving DecidableEq, Repr

/-- One flock entry of a capture slot (R297): the flock's UID, its copied flag, the TBASE of its first and last read and
the bytes read from its flock control block. -/
structure CapEntry where
  uid : Uid := 0
  copied : Bool := false
  t0 : Nat := 0
  t1 : Nat := 0
  bytes : List Byte := []
  deriving DecidableEq, Repr

/-- The activity counters of one physical flock over the last interval (Table 13.5), as read from the power control block. -/
structure Activity where
  f : Nat := 0
  k : Nat := 0
  mac : Nat := 0
  sram : Nat := 0
  net : Nat := 0
  filler : Nat := 0
  /-- Logical cores of the flock without program work in the interval (R336). -/
  idle : Nat := 0
  deriving DecidableEq, Repr

/-- The instruments of the instrument network (Table 17.4). -/
inductive Instrument where
  | readOnly | write | otp | scan | authorisation
  deriving DecidableEq, Repr

/-- The instructions of the test access port (R92). -/
inductive JtagIns where
  | bypass | idcode | sample | extest | clamp | highz | instnet
  deriving DecidableEq, Repr

/-- The instruction drives pins (R93). -/
def JtagIns.drivesPins : JtagIns → Bool
  | .extest | .clamp | .highz => true
  | _ => false


/-- The commands of the block: one constructor per row of the opcode table. -/
inductive Instr where
  /-- HIF_START (R103): A write of HIF_CTRL with START set and KEEP clear destroys every ring, checks the bootstrap registers and brings the interface up with the ring-0 pair. -/
  | hifStart
  /-- HIF_RESUME (R129): A write of HIF_CTRL with START and KEEP set ends host loss, keeps the rings, restarts the heartbeat timer and writes the held completions. -/
  | hifResume
  /-- WINDOW_LOCK (R428): A write of 1 to LOCK makes every RWL field of the window read-only until cold reset or a PWR_GOOD rise. -/
  | windowLock
  /-- FERR_CLEAR (R283): A write of 1 to the FERR valid bit zeroes the latch and re-arms it, unless a handling flag is set, in which case the write has no effect. -/
  | ferrClear
  /-- FERR_OVERFLOW_CLEAR (R283): A write of 1 to the FERR overflow bit clears that bit at any time. -/
  | ferrOverflowClear
  /-- PIN_HELD_CLEAR (R284): A write of 1 to ERRHELD or FATALHELD releases a pin held in hold mode, taking effect once the pin's low time has ended. -/
  | pinHeldClear (err fatal : Bool)
  /-- PIN_MODE_WRITE (R427): A write of ERRMODE or FATALMODE selects hold or release mode, which takes effect at the pin's next assertion. -/
  | pinModeWrite (err fatal : Bool)
  /-- APERTURE_WRITE (R430): A write of APT_BASE or APT_LIMIT changes the DMA aperture for commands and bootstraps taken after it, and rings outside it stop at their next access. -/
  | apertureWrite (off size : Nat) (value : BitVec 64)
  /-- WINDOW_WRITE (R100): A write to a window register that has no behaviour of its own, such as a bootstrap register or a reserved offset, stores the value or is ignored and answered OK. -/
  | windowWrite (off size : Nat) (value : BitVec 64)
  /-- WINDOW_ERROR (R100): A window access of another size or alignment is answered ERROR and recorded as event 0x5007. -/
  | windowError (off size : Nat) (write : Bool)
  /-- DOORBELL_POLL (R108): The periodic read of doorbell words 0-71 picks up new command-ring tail counts and event-ring head counts. -/
  | doorbellPoll (words : List Nat)
  /-- MODERATION_END (R113): The end of an event ring's moderation interval sends the one interrupt message that collected during the interval. -/
  | moderationEnd (ring : Nat)
  /-- INTERRUPT_ACK (R77): imp_ack from the host bridge ends an interrupt message and lets Beyja send the next one. -/
  | interruptAck
  /-- DMA_ERROR (R117): A host-memory access answered ERROR or unanswered after 100 us records 0x5006 and then stops the ring, fails the command, or suspends doorbell or status handling. -/
  | dmaError (access : HostAccess) (addr : BitVec 64) (late : Bool)
  /-- HEARTBEAT_LATE (R127): When 1 s has passed since the heartbeat timer last started or restarted, event 0x5003 is recorded once per lapse. -/
  | heartbeatLate
  /-- HOST_LOST (R128): When 5 s have passed since the heartbeat timer last started or restarted, Beyja declares host loss, stops all host DMA and sends only vector 8. -/
  | hostLost
  /-- NEGOTIATE (R122): Chooses the highest common version for each of the five formats and completes OK only when all five meet. -/
  | negotiate (d : Desc)
  /-- RING_CREATE (R119): Creates a command ring or an event ring with the lowest free number, within the ring limits. -/
  | ringCreate (d : Desc)
  /-- RING_DESTROY (R119): Destroys a ring other than ring 0; descriptors not yet taken are never taken. -/
  | ringDestroy (d : Desc)
  /-- HEARTBEAT (R120): Restarts the heartbeat timer and returns TBASE. -/
  | heartbeat (d : Desc)
  /-- JOB_BEGIN (R309): Moves the epoch, drains old-epoch stack writes, writes regions and pending thins, draws the job key and reopens the held hurdles. -/
  | jobBegin (d : Desc)
  /-- MTP_DRAIN_DONE (R70): mtp_drain_done rises on the memory taps, which lets a waiting JOB_BEGIN go on. -/
  | mtpDrainDone (tap : Nat)
  /-- JOB_BEGIN_DRAIN_TIMEOUT (R309): The 10 ms drain wait of JOB_BEGIN passes with a tap not drained, so JOB_BEGIN completes TIMEOUT and keeps the new epoch. -/
  | jobBeginDrainTimeout
  /-- JOB_END (R39): Ends the active job and reports whether the run was timing-clean. -/
  | jobEnd (d : Desc)
  /-- MUSTER_POINT (R248): Ends test slices, waits for fsp_quiet and carries out the pending flock, core and lane folds and clock-step shelters of the domain. -/
  | musterPoint (d : Desc)
  /-- MUSTER_QUIET_TIMEOUT (R248): The 10 ms wait for fsp_quiet at a Muster point passes, the folds of quiet flocks proceed, and the command completes TIMEOUT. -/
  | musterQuietTimeout (dom : Uid)
  /-- IDLE_TABLE_LOAD (R141): Checks an idle-slot table and replaces the program identifier's entries in the domain from its next run start. -/
  | idleTableLoad (d : Desc)
  /-- SCREEN_POLICY (R151): POLICY_SET of a screening item 0x0500-0x0504 records 0x7009. -/
  | screenPolicy (d : Desc)
  /-- GOVERNOR_POLICY (R237): POLICY_SET of a governor item 0x0900-0x0905, which needs owner authorisation when it loosens the bound. -/
  | governorPolicy (d : Desc)
  /-- REACTION_POLICY (R279): POLICY_SET item 0x0B00 sets one reaction mask of one code and records 0x010D. -/
  | reactionPolicy (d : Desc)
  /-- REACTION_DEFAULTS (R279): POLICY_SET item 0x0B01 restores every default reaction mask. -/
  | reactionDefaults (d : Desc)
  /-- SPARING_POLICY (R266): POLICY_SET of a sparing item 0x0A00-0x0A06 records 0x7037. -/
  | sparingPolicy (d : Desc)
  /-- RECOVERY_POLICY (R315): POLICY_SET of a recovery item 0x0C00-0x0C04 or of a stack region 0x0C10-0x0C1F records 0x0318. -/
  | recoveryPolicy (d : Desc)
  /-- POWER_POLICY (R341): POLICY_SET of a power item 0x0D00-0x0D06 records 0x3009. -/
  | powerPolicy (d : Desc)
  /-- LIFECYCLE_POLICY (R408): POLICY_SET of a life-cycle item 0x1100-0x1102 records 0x6001. -/
  | lifecyclePolicy (d : Desc)
  /-- RAMP_SET (R337): Sets the up and down ramp limits from the next interval and records 0x3009. -/
  | rampSet (d : Desc)
  /-- PACK_STAGE (R135): Checks a pack and writes it into a flash pack slot, programming the first page last. -/
  | packStage (d : Desc)
  /-- PACK_ACTIVATE (R136): Records a pack slot as active, raises the floor, records 0x7007 and starts the content pager's copy. -/
  | packActivate (d : Desc)
  /-- WATCH_SET (R220): Defines, replaces or switches off one tensor-watch point. -/
  | watchSet (d : Desc)
  /-- EARMARK_CONFIG (R212): Replaces the earmark configuration: tracker idle time and result targets. -/
  | earmarkConfig (d : Desc)
  /-- REPLICA_DIGEST (R218): Replaces the fleece targets, the replica peers and their routes. -/
  | replicaDigest (d : Desc)
  /-- QUERY_BOUND (R238): Returns the bound report of the last completed epoch and U. -/
  | queryBound (d : Desc)
  /-- QUERY_HEALTH (R267): Returns the health report with field, flock and core entries for the scope. -/
  | queryHealth (d : Desc)
  /-- FOLD_REQUEST (R253): Makes a slot's core, or with slot 0xFF the flock, Suspect with fold pending, without shelter. -/
  | foldRequest (d : Desc)
  /-- UNFOLD (R261): With a signed authorisation, returns Retired units of a slot or flock to service as Watched or as spares. -/
  | unfold (d : Desc)
  /-- DOMAIN_RESET (R314): Runs a level-0 reset on the named domain and completes at RESET_DONE. -/
  | domainReset (d : Desc)
  /-- RECOVER (R314): Starts level-1 recovery of the die and completes at its end. -/
  | recover (d : Desc)
  /-- TALLY_READ (R385): Returns a consistent snapshot of Tally records from a given sequence number. -/
  | tallyRead (d : Desc)
  /-- TALLY_CLEAR (R387): With authorisation, forms a clear record that names the records up to a bound for reclaim. -/
  | tallyClear (d : Desc)
  /-- FW_STAGE (R362): Checks a firmware image and writes it into the firmware slot that does not hold the running image. -/
  | fwStage (d : Desc)
  /-- FW_ACTIVATE (R364): Starts a live update of the staged image at once, or defers it. -/
  | fwActivate (d : Desc)
  /-- TRACE_CONFIG (R412): Replaces the trace configuration, including the rings, the buffer modes, the snapshots and the pacer rate. -/
  | traceConfig (d : Desc)
  /-- WAITGRAPH_REQ (R419): Assembles the wait-for graph of a domain and returns the report. -/
  | waitgraphReq (d : Desc)
  /-- LIFECYCLE_PROVISIONED (R401): LIFECYCLE_REQ code 1 with maker authorisation burns an owner key hash and a life-cycle fuse. -/
  | lifecycleProvisioned (d : Desc)
  /-- LIFECYCLE_FIELD (R401): LIFECYCLE_REQ code 2 with owner authorisation burns a fuse and clears the Bellwether baselines. -/
  | lifecycleField (d : Desc)
  /-- LIFECYCLE_RETURN (R402): LIFECYCLE_REQ code 3 voids the owner slot, erases secrets, optionally clears the fold list and burns a fuse. -/
  | lifecycleReturn (d : Desc)
  /-- SHUT_DOWN (R395): LIFECYCLE_REQ code 4 ends the job, holds the hurdles, hard-repairs rows, runs the shut-down self-test and records 0x6004. -/
  | shutDown (d : Desc)
  /-- SET_OWNER_PACK_KEY (R401): LIFECYCLE_REQ code 5 with owner authorisation writes or removes the owner pack key in the settings. -/
  | setOwnerPackKey (d : Desc)
  /-- OP_ANNOUNCE (R49): An operation announce on the FSP is hashed by the sampler and answered exactly two cycles later with mirror and twin selection. -/
  | opAnnounce (f k core : Nat) (n : BitVec 48) (rep : Bool) (beats : Nat) (parityOk : Bool)
  /-- MIRROR_BEAT (R50): A mirror beat is taken into the bound Crook entry, and the last beat closes the stream. -/
  | mirrorBeat (f k : Nat) (kind : Nat) (last : Bool) (data : List Byte) (badLane : Option Nat)
  /-- DIGEST_ARRIVAL (R52): An output digest on the dig group is routed by its tag to the Crook entry and to the twin comparator. -/
  | digestArrival (f k core tag : Nat) (dig : BitVec 64) (parityOk : Bool)
  /-- DIGEST_WAIT_END (R187): The wait for a core's or a twin's digest ends, giving DIGEST_MISSING or the fixed verdict. -/
  | digestWaitEnd (f k tag : Nat) (ofTwin : Bool)
  /-- CROOK_COMPUTE_DONE (R183): A Crook computation ends with its reference digest, which is compared with the core's digest. -/
  | crookComputeDone (f c fk tag : Nat) (fault : Option (BitVec 64))
  /-- CROOK_CONFIRM_DONE (R185): A confirming recomputation ends and the confirmation outcome table gives the verdict. -/
  | crookConfirmDone (f c fk tag : Nat) (fault : Option (BitVec 64))
  /-- CROOK_SELFTEST (R189): The periodic known-answer self-test of a Crook runs, and a failure takes the Crook out of service. -/
  | crookSelftest (f c : Nat) (fail : Option (Nat × Nat))
  /-- CROOK_BUFFER_ECC (R188): An ECC error in a Crook operand buffer is corrected, or ends its entries as CROOK_DISAGREE, and records 0x0403. -/
  | crookBufferEcc (f c : Nat) (unc : Bool) (line : Nat) (tags : List (Nat × Nat))
  /-- COMMAND_ISSUE (R55): fsp_trk_iss takes the presented tracker, starts its timer and age, and presents the next free tracker. -/
  | commandIssue (f k cls : Nat) (parityOk : Bool)
  /-- COMMAND_RETIRE (R55): fsp_trk_ret frees a tracker, or records 0x1231 when the tracker was not held. -/
  | commandRetire (f k id : Nat) (parityOk : Bool)
  /-- KILL_DONE (R56): fsp_kill_done frees all 64 trackers and Beyja lowers fsp_kill. -/
  | killDone (f k : Nat) (parityOk : Bool := true)
  /-- KILL_TIMEOUT (R298): fsp_kill_done has not come within 100 us during a level-0 reset. -/
  | killTimeout (f k : Nat)
  /-- HURDLE_CLOSED (R294): Every fsp_hdl_closed of the domain is 1, so the hurdle is closed, 0x0310 is recorded and the drain starts. -/
  | hurdleClosed (dom : Uid) (badAt : Option (Nat × Nat) := none)
  /-- DRAIN_END (R295): Every fsp_hdl_idle of the domain is 1, so the drain ends and capture may begin. -/
  | drainEnd (dom : Uid) (badAt : Option (Nat × Nat) := none)
  /-- DRAIN_TIMEOUT (R295): The drain timeout passes, so fsp_hdl_flush is asserted on every FSP that is not idle and 0x0311 is recorded. -/
  | drainTimeout (dom : Uid) (notIdle : List (Nat × Nat))
  /-- QUIET_RISE (R58): fsp_quiet rises at a Muster point, allowing map, lane and copy writes. -/
  | quietRise (f k : Nat) (parityOk : Bool := true)
  /-- QUIET_FALL (R58): fsp_quiet falls while a copy is pending, so the copy is treated as failed. -/
  | quietFall (f k : Nat) (parityOk : Bool := true)
  /-- COPY_DONE (R250): fsp_copy_done ends a core or flock copy, and a clean copy is followed by the map write and the trim write. -/
  | copyDone (f k : Nat) (err : Bool) (parityOk : Bool := true)
  /-- COPY_LIMIT (R252): The copy limit of the fold-cost table passes before fsp_copy_done, so the copy fails. -/
  | copyLimit (f k : Nat)
  /-- FOLD_LIST_COMMIT (R259): A fold-list entry's valid mark is committed, and a Folded unit becomes Retired. -/
  | foldListCommit
  /-- LDO_OK (R60): fsp_ldo_ok rises after a trim change, and a shelter's re-test can open. -/
  | ldoOk (f k : Nat) (parityOk : Bool := true)
  /-- LDO_OK_TIMEOUT (R245): fsp_ldo_ok does not rise within 10 us, so the shelter falls back to a clock step. -/
  | ldoOkTimeout (f k : Nat)
  /-- RETEST_DEADLINE (R241): A shelter re-test passes its deadline, so the core becomes Suspect with fold pending. -/
  | retestDeadline (f k c : Nat)
  /-- RUN_START (R61): fsp_run_start latches the sampling thresholds, switches in replaced idle tables and starts slice timing for the run. -/
  | runStart (f k : Nat) (runId : Nat) (parityOk : Bool := true)
  /-- WINDOW_PLAN (R144): At w - 2,048, the Drover chooses a rotation item that fits the window and starts writing the scratch. -/
  | windowPlan (f k slot : Nat) (w : Nat)
  /-- SCRATCH_WRITE_DONE (R144): The test-scratch write completes, and a window of the Drover's own making opens in the next cycle. -/
  | scratchWriteDone (f k c : Nat)
  /-- WINDOW_OPEN (R144): At w, the Drover applies the busy, fence and Muster tests and raises fsp_ts_enter or counts a busy skip. -/
  | windowOpen (f k slot : Nat) (w : Nat)
  /-- SPARE_SLICE_PLAN (R149): The Drover schedules a slice on a spare core, within 1/16 of the time, or on the Bellwether flock. -/
  | spareSlicePlan (f k c : Nat)
  /-- TS_SAVED (R61): fsp_ts_saved arrives, so the Drover pulses fsp_ts_go, or first writes the guard step. -/
  | tsSaved (f k c : Nat) (parityOk : Bool)
  /-- TS_SAVED_LATE (R148): fsp_ts_saved has not come by w + 96, so 0x7004 fences the flock and fsp_ts_exit is raised. -/
  | tsSavedLate (f k c : Nat)
  /-- GUARD_GO (R145): Eight cycles after the step write of a guard slice, fsp_ts_go is pulsed. -/
  | guardGo (f k c : Nat)
  /-- TS_DONE (R146): fsp_ts_done with the MISR gives PASS or FAIL and leads to fsp_ts_exit. -/
  | tsDone (f k c : Nat) (misr : BitVec 64) (parityOk : Bool := true)
  /-- GUARD_EXIT (R145): Eight cycles after the step s write of a guard slice, fsp_ts_exit is raised. -/
  | guardExit (f k c : Nat)
  /-- DONE_MISSING (R146): No fsp_ts_done by dur + 16 cycles after go gives FAIL with 0x7004 and immediate exit. -/
  | doneMissing (f k c : Nat)
  /-- SLICE_LATEST_EXIT (R146): The latest exit w + L - 192 is reached, so fsp_ts_exit is raised and the slice ends with no verdict. -/
  | sliceLatestExit (f k c : Nat)
  /-- TS_NEED (R62): fsp_ts_need makes Beyja raise fsp_ts_exit within 8 cycles and end the slice with no verdict. -/
  | tsNeed (f k c : Nat) (parityOk : Bool := true)
  /-- TS_RESTORED (R61): fsp_ts_restored ends the slice, and Beyja lowers fsp_ts_enter and fsp_ts_exit. -/
  | tsRestored (f k c : Nat) (parityOk : Bool := true)
  /-- RESTORED_LATE (R148): fsp_ts_restored has not come 96 cycles after exit, so 0x7004 is recorded and the flock is fenced. -/
  | restoredLate (f k c : Nat)
  /-- ROTATION_CHECK (R152): Once per rotation period, each Drover counts cores unscreened or overdue and records 0x7005 when any exist. -/
  | rotationCheck (f : Nat)
  /-- ERROR_REPORT (R271): A data-plane report on fsp_err_vld is acknowledged, classified, fenced by class and passed to the active Shepherd. -/
  | errorReport (f k : Nat) (r : FspErr)
  /-- INFRASTRUCTURE_ERROR (R273): A Beyja part reports an infrastructure error, which is recorded and reacted to by its reaction mask. -/
  | infrastructureError (e : InfraErr)
  /-- PART_RESET_DONE (R276): A PARTRST of a Beyja part ends, the part returns to service and the PARTRST flag may clear. -/
  | partResetDone (uid : Uid) (pass : Bool)
  /-- PART_RESET_LIMIT (R276): A PARTRST passes its time limit, so the part is taken out of service. -/
  | partResetLimit (uid : Uid)
  /-- NMI_RETURN (R273): The firmware NMI handler returns, which clears the FERR NMI flag. -/
  | nmiReturn (b : Bool)
  /-- NMI_OVERRUN (R360): An NMI handler has not returned within 100 us, so 0x4004 is recorded with cause 1 and the Shepherd is reset. -/
  | nmiOverrun (b : Bool) (core : Nat)
  /-- TX_FRAME_START (R209): At ltp_tx_sof of a kind-1 frame, the engine assigns a tracker and drives the earmark flag. -/
  | txFrameStart (tap : Nat) (fd : BitVec 192)
  /-- TX_FRAME_END (R66): At ltp_tx_eof of a contribution frame, the trailer is presented within 16 tap cycles. -/
  | txFrameEnd (tap : Nat) (data : List Byte)
  /-- TRACKER_IDLE (R210): An earmark tracker sees no frame for the idle time, so it is released and its counts are written to trace. -/
  | trackerIdle (tap tracker : Nat)
  /-- INBOUND_FRAME (R211): An inbound frame receives an OK, BAD, UNMARKED, STALE or EARLY verdict from the epoch, kind, flag and digest. -/
  | inboundFrame (tap : Nat) (fd : BitVec 192) (data trailer : List Byte)
  /-- SERVICE_FRAME_GRANT (R66): ltp_svc_tx_gnt lets the engine send the next queued service frame. -/
  | serviceFrameGrant (tap : Nat)
  /-- SERVICE_FRAME_RECEIVED (R206): A received service frame is checked, then forwarded, delivered or dropped. -/
  | serviceFrameReceived (tap : Nat) (bytes : List Byte)
  /-- LINK_DOWN (R313): ltp_link_up falls, so requests outstanding over the link complete with ERROR and 0x2103 is recorded. -/
  | linkDown (tap : Nat)
  /-- LINK_UP (R66): ltp_link_up rises, so the tap again carries frames and notices. -/
  | linkUp (tap : Nat)
  /-- SERVICE_REGISTER_ACK (R71): sr_ack ends a service register access with the read data or an error. -/
  | serviceRegisterAck (mtp : Bool) (tap : Nat) (data : BitVec 32) (err : Bool)
  /-- SERVICE_REGISTER_LATE (R71): The partner has not answered a service register access within 64 cycles, so a UC is recorded. -/
  | serviceRegisterLate (mtp : Bool) (tap : Nat)
  /-- MEMORY_EVENT (R305): An MTP memory error event is acknowledged, recorded, counted in the row table and reacted to by its class. -/
  | memoryEvent (tap cls : Nat) (loc : BitVec 32) (line : BitVec 32)
  /-- ROW_REPAIR_START (R263): A soft repair of a due row starts through the MTP repair words while no job is active. -/
  | rowRepairStart (tap : Nat)
  /-- ROW_REPAIR (R265): The repair status reaches done or failed, so a fold-list entry is appended on success and 0x2020 is recorded. -/
  | rowRepair (tap status : Nat)
  /-- ROW_REPAIR_LIMIT (R263): A repair's status is not 2 within 5 ms, so the repair has failed. -/
  | rowRepairLimit (tap : Nat)
  /-- RETRAIN_DONE (R291): A retrain word reads done or failed, and a failed stack records 0x2006 and leaves service. -/
  | retrainDone (tap : Nat) (ok : Bool) (attempts : Nat)
  /-- RAIL_TRIP (R319): An overcurrent trip flag opens a rail, so the Drover drives the enable low, paddocks the field off and a die-compute reset follows. -/
  | railTrip (f : Nat) (infra : Bool)
  /-- THERMAL_OFF (R332): A 115 C comparator opens the field's compute rail, THERMTRIP_N falls and 0x3103 is recorded. -/
  | thermalOff (f sensor : Nat) (reading : Int)
  /-- HW_THROTTLE (R331): A sensor reaching 105 C switches the field's CCLK to half frequency within 1 us. -/
  | hwThrottle (f sensor : Nat) (reading : Int)
  /-- HW_THROTTLE_RELEASE (R331): After every sensor has read below 100 C for 10 ms, the throttle is released at 800 MHz. -/
  | hwThrottleRelease (f : Nat)
  /-- PADDOCK_RETURN (R321): A due return attempt cycles a paddocked field's rail enables. -/
  | paddockReturn (f : Nat)
  /-- PSP_POWER_GOOD (R321): psp_comp_pg or psp_infra_pg rises, letting a return, start or level-1 sequence continue. -/
  | pspPowerGood (f : Nat) (infra : Bool)
  /-- COMP_PG_TIMEOUT (R320): A rail does not reach regulation in time, so the attempt fails. -/
  | compPgTimeout (f : Nat) (infra : Bool)
  /-- PWR_GOOD_RISE (R390): PWR_GOOD rises, so TBASE starts and the start sequence begins. -/
  | pwrGoodRise (otpFault : Option Nat)
  /-- PWR_GOOD_FALL (R97): PWR_GOOD falls, so no new flash program starts and the page program in progress completes. -/
  | pwrGoodFall
  /-- COLD_RESET (R98): A valid COLD_RESET_N assertion resets all Beyja logic except TBASE and OTP. -/
  | coldReset
  /-- COLD_RESET_RELEASE (R98): The release of COLD_RESET_N starts the start sequence again without resetting TBASE. -/
  | coldResetRelease
  /-- SHEPHERD_SELFTEST_DONE (R344): A Shepherd's hardware self-test ends, which decides the active Shepherd. -/
  | shepherdSelftestDone (b pass : Bool) (flash : Option FlashId)
  /-- FIRMWARE_LOADED (R363): The firmware image read from flash is verified and starts, or the other slot is tried. -/
  | firmwareLoaded (slotA slotB : Option FwImage)
  /-- START_READY (R393): Beyja becomes ready, sets READY, records 0x6006 and applies a held START. -/
  | startReady (failed : List (Uid × Nat × Nat))
  /-- TALLY_SCAN (R384): The start scan of the Tally partition ends, the index is rebuilt and the previous stop is classified. -/
  | tallyScan (invalid pairs : Nat)
  /-- PACK_COPY_VERIFIED (R137): The pager's copy of the active pack verifies, so the Drovers switch to the pack. -/
  | packCopyVerified (ok : Bool)
  /-- REFCLK_CHECK (R81): The voters check both references every 1 us and vote a switch when the selected one fails. -/
  | refclkCheck (viewA viewB : List RefView)
  /-- PLL_LOCK (R81): A PLL re-locks after a reference switch, so the core clocks run again. -/
  | pllLock (f : Nat)
  /-- TAP_INSTRUCTION (R93): A JTAG instruction load is applied, or is refused to BYPASS with 0x6002. -/
  | tapInstruction (ins : JtagIns)
  /-- DEBUG_AUTHORISATION (R404): An owner authorisation through the instrument network opens the read-only instruments in FIELD and records 0x6008. -/
  | debugAuthorisation (block : List Byte) (fact : AuthFact)
  /-- SECRET_CLEAR (R403): A request for scan or SRAM access starts the hardware sequencer that zeroes every secret-bearing store. -/
  | secretClear (authorised : Option (List Byte × AuthFact))
  /-- SCAN_ENABLE (R403): Every read-back is zero, so the scan and SRAM paths are enabled with the Shepherds held in reset. -/
  | scanEnable (allZero : Bool)
  /-- I3C_CCC (R85): An I3C common command code is served, ignored or NACKed. -/
  | i3cCcc (code : Nat) (direct : Bool)
  /-- ENTDAA (R85): The I3C dynamic address assignment is served. -/
  | entdaa (addr : Nat)
  /-- SETDASA (R85): The I3C command sets the dynamic address from the static address. -/
  | setdasa (static addr : Nat)
  /-- SETNEWDA (R85): The I3C command sets a new dynamic address. -/
  | setnewda (addr : Nat)
  /-- RSTDAA (R85): The I3C command resets the dynamic address. -/
  | rstdaa
  /-- GETPID (R85): The I3C command returns the provisioned ID. -/
  | getpid
  /-- GETBCR (R85): The I3C command returns the bus characteristics register. -/
  | getbcr
  /-- GETDCR (R85): The I3C command returns the device characteristics register. -/
  | getdcr
  /-- GETSTATUS (R85): The I3C command returns the target status. -/
  | getstatus
  /-- ENEC (R85): The I3C command enables in-band interrupts. -/
  | enec (events : BitVec 8)
  /-- DISEC (R85): The I3C command disables in-band interrupts. -/
  | disec (events : BitVec 8)
  /-- GETMWL (R85): The I3C command returns the maximum write length. -/
  | getmwl
  /-- SETMWL (R85): The I3C command sets the maximum write length. -/
  | setmwl (len : Nat)
  /-- GETMRL (R85): The I3C command returns the maximum read length. -/
  | getmrl
  /-- SETMRL (R85): The I3C command sets the maximum read length. -/
  | setmrl (len : Nat)
  /-- MCTP_CONTROL (R86): An MCTP control message over I3C is answered. -/
  | mctpControl (msg : List Byte)
  /-- MCTP_OTHER_MESSAGE (R86): An MCTP message of an unsupported type is answered with an MCTP error or discarded. -/
  | mctpOtherMessage (typ : Nat) (discard : Bool)
  /-- GET_TID (R87): The PLDM base command GetTID is answered. -/
  | getTid
  /-- GET_PLDM_VERSION (R87): The PLDM base command GetPLDMVersion is answered. -/
  | getPldmVersion (typ : Nat)
  /-- GET_PLDM_TYPES (R87): The PLDM base command GetPLDMTypes is answered. -/
  | getPldmTypes
  /-- GET_PLDM_COMMANDS (R87): The PLDM base command GetPLDMCommands is answered. -/
  | getPldmCommands (typ : Nat)
  /-- GET_SENSOR_READING (R87): The PLDM command GetSensorReading returns a numeric sensor reading. -/
  | getSensorReading (id : Nat)
  /-- GET_STATE_SENSOR_READINGS (R87): The PLDM command GetStateSensorReadings returns the Beyja state sensor. -/
  | getStateSensorReadings (id : Nat)
  /-- GET_PDR_REPOSITORY_INFO (R87): The PLDM command GetPDRRepositoryInfo is answered. -/
  | getPdrRepositoryInfo
  /-- GET_PDR (R87): The PLDM command GetPDR returns a platform descriptor record. -/
  | getPdr (handle : Nat)
  /-- GET_IDENT (R88): The vendor message returns the identification registers. -/
  | getIdent
  /-- GET_HEALTH (R88): The vendor message returns the die health, without per-flock maps. -/
  | getHealth
  /-- GET_BOUND (R88): The vendor message returns the bound report, as QUERY_BOUND does. -/
  | getBound
  /-- READ_TALLY (R88): The vendor message returns up to 16 Tally records from a sequence number. -/
  | readTally (first count : Nat)
  /-- GET_PINS (R88): The vendor message returns the state and mode of the alarm pins. -/
  | getPins
  /-- TELEMETRY_ROUND (R90): A periodic PMBus round reads every rail of a segment. -/
  | telemetryRound (seg : Nat) (rails : List RailReading) (fault : Option (Nat × Nat × Nat))
  /-- BUS_HELD (R91): A segment held low for 35 ms is cleared, and after three failed clears it is marked lost. -/
  | busHeld (seg : Nat) (cleared : Bool)
  /-- CALIBRATION (R339): Once per second, each field's model calibration factor is updated from telemetry. -/
  | calibration
  /-- MESH_MESSAGE (R27): A Drove mesh message is taken whole, its flits are checked and duplicates are discarded before it is acted on. -/
  | meshMessage (m : MeshMsg)
  /-- MESH_LINK_DOWN (R28): A router marks a link to a dead field down within 1 us, and routers return messages undeliverable. -/
  | meshLinkDown (plane f link : Nat)
  /-- DETOUR_TABLES (R28): Detour tables arrive at the routers, and the sources resend their returned messages in order. -/
  | detourTables
  /-- TBASE_SYNC (R31): Every 1 ms, the active TBASE master sends a synchronisation message on both planes. -/
  | tbaseSync (diff : Int)
  /-- WARDEN_EPOCH (R347): At each 10 us boundary, an epoch marker is ordered and both Shepherds send their epoch digests to the voters. -/
  | wardenEpoch (digA digB : BitVec 64) (late : Bool)
  /-- DIGEST_LATE (R347): The follower's digest has not arrived 20 us after the active Shepherd's, which is a mismatch. -/
  | digestLate
  /-- SHEPHERD_HEARTBEAT (R348): Every 128 SCLK cycles, each Shepherd sends a heartbeat to every voter. -/
  | shepherdHeartbeat (b : Bool)
  /-- SHEPHERD_LOST (R348): A voter receives no heartbeat from a Shepherd for 640 ns and votes it lost. -/
  | shepherdLost (voter : Nat) (b : Bool) (reported : Bool)
  /-- VOTE (R349): A voter's vote is taken, and two equal votes of one round act. -/
  | vote (voter : Nat) (round : Nat) (v : Vote)
  /-- CHALLENGE_RESPONSE (R350): The challenge responses are checked and the outcome applied from the challenge-outcome table. -/
  | challengeResponse (b : Bool) (right : Bool)
  /-- CHALLENGE_TIMEOUT (R350): A challenge response is not returned within 1,536 SCLK cycles and counts as wrong. -/
  | challengeTimeout
  /-- TAKEOVER (R351): A Drover receives the takeover message and replays its unacknowledged event-buffer entries to the new active Shepherd. -/
  | takeover (f : Nat)
  /-- ORDER_ENTRY (R345): The follower processes one ordered input as a decision step and reports it processed. -/
  | orderEntry (assertion : Option (Nat × BitVec 32 × BitVec 32))
  /-- OUTPUT_RELEASE (R346): The follower's processing report releases the active Shepherd's held outputs. -/
  | outputRelease
  /-- SHEPHERD_REJOIN (R355): A reset Shepherd finishes its state transfer and joins the order at the next epoch marker. -/
  | shepherdRejoin (b : Bool) (selfTestOk : Bool)
  /-- REJOIN_TIMEOUT (R355): A Shepherd that has not rejoined within 100 ms is out of service. -/
  | rejoinTimeout (b : Bool)
  /-- SHEPHERD_RESET_ORDER (R357): While both Shepherds are lost, every 1 s the voters order a reset of every Shepherd still in service. -/
  | shepherdResetOrder
  /-- FW_WATCHDOG (R360): A control core's 10 ms watchdog expires, so the Shepherd reports itself lost and records 0x4004. -/
  | fwWatchdog (b : Bool) (core : Nat)
  /-- DEFERRED_ACTIVATION_START (R364): A deferred activation starts once 1 s passes without an emergency and any needed job end has completed. -/
  | deferredActivationStart
  /-- UPDATE_IMAGE_RECEIVED (R366): S2 holds the whole streamed image and verifies it, or the update aborts. -/
  | updateImageReceived (sigOk headerOk : Bool)
  /-- UPDATE_SWAP (R366): With no emergency, the voters name S2 active and the swap takes place. -/
  | updateSwap
  /-- UPDATE_JOIN_TIMEOUT (R367): S2 has not joined the order within 100 ms, so the update aborts with 0x4007. -/
  | updateJoinTimeout
  /-- TRACKER_CHECK (R288): Every 100 us, the Drover checks the held trackers against their timeouts. -/
  | trackerCheck (f : Nat)
  /-- WAIT_GRAPH_ASSEMBLED (R293): The wait tables have been read and the cycles are found. -/
  | waitGraphAssembled (auto : Bool) (t0 t1 : Nat) (tables : List WaitTable)
  /-- CAPTURE_DONE (R296): Pre-reset capture has copied every flock control block, so 0x0312 is recorded. -/
  | captureDone (entries : List CapEntry)
  /-- CAPTURE_BUDGET (R296): Capture reaches 1 ms, so uncopied flocks are marked absent and the capture is truncated. -/
  | captureBudget (entries : List CapEntry)
  /-- RESET_STATUS (R298): Flock reset words report done or failed, and when all are done the maps are rewritten and RESET_DONE is recorded. -/
  | resetStatus (f k : Nat) (ok : Bool)
  /-- RESET_LIMIT (R286): A reset passes its limit and has failed, so it escalates to level 1. -/
  | resetLimit (dom : Uid)
  /-- RAIL_CYCLE_HOLD (R302): After the compute rails have been held open for 10 ms in level 1, they reclose in groups. -/
  | railCycleHold
  /-- LEVEL1_LIMIT (R303): Level 1 reaches its 30 s limit, and unfinished fields are paddocked off as lost. -/
  | level1Limit
  /-- EPOCH_END (R233): At each 10 s boundary, the governor recomputes coverage and U and sets the thresholds. -/
  | epochEnd
  /-- HOUR_BIN (R231): At the end of each operating hour, the governor bin is written to flash. -/
  | hourBin
  /-- SWEEP_REPORT (R215): Ten microseconds after the last segment of a batch, a Drover sends its sweep XOR and count to the Shepherd. -/
  | sweepReport (f target : Nat)
  /-- SWEEP_WAIT (R215): The sweep wait passes, so the sweep closes incomplete and 0x0506 is recorded. -/
  | sweepWait (target : Nat)
  /-- EXCHANGE_WAIT (R216): A result or fleece exchange closes by its wait or its completeness, and the majority rule is applied. -/
  | exchangeWait (target : Nat)
  /-- FLEECE_SEND (R219): The fleece-digest frame is sent when all regions close or one sweep wait after the first closes. -/
  | fleeceSend
  /-- LEE_RUN (R329): Every 1 ms, the Lee sequencer steps the hottest field down, or the coolest field up. -/
  | leeRun
  /-- FREQUENCY_SLEW_STEP (R324): A PLL slew advances one 25 MHz step per us, unless held by a gust. -/
  | frequencySlewStep (f : Nat)
  /-- VOLTAGE_LOWER (R324): Ten milliseconds after a lowering slew ends, VOUT_COMMAND lowers the rail voltage. -/
  | voltageLower (f : Nat)
  /-- GUST_RISE (R325): The gust signal rises, so the next CCLK edge is skipped or the clock is stretched. -/
  | gustRise (f detector : Nat)
  /-- STRETCH_END (R325): N stretched cycles after the latest rise, the stretch ends. -/
  | stretchEnd (f : Nat)
  /-- STORM_HOLD_END (R326): Ten quiet milliseconds end a storm hold and record 0x3003. -/
  | stormHoldEnd (f : Nat)
  /-- GUST_DETECTOR_STUCK (R325): A detector firing continuously for 100 us leaves service, and 0x0305 is recorded. -/
  | gustDetectorStuck (f detector : Nat)
  /-- THERMAL_SENSOR_UPDATE (R328): A sensor reading updates T(f) and may take the sensor out of service or record a disagreement. -/
  | thermalSensorUpdate (f sensor : Nat) (reading : Int)
  /-- BREEZE_RUN (R336): Every 100 us, the Breeze governor sets the throttle k and the filler levels. -/
  | breezeRun (acts : List Activity)
  /-- TALLY_COMMIT (R376): A batch of records is committed to flash, with the valid marks programmed last. -/
  | tallyCommit (programFailed : Bool)
  /-- TALLY_RECLAIM_DONE (R380): A sector reclaim ends with the eligible records erased and the reserve moved. -/
  | tallyReclaimDone
  /-- TOKEN_REFILL (R383): At each TBASE whole second, one token is added to every rate-limit bucket that is not full. -/
  | tokenRefill
  /-- OPERATING_SECONDS (R378): Every 60 s, the operating seconds are written to the counters area. -/
  | operatingSeconds
  /-- SELFTEST_SLICE_BOUNDARY (R398): At each shut-down self-test slice boundary, the Drovers report and the budget is checked. -/
  | selftestSliceBoundary
  /-- PACER_WINDOW (R415): Each 10 us pacer window admits observation traffic up to its allowance. -/
  | pacerWindow (hostFree stackFree logFree : Nat)
  /-- SNAPSHOT (R417): At the snapshot period, every counter group is sampled into type 0x30 entries. -/
  | snapshot
  /-- PIN_LOW_TIME_END (R95): The 1 us low time of ERR_N or FATAL_N ends, so the pin rises in release mode, stays low in hold mode, and a clear written during the low time takes effect. -/
  | pinLowTimeEnd (fatal : Bool)
  /-- PIN_HIGH_TIME_END (R95): The 1 us high time of a pin in release mode ends, and an event held during it asserts the pin. -/
  | pinHighTimeEnd (fatal : Bool)
  /-- THERMAL_RETURN_DEADLINE (R320): 3,600 s after a 115 C opening without the return condition having been met, the field is lost. -/
  | thermalReturnDeadline (f : Nat)
  /-- LINK_RETRAIN_FAILED (R304): A link that has been ordered to retrain fails to come up, stays down and records 0x2105. -/
  | linkRetrainFailed (tap attempts : Nat)
  /-- VOUT_READ_BACK (R324): The READ_VOUT read-back after a VOUT_COMMAND completes, and when it agrees within 15 mV the PLL slew of a frequency raise starts. -/
  | voutReadBack (f : Nat) (mv : Nat)
  /-- WRITE_RESPONSE (R109): The die network's write response for a completion's byte 57, or for a buffer or block write, arrives, and Beyja writes the next item such as the status-block head count. -/
  | writeResponse (ring : Nat)
  /-- FLASH_SLOT_WRITTEN (R135): The erase, program and read-back of a pack or firmware slot ends, so PACK_STAGE or FW_STAGE completes OK, or with NO_RESOURCE after a third block failure. -/
  | flashSlotWritten (pack : Bool) (ok : Bool) (block : Nat := 0)
  /-- INSTRUMENT_ACCESS (R400): An access through the instrument network reaches an instrument and is served or, when the life-cycle state does not open it, answered with zeros and ignored. -/
  | instrumentAccess (ins : Instrument) (write : Bool) (addr : Nat) (value : BitVec 64)
  deriving DecidableEq, Repr

end Sys2Proof
end

