-- ==== Sys2Proof/Decode.lean ====
section
/-! DEFINITION. The decoder over the opcode table's words. The table gives no row any bits (every row has an empty list of
fields and no word), so no word spells a command. -/

namespace Sys2Proof

/-- The command that a word of the opcode table spells: none, since the table gives its rows no bits. -/
def decodeTableWord (_nbits _w : Nat) : Option Instr := none

end Sys2Proof
end

