-- ==== Sys2Proof/Machine/Bytes.lean ====
section
/-! DEFINITION. Bytes, little-endian fields and lists: the helpers every structure of the spec is built from (R10). -/

namespace Sys2Proof.Machine

/-- The low `n` bytes of a number, least significant first (R10). -/
def le (n v : Nat) : List Byte :=
  match n with
  | 0 => []
  | m + 1 => BitVec.ofNat 8 v :: le m (v / 256)

/-- The low `n` bytes of a number, most significant first. -/
def be (n v : Nat) : List Byte := (le n v).reverse

/-- The number that little-endian bytes spell (R10). -/
def fromLe : List Byte → Nat
  | [] => 0
  | b :: t => b.toNat + 256 * fromLe t

/-- The number that big-endian bytes spell. -/
def fromBe (l : List Byte) : Nat := fromLe l.reverse

/-- `n` zero bytes. -/
def zeros (n : Nat) : List Byte := List.replicate n 0

/-- A list cut or filled with zero bytes to length `n`. -/
def fit (n : Nat) (l : List Byte) : List Byte := (l.take n) ++ zeros (n - l.length)

/-- The little-endian number in `n` bytes at an offset. -/
def rd (l : List Byte) (off n : Nat) : Nat := fromLe ((l.drop off).take n)

/-- Every byte from `off` on, `n` of them, is zero. -/
def isZero (l : List Byte) (off n : Nat) : Bool := ((l.drop off).take n).all (· == 0)

/-- Bit `i` of a number. -/
def bit (v i : Nat) : Bool := v / 2 ^ i % 2 == 1

/-- One for true, zero for false. -/
def b2n (b : Bool) : Nat := if b then 1 else 0

/-- A signed number in two's complement of `w` bits. -/
def toTwos (w : Nat) (i : Int) : Nat := (i % (2 ^ w : Nat)).toNat

/-- The signed number that a two's complement value of `w` bits spells. -/
def fromTwos (w v : Nat) : Int := if v % 2 ^ w < 2 ^ (w - 1) then (v % 2 ^ w : Nat) else (v % 2 ^ w : Nat) - (2 ^ w : Nat)

/-- A count that saturates at its greatest value. -/
def sat (cap v : Nat) : Nat := min cap v

/-- Division rounded up. -/
def ceilDiv (a b : Nat) : Nat := (a + b - 1) / b

/-- A list with its `i`-th entry changed; unchanged when it has none. -/
def modifyAt {α : Type} (l : List α) (i : Nat) (g : α → α) : List α :=
  match l, i with
  | [], _ => []
  | a :: t, 0 => g a :: t
  | a :: t, j + 1 => a :: modifyAt t j g

/-- A list with its `i`-th entry replaced. -/
def setAt {α : Type} (l : List α) (i : Nat) (v : α) : List α := modifyAt l i (fun _ => v)

/-- Counter `i` of a list of counters raised by `n`. -/
def bump (l : List Nat) (i n : Nat) : List Nat := modifyAt l i (· + n)

/-- Add an entry that a list does not hold. -/
def insertNew {α : Type} [DecidableEq α] (l : List α) (a : α) : List α := if a ∈ l then l else l ++ [a]

/-- Remove an entry from a list. -/
def without {α : Type} [DecidableEq α] (l : List α) (a : α) : List α := l.filter (· ≠ a)

/-- The value a key has in a list of pairs. -/
def assoc {β : Type} (l : List (Nat × β)) (k : Nat) : Option β := (l.find? (fun p => p.1 == k)).map (·.2)

/-- A list of pairs with a key's value replaced or added at the end. -/
def assocSet {β : Type} (l : List (Nat × β)) (k : Nat) (v : β) : List (Nat × β) :=
  if l.any (fun p => p.1 == k) then l.map (fun p => if p.1 == k then (k, v) else p) else l ++ [(k, v)]

/-- A list of pairs without a key. -/
def assocDel {β : Type} (l : List (Nat × β)) (k : Nat) : List (Nat × β) := l.filter (fun p => p.1 ≠ k)

/-- The entries of a list of times that lie within the last `span` before `now`. -/
def recentTimes (now span : Nat) (l : List Nat) : List Nat := l.filter (fun t => now < t + span)

/-- A list cut into pieces of `n`, the last one shorter; `fuel` bounds the number of pieces. -/
def chunks {α : Type} (fuel n : Nat) (l : List α) : List (List α) :=
  match fuel, l with
  | 0, _ => []
  | _, [] => []
  | g + 1, l => l.take n :: chunks g n (l.drop n)

/-- The entry with the greatest measure, the first among equals. -/
def maxOn {α : Type} (g : α → Int) (l : List α) : Option α :=
  l.foldl (fun acc a => match acc with
    | none => some a
    | some b => if g b < g a then some a else some b) none

/-- The entry with the least measure, the first among equals. -/
def minOn {α : Type} (g : α → Int) (l : List α) : Option α := maxOn (fun a => - g a) l

/-- Insert into a list kept in rising order. -/
def insertSorted (a : Nat) : List Nat → List Nat
  | [] => [a]
  | b :: t => if a ≤ b then a :: b :: t else b :: insertSorted a t

/-- A list in rising order. -/
def sortNat (l : List Nat) : List Nat := l.foldr insertSorted []

/-- Insert into a list kept in rising order of a measure; an equal entry goes behind. -/
def insertOn {α : Type} (g : α → Int) (a : α) : List α → List α
  | [] => [a]
  | b :: t => if g a < g b then a :: b :: t else b :: insertOn g a t

/-- A list in rising order of a measure. -/
def sortOn {α : Type} (g : α → Int) (l : List α) : List α := l.foldl (fun acc a => insertOn g a acc) []

/-- The middle value of a list: the lower of the two middle ones when its length is even (R328 names no rule: DESIGN CHOICE). -/
def medianInt (l : List Int) : Int :=
  let sorted := sortOn (fun x => x) l
  sorted.getD ((sorted.length - 1) / 2) 0

end Sys2Proof.Machine
end

