-- ==== Sys2Proof/Machine/Crc.lean ====
section
/-! DEFINITION. The two checks of the spec: CRC-32C (R375) and EM64, the CRC-64 of earmarks and digests (R201, R202). -/

namespace Sys2Proof.Machine

/-- One bit step of the reflected CRC-32C. -/
def crc32cBit (r : Nat) : Nat := if r % 2 = 1 then Nat.xor (r / 2) 0x82F63B78 else r / 2
/-- Apply a step eight times. -/
def eight (g : Nat → Nat) (r : Nat) : Nat := g (g (g (g (g (g (g (g r)))))))
/-- CRC-32C: polynomial 0x1EDC6F41, reflected, initial value and final XOR all ones (R375). -/
def crc32c (l : List Byte) : Nat :=
  Nat.xor (l.foldl (fun r b => eight crc32cBit (Nat.xor r b.toNat)) 0xFFFFFFFF) 0xFFFFFFFF

/-- One bit step of EM64 (R201). -/
def em64Bit (r : Nat) : Nat :=
  if r / 2 ^ 63 = 1 then Nat.xor (r * 2 % 2 ^ 64) 0x42F0E1EBA9EA3693 else r * 2 % 2 ^ 64
/-- Take one byte into EM64, most significant bit first (R201). -/
def em64Byte (r : Nat) (b : Byte) : Nat := eight em64Bit (Nat.xor r (b.toNat * 2 ^ 56))
/-- EM64 of a byte string (R201). -/
def em64 (l : List Byte) : BitVec 64 :=
  BitVec.ofNat 64 (Nat.xor (l.foldl em64Byte 0xFFFFFFFFFFFFFFFF) 0xFFFFFFFFFFFFFFFF)

/-- A segment digest: EM64 of the 16-byte segment header of Table 8.2, then the data (R202). -/
def segmentDigest (tensor epoch step offset : Nat) (data : List Byte) : BitVec 64 :=
  em64 (le 4 tensor ++ le 2 epoch ++ le 6 step ++ le 4 offset ++ data)

end Sys2Proof.Machine
end

