-- ==== Sys2Proof/Machine/Cra3.lean ====
section
/-! DEFINITION. CRA-3, the reference arithmetic: formats, legal descriptors, stage one, stage two, stochastic rounding (R155
to R174), and mix64 (R173). -/

namespace Sys2Proof.Machine

/-- A value of the arithmetic: NaN, a signed infinity, or (-1)^neg * m * 2^e exactly; a zero keeps its sign. -/
inductive Num where
  | nan
  | inf (neg : Bool)
  | fin (neg : Bool) (m : Nat) (e : Int)
  deriving DecidableEq, Repr

/-- mix64 (R173). -/
def mix64 (x : Nat) : Nat :=
  let x := Nat.xor x (x / 2 ^ 30) * 0xBF58476D1CE4E5B9 % 2 ^ 64
  let x := Nat.xor x (x / 2 ^ 27) * 0x94D049BB133111EB % 2 ^ 64
  Nat.xor x (x / 2 ^ 31)

/-- How the special encodings of a floating-point format stand (R157). -/
inductive Specials where
  | ieee | e4m3 | none | integer
  deriving DecidableEq, Repr

/-- A format of Table 6.1. -/
structure Fmt where
  bits : Nat
  ebits : Nat
  mbits : Nat
  bias : Nat
  specials : Specials
  mx : Bool
  deriving DecidableEq, Repr

/-- The formats by code (Table 6.1). -/
def fmtOf (code : Nat) : Option Fmt :=
  match code with
  | 0x0 => some ⟨32, 8, 23, 127, .ieee, false⟩
  | 0x1 => some ⟨16, 8, 7, 127, .ieee, false⟩
  | 0x2 => some ⟨16, 5, 10, 15, .ieee, false⟩
  | 0x3 => some ⟨8, 4, 3, 7, .e4m3, false⟩
  | 0x4 => some ⟨8, 5, 2, 15, .ieee, false⟩
  | 0x5 => some ⟨8, 4, 3, 7, .e4m3, true⟩
  | 0x6 => some ⟨8, 5, 2, 15, .ieee, true⟩
  | 0x7 => some ⟨6, 3, 2, 3, .none, true⟩
  | 0x8 => some ⟨6, 2, 3, 1, .none, true⟩
  | 0x9 => some ⟨4, 2, 1, 1, .none, true⟩
  | 0xA => some ⟨8, 0, 0, 0, .integer, false⟩
  | 0xB => some ⟨4, 0, 0, 0, .integer, false⟩
  | 0xC => some ⟨32, 0, 0, 0, .integer, false⟩
  | _ => none

/-- A format with no bits, for codes that name none. -/
def fmtD (code : Nat) : Fmt := (fmtOf code).getD ⟨8, 0, 0, 0, .integer, false⟩

/-- The value of an element encoding (R157, R158). -/
def decodeElem (t : Fmt) (x : Nat) : Num :=
  if t.specials = .integer then
    let v := fromTwos t.bits x
    .fin (decide (v < 0)) v.natAbs 0
  else
    let neg := bit x (t.bits - 1)
    let ex := x / 2 ^ t.mbits % 2 ^ t.ebits
    let fr := x % 2 ^ t.mbits
    let full := 2 ^ t.ebits - 1
    if t.specials = .ieee ∧ ex = full then (if fr = 0 then .inf neg else .nan)
    else if t.specials = .e4m3 ∧ ex = full ∧ fr = 7 then .nan
    else if ex = 0 then .fin neg fr (1 - (t.bias : Int) - t.mbits)
    else .fin neg (2 ^ t.mbits + fr) ((ex : Int) - t.bias - t.mbits)

/-- Element `i` of an operand stream: elements are packed from the least significant bit upward (R51, R159). -/
def elemBits (l : List Byte) (w i : Nat) : Nat := rd l (w * i / 8) 5 / 2 ^ (w * i % 8) % 2 ^ w

/-- An integer of magnitude `m` with the sign asked for. -/
def signed (neg : Bool) (m : Nat) : Int := if neg then - (m : Int) else m

/-- m * 2^e as a multiple of 2^lsb, cut toward zero. -/
def scaleTo (m : Nat) (e lsb : Int) : Nat := if lsb ≤ e then m * 2 ^ (e - lsb).toNat else m / 2 ^ (lsb - e).toNat

/-- A signed integer times 2^e as a value; an exact zero is +0. -/
def ofSigned (v e : Int) : Num := .fin (decide (v < 0)) v.natAbs e

/-- Multiply by 2^k. -/
def Num.scale (x : Num) (k : Int) : Num :=
  match x with
  | .fin n m e => .fin n m (e + k)
  | v => v

/-- Exact sum with the zero signs and special values of IEEE 754 (R165, R167). -/
def Num.add (x y : Num) : Num :=
  match x, y with
  | .nan, _ => .nan
  | _, .nan => .nan
  | .inf a, .inf b => if a = b then .inf a else .nan
  | .inf a, _ => .inf a
  | _, .inf b => .inf b
  | .fin n m e, .fin n' m' e' =>
    if m = 0 ∧ m' = 0 then .fin (n && n') 0 0
    else
      let lo := min e e'
      ofSigned (signed n (scaleTo m e lo) + signed n' (scaleTo m' e' lo)) lo

/-- Exact product (R161, R167). DESIGN CHOICE: R161 does not list infinity times infinity among its products; it is an infinity whose
sign is the exclusive or of the signs (log 92). -/
def Num.mul (x y : Num) : Num :=
  match x, y with
  | .nan, _ => .nan
  | _, .nan => .nan
  | .inf a, .inf b => .inf (a != b)
  | .inf a, .fin n m _ => if m = 0 then .nan else .inf (a != n)
  | .fin n m _, .inf a => if m = 0 then .nan else .inf (a != n)
  | .fin n m e, .fin n' m' e' => .fin (n != n') (m * m') (e + e')

/-- Order of two values that are not NaN, with -0 below +0 (R167). -/
def Num.lt (x y : Num) : Bool :=
  match x, y with
  | .inf a, .inf b => a && !b
  | .inf a, _ => a
  | _, .inf b => !b
  | .fin n m e, .fin n' m' e' =>
    if m = 0 ∧ m' = 0 then n && !n'
    else decide (signed n (scaleTo m e (min e e')) < signed n' (scaleTo m' e' (min e e')))
  | _, _ => false

/-- Minimum or maximum of IEEE 754-2019 (R167). -/
def Num.pick (x y : Num) (greater : Bool) : Num :=
  match x, y with
  | .nan, _ => .nan
  | _, .nan => .nan
  | x, y => if x.lt y then (if greater then y else x) else (if greater then x else y)

/-- Least-bit exponent of m * 2^e in a precision of `p` bits whose spacing is at least 2^emin. -/
def lsbOf (m : Nat) (e : Int) (p : Nat) (emin : Int) : Int := max ((Nat.log2 m : Int) + e - (p - 1 : Nat)) emin

/-- Round a magnitude to nearest, ties to even: the result as a multiple of 2^lsb, with that exponent. -/
def rne (m : Nat) (e : Int) (p : Nat) (emin : Int) : Nat × Int :=
  let lsb := lsbOf m e p emin
  if lsb ≤ e then (m * 2 ^ (e - lsb).toNat, lsb)
  else
    let d := 2 ^ (lsb - e).toNat
    let q := m / d
    let r := m % d
    (if d < 2 * r ∨ (2 * r = d ∧ q % 2 = 1) then q + 1 else q, lsb)

/-- q * 2^lsb exceeds M * 2^x. -/
def exceeds (q : Nat) (lsb : Int) (M : Nat) (x : Int) : Bool :=
  if x ≤ lsb then decide (M < q * 2 ^ (lsb - x).toNat) else decide (M * 2 ^ (x - lsb).toNat < q)

/-- round_fp32 (R162): roundTiesToEven to binary32, subnormals kept, overflow to infinity. -/
def roundFp32 (x : Num) : Num :=
  match x with
  | .fin n m e =>
    if m = 0 then .fin n 0 0
    else
      let (q, l) := rne m e 24 (-149)
      if exceeds q l (2 ^ 24 - 1) 104 then .inf n else if q = 0 then .fin n 0 0 else .fin n q l
  | v => v

/-- floor(log2 |p|) of a finite non-zero value. -/
def Num.topBit (x : Num) : Option Int :=
  match x with
  | .fin _ m e => if m = 0 then none else some ((Nat.log2 m : Int) + e)
  | _ => none

/-- The value of a chunk of products with combined scale exponent `ks` (R162). -/
def chunkValue (ps : List Num) (ks : Int) : Num :=
  if ps.any (· == .nan) then .nan
  else if ps.any (· == .inf false) && ps.any (· == .inf true) then .nan
  else if ps.any (· == .inf false) then .inf false
  else if ps.any (· == .inf true) then .inf true
  else
    match ps.filterMap Num.topBit with
    | [] => .fin (ps.all (fun p => match p with | .fin n _ _ => n | _ => false)) 0 0
    | t :: ts =>
      let lsb := ts.foldl max t - 60
      let sum := ps.foldl (fun (a : Int) p => match p with | .fin n m e => a + signed n (scaleTo m e lsb) | _ => a) 0
      if sum = 0 then .fin false 0 0 else roundFp32 (ofSigned sum (lsb + ks))

/-- A mirror descriptor (Table 2.4). -/
structure CraDesc where
  op : Nat
  fa : Nat
  fb : Nat
  fo : Nat
  sr : Bool
  ovNan : Bool
  hasC : Bool
  m : Nat
  n : Nat
  k : Nat
  seed : Nat
  inst : Nat
  epoch : Nat
  deriving DecidableEq, Repr

/-- The fields of a descriptor beat (Table 2.4). -/
def craDesc (l : List Byte) : CraDesc :=
  let w := rd l 0 4
  { op := w % 256, fa := w / 2 ^ 8 % 16, fb := w / 2 ^ 12 % 16, fo := w / 2 ^ 16 % 16, sr := bit w 20, ovNan := bit w 21,
    hasC := bit w 22, m := rd l 4 2, n := rd l 6 2, k := rd l 8 2, seed := rd l 10 8, inst := rd l 18 6, epoch := rd l 24 2 }

/-- The reserved fields of a descriptor beat are zero (Table 2.4). -/
def craReserved (l : List Byte) : Bool := rd l 0 4 / 2 ^ 23 == 0 && isZero l 26 38

/-- An input format code (Table 6.1): 0x0 to 0xB. -/
def isInput (c : Nat) : Bool := decide (c ≤ 0xB)
/-- A floating-point input code (R160). -/
def isFloat (c : Nat) : Bool := decide (c ≤ 9)

/-- The descriptor meets R51 and R160 (Table 6.2). -/
def craLegal (l : List Byte) : Bool :=
  let d := craDesc l
  craReserved l && decide (1 ≤ d.op) && decide (d.op ≤ 8) && decide (1 ≤ d.m) && decide (1 ≤ d.n) && decide (1 ≤ d.k)
  && isInput d.fa && isInput d.fb
  && (if d.op ≤ 6 then isFloat d.fa == isFloat d.fb else d.fa == d.fb)
  && (match d.op with | 1 => true | 4 => d.hasC | 7 => true | _ => !d.hasC)
  && (match d.op with | 1 => true | 7 => d.n == 1 | _ => d.k == 1)
  && (decide (d.fo ≤ 4) || d.fo == 0xA || d.fo == 0xC)
  && (!d.sr || (decide (1 ≤ d.fo) && decide (d.fo ≤ 4)))
  && (!d.ovNan || d.fo == 3)

/-- Element `i` of an operand of `count` elements, whose block has index `blk`: its element value and the scale exponent of
its block; none for a scale NaN (R159). -/
def operand (l : List Byte) (code count i blk : Nat) : Num × Option Int :=
  let t := fmtD code
  let v := decodeElem t (elemBits l t.bits i)
  if t.mx then
    let x := rd l (ceilDiv (count * t.bits) 8 + blk) 1
    (v, if x = 0xFF then none else some ((x : Int) - 127))
  else (v, some 0)

/-- An operand element with its scale, as element-wise operations take it (R167). -/
def scaled (p : Num × Option Int) : Num := match p.2 with | none => .nan | some k => p.1.scale k

/-- The INT32 clamp of R166. -/
def clamp31 (v : Int) : Int := max (- (2 ^ 31 - 1)) (min (2 ^ 31 - 1) v)
/-- The integer value of an integer element. -/
def Num.int (x : Num) : Int := match x with | .fin n m _ => signed n m | _ => 0

/-- A stage-one value: FP32 of a floating-point operation, INT32 of an integer operation. -/
inductive Stage1 where
  | flt (v : Num)
  | int (v : Int)
  deriving DecidableEq, Repr

/-- Matrix multiply and sum-reduction, floating point (R161 to R165). -/
def reduceFloat (d : CraDesc) (a b c : List Byte) (i j : Nat) : Num :=
  let kb := ceilDiv d.k 32
  let term := fun k =>
    let pa := operand a d.fa (d.m * d.k) (i * d.k + k) (i * kb + k / 32)
    if d.op = 7 then (pa.1, pa.2, some 0)
    else
      let pb := operand b d.fb (d.k * d.n) (k * d.n + j) (k / 32 * d.n + j)
      (pa.1.mul pb.1, pa.2, pb.2)
  let start := if d.hasC then decodeElem (fmtD 0) (elemBits c 32 (i * d.n + j)) else .fin false 0 0
  (List.range (ceilDiv d.k 8)).foldl (fun acc q =>
    let ts := (List.range (min 8 (d.k - 8 * q))).map (fun x => term (8 * q + x))
    let ps := ts.map (fun t => if t.2.1.isNone || t.2.2.isNone then .nan else t.1)
    let ks := match ts.head? with | some (_, some x, some y) => x + y | _ => 0
    roundFp32 (acc.add (chunkValue ps ks))) start

/-- Matrix multiply and sum-reduction, integer (R166). -/
def reduceInt (d : CraDesc) (a b c : List Byte) (i j : Nat) : Int :=
  let start := if d.hasC then clamp31 (fromTwos 32 (elemBits c 32 (i * d.n + j))) else 0
  (List.range d.k).foldl (fun acc k =>
    let x := (operand a d.fa (d.m * d.k) (i * d.k + k) 0).1.int
    let y := if d.op = 7 then 1 else (operand b d.fb (d.k * d.n) (k * d.n + j) 0).1.int
    clamp31 (acc + x * y)) start

/-- Element-wise operations and conversion (R167). -/
def elementWise (d : CraDesc) (a b c : List Byte) (i j : Nat) : Stage1 :=
  let idx := i * d.n + j
  let blk := i * ceilDiv d.n 32 + j / 32
  let x := operand a d.fa (d.m * d.n) idx blk
  let y := operand b d.fb (d.m * d.n) idx blk
  if isFloat d.fa then
    let u := scaled x
    let v := scaled y
    .flt (roundFp32 (match d.op with
      | 2 => u.add v
      | 3 => u.mul v
      | 4 => (u.mul v).add (decodeElem (fmtD 0) (elemBits c 32 idx))
      | 5 => u.pick v false
      | 6 => u.pick v true
      | _ => u))
  else
    let u := x.1.int
    let v := y.1.int
    .int (clamp31 (match d.op with
      | 2 => u + v
      | 3 => u * v
      | 4 => u * v + fromTwos 32 (elemBits c 32 idx)
      | 5 => min u v
      | 6 => max u v
      | _ => u))

/-- Stage one of output element (i, j). -/
def stage1 (d : CraDesc) (a b c : List Byte) (i j : Nat) : Stage1 :=
  if d.op = 1 ∨ d.op = 7 then (if isFloat d.fa then .flt (reduceFloat d a b c i j) else .int (reduceInt d a b c i j))
  else elementWise d a b c i j

/-- Canonical NaN of an output format (Table 6.3). -/
def canonNan (code : Nat) : Nat :=
  match code with
  | 0 => 0x7FC00000 | 1 => 0x7FC0 | 2 => 0x7E00 | 3 => 0x7F | 4 => 0x7E | 0xA => 0x80 | _ => 0x80000000

/-- The random word of stochastic rounding of output element `i` (R173). -/
def srWord (seed inst i : Nat) : Nat := mix64 (Nat.xor (Nat.xor seed (inst * 2 ^ 20 % 2 ^ 64)) i) / 2 ^ 48

/-- Magnitude rounded by stochastic rounding (R173). -/
def stochastic (m : Nat) (e : Int) (p : Nat) (emin : Int) (r : Nat) : Nat × Int :=
  let lsb := lsbOf m e p emin
  if lsb ≤ e then (m * 2 ^ (e - lsb).toNat, lsb)
  else
    let dd := 2 ^ (lsb - e).toNat
    let q := m / dd
    let rem := m % dd
    (if 65536 ≤ rem * 65536 / dd + r then q + 1 else q, lsb)

/-- Largest finite magnitude of a floating-point format as M * 2^x. -/
def maxFinite (t : Fmt) : Nat × Int :=
  if t.specials = .e4m3 then (14, 5) else (2 ^ (t.mbits + 1) - 1, (2 ^ t.ebits - 2 : Nat) - (t.bias : Int) - t.mbits)

/-- Encode sign and magnitude q * 2^lsb, which the format can represent. -/
def encodeFloat (t : Fmt) (neg : Bool) (q : Nat) (lsb : Int) : Nat :=
  let sgn := b2n neg * 2 ^ (t.bits - 1)
  let (q, lsb) := if 2 ^ (t.mbits + 1) ≤ q then (q / 2, lsb + 1) else (q, lsb)
  if q < 2 ^ t.mbits then sgn + q
  else sgn + (lsb + t.mbits + t.bias).toNat * 2 ^ t.mbits + (q - 2 ^ t.mbits)

/-- Infinity of a format, or what E4M3 gives for it (R168, R169). -/
def encodeInf (code : Nat) (neg ovNan : Bool) : Nat :=
  let t := fmtD code
  if code = 3 then (if ovNan then canonNan 3 else b2n neg * 128 + 0x7E)
  else b2n neg * 2 ^ (t.bits - 1) + (2 ^ t.ebits - 1) * 2 ^ t.mbits

/-- Stage two to a floating-point format (R168, R169). -/
def outFloat (d : CraDesc) (x : Num) (i : Nat) : Nat :=
  let t := fmtD d.fo
  match x with
  | .nan => canonNan d.fo
  | .inf n => encodeInf d.fo n d.ovNan
  | .fin n m e =>
    if m = 0 then b2n n * 2 ^ (t.bits - 1)
    else
      let emin := 1 - (t.bias : Int) - t.mbits
      let (q, l) := if d.sr then stochastic m e (t.mbits + 1) emin (srWord d.seed d.inst i) else rne m e (t.mbits + 1) emin
      let (bigM, bigX) := maxFinite t
      if exceeds q l bigM bigX then encodeInf d.fo n d.ovNan else encodeFloat t n q l

/-- Stage two to an integer format of `w` bits from a floating-point value (R168). -/
def outInt (w : Nat) (x : Num) : Nat :=
  let top : Int := 2 ^ (w - 1) - 1
  match x with
  | .nan => 2 ^ (w - 1)
  | .inf n => toTwos w (if n then - top else top)
  | .fin n m e =>
    let q := if 0 ≤ e then m * 2 ^ e.toNat
      else
        let dd := 2 ^ (- e).toNat
        let q := m / dd
        let r := m % dd
        if dd < 2 * r ∨ (2 * r = dd ∧ q % 2 = 1) then q + 1 else q
    toTwos w (max (- top) (min top (signed n q)))

/-- Stage two (R168). -/
def stage2 (d : CraDesc) (v : Stage1) (i : Nat) : Nat :=
  match v with
  | .flt x => if d.fo = 0xA then outInt 8 x else if d.fo = 0xC then outInt 32 x else outFloat d x i
  | .int n =>
    if d.fo = 0xA then toTwos 8 (max (-127) (min 127 n))
    else if d.fo = 0xC then toTwos 32 n
    else outFloat d (ofSigned n 0) i

/-- The output tile bytes (R170). -/
def craOutput (d : CraDesc) (a b c : List Byte) : List Byte :=
  let w := (fmtD d.fo).bits / 8
  (List.range d.m).flatMap fun i => (List.range d.n).flatMap fun j => le w (stage2 d (stage1 d a b c i j) (i * d.n + j))

/-- The digest of an operation that a Crook computes (R52, R183). -/
def craDigest (l a b c : List Byte) : BitVec 64 := em64 (craOutput (craDesc l) a b c)

/-- Multiply-accumulates of an operation, as the counter of Table 7.8 takes them. -/
def craMacs (l : List Byte) : Nat := let d := craDesc l; d.m * d.n * d.k

end Sys2Proof.Machine
end

