-- ==== Sys2Proof/Machine/SMap.lean ====
section
/-! DEFINITION. Sparse maps from numbers to values: lists of key and value in one canonical form, with keys strictly
rising and no entry equal to what an unlisted key reads as. Equal maps are equal lists. -/

namespace Sys2Proof.Machine

/-- The value at a key; an unlisted key reads as `d k`. -/
def mapGet {α : Type} (d : Nat → α) (m : List (Nat × α)) (k : Nat) : α :=
  match m with
  | [] => d k
  | (k', v) :: t => if k = k' then v else mapGet d t k

/-- Remove a key: every entry of it. -/
def mapErase {α : Type} (m : List (Nat × α)) (k : Nat) : List (Nat × α) :=
  match m with
  | [] => []
  | (k', v) :: t => if k = k' then mapErase t k else (k', v) :: mapErase t k

/-- Put a value at a key, in key order. -/
def mapPut {α : Type} (m : List (Nat × α)) (k : Nat) (v : α) : List (Nat × α) :=
  match m with
  | [] => [(k, v)]
  | (k', v') :: t =>
    if k < k' then (k, v) :: (k', v') :: t
    else if k = k' then (k, v) :: t
    else (k', v') :: mapPut t k v

/-- Write a value at a key: the entry is removed when the value is what an unlisted key reads as. -/
def mapSet {α : Type} [DecidableEq α] (d : Nat → α) (m : List (Nat × α)) (k : Nat) (v : α) : List (Nat × α) :=
  if v = d k then mapErase m k else mapPut m k v

/-- Every key of `m` lies above `b`, keys strictly rise, and no entry equals what an unlisted key reads as. -/
def mapWfFrom {α : Type} [DecidableEq α] (d : Nat → α) (b : Option Nat) (m : List (Nat × α)) : Bool :=
  match m with
  | [] => true
  | (k, v) :: t => (match b with | none => true | some x => decide (x < k)) && decide (v ≠ d k) && mapWfFrom d (some k) t

/-- The canonical form of a sparse map. -/
def mapWf {α : Type} [DecidableEq α] (d : Nat → α) (m : List (Nat × α)) : Bool := mapWfFrom d none m

end Sys2Proof.Machine
end

