-- ==== Sys2Proof/Config.lean ====
section
/-! DEFINITION. What the integration RI-48 fixes (R3, R4, Table 0.1), and the free values: constants without a body, of
which nothing can be proved. -/

namespace Sys2Proof.Config

/-- Reticle fields of RI-48 (Table 0.1). -/
def fields : Nat := 48
/-- Rows of the field grid (Table 0.1). -/
def rows : Nat := 6
/-- Columns of the field grid (Table 0.1). -/
def cols : Nat := 8
/-- Physical flocks per field (Table 0.1). -/
def flocks : Nat := 33
/-- Logical flocks per field: all but the spare flock. -/
def logicalFlocks : Nat := 32
/-- The spare flock of a field (R15). -/
def spareFlock : Nat := 32
/-- Physical cores per flock (Table 0.1). -/
def cores : Nat := 17
/-- Logical slots per flock (R19). -/
def slots : Nat := 16
/-- The spare core of a flock at shipment (R19). -/
def spareCore : Nat := 16
/-- Physical lanes per core (Table 0.1). -/
def lanes : Nat := 9
/-- Crooks per field (Table 0.1). -/
def crooks : Nat := 4
/-- Link taps (Table 0.1). -/
def linkTaps : Nat := 32
/-- Memory taps (Table 0.1). -/
def memTaps : Nat := 24
/-- Thermal sensors per field (Table 0.1). -/
def sensors : Nat := 16
/-- Gust detectors per field (Table 0.1). -/
def gusts : Nat := 64
/-- Rail current monitors per field (Table 0.1). -/
def monitors : Nat := 4
/-- Entries of a Drover event buffer (Table 0.1). -/
def eventBuffer : Nat := 8192
/-- Field of SHC-A and of SHC-B (R15, Table 1.1). -/
def shcField (b : Bool) : Nat := if b then 28 else 19
/-- Field of Warden voter W0, W1 or W2 (R15, Table 1.1). -/
def voterField (v : Nat) : Nat := if v = 0 then 10 else if v = 1 then 29 else 34
/-- The fields that carry link taps, in ascending order (R16). -/
def linkFields : List Nat := [1, 2, 3, 4, 5, 6, 16, 23, 24, 31, 41, 42, 43, 44, 45, 46]
/-- The perimeter fields, which carry the memory taps, in ascending order (R16). -/
def memFields : List Nat :=
  [0, 1, 2, 3, 4, 5, 6, 7, 8, 15, 16, 23, 24, 31, 32, 39, 40, 41, 42, 43, 44, 45, 46, 47]
/-- Field of a link tap (R16). -/
def linkField (t : Nat) : Nat := linkFields.getD (t / 2) 0
/-- Field of a memory tap (R16). -/
def memField (t : Nat) : Nat := memFields.getD t 0
/-- Craostar's enterprise number (BJ_VENDOR, R425). -/
def enterprise : Nat := 0xC7A3
/-- BJ_JEP106 (R425). -/
def jep106 : Nat := 0x04CE
/-- OTP voltage cap of RI-48 [mV] (Table 13.3). -/
def voltageCap : Nat := 900
/-- Fused maximum frequency of RI-48 [MHz] (Table 13.3). -/
def fusedMax : Nat := 1600
/-- OTP default of the compute-rail trip threshold in RI-48 (Table 13.6). -/
def tripDefault : Nat := 200
/-- Fused ceiling of the compute-rail trip threshold, held in the switch macro [4 A codes] (R73, R322); the spec gives no figure. -/
opaque tripCeiling : Nat
/-- Capacity of an attach link in RI-48, in bytes per 10 us window at full rate (R415): 256 GB/s. -/
def attachBytes : Nat := 2560000

/-- The die ID held in OTP (R389): each part has its own. -/
opaque dieId : BitVec 128
/-- The part number held in OTP (R389). -/
opaque partNumber : BitVec 32
/-- The part revision held in OTP (R389). -/
opaque partRev : BitVec 8
/-- SHA-384 of the maker's public key, held in OTP (R389). -/
opaque makerHash : BitVec 384
/-- I3C static address held in OTP (R389). -/
opaque i3cStatic : BitVec 7
/-- Entries of the OTP voltage-frequency table between the values R323 states [mV], by 25 MHz step above 800 MHz. -/
opaque voltStep : Nat → Nat
/-- OTP energy coefficients of the four activity counters [pJ per count] (R338, R389). -/
opaque energyCoeff : Nat → Nat
/-- Infrastructure-rail trip threshold of the switch macro [0.25 A codes], held in OTP; the spec gives no figure (R72, R322). -/
opaque infraTrip : Nat
/-- PMBus address of a field's regulator, held in OTP (R89). -/
opaque pmbusAddr : Nat → BitVec 7
/-- Modelled static power of a field [W] from its temperature [0.125 C] and voltage [mV] (R338). -/
opaque staticPower : Int → Nat → Rat
/-- The 48-bit provisioned identifier, bus and device characteristics that GETPID, GETBCR and GETDCR answer; the spec gives none. -/
opaque i3cPid : BitVec 48
opaque i3cBcr : Byte
opaque i3cDcr : Byte
/-- The n-th 64-bit value drawn from the entropy source (R179, R406). -/
opaque entropy : Nat → BitVec 64
/-- OTP default thresholds of replay and of twinning, used while no firmware runs (R235, Table 15.1); the spec gives no figures. -/
opaque otpReplay : BitVec 32
opaque otpTwin : BitVec 32
/-- The n-th value the spec leaves open where a command runs on. -/
opaque freeValue : Nat → BitVec 64
/-- Voltage that the record of a sequence number carries when its UID is the die, which has no field (R375). -/
opaque dieVolt : Nat → BitVec 16
/-- The n-th state block that the firmware's NMI handler writes (R411, type 0x02): the spec gives its place and no contents. -/
opaque nmiState : Nat → List Byte
/-- Die-network address of a capture slot, 0 or 1, in the stack of a memory tap (R297): the integrator's address map. -/
opaque captureAddr : Nat → Nat → BitVec 64
/-- Die-network address of the stack trace ring in the stack of a memory tap (R412): the integrator's address map. -/
opaque traceAddr : Nat → BitVec 64
/-- The PLDM and MCTP bodies that DMTF documents define and this spec does not (R86, R87): the body of a response, by command,
by the argument the command carries and by the endpoint's number. -/
opaque dmtfBody : Nat → Nat → Nat → List Byte
/-- The packet error check of a byte string, on PMBus and on I3C: the bindings give its polynomial (R86, R89). -/
opaque pec : List Byte → Byte
/-- IOUT_OC_FAULT_LIMIT of a field's regulator, by page, held in OTP (Table 3.6). -/
opaque ioutLimit : Nat → Nat → BitVec 16
/-- Data byte of OPERATION that switches a rail on: the PMBus document gives it (Table 3.6). -/
opaque operationOn : Byte
/-- Endpoint number of the BMC, and the message tag, as the header of an MCTP packet carries them: the binding gives their place (R86). -/
opaque mctpPeer : Byte
opaque mctpTag : BitVec 3
/-- Type byte of a mesh message, by its kind: the spec defines the header's place for it and no values (R26). -/
opaque meshType : Nat → BitVec 8
/-- First 32 payload bits of a mesh message, by its kind and its argument (R26). -/
opaque meshWord : Nat → Nat → BitVec 32
/-- Flits after the header of a mesh message, by its kind and its argument (R26): at most seven are sent. -/
opaque meshRest : Nat → Nat → List (BitVec 128)
/-- Corrected errors of a link lane, as word 0x100 + lane shows them, above which the lane is spared; the spec gives no figure (R24). -/
opaque laneErrorLimit : Nat
/-- Mesh path delay [ns] that a Drover measures by round trip to the master, by the hops between them (R31). -/
opaque meshDelay : Nat → Nat

end Sys2Proof.Config
end

