-- ==== Sys2Proof/Machine/State.lean ====
section
/-! DEFINITION. The state of Beyja (RI-48): every register, buffer, counter, mode and pin the spec gives the block, and
the queue of waiting commands. Plain data. Families of like units (fields, flocks, cores, lanes, Crooks, taps) are held as
lists of key and value in one canonical form; a unit that is not listed is at its reset value. -/

namespace Sys2Proof.Machine

/-- Why the machine stops with a fault. -/
inductive Fault where
  /-- Raised by a command in which the host die, the host runtime or a peer breaks the obligation of rule `rule`, where
  the spec names no response: R2 leaves Beyja's behaviour undefined. Safe: the model stops where the hardware may do anything. -/
  | undefinedByR2 (rule : Nat)
  deriving DecidableEq, Repr

/-- Why a command is refused. -/
inductive Refusal where
  /-- Raised by an arm of `exec` whose command has no meaning yet. Safe. -/
  | notModelled (mnemonic : String)
  deriving DecidableEq, Repr

/-- States of a unit (Table 10.1). -/
inductive UnitState where
  | healthy | watched | suspect | sheltered | folded | retired
  deriving DecidableEq, Repr

/-- The shelter in force on a core (R245). -/
inductive Shelter where
  | none | trim | step
  deriving DecidableEq, Repr

/-- Where a test slice stands in the handshake of Table 2.6. -/
inductive SlicePhase where
  /-- The scratch is being written, before a window of the Drover's own making (R144). -/
  | writing
  /-- fsp_ts_enter is high, fsp_ts_saved is awaited. -/
  | entering
  /-- The guard step is written, the go of R145 is due. -/
  | stepping
  /-- fsp_ts_go has been pulsed, fsp_ts_done is awaited. -/
  | running
  /-- fsp_ts_done has come, fsp_ts_exit is due after the step write (R145). -/
  | returning
  /-- fsp_ts_exit is high, fsp_ts_restored is awaited. -/
  | exiting
  deriving DecidableEq, Repr

/-- Verdict codes (Table 7.4), 0x0 to 0x9 in order. -/
inductive Verdict where
  | matched | mismatch | twinMismatch | mirrorParity | digestParity | protocol | digestMissing | abandoned | crookDisagree
  | inconclusive
  deriving DecidableEq, Repr

/-- States of a Crook queue entry (Table 7.2). -/
inductive EntryState where
  | receiving | ready | computing | awaitDigest | confirming
  deriving DecidableEq, Repr

/-- States of a field (Table 10.8, byte 4). -/
inductive PadState where
  | inService | off | lost
  deriving DecidableEq, Repr

/-- What a Shepherd is doing (R344, R355). -/
inductive ShcStatus where
  | off | active | following | resetting | catchingUp | outOfService
  deriving DecidableEq, Repr

/-- The two Shepherds. -/
inductive ShcId where
  | a | b
  deriving DecidableEq, Repr

/-- HIF_STATUS bits 3:0 (spec/20). -/
inductive HifState where
  | idle | running | hostLost | bootFailed
  deriving DecidableEq, Repr

/-- Where the hurdle of a domain stands (R294, R295). -/
inductive HurdlePhase where
  | closing | draining | drained
  deriving DecidableEq, Repr

/-- The steps of a level-0 reset (R298). -/
inductive L0Step where
  | hurdle | drain | capture | kill | reset
  deriving DecidableEq, Repr

/-- The steps of a level-1 recovery (Table 12.4). -/
inductive L1Step where
  | hurdle | drain | capture | kill | railHold | railClose | train | selfTest | folds
  deriving DecidableEq, Repr

/-- The steps of a graceful shut-down (R395). -/
inductive ShutPhase where
  | reset | update | repair | selfTest | filler | commit | ended
  deriving DecidableEq, Repr

/-- How far the start sequence has come (Table 17.2). -/
inductive StartPhase where
  /-- PWR_GOOD has not risen. -/
  | off
  /-- PWR_GOOD is high and COLD_RESET_N is asserted (R98). -/
  | held
  /-- The Shepherds run their hardware self-test. -/
  | selfTest
  /-- The firmware image is being read. -/
  | firmware
  /-- Firmware runs; the Tally scan runs and compute is released in groups. -/
  | release
  /-- Beyja is ready (R393). -/
  | ready
  /-- No firmware runs (R84, R363), or an OTP fault keeps compute closed (R389). -/
  | noFirmware
  deriving DecidableEq, Repr

/-- An item of a core's rotation list, re-test or self-test list (R144, R246, R397). -/
structure Item where
  pattern : Nat := 0
  guard : Bool := false
  lane : Bool := false
  deriving DecidableEq, Repr

/-- What a report holds before its record is formed (R375). -/
structure Ev where
  code : Nat := 0
  cls : Nat := 1
  sev : Nat := 1
  uid : Uid := 0
  tbase : Nat := 0
  opId : BitVec 64 := 0
  payload : List Byte := []
  replayed : Bool := false
  deriving DecidableEq, Repr

/-- The signals of Beyja's ports that a command can move (spec/02). -/
inductive Sig where
  | fspErrAck | fspHdlClose | fspHdlFlush | fspKill | fspOpSel | fspTwinSel | fspTrkId | fspTrkStall
  | fspCopyReq | fspCopySrc | fspCopyDst | fspCopyFlock | fspMapWr | fspMapSlot | fspMapCore | fspMapDis
  | fspLaneCore | fspLaneSkip | fspLdoTrim | fspClkStep
  | fspTsEnter | fspTsGo | fspTsExit | gustThreshold | gustMode | gustLength
  | ltpEpoch | ltpTxFlag | ltpVerdict | ltpSrReq | ltpSvcTxReq | mtpEpoch | mtpDrainReq | mtpEvAck | mtpSrReq
  | pspCompEn | pspInfraEn | pspTrip | pspTripInfra | pspThermOff | resetWord | retrainStack | stagger | filler
  | pllFreq | cclkHalf | cclkThrottle | cclkStretch | cclkSkip | refSelect
  | errN | fatalN | thermTripN | impVld | shcNmi | shcGate | shcReset
  deriving DecidableEq, Repr

/-- A write of the set-up window at an emulated offset (R100): HIF_CTRL with START, and KEEP as it says; the DMA aperture; the bootstrap
registers. -/
inductive WinAccess where
  | start (keep : Bool)
  | aperture (off size : Nat) (value : BitVec 64)
  | boot (off size : Nat) (value : BitVec 64)
  deriving DecidableEq, Repr

/-- The messages that rules send on the Drove mesh (R25, R31, R81, R139, R194, R197, R311, R348, R349, R351). -/
inductive MeshKind where
  | hurdleClose | hurdleOpen | tbaseSync | musterOrder | taintOrder | pairCopy | heartbeat | vote | refSwitch | takeover | pattern
  | challenge | digest | response | lost
  deriving DecidableEq, Repr

/-- What a command sends out of the block. -/
inductive Output where
  /-- A level or value on a port signal of a unit: the unit's key, then the value. -/
  | sig (name : Sig) (at_ : Nat) (value : Nat)
  /-- A write to host memory, at most 256 bytes: address, bytes, and the service attribute (R76). -/
  | host (addr : Nat) (bytes : List Byte) (service : Bool)
  /-- A command to the QSPI flash: its opcode of Table 3.2, the address it carries, and the data written (R83). -/
  | flash (op : Nat) (addr : Option Nat) (data : List Byte)
  /-- Nine SCL pulses and a STOP on a PMBus segment: the clear of R79 and R91. -/
  | busClear (segment : Nat)
  /-- A contribution trailer presented on a link tap (R209). -/
  | trailer (tap : Nat) (bytes : List Byte)
  /-- A service frame sent on a link tap (R66): header and body. -/
  | frame (tap : Nat) (bytes : List Byte)
  /-- A service word access of a link tap or memory tap (R71): address, and the data of a write. -/
  | service (mtp : Bool) (tap addr : Nat) (data : Option (BitVec 32))
  /-- A PMBus transaction: field whose regulator it addresses, page, command code, and the data of a write (none: a read), with its
  packet error check (R89, Table 3.6). -/
  | pmbus (field page cmd : Nat) (data : List Byte) (pec : Byte)
  /-- An answer on the set-up window: ERROR or OK. -/
  | window (error : Bool)
  /-- An answer on I3C: the bytes, or none for a NACK. -/
  | i3c (bytes : Option (List Byte))
  /-- An in-band interrupt on I3C with its mandatory data byte (R86). -/
  | ibi (data : Nat)
  /-- A message on a plane of the Drove mesh (R26): its header flit and the flits after it. -/
  | mesh (plane : Nat) (head : BitVec 128) (rest : List (BitVec 128))
  /-- A line written into a core's test scratch over the sw group: the core's UID, fsp_sw_addr and fsp_sw_data (R48, R61). -/
  | scratch (core : Nat) (line : Nat) (bytes : List Byte)
  /-- Slot map, disabled slots, lane skips, clock steps and trim of a flock written again (R298, R321). -/
  | maps (flock : Uid) (slots disabled skips : List Nat) (steps : List Int) (trim : Int)
  /-- A block written to the stack trace ring: its slot and bytes (R412, R413). -/
  | stackBlock (slot : Nat) (bytes : List Byte)
  /-- A 256-byte read of a flock control block with the service attribute (R289, R296): the flock, the offset. -/
  | blockRead (flock : Nat) (off : Nat)
  /-- A 256-byte write into a capture slot with the service attribute (R296, R297): the slot, the offset, the bytes. -/
  | capture (slot off : Nat) (bytes : List Byte)
  /-- TDO of an instrument access (R400). -/
  | instrument (value : BitVec 64)
  /-- The data register that IDCODE shifts out on TDO (R92). -/
  | tdo (value : BitVec 32)
  deriving DecidableEq, Repr

/-- What a finding on a core is (Tables 10.2 and R243). -/
inductive Finding where
  /-- A detection: PATTERN_FAIL, MISMATCH or TWIN_MISMATCH. -/
  | detection
  /-- A UC of group 0x10 or 0x11 naming the core. -/
  | uc
  /-- An FE of group 0x10 or 0x11 naming the core, or a lane fold in a core that already skips a lane. -/
  | fe
  /-- A GUARD_FAIL. -/
  | guardFail
  /-- A corrected-error cluster. -/
  | cluster
  deriving DecidableEq, Repr

/-- A reaction that a report has ordered and the Shepherd has still to carry out (R274), a host-memory access that
the report itself found excluded (R430), or a finding that waits for the firmware (Table 15.1): on a core, on a lane, or a corrected error
with its TBASE. -/
inductive Due where
  | partrst (uid : Uid) | dierst (code : Nat) | recover (code : Nat) | level0 (dom : Uid) (cause code : Nat)
  | dmaError (access : HostAccess) (addr : Nat)
  | finding (f k c : Nat) (kind : Finding) (cause : Nat) (pat : Option Nat)
  | laneFinding (f k c l cause : Nat)
  | countCE (f k c : Nat) (lane : Option Nat) (cause at_ : Nat)
  deriving DecidableEq, Repr

/-- One test slice under way on a core (R61, R144, R145, Table 2.6). -/
structure Slice where
  /-- Pattern index of the item (R144). -/
  pattern : Nat := 0
  /-- The item is a guard item (R144). -/
  guard : Bool := false
  /-- The item is a lane item of the shut-down self-test (R397). -/
  lane : Bool := false
  /-- The item belongs to the core's re-test (R246). -/
  retest : Bool := false
  /-- Clock step g of the slice (R144). -/
  step : Int := 0
  /-- Place in the handshake of Table 2.6 (R61). -/
  phase : SlicePhase := .entering
  /-- Fsp_ts_exit is high (R61). -/
  exiting : Bool := false
  /-- A handshake came late, so enter and exit stay high until restored or a flock reset (R148). -/
  late : Bool := false
  /-- Need(p, g) in CCLK cycles (R144). -/
  need : Nat := 0
  /-- Length L of the window (R144). -/
  window : Nat := 0
  /-- Core-cycle count at fsp_ts_enter (R61). -/
  enterAt : Nat := 0
  /-- The window is of the Drover's own making (R144). -/
  own : Bool := false
  /-- Generation of the pack the item was taken from (R136). -/
  packGen : Nat := 0
  /-- Expected MISR of the pattern (R133). -/
  expect : BitVec 64 := 0
  /-- Class of the pattern (R131). -/
  cls : Nat := 0
  /-- Runtime of the pattern (R133). -/
  runtime : Nat := 0
  /-- Trim code when the slice belongs to the Bellwether sweep (R150). -/
  bell : Option Int := none
  deriving DecidableEq, Repr

/-- One pattern of a pack (R133). -/
structure Pattern where
  /-- Body (R133). -/
  body : List Byte := []
  /-- Class (R133). -/
  cls : Nat := 0
  /-- Guard-eligible (R133). -/
  guard : Bool := false
  /-- Needs a bank-quiet window (R133). -/
  quiet : Bool := false
  /-- Runtime [cycles] (R133). -/
  runtime : Nat := 0
  /-- Footprint [lines] (R133). -/
  footprint : Nat := 65
  /-- Expected MISR (R133). -/
  misr : BitVec 64 := 0
  /-- Coverage weight, binary32 (R133). -/
  weight : BitVec 32 := 0
  /-- Prior fleet rate, binary32 (R133). -/
  rate : BitVec 32 := 0
  /-- Pattern ID (R133). -/
  id : Nat := 0
  deriving DecidableEq, Repr

/-- An item chosen at planning for a window that has not opened (R144). -/
structure Planned where
  /-- Offset w of the window (R144). -/
  w : Nat := 0
  /-- Length L of the window (R144). -/
  len : Nat := 0
  /-- The chosen item (R144). -/
  item : Item := {}
  /-- The slice it will run as, its step and its need (R144). -/
  slice : Slice := {}
  /-- The pattern, as the Drover's pattern store holds it (R139). -/
  pat : Pattern := {}
  /-- The scratch write has begun (R144). -/
  begun : Bool := false
  /-- The scratch write is complete (R144). -/
  written : Bool := false
  /-- The window has opened (R144). -/
  opened : Bool := false
  deriving DecidableEq, Repr

/-- A shelter re-test under way (R246). -/
structure Retest where
  /-- Pattern indices not yet passed, in order (R246). -/
  items : List Nat := []
  /-- TBASE of the deadline (policy item 0x0A02) (R241). -/
  deadline : Nat := 0
  /-- The re-test is open (R241). -/
  open_ : Bool := false
  deriving DecidableEq, Repr

/-- State of one physical core (R240, R144 to R154, R241 to R247). -/
structure Core where
  /-- Unit state (R240). -/
  st : UnitState := .healthy
  /-- Fold-pending flag of a Suspect core (R240). -/
  foldPending : Bool := false
  /-- Failed copies of its core fold (R252). -/
  foldFails : Nat := 0
  /-- Standing step (R245). -/
  step : Int := 0
  /-- A clock-step shelter waits for a Muster point (R245). -/
  stepPending : Bool := false
  /-- Physical lane left unused (R59). -/
  laneSkip : Nat := 8
  /-- Shelter in force (R245). -/
  shelter : Shelter := .none
  /-- A core fold took the core out of its slot, and no UNFOLD has returned it (R250). -/
  foldedOut : Bool := false
  /-- Event code that made the core Suspect (R241). -/
  cause : Nat := 0
  /-- Failing pattern, when a pattern caused the Suspect state (R246). -/
  failPattern : Option Nat := none
  /-- Re-test (R246). -/
  retest : Option Retest := none
  /-- Items passed of the core's latest re-test (R246, R267). -/
  retestCount : Nat := 0
  /-- Completed a pass since the last start (R146). -/
  screened : Bool := false
  /-- Items of the rotation list used up in this pass (R144). -/
  used : List Item := []
  /-- Skipped items of the current pass (R147). -/
  skipped : Nat := 0
  /-- Skipped items of the last pass (R147). -/
  lastSkipped : Nat := 0
  /-- TBASE at which the current pass began (R152). -/
  passBegan : Nat := 0
  /-- TBASE at which the last pass began (R152). -/
  lastPassBegan : Nat := 0
  /-- TBASE at which the last pass ended (R152). -/
  lastPassEnd : Nat := 0
  /-- Consecutive passes with every guard item PASS and no cluster (R241). -/
  cleanPasses : Nat := 0
  /-- A guard item failed or a cluster was found in this pass (R241). -/
  passDirty : Bool := false
  /-- Guard items failed in the present and in the last pass: pattern, pass number (R243). -/
  guardFails : List (Option Nat × Nat) := []
  /-- Passes completed with the present pack (R144). -/
  passNo : Nat := 0
  /-- Per item, consecutive run starts whose windows did not fit it (R147). -/
  unfitRuns : List (Nat × Nat) := []
  /-- TBASE of the CE reports that count toward a cluster (R242). -/
  ceTimes : List Nat := []
  /-- Slice under way (R61). -/
  slice : Option Slice := none
  /-- Items chosen for windows not yet ended (R144). -/
  planned : List Planned := []
  /-- Tag of the operation it twins (R190). -/
  twinTag : Option Nat := none
  /-- Donated-slot breach recorded in this job (R175). -/
  breached : Bool := false
  /-- Items of the recovery or shut-down self-test still to run (R302). -/
  selfItems : List Item := []
  /-- Governor epoch (plus one) of its last counted detection (R229). -/
  detectedEpoch : Nat := 0
  /-- Slices of the last 1 s: TBASE at which each ended, and its ns under test (R149). -/
  spareTests : List (Nat × Nat) := []
  /-- Failed the shut-down self-test (R394). -/
  selfTestFailed : Bool := false
  /-- The counters of Table 5.7 in order (R154). -/
  counters : List Nat := [0,0,0,0,0,0,0,0,0,0]
  deriving DecidableEq, Repr

/-- State of one physical lane (R240, R241). -/
structure Lane where
  /-- Unit state (R240). -/
  st : UnitState := .healthy
  /-- Fold-pending flag (R240). -/
  foldPending : Bool := false
  /-- TBASE of CE reports naming the lane (R242). -/
  ceTimes : List Nat := []
  deriving DecidableEq, Repr

/-- One command tracker of a flock (R55, R288, R417). -/
structure Tracker where
  /-- Tracker is held (R55). -/
  held : Bool := false
  /-- Class of the command (R55). -/
  cls : Nat := 0
  /-- TBASE ns the timer has run (R288). -/
  run : Nat := 0
  /-- Timeout in ns, set at issue (R288). -/
  limit : Nat := 0
  /-- TBASE up to which the timer has been advanced (R288). -/
  seen : Nat := 0
  /-- Expiry reported for this command (R288). -/
  reported : Bool := false
  /-- Half timeout already noticed (R292). -/
  halfSeen : Bool := false
  /-- Age in core cycles; keeps its final value (R417). -/
  age : Nat := 0
  /-- Core-cycle count at issue (R417). -/
  issueCycle : Nat := 0
  /-- Commands held since start (R417). -/
  total : Nat := 0
  deriving DecidableEq, Repr

/-- One FSP tag in use (R184, R190, R191). -/
structure TagSt where
  /-- Issuing physical core (R184). -/
  core : Nat := 0
  /-- Logical slot of the announce (R178). -/
  slot : Nat := 0
  /-- Operation instance number n (R49). -/
  inst : BitVec 48 := 0
  /-- Crook that holds the replay (R181). -/
  crook : Option Nat := none
  /-- Twin physical core (R190). -/
  twin : Option Nat := none
  /-- The twin is a donated core (R200). -/
  twinDonated : Bool := false
  /-- Digest of the issuing core (R191). -/
  coreDig : Option (BitVec 64) := none
  /-- Digest of the twin core (R191). -/
  twinDig : Option (BitVec 64) := none
  /-- The issuing core's digest failed parity (R187). -/
  coreBad : Bool := false
  /-- The twin's digest failed parity (R187). -/
  twinBad : Bool := false
  /-- Replay verdict, when given (R187). -/
  replayVerdict : Option Verdict := none
  /-- Twin verdict given (R187). -/
  twinDone : Bool := false
  /-- Confirmed replay digest (R191). -/
  refDig : BitVec 64 := 0
  /-- Job epoch at the announce (R198). -/
  epoch : BitVec 16 := 0
  /-- The job of the announce, by its place among the jobs begun (R198). -/
  jobNo : Nat := 0
  /-- Core-cycle count at selection (R187). -/
  selAt : Nat := 0
  /-- Core-cycle count at the stream's last beat (R187). -/
  closedAt : Nat := 0
  /-- Core-cycle count at the first digest of a twin pair (R187). -/
  firstAt : Option Nat := none
  /-- Watch points that matched the announce (R220). -/
  watches : List Nat := []
  /-- Job ID at the announce (R198). -/
  jobId : BitVec 32 := 0
  /-- Step snapshot at the announce (R196). -/
  step : BitVec 48 := 0
  /-- Forced, sweep or watch selection (R192). -/
  forced : Bool := false
  deriving DecidableEq, Repr

/-- A state copy under way on a flock (R250, R251). -/
structure CopySt where
  /-- Fsp_copy_flock (R59). -/
  flockCopy : Bool := false
  /-- Source core, or source flock of a flock copy (R48). -/
  src : Nat := 0
  /-- Destination core, or spare flock (R48). -/
  dst : Nat := 0
  /-- Logical slot moved (R250). -/
  slot : Nat := 0
  /-- TBASE at fsp_copy_req (R252). -/
  started : Nat := 0
  deriving DecidableEq, Repr

/-- One idle-slot table entry (R140). -/
structure IdleEntry where
  /-- Logical flock (R140). -/
  flock : Nat := 0
  /-- Logical slot (R140). -/
  slot : Nat := 0
  /-- Bank-quiet (R140). -/
  quiet : Bool := false
  /-- Offset (R140). -/
  w : Nat := 0
  /-- Length L (R140). -/
  len : Nat := 0
  deriving DecidableEq, Repr

/-- State of one physical flock and its FSP (R48, R55 to R62, R177, R240, R251). -/
structure Flock where
  /-- Unit state (R240). -/
  st : UnitState := .healthy
  /-- Flock fold pending (R240). -/
  foldPending : Bool := false
  /-- The flock fold was made pending by FOLD_REQUEST with slot 0xFF (R252). -/
  foldRequested : Bool := false
  /-- Suspect core whose fold became the flock fold (R251). -/
  foldCore : Option Nat := none
  /-- Failed copies of the flock fold (R252). -/
  foldFails : Nat := 0
  /-- Logical flock served (R19). -/
  logical : Option Nat := none
  /-- Physical core that serves each logical slot (R19). -/
  slots : List Nat := [0,1,2,3,4,5,6,7,8,9,10,11,12,13,14,15]
  /-- Disabled logical slots (R254). -/
  disabled : List Nat := []
  /-- Slots with a pending thin (R254). -/
  thinPending : List Nat := []
  /-- The whole flock is to be disabled at the next JOB_BEGIN (R252, R255). -/
  wholeThin : Bool := false
  /-- Hurdle held because the flock is Folded or Retired (R251, R255). -/
  hurdleHeld : Bool := false
  /-- Hurdle reopens at the field's next Muster point (R261). -/
  unfoldReopen : Bool := false
  /-- Cores whose lane skip returns at the next Muster point (R261). -/
  laneReturn : List Nat := []
  /-- Disabled slots served again at the next JOB_BEGIN (R261). -/
  unfoldSlots : List Nat := []
  /-- Fsp_ldo_trim code (R60). -/
  trim : Int := 0
  /-- Fsp_ldo_ok as last seen (R60). -/
  ldoOk : Bool := false
  /-- Core whose trim shelter waits for fsp_ldo_ok (R245). -/
  ldoWait : Option Nat := none
  /-- Fsp_quiet (R58, 12 R290). -/
  quiet : Bool := false
  /-- Copy under way (R59). -/
  copy : Option CopySt := none
  /-- Flock reset of the start or of a paddock return has completed (R55). -/
  ready : Bool := false
  /-- Fsp_kill (R56). -/
  kill : Bool := false
  /-- TBASE at which fsp_kill last rose (R298). -/
  killAt : Nat := 0
  /-- Fsp_hdl_flush (R57). -/
  flush : Bool := false
  /-- Command trackers, sparse (R55). -/
  trackers : List (Nat × Tracker) := []
  /-- Commands issued of class 0, 1, 2 (R417). -/
  issued : List Nat := [0,0,0]
  /-- Retirements (R417). -/
  retired : Nat := 0
  /-- Stall cycles at issue (R417). -/
  stalls : Nat := 0
  /-- Kills (R417). -/
  kills : Nat := 0
  /-- Tracker timeouts (R417). -/
  timeouts : Nat := 0
  /-- Energy since start [uJ] (R417). -/
  energy : Nat := 0
  /-- Filler energy since start [uJ] (R417). -/
  fillerEnergy : Nat := 0
  /-- Energy of the current job [uJ] (R417, R418). -/
  jobEnergy : Nat := 0
  /-- Thresholds latched at the last fsp_run_start (R177). -/
  latched : Option (Nat × Nat) := none
  /-- Program identifier of the run (R61). -/
  runId : Option Nat := none
  /-- Idle-slot windows of the run, as its start found them (R141). -/
  windows : List IdleEntry := []
  /-- Core-cycle count at fsp_run_start (R61). -/
  runStart : Nat := 0
  /-- Tag whose mirror stream is open (R50). -/
  stream : Option Nat := none
  /-- Tags in use (R184). -/
  tags : List (Nat × TagSt) := []
  /-- Per logical slot, forced replay selections left (R192). -/
  forced : List (Nat × Nat) := []
  /-- Per verdict code, TBASE second (plus one) of the last 0x7015 (R200). -/
  voids : List (Nat × Nat) := []
  /-- In-group parity errors seen (R47). -/
  parity : Nat := 0
  /-- Checking counters of Table 7.8 in the order of group 0x02 (R199, 18 R417). -/
  counters : List Nat := [0,0,0,0,0,0,0,0,0,0,0,0,0,0,0,0,0,0,0,0]
  deriving DecidableEq, Repr

/-- One entry of a Crook queue (R182, R185, R187). -/
structure CrookEntry where
  /-- FSP flock (R182). -/
  flock : Nat := 0
  /-- Tag (R182). -/
  tag : Nat := 0
  /-- State of Table 7.2 (R182). -/
  state : EntryState := .receiving
  /-- Operand beats announced (R49). -/
  beats : Nat := 0
  /-- Operand beats received (R50). -/
  got : Nat := 0
  /-- Descriptor beat (R51). -/
  desc : Option (List Byte) := none
  /-- Operand A bytes (R50). -/
  a : List Byte := []
  /-- Operand B bytes (R50). -/
  b : List Byte := []
  /-- Operand C bytes (R50). -/
  c : List Byte := []
  /-- Verdict fixed at the stream's close (R187). -/
  fixed : Option Verdict := none
  /-- First failing byte lane, beat kind and beat index (R200). -/
  parityAt : Option (Nat × Nat × Nat) := none
  /-- Reference digest D1 (R183). -/
  ref : Option (BitVec 64) := none
  /-- Reference output tile, while watch points use it (R183). -/
  out : List Byte := []
  /-- The only Crook that may make the confirming recomputation; none: any other Crook in service (R185). -/
  confirmer : Option Nat := none
  /-- Single-Crook path: self-test first (R185). -/
  selfFirst : Bool := false
  /-- Stream closed (R182). -/
  closed : Bool := false
  /-- Buffer bytes held (R181). -/
  room : Nat := 0
  deriving DecidableEq, Repr

/-- One Crook (R181 to R189). -/
structure Crook where
  /-- In service (R189). -/
  inService : Bool := true
  /-- Queue (R182). -/
  queue : List CrookEntry := []
  /-- TBASE of blames in the last 24 h (R185). -/
  blames : List Nat := []
  /-- TBASE of the last self-test (R189). -/
  selfTestAt : Nat := 0
  /-- A self-test is due at once (R185). -/
  testDue : Bool := false
  /-- Recomputations it makes ahead of its own queue: Crook, flock, tag (R185). -/
  confirms : List (Nat × Nat × Nat) := []
  /-- TBASE of PARTRSTs in the last 60 s (R276). -/
  resetTimes : List Nat := []
  /-- PARTRST in progress (R276). -/
  resetting : Bool := false
  deriving DecidableEq, Repr

/-- One thermal sensor (R328). -/
structure Sensor where
  /-- In service (R328). -/
  inService : Bool := true
  /-- Latest reading [0.125 C] (R328). -/
  reading : Int := 480
  /-- TBASE at which the reading last changed (R328). -/
  changedAt : Nat := 0
  /-- Field median at that change (R328). -/
  medianThen : Int := 480
  /-- Readings of the last 1 ms with their TBASE (R328). -/
  recent : List (Nat × Int) := []
  /-- 115 C comparator fires (R332). -/
  at115 : Bool := false
  deriving DecidableEq, Repr

/-- Segment digests gathered by a Drover (R215). -/
structure SweepBatch where
  /-- Target index (R215). -/
  target : Nat := 0
  /-- Sweep number (R215). -/
  number : Nat := 0
  /-- XOR of the segment digests (R215). -/
  xor_ : BitVec 64 := 0
  /-- Segments (R215). -/
  count : Nat := 0
  /-- TBASE of the first segment (R215). -/
  firstAt : Nat := 0
  /-- TBASE of the last segment (R215). -/
  lastAt : Nat := 0
  deriving DecidableEq, Repr

/-- A service frame (R205). -/
structure SvcFrame where
  /-- SVF version (R205). -/
  ver : Nat := 0
  /-- Type (R205). -/
  typ : Nat := 0
  /-- Job ID (R205). -/
  jobId : BitVec 32 := 0
  /-- Source rank (R205). -/
  src : BitVec 32 := 0
  /-- Destination rank (R205). -/
  dst : BitVec 32 := 0
  /-- Job epoch (R205). -/
  epoch : BitVec 16 := 0
  /-- Route length (R205). -/
  routeLen : Nat := 0
  /-- Route index (R205). -/
  routeIdx : Nat := 0
  /-- Route bytes (R205). -/
  route : List Byte := []
  /-- Reserved header bytes, passed on unchanged (R206). -/
  resv : List Byte := []
  /-- Body (R205). -/
  body : List Byte := []
  deriving DecidableEq, Repr

/-- One entry of a Drover event buffer (R354). -/
structure EvEntry where
  /-- Per-source sequence number (R26). -/
  sn : Nat := 0
  /-- The report held (R354). -/
  ev : Ev := {}
  /-- Returned undeliverable (R28). -/
  returned : Bool := false
  /-- A delivered frame of type 0x03 or 0x04 in place of a report (R216, 14 R354). -/
  body : Option SvcFrame := none
  /-- A sweep report in place of an error report (R215, 14 R354). -/
  batch : Option SweepBatch := none
  /-- The first-error latch and the pins have taken it already, while no firmware ran (R359). -/
  latched : Bool := false
  /-- The Drovers have carried out its PARTRST already (R353). -/
  parted : Bool := false
  deriving DecidableEq, Repr

/-- One trace entry (R410). -/
structure TraceEntry where
  /-- Type of Table 18.2 (R411). -/
  typ : Nat := 0
  /-- Sequence of the source (R410). -/
  sn : Nat := 0
  /-- Source UID (R410). -/
  uid : BitVec 32 := 0
  /-- TBASE (R410). -/
  tbase : Nat := 0
  /-- Body (R410). -/
  body : List Byte := []
  /-- A log entry that a log block holds already (R413). -/
  logged : Bool := false
  deriving DecidableEq, Repr

/-- One trace buffer (R410, R416). -/
structure TraceBuf where
  /-- Entries held, oldest first (R410). -/
  entries : List TraceEntry := []
  /-- Next sequence number (R410). -/
  nextSn : Nat := 0
  /-- Entries discarded since the last trace block (R416). -/
  lost : Nat := 0
  /-- Log entries discarded since the last log block (R416). -/
  lostLog : Nat := 0
  deriving DecidableEq, Repr

/-- The windows of one program identifier in one field (R141). -/
structure IdleTable where
  /-- Program identifier (R141). -/
  runId : Nat := 0
  /-- Entries that the next run start carrying the identifier takes (R141). -/
  entries : List IdleEntry := []
  deriving DecidableEq, Repr

/-- State of one field: paddock, clock, heat, Drover (R15, R34, R143, R317 to R332). -/
structure Field where
  /-- State of Table 10.8 byte 4 (R267). -/
  pad : PadState := .inService
  /-- Cause code of 0x0304 for the present opening (R320). -/
  padCause : Nat := 0
  /-- Return attempts made (R320). -/
  attempts : Nat := 0
  /-- TBASE at which the next attempt is due (R320). -/
  attemptDue : Option Nat := none
  /-- Step of the return attempt under way (R321). -/
  returning : Option Nat := none
  /-- The attempt returns the infrastructure rail too (R321). -/
  infraReturn : Bool := false
  /-- TBASE of the last return (R320). -/
  returnedAt : Option Nat := none
  /-- TBASE of 115 C openings in the last 3,600 s (R320). -/
  openings : List Nat := []
  /-- TBASE of trips in the last 3,600 s (R342). -/
  trips : List Nat := []
  /-- The return condition of a thermal opening has been met since the opening (R320). -/
  coolMet : Bool := false
  /-- TBASE since which every sensor is 10 C below target (R320). -/
  coolSince : Option Nat := none
  /-- Psp_comp_en (R72). -/
  compEn : Bool := false
  /-- Psp_infra_en of this field's rail (R72). -/
  infraEn : Bool := false
  /-- Psp_comp_pg (R72). -/
  compPg : Bool := false
  /-- Psp_infra_pg (R72). -/
  infraPg : Bool := false
  /-- Psp_therm_off (R72). -/
  thermOff : Bool := false
  /-- TBASE of the last rise of psp_comp_en (R321). -/
  enAt : Nat := 0
  /-- Psp_oc_comp latched (R72). -/
  ocComp : Bool := false
  /-- Psp_oc_infra latched (R72). -/
  ocInfra : Bool := false
  /-- The compute rail has closed since the start, so the core-cycle count runs (R34). -/
  released : Bool := false
  /-- Core-cycle count (R34). -/
  cycles : Nat := 0
  /-- TBASE up to which the core-cycle count has been brought (R34). -/
  cyclesAt : Nat := 0
  /-- Remainder of the count between cycles (R34). -/
  cycleFrac : Nat := 0
  /-- PLL frequency [MHz] (R323). -/
  freq : Nat := 1500
  /-- Frequency commanded (R324). -/
  target : Nat := 1500
  /-- Core-rail voltage last commanded [mV] (R323, 16 R375). -/
  volt : Nat := 800
  /-- A slew is under way (R324). -/
  slewing : Bool := false
  /-- Cause for type 0x14 entries (R411). -/
  slewCause : Nat := 0
  /-- VOUT_COMMAND written, READ_VOUT not yet agreed (R324). -/
  raisePending : Bool := false
  /-- A VOUT_COMMAND waits for its read-back (R90). -/
  voutWait : Bool := false
  /-- TBASE at which the voltage is lowered (R324). -/
  lowerDue : Option Nat := none
  /-- Lee limit [MHz] (R329). -/
  flim : Nat := 1500
  /-- Hardware throttle divider in (R331). -/
  divider : Bool := false
  /-- Throttle release slew to 800 MHz under way (R331). -/
  throttleEnd : Bool := false
  /-- TBASE since which every sensor reads below 100 C (R331). -/
  below100Since : Option Nat := none
  /-- PLL re-locking, core clock stopped (R81). -/
  relock : Bool := false
  /-- TBASE of the latest rise (R324). -/
  lastRise : Option Nat := none
  /-- Stretched cycles left (R325). -/
  stretch : Nat := 0
  /-- Gust-storm hold (R326). -/
  storm : Bool := false
  /-- TBASE from which every whole millisecond of the storm hold has held at most 100 rises (R326). -/
  calmFrom : Nat := 0
  /-- TBASE of the last step of a slew (R324). -/
  slewAt : Nat := 0
  /-- TBASE at which the hold began (R326). -/
  stormStart : Nat := 0
  /-- TBASE of the rises within the last 1 ms (R326). -/
  rises : List Nat := []
  /-- Rises in the worst 1 ms (R342). -/
  worstMs : Nat := 0
  /-- Detectors out of service (R325). -/
  deadDetectors : List Nat := []
  /-- Thermal sensors, sparse (R328). -/
  sensors : List (Nat × Sensor) := []
  /-- Rail monitors reported (R339). -/
  deadMonitors : List Nat := []
  /-- Counter group 0x05 (R417). -/
  counters : List Nat := [0,0,0,0,0]
  /-- Drover started and in service (R285). -/
  drover : Bool := false
  /-- Drover out of service (R276). -/
  droverOut : Bool := false
  /-- TBASE of Drover PARTRSTs (R276). -/
  droverResets : List Nat := []
  /-- Drover PARTRST in progress (R285). -/
  droverResetting : Bool := false
  /-- Local TBASE taken from a synchronisation message (R33). -/
  tbaseSet : Bool := false
  /-- Measured mesh path delay [ns] (R31). -/
  tbaseOffset : Nat := 0
  /-- Event buffer (R354). -/
  buffer : List EvEntry := []
  /-- Edges removed by gusts that have not gone by yet (R34, 13 R325). -/
  skipDebt : Nat := 0
  /-- Next per-source sequence number (R26). -/
  bufSn : Nat := 0
  /-- Counted entries per code with the first UID (R354). -/
  bufCounts : List (Nat × Nat × BitVec 32) := []
  /-- UC and FE entries counted (R354). -/
  bufUcFe : Nat := 0
  /-- CE and EV entries counted (R354). -/
  bufCeEv : Nat := 0
  /-- TBASE since which 7,168 entries are held (R354). -/
  bufAbove : Option Nat := none
  /-- Time above 7,168 entries of the intervals that have ended since the counts were last sent [ns] (R354, Table 14.4). -/
  bufAboveNs : Nat := 0
  /-- Pattern indices held in the pattern store, at most eight (R139). -/
  store : List Nat := []
  /-- Generation of the pack the Drover runs (R136). -/
  pack : Nat := 0
  /-- Trace buffer (R410). -/
  trace : TraceBuf := {}
  /-- Idle-slot tables (R141). -/
  tables : List IdleTable := []
  /-- Guard Vmin baseline (settings) (R150). -/
  baseline : Option Int := none
  /-- Current guard Vmin code (R150). -/
  vmin : Option Int := none
  /-- Pattern of the Bellwether sweep under way (R150). -/
  bellPattern : Nat := 0
  /-- Trim code of the sweep under way (R150). -/
  bellCode : Option Int := none
  /-- Lowest passing code found in this sweep (R150). -/
  bellLow : Int := 0
  /-- Drift recorded since it last fell below the threshold (R150). -/
  bellDrift : Bool := false
  /-- TBASE of the last rotation check (R152). -/
  rotationAt : Nat := 0
  /-- Routers powered and working (R28). -/
  routers : Bool := true
  /-- Planes from which the field's router is off (R276). -/
  routerOut : List Nat := []
  /-- Plane and TBASE of router PARTRSTs (R276). -/
  routerResets : List (Nat × Nat) := []
  /-- Planes whose router is under PARTRST (R276). -/
  routerResetting : List Nat := []
  /-- Segment digests gathered (R215). -/
  sweeps : List SweepBatch := []
  /-- Calibration factor g(f) (settings) (R339). -/
  calib : Rat := 1
  /-- Measured power of the last telemetry round [W] (R338). -/
  measured : Rat := 0
  /-- Uncalibrated model [W] (R338). -/
  modelled : Rat := 0
  /-- Measured power summed over the second's telemetry rounds [W] (R339). -/
  measSum : Rat := 0
  /-- Uncalibrated model summed over them [W] (R339). -/
  modSum : Rat := 0
  /-- Stagger word last written (R333, R334). -/
  stagger : Bool := false
  /-- Filler level last written (R333, R335). -/
  filler : Nat := 0
  /-- Breeze throttle k in force (R336). -/
  k : Nat := 0
  /-- Rows repaired since shipment (R267). -/
  rowsRepaired : Nat := 0
  deriving DecidableEq, Repr

/-- One Earmark tracker (R210). -/
structure EmTracker where
  /-- Collective identifier (R210). -/
  coll : Nat := 0
  /-- Epoch (R210). -/
  epoch : BitVec 16 := 0
  /-- Step (R210). -/
  step : BitVec 48 := 0
  /-- Frames counted (R210). -/
  frames : Nat := 0
  /-- Bytes counted (R210). -/
  bytes : Nat := 0
  /-- XOR of the earmarks (R210). -/
  xor_ : BitVec 64 := 0
  /-- TBASE of the last frame (R210). -/
  lastAt : Nat := 0
  deriving DecidableEq, Repr

/-- An outgoing kind-1 frame under way (R209). -/
structure TxFrame where
  /-- Frame descriptor (R65). -/
  fd : BitVec 192 := 0
  /-- Tracker that the frame holds (R209). -/
  tracker : Option Nat := none
  /-- The frame is marked (R209). -/
  marked : Bool := false
  deriving DecidableEq, Repr

/-- One link tap and its Earmark engine (R64 to R68, R205 to R211). -/
structure LinkTap where
  /-- Engine in service (R211). -/
  inService : Bool := true
  /-- Ltp_link_up (R64). -/
  linkUp : Bool := false
  /-- Trackers in use (R210). -/
  trackers : List (Nat × EmTracker) := []
  /-- Outgoing frame under way (R209). -/
  tx : Option TxFrame := none
  /-- Instances recorded by 0x0503 with unmarked frames since (R210). -/
  unmarked : List (Nat × BitVec 16 × BitVec 48 × Nat) := []
  /-- Descriptor of the last BAD frame (R211). -/
  lastBad : Option (BitVec 192) := none
  /-- Consecutive BAD verdicts on it (R211). -/
  badRun : Nat := 0
  /-- Queued taint and muster notices (R207). -/
  notices : List SvcFrame := []
  /-- Queued frames of types 0x03 and 0x04 (R207). -/
  queue : List SvcFrame := []
  /-- Last pairs of origin rank and notice sequence (R197). -/
  taintSeen : List (BitVec 32 × BitVec 32) := []
  /-- Service register accesses not yet answered, the one on the channel first: address, data of a write (R71). -/
  sr : List (Nat × Option (BitVec 32)) := []
  /-- The lateness of the access on the channel is reported (R71). -/
  srLate : Bool := false
  /-- Data lanes of the link, word 0x000 (R71). -/
  lanes : Nat := 0
  /-- Spare lanes of the link, word 0x001 (R71). -/
  spares : Nat := 0
  /-- Substitutions made: data lane, spare lane (R24). -/
  spared : List (Nat × Nat) := []
  /-- TBASE of PARTRSTs (R276). -/
  resetTimes : List Nat := []
  /-- PARTRST in progress (R276). -/
  resetting : Bool := false
  /-- Retrain attempts of a retraining under way (R304). -/
  retrain : Option Nat := none
  /-- Retrain word waits for the muster notice to leave (R302). -/
  retrainWait : Bool := false
  /-- Counter group 0x06 (R417). -/
  counters : List Nat := [0,0,0,0,0,0,0,0,0,0]
  deriving DecidableEq, Repr

/-- One row of a memory tap's row table (R262). -/
structure Row where
  /-- Mtp_ev_loc (R262). -/
  loc : BitVec 32 := 0
  /-- TBASE of CE events in the last 24 h (R262). -/
  times : List Nat := []
  /-- Due for repair (R262). -/
  due : Bool := false
  /-- TBASE of its last event (R262). -/
  lastAt : Nat := 0
  deriving DecidableEq, Repr

/-- A row repair under way (R263). -/
structure Repair where
  /-- Row (R263). -/
  loc : BitVec 32 := 0
  /-- Hard repair (R263). -/
  hard : Bool := false
  /-- TBASE of its start (R263). -/
  started : Nat := 0
  deriving DecidableEq, Repr

/-- One memory tap (R69, R70, R262 to R265, R291, R304). -/
structure MemTap where
  /-- Stack in service (R304). -/
  inService : Bool := true
  /-- Mtp_drain_req (R69). -/
  drainReq : Bool := false
  /-- Mtp_drain_done (R69). -/
  drainDone : Bool := false
  /-- Row table (R262). -/
  rows : List Row := []
  /-- Repair under way (R263). -/
  repair : Option Repair := none
  /-- Rows soft-repaired since the last start (R263). -/
  softRows : List (BitVec 32) := []
  /-- Soft-repaired rows to repair again after a start (R263). -/
  redoRows : List (BitVec 32) := []
  /-- Regions as last written (R307). -/
  regions : List (BitVec 64) := []
  /-- Service register accesses not yet answered, the one on the channel first: address, data of a write (R71). -/
  sr : List (Nat × Option (BitVec 32)) := []
  /-- The lateness of the access on the channel is reported (R71). -/
  srLate : Bool := false
  /-- Retrain attempts of a retraining under way (R291). -/
  retrain : Option Nat := none
  /-- Generation of the verified pack copy held (R137). -/
  packCopy : Option Nat := none
  deriving DecidableEq, Repr

/-- One Shepherd controller (R343, R344, R348, R355). -/
structure Shc where
  /-- Active, following, resetting, catching up or out of service (R344). -/
  status : ShcStatus := .off
  /-- Output gate open (R344, R349). -/
  gate : Bool := false
  /-- Reported or found lost (R348). -/
  lost : Bool := false
  /-- TBASE at which the NMI handler under way began (R273). -/
  nmi : Option Nat := none
  /-- TBASE of resets in the last 60 s (R276). -/
  resetTimes : List Nat := []
  /-- TBASE of the latest reset (R355). -/
  resetAt : Nat := 0
  /-- TBASE of the last heartbeat (R348). -/
  lastHb : Nat := 0
  /-- Firmware image held (R361). -/
  image : Option FwImage := none
  /-- Trace buffer (R410). -/
  trace : TraceBuf := {}
  /-- Last trace point (R372). -/
  tracePoint : Nat := 0
  deriving DecidableEq, Repr

/-- One Warden voter (R349). -/
structure Voter where
  /-- In service (R349). -/
  inService : Bool := true
  /-- PARTRST in progress (R285). -/
  resetting : Bool := false
  /-- TBASE of PARTRSTs (R276). -/
  resetTimes : List Nat := []
  /-- Round and vote last cast (R349). -/
  vote : Option (Nat × Vote) := none
  deriving DecidableEq, Repr

/-- A challenge under way (R350). -/
structure Challenge where
  /-- Challenge seed (R350). -/
  seed : BitVec 32 := 0
  /-- TBASE of the challenge (R350). -/
  began : Nat := 0
  /-- Cause: the follower's digest was late (R358). -/
  late : Bool := false
  /-- Warden epoch (R358). -/
  epoch : Nat := 0
  /-- Low 32 bits of the XOR of the two digests (R358). -/
  xor_ : BitVec 32 := 0
  /-- SHC-A's response: right (R350). -/
  respA : Option Bool := none
  /-- SHC-B's response: right (R350). -/
  respB : Option Bool := none
  deriving DecidableEq, Repr

/-- The Shepherd pair and the Warden (R343 to R358). -/
structure Pair where
  /-- SHC-A (R343). -/
  a : Shc := {}
  /-- SHC-B (R343). -/
  b : Shc := {}
  /-- Shepherd named active by the latest acting vote (R344). -/
  active : Option ShcId := none
  /-- W0 to W2 (R349). -/
  voters : List Voter := [{}, {}, {}]
  /-- Round number (R349). -/
  round : Nat := 0
  /-- Challenge under way (R350). -/
  challenge : Option Challenge := none
  /-- Challenge seeds drawn (model's own) (R350). -/
  challengeNo : Nat := 0
  /-- Voters that have found a mismatch in this round (R350). -/
  mismatch : List Nat := []
  /-- Epoch, TBASE and active digest waiting for the follower's (R347). -/
  digestWait : Option (Nat × Nat × BitVec 64) := none
  /-- Warden epoch (R347). -/
  wEpoch : Nat := 0
  /-- Skew mode (R356). -/
  skew : Bool := false
  /-- Next order number (R345). -/
  order : Nat := 0
  /-- Order numbers the follower has reported processed (R346). -/
  processed : Nat := 0
  /-- Order numbers the follower has processed (R345). -/
  followed : Nat := 0
  /-- Outputs held at the release gate with their order number (R346). -/
  held : List (Nat × Output) := []
  /-- Highest order number whose outputs are fully released (R346). -/
  released : Nat := 0
  /-- Pair sequence of the outputs (R346). -/
  pairSeq : Nat := 0
  /-- Both Shepherds lost (R357). -/
  bothLost : Bool := false
  /-- TBASE of that loss (R358). -/
  lostAt : Nat := 0
  /-- Its cause (R358). -/
  lostCause : Nat := 0
  /-- TBASE at which a switch-over gap began (R352). -/
  gapFrom : Option Nat := none
  /-- Cause for 0x0107 (R358). -/
  gapCause : Nat := 0
  /-- 0x0107 waits for the replays: retired Shepherd and gap in SCLK cycles (R358). -/
  swDue : Option (ShcId × Nat) := none
  /-- Event-buffer entries replayed (R358). -/
  replayed : Nat := 0
  /-- Outputs resent (R358). -/
  resent : Nat := 0
  /-- 0x010F recorded (R349). -/
  noMajority : Bool := false
  /-- Difference of the two TBASE masters as last compared [ns] (R31). -/
  masterDiff : Int := 0
  deriving DecidableEq, Repr

/-- First-error latch (R280, Table 11.7, R426). -/
structure Ferr where
  /-- A first error is held (R280). -/
  valid : Bool := false
  /-- Overflow (R280). -/
  overflow : Bool := false
  /-- An FE was merged (R280). -/
  feMerged : Bool := false
  /-- Handling flag FENCE (R280). -/
  fence : Bool := false
  /-- Handling flag NMI (R280). -/
  nmi : Bool := false
  /-- Handling flag PARTRST (R280). -/
  partrst : Bool := false
  /-- Handling flag RESET (R280). -/
  reset : Bool := false
  /-- Class (R280). -/
  cls : Nat := 0
  /-- Event code (R280). -/
  code : Nat := 0
  /-- Source UID (R280). -/
  uid : BitVec 32 := 0
  /-- TBASE of detection (R280). -/
  tbase : Nat := 0
  /-- Tally sequence number (R280). -/
  sequence : Nat := 0
  /-- Merge count (R280). -/
  merges : Nat := 0
  /-- Distinct merged UIDs (R280). -/
  muids : List (BitVec 32) := []
  /-- Domains whose FENCE hurdles the flag waits for (R281). -/
  fences : List (BitVec 32) := []
  /-- Parts whose PARTRST the flag waits for (R281). -/
  parts : List (BitVec 32) := []
  deriving DecidableEq, Repr

/-- One alarm pin, ERR_N or FATAL_N (R95, R284, R427). -/
structure Pin where
  /-- Mode bit of PIN_CTL: hold (R427). -/
  modeReg : Bool := false
  /-- Mode in force since the last assertion (R427). -/
  mode : Bool := false
  /-- The pin is low (R95). -/
  low : Bool := false
  /-- HELD bit (R427). -/
  held : Bool := false
  /-- TBASE at which the low time ends (R95). -/
  lowEnd : Option Nat := none
  /-- TBASE at which the high time ends (R95). -/
  highEnd : Option Nat := none
  /-- An event is held during the high time (R95). -/
  waiting : Bool := false
  /-- A clear written during the low time (R284). -/
  clear : Bool := false
  deriving DecidableEq, Repr

/-- A completed command's result (Table 4.5). -/
structure Completion where
  /-- Command ring (R107). -/
  ring : Nat := 0
  /-- Status code of Table 4.7 (R116). -/
  status : Nat := 0
  /-- Result bytes 48-55 (R107). -/
  result : List Byte := []
  /-- Bytes returned (R107). -/
  returned : Nat := 0
  /-- Output buffer contents (R109). -/
  buffer : List Byte := []
  /-- Notify flag of the descriptor (R107). -/
  notify : Bool := false
  /-- Versions that take effect when it is complete (R122). -/
  neg : Option (List Byte) := none
  deriving DecidableEq, Repr

/-- One command ring (R107, R108, R114, R117, R119). -/
structure CmdRing where
  /-- Ring number (R119). -/
  num : Nat := 0
  /-- Base (R119). -/
  base : Nat := 0
  /-- Log2 of its entries (R119). -/
  log2 : Nat := 4
  /-- Paired event ring (R119). -/
  paired : Nat := 0
  /-- Head count (R106). -/
  head : Nat := 0
  /-- Tail count last acted on (R105). -/
  tail : Nat := 0
  /-- 0x5001 recorded for the present run of invalid counts (R108). -/
  dbErr : Bool := false
  /-- Stopped (R117). -/
  stopped : Bool := false
  /-- Opcode of the command in progress (R114). -/
  busy : Option Nat := none
  /-- Notify flag of the command in progress (R107). -/
  notify : Bool := false
  /-- Buffer address of the command in progress (R107). -/
  bufAddr : Nat := 0
  /-- Ring whose RING_DESTROY waits for the command in progress (R119). -/
  dying : Option Nat := none
  /-- Completion being written: step of R109 (R109). -/
  stage : Option (Nat × Completion) := none
  /-- Completion held during host loss (R128). -/
  held : Option Completion := none
  /-- Place of its completion writes in their original order (R130). -/
  issued : Nat := 0
  deriving DecidableEq, Repr

/-- One event ring (R110 to R113). -/
structure EvRing where
  /-- Ring number (R119). -/
  num : Nat := 0
  /-- Base (R119). -/
  base : Nat := 0
  /-- Log2 of its entries (R119). -/
  log2 : Nat := 4
  /-- Minimum severity (R111). -/
  minSev : Nat := 0
  /-- Group mask (R111). -/
  mask : BitVec 16 := 0
  /-- Moderation interval [us] (R113). -/
  moderation : Nat := 0
  /-- Head count last acted on (R105). -/
  head : Nat := 0
  /-- Tail count (R106). -/
  tail : Nat := 0
  /-- 0x5001 recorded for the present run of invalid counts (R108). -/
  dbErr : Bool := false
  /-- Stopped (R117). -/
  stopped : Bool := false
  /-- Records not posted (R112). -/
  lost : Nat := 0
  /-- Sequence number of the first of them (R112). -/
  firstLost : Nat := 0
  /-- TBASE at which the running moderation interval ends (R113). -/
  intervalEnd : Option Nat := none
  /-- A signal collected during the interval (R113). -/
  signal : Bool := false
  /-- Entries whose tail-count write is not confirmed: address and bytes (R130). -/
  unconf : List (Nat × List Byte) := []
  deriving DecidableEq, Repr

/-- Host interface (R99 to R130, R424 to R431). -/
structure Hif where
  /-- HIF_CR0_BASE (R102). -/
  cr0Base : BitVec 64 := 0
  /-- HIF_CR0_SIZE (R102). -/
  cr0Size : BitVec 32 := 0
  /-- HIF_ER0_BASE (R102). -/
  er0Base : BitVec 64 := 0
  /-- HIF_ER0_SIZE (R102). -/
  er0Size : BitVec 32 := 0
  /-- HIF_DB_ADDR (R102). -/
  dbAddr : BitVec 64 := 0
  /-- HIF_ST_ADDR (R102). -/
  stAddr : BitVec 64 := 0
  /-- Doorbell block in use (R429). -/
  dbCur : Nat := 0
  /-- Status block in use (R429). -/
  stCur : Nat := 0
  /-- APT_BASE (R430). -/
  aptBase : BitVec 64 := 0
  /-- APT_LIMIT (R430). -/
  aptLimit : BitVec 64 := 0xFFFFFFFFFFFFFFFF
  /-- WIN_LOCK bit 0 (R428). -/
  lock : Bool := false
  /-- HIF_STATUS bits 3:0 (R103). -/
  st : HifState := .idle
  /-- HIF_STATUS bits 15:8 (R429). -/
  reason : Nat := 0
  /-- Negotiated versions HRP, GPK, EMF, TRF, SVF (R122). -/
  neg : Option (List Byte) := none
  /-- START held until readiness (R393). -/
  startHeld : Bool := false
  /-- Command rings (R119). -/
  cmds : List CmdRing := []
  /-- Event rings (R119). -/
  evs : List EvRing := []
  /-- Ring from which the turn goes on (R114). -/
  turn : Nat := 0
  /-- Completion writes issued so far (R130). -/
  issues : Nat := 0
  /-- Emulated window accesses held in a switch-over gap (R100). -/
  waiting : List WinAccess := []
  /-- Interrupt messages waiting (R77). -/
  impQueue : List Nat := []
  /-- Imp_vld with imp_vec (R77). -/
  impVld : Option Nat := none
  /-- Heartbeat timer runs (R127). -/
  hbOn : Bool := false
  /-- TBASE of its latest start or restart (R127). -/
  hbLast : Nat := 0
  /-- 0x5003 recorded for this lapse (R127). -/
  hbLate : Bool := false
  /-- First sequence number recorded after HOST_LOST (R129). -/
  lostSeq : Option Nat := none
  /-- Doorbell block in a run of failures (R117). -/
  dbFailed : Bool := false
  /-- Status block in a run of failures (R117). -/
  stFailed : Bool := false
  deriving DecidableEq, Repr

/-- A Tally record (R375, Table 16.3). -/
structure Rec where
  /-- Sequence number (R375). -/
  sequence : Nat := 0
  /-- Format version (R375). -/
  fmt : Nat := 0x10
  /-- Severity (R375). -/
  sev : Nat := 0
  /-- Class (R375). -/
  cls : Nat := 0
  /-- Flags of Table 16.4 (R375). -/
  flags : Nat := 0
  /-- Operating seconds (R375). -/
  opSec : Nat := 0
  /-- Power-cycle count (R375). -/
  pcc : Nat := 0
  /-- TBASE of detection (R375). -/
  tbase : Nat := 0
  /-- Event code (R375). -/
  code : Nat := 0
  /-- Source UID (R375). -/
  uid : BitVec 32 := 0
  /-- Suppressed count (R383). -/
  supp : Nat := 0
  /-- Operation ID (R375). -/
  opId : BitVec 64 := 0
  /-- Temperature (R375). -/
  temp : Int := 0
  /-- Voltage (R375). -/
  volt : Nat := 0
  /-- Bytes 44-55 (R375). -/
  payload : List Byte := []
  deriving DecidableEq, Repr

/-- One Tally region of the flash (R379). -/
structure Region where
  /-- Records by sector (R379). -/
  sectors : List (Nat × List Rec) := []
  /-- Sector kept erased (R379). -/
  reserve : Nat := 0
  /-- Sectors retired after a program failure (R380). -/
  bad : List Nat := []
  deriving DecidableEq, Repr

/-- A sector reclaim under way (R380). -/
structure Reclaim where
  /-- The region is the Fatal sub-region (R380). -/
  fatal : Bool := false
  /-- Chosen sector (R380). -/
  sector : Nat := 0
  /-- Severity of the record that asked for it (R380). -/
  sev : Nat := 0
  deriving DecidableEq, Repr

/-- A clear of the Tally (R387). -/
structure Clear where
  /-- Scope (R387). -/
  scope : Nat := 0
  /-- Clear bound C (R387). -/
  bound : Nat := 0
  deriving DecidableEq, Repr

/-- The Tally event recorder (R373 to R388). -/
structure Tally where
  /-- Next sequence number (R377). -/
  next : Nat := 0
  /-- Uncommitted records, oldest first (R376). -/
  waiting : List Rec := []
  /-- Committed records still in Tally RAM, newest first (R376). -/
  recent : List Rec := []
  /-- General region (R379). -/
  general : Region := {reserve := 2687}
  /-- Fatal sub-region (R379). -/
  fatal : Region := {reserve := 382}
  /-- Clear area (R379). -/
  clears : List Rec := []
  /-- Committed clears (R387). -/
  named : List Clear := []
  /-- Reclaim under way (R380). -/
  reclaim : Option Reclaim := none
  /-- Tokens taken from each bucket, 0 to 16 (R383). -/
  spent : List (Nat × Nat) := []
  /-- Withheld records per code (R383). -/
  withheld : List (Nat × Nat) := []
  /-- Records dropped since start (R382). -/
  dropped : Nat := 0
  /-- Records dropped since the last 0x0111 (R382). -/
  newDrops : Nat := 0
  /-- Cause of the first of them (R388). -/
  dropCause : Nat := 0
  /-- Sequence number of the last record before the first drop (R388). -/
  beforeDrop : Nat := 0
  /-- The start scan has ended (R384). -/
  scanned : Bool := false
  /-- TALLY_READs waiting for the scan: ring, F, maximum, buffer length, S (R384). -/
  pendingRead : List (Nat × Nat × Nat × Nat × Nat) := []
  /-- TALLY_CLEARs completing at their commit: ring and sequence (R387). -/
  pendingClear : List (Nat × Nat) := []
  /-- The clear area's sector is retired until the next start (spec/16 section Failures). -/
  clearBad : Bool := false
  /-- Operating seconds (R378). -/
  opSec : Nat := 0
  /-- Operating seconds in the counters area (R378). -/
  opSecStored : Nat := 0
  /-- TBASE of the last whole operating second (R378). -/
  opSecAt : Nat := 0
  /-- Power-cycle count (counters area) (R378). -/
  powerCycles : Nat := 0
  deriving DecidableEq, Repr

/-- The policy store (R151, R237, R266, R315, R341, R408, R279, R337). -/
structure Policy where
  /-- 0x0500 rotation period [s] (R151). -/
  rotation : Nat := 86400
  /-- 0x0501 guard probes (R151). -/
  guard : Nat := 1
  /-- 0x0502 Bellwether (R151). -/
  bell : Nat := 1
  /-- 0x0503 field test-core limit (R151). -/
  testLimit : Nat := 8
  /-- 0x0504 drift threshold (R151). -/
  drift : Nat := 3
  /-- 0x0900 UWR target (R237). -/
  uwrTarget : Rat := 1/100000
  /-- 0x0901 multiplicity k (R237). -/
  multiplicity : Nat := 8
  /-- 0x0902 screening credit (R237). -/
  credit : Rat := 1/2
  /-- 0x0903 prior weight D0 (R237). -/
  prior : Nat := 2
  /-- 0x0904 window W (R237). -/
  windowW : Nat := 4320
  /-- 0x0905 scale floor (R237). -/
  xMin : Rat := 1/64
  /-- 0x0A00 shelter method (R266). -/
  shelter : Nat := 0
  /-- 0x0A01 cluster threshold (R266). -/
  cluster : Nat := 16
  /-- 0x0A02 re-test deadline [s] (R266). -/
  retest : Nat := 3600
  /-- 0x0A03 passes to leave Watched (R266). -/
  leaveWatched : Nat := 2
  /-- 0x0A04 row repair threshold (R266). -/
  rowThreshold : Nat := 8
  /-- 0x0A05 repair mode (R266). -/
  repairMode : Nat := 1
  /-- 0x0A06 flock thinning limit (R266). -/
  thinLimit : Nat := 4
  /-- 0x0C00 [ms] (R315). -/
  tmoCompute : Nat := 50
  /-- 0x0C01 [ms] (R315). -/
  tmoLocal : Nat := 100
  /-- 0x0C02 [ms] (R315). -/
  tmoRemote : Nat := 200
  /-- 0x0C03 [us] (R315). -/
  drain : Nat := 100
  /-- 0x0C04 (R315). -/
  sramDepth : Nat := 1
  /-- 0x0C10-0x0C1F, sparse (R315). -/
  regions : List (Nat × BitVec 64) := []
  /-- 0x0D00 set frequency [MHz] (R341). -/
  freq : Nat := 1500
  /-- 0x0D01 thermal target (R341). -/
  thermal : Nat := 95
  /-- 0x0D02 gust threshold (R341). -/
  gustMv : Nat := 40
  /-- 0x0D03 gust mode (R341). -/
  gustMode : Nat := 1
  /-- 0x0D04 stretch length (R341). -/
  gustN : Nat := 32
  /-- 0x0D05 compute-rail trip threshold (R341). -/
  trip : Nat := 200
  /-- 0x0D06 power floor [W] (R341). -/
  powerFloor : Nat := 0
  /-- RAMP_SET up limit [W/s] (R337). -/
  rampUp : Nat := 1000
  /-- RAMP_SET down limit [W/s] (R337). -/
  rampDown : Nat := 1000
  /-- 0x1100 slice length [ms] (R408). -/
  sliceLen : Nat := 250
  /-- 0x1101 self-test budget [s] (R408). -/
  budget : Nat := 60
  /-- 0x1102 fields per group (R408). -/
  group : Nat := 8
  /-- Reaction masks set by policy, keyed by code and class (R279). -/
  masks : List (Nat × BitVec 8) := []
  deriving DecidableEq, Repr

/-- A Grentoter pack (R132). -/
structure Pack where
  /-- Format version (R132). -/
  ver : Nat := 0
  /-- Signing key (R132). -/
  key : Nat := 0
  /-- Pack ID (R132). -/
  id : Nat := 0
  /-- Pack serial (R132). -/
  serial : Nat := 0
  /-- Floor serial (R132). -/
  floor : Nat := 0
  /-- Its signature verifies under the maker key (R132). -/
  sigMaker : Bool := false
  /-- Hash of the owner key under which it verifies (R132). -/
  sigOwner : Option (BitVec 384) := none
  /-- Directory (R133). -/
  patterns : List Pattern := []
  /-- Creation time (R132). -/
  created : Nat := 0
  /-- Signature: r, then s, each big-endian (R132). -/
  sig : List Byte := []
  deriving DecidableEq, Repr

/-- Packs and the content pager (R132 to R139). -/
structure Screen where
  /-- Pack slot 0 of the flash (R135). -/
  slot0 : Option Pack := none
  /-- Pack slot 1 of the flash (R135). -/
  slot1 : Option Pack := none
  /-- Active slot (configuration partition) (R136). -/
  active : Nat := 0
  /-- Pack floor (configuration partition) (R136). -/
  floor : Nat := 0
  /-- Pack the Drovers run (R137). -/
  running : Option Pack := none
  /-- Its slot (R137). -/
  runningSlot : Nat := 0
  /-- Generation of the running pack (R136). -/
  gen : Nat := 0
  /-- Slot whose copy the pager makes (R136). -/
  copying : Option Nat := none
  /-- PACK_STAGE under way: ring, slot, pack (R135). -/
  staging : Option (Nat × Nat × Pack) := none
  /-- Failures of the block that failed last (R135). -/
  blockFails : Nat := 0
  /-- That block (R135). -/
  failBlock : Nat := 0
  /-- TBASE at which the passes of all cores last restarted (R152). -/
  since : Nat := 0
  deriving DecidableEq, Repr

/-- The job (R204, R309, R179). -/
structure Job where
  /-- A job is active (R309). -/
  active : Bool := false
  /-- The epoch has left 0x0000 since the start (R308). -/
  begun : Bool := false
  /-- Job epoch, on ltp_epoch and mtp_epoch (R308). -/
  epoch : BitVec 16 := 0
  /-- Job ID (R204). -/
  id : BitVec 32 := 0
  /-- Job ID of the previous job (R198). -/
  prevId : Option (BitVec 32) := none
  /-- Jobs begun so far (R198). -/
  no : Nat := 0
  /-- Rank in the previous job (R198). -/
  prevRank : BitVec 32 := 0
  /-- Taint hop limit of the previous job (R198). -/
  prevHops : Nat := 1
  /-- Notices of the previous job so far (R198). -/
  prevNotices : Nat := 0
  /-- Peer arrangement of the previous job (R198). -/
  prevPeers : List (Nat × BitVec 32 × Nat) := []
  /-- Job key (R179). -/
  key : BitVec 64 := 0
  /-- Donation code (R175). -/
  donation : Nat := 0
  /-- Taint hop limit (R204). -/
  hops : Nat := 1
  /-- Step lag (R204). -/
  lag : Nat := 0
  /-- Flags (R204). -/
  flags : Nat := 0
  /-- Own rank (R204). -/
  rank : BitVec 32 := 0
  /-- Rank count (R204). -/
  ranks : Nat := 1
  /-- Valid peer entries: tap, rank, peer tap (R204). -/
  peers : List (Nat × BitVec 32 × Nat) := []
  /-- The chip's step (R196). -/
  step : BitVec 48 := 0
  /-- Notice sequence of this origin within the job (R195). -/
  notices : Nat := 0
  /-- The run is timing-clean so far (R39). -/
  clean : Bool := true
  /-- Stretch and frequency-change events of the job (R118). -/
  changes : Nat := 0
  /-- Versions in force for the job (R123). -/
  ver : Option (List Byte) := none
  /-- TBASE of JOB_BEGIN (R231). -/
  began : Nat := 0
  /-- Job-active ns of the present governor epoch before the running job (R231). -/
  activeNs : Nat := 0
  /-- JOB_BEGIN waiting: ring, job descriptor, stagger off (R309). -/
  starting : Option (Nat × List Byte × Bool) := none
  /-- Versions in force at the JOB_BEGIN that waits (R123). -/
  startVer : Option (List Byte) := none
  /-- What it waits for: 0 nothing, 1 repair, return or update, 2 drain (R309). -/
  startPhase : Nat := 0
  /-- TBASE at which JOB_BEGIN was taken, then at which the drain wait began (R309). -/
  startAt : Nat := 0
  deriving DecidableEq, Repr

/-- A taint notice on its way (R194). -/
structure TaintOrder where
  /-- Causing code (R194). -/
  code : Nat := 0
  /-- Named core (R194). -/
  uid : BitVec 32 := 0
  /-- Notice sequence (R195). -/
  sn : BitVec 32 := 0
  /-- Job ID it carries (R198). -/
  jobId : BitVec 32 := 0
  /-- Job epoch and taint step (R196). -/
  opId : BitVec 64 := 0
  deriving DecidableEq, Repr

/-- A muster notice on its way (R311). -/
structure MusterOrder where
  /-- Reset domain (R311). -/
  dom : BitVec 32 := 0
  /-- Reset level (R311). -/
  level : Nat := 0
  /-- Expected duration [us] (R311). -/
  micros : Nat := 0
  /-- Taps the order went to (R316). -/
  taps : Nat := 0
  /-- TBASE at the start of the reset (R208). -/
  began : Nat := 0
  deriving DecidableEq, Repr

/-- The hurdle of one domain, closed or closing (R294, R295). -/
structure Hurdle where
  /-- Domain UID (R294). -/
  dom : BitVec 32 := 0
  /-- Cause byte of event 0x0310 (R316). -/
  cause : Nat := 0
  /-- Causing event code (R316). -/
  code : Nat := 0
  /-- TBASE at which the close was ordered (R316). -/
  began : Nat := 0
  /-- Closing, draining or drained (R294, R295). -/
  phase : HurdlePhase := .closing
  /-- TBASE at which the hurdle was closed (R295). -/
  closedAt : Nat := 0
  /-- Merely held, until JOB_BEGIN reopens it (R300, 17 R393, R395). -/
  held : Bool := false
  /-- The drain timeout has passed (R295). -/
  timedOut : Bool := false
  deriving DecidableEq, Repr

/-- A level-0 reset under way (R298, R299). -/
structure Level0 where
  /-- Domain, grown when R299 grows it (R298). -/
  dom : BitVec 32 := 0
  /-- Cause byte of event 0x0310 (R316). -/
  cause : Nat := 0
  /-- Causing event code (R297). -/
  code : Nat := 0
  /-- TBASE at its start (R298). -/
  began : Nat := 0
  /-- Step of R298 reached (R298). -/
  step : L0Step := .hurdle
  /-- Parts already taken through hurdle, drain and capture (R299, R301). -/
  doneDoms : List (BitVec 32) := []
  /-- TBASE at which the capture ended (R286). -/
  captureEnd : Nat := 0
  /-- Flocks whose fsp_kill_done is awaited (R298). -/
  killWait : List Nat := []
  /-- Flocks whose fsp_kill_done did not come (R298). -/
  killLate : List Nat := []
  /-- Flocks whose reset word is not yet written (R298). -/
  queue : List Nat := []
  /-- Flocks whose reset status is awaited (R298). -/
  waiting : List Nat := []
  /-- Flocks reset (R316). -/
  resets : Nat := 0
  /-- Command rings whose DOMAIN_RESET completes with it (R314). -/
  rings : List Nat := []
  deriving DecidableEq, Repr

/-- A level-1 recovery under way (R302, R303). -/
structure Level1 where
  /-- TBASE of the decision (R302). -/
  began : Nat := 0
  /-- Causing event code (R297). -/
  code : Nat := 0
  /-- Step of Table 12.4 reached (R302). -/
  step : L1Step := .hurdle
  /-- Command ring of a RECOVER (R314). -/
  ring : Option Nat := none
  /-- Parts level 0 has already captured (R301). -/
  doneDoms : List (BitVec 32) := []
  /-- TBASE at which the drain began (R316). -/
  drainAt : Nat := 0
  /-- TBASE at which the capture began (R296). -/
  captureAt : Nat := 0
  /-- TBASE at which the compute rails opened (R302). -/
  openAt : Nat := 0
  /-- Flocks whose fsp_kill_done is awaited (R298). -/
  killWait : List Nat := []
  /-- Field groups whose compute rails are still to be reclosed (R302). -/
  groups : List (List Nat) := []
  /-- Fields of the group being reclosed (R302). -/
  pgWait : List Nat := []
  /-- Flocks whose reset word is not yet written (R302). -/
  queue : List Nat := []
  /-- Flocks whose reset status is awaited (R302). -/
  waiting : List Nat := []
  /-- Flocks whose reset has failed once (R303). -/
  retried : List Nat := []
  /-- Link taps whose retraining is awaited (R302). -/
  linkWait : List Nat := []
  /-- Memory taps whose retraining is awaited (R302). -/
  stackWait : List Nat := []
  /-- Fields still in the recovery self-test (R302). -/
  testFields : List Nat := []
  /-- Fields of the self-test group under way (R302). -/
  testGroup : List Nat := []
  /-- Flocks reset (R316). -/
  resets : Nat := 0
  /-- Fields lost (R303). -/
  lost : List Nat := []
  deriving DecidableEq, Repr

/-- A capture slot in Beyja's reserved region (R297). -/
structure CapSlot where
  /-- Domain UID (R297). -/
  dom : BitVec 32 := 0
  /-- Causing event code (R297). -/
  code : Nat := 0
  /-- Truncated flag (R297). -/
  truncated : Bool := false
  /-- TBASE at start (R297). -/
  t0 : Nat := 0
  /-- TBASE at end (R297). -/
  t1 : Nat := 0
  /-- Flock entries in ascending UID (R297). -/
  entries : List CapEntry := []
  deriving DecidableEq, Repr

/-- A capture under way (R296). -/
structure CaptureRun where
  /-- Domain captured (R296). -/
  dom : BitVec 32 := 0
  /-- It is level 1's capture of the rest of the die (R301). -/
  level1 : Bool := false
  /-- Slot it uses (R297). -/
  slot : Nat := 0
  /-- TBASE at its start (R296). -/
  began : Nat := 0
  deriving DecidableEq, Repr

/-- A WAITGRAPH_REQ whose assembly runs (R292, R419). -/
structure WaitReq where
  /-- Command ring (R419). -/
  ring : Nat := 0
  /-- Domain (R292). -/
  dom : BitVec 32 := 0
  /-- Output buffer length (R419). -/
  len : Nat := 0
  deriving DecidableEq, Repr

/-- Hurdles, resets, capture and the wait-for graph (chapter 12). -/
structure Recovery where
  /-- Hurdles closed or closing (R294, 17 R393). -/
  hurdles : List Hurdle := [{ dom := 0x80000000, phase := .drained, held := true }]
  /-- Level-0 resets in progress (R299). -/
  resets : List Level0 := []
  /-- Level-1 recovery in progress (R302). -/
  level1 : Option Level1 := none
  /-- TBASE and domain of level-0 resets in the last 60 s (R301). -/
  history : List (Nat × BitVec 32) := []
  /-- Capture slots (R297). -/
  slots : List CapSlot := [{}, {}]
  /-- Slot that holds the latest capture (R297). -/
  lastSlot : Option Nat := none
  /-- Capture under way (R299). -/
  capture : Option CaptureRun := none
  /-- Wait-graph assembly number since start (R419). -/
  assembly : Nat := 0
  /-- TBASE of the last automatic assembly (R292). -/
  lastAuto : Option Nat := none
  /-- An automatic assembly is due (R292). -/
  autoDue : Bool := false
  /-- WAITGRAPH_REQ commands in progress (R292). -/
  waitReqs : List WaitReq := []
  deriving DecidableEq, Repr

/-- A MUSTER_POINT under way (R248). -/
structure Muster where
  /-- Command ring (R248). -/
  ring : Nat := 0
  /-- Domain (R248). -/
  dom : BitVec 32 := 0
  /-- TBASE at which it was taken (R248). -/
  began : Nat := 0
  /-- The wait for fsp_quiet has ended (R248). -/
  folding : Bool := false
  /-- Flocks that still have folds to carry out (R248). -/
  left : List Nat := []
  /-- Some FSP of the domain never showed fsp_quiet (R248). -/
  notQuiet : Bool := false
  /-- Folds completed (R248). -/
  folds : Nat := 0
  deriving DecidableEq, Repr

/-- One fold-list entry (R258, Table 10.5). -/
structure FoldEntry where
  /-- Entry count within the list (R258). -/
  sequence : Nat := 0
  /-- Kind (R258). -/
  kind : Nat := 0
  /-- State after (R258). -/
  state : Nat := 0
  /-- Logical slot (R258). -/
  slot : Nat := 0xFF
  /-- Value (R258). -/
  value : Nat := 0
  /-- Unit (R258). -/
  uid : BitVec 32 := 0
  /-- Operating seconds (R258). -/
  opSec : Nat := 0
  /-- Power-cycle count (R258). -/
  pcc : Nat := 0
  /-- Row (R258). -/
  row : BitVec 32 := 0
  deriving DecidableEq, Repr

/-- One area of the fold list in flash (R258). -/
structure FoldArea where
  /-- Header, none while erased (R258). -/
  header : List Byte := []
  /-- Entries programmed (R258). -/
  slots : List (List Byte) := []
  deriving DecidableEq, Repr

/-- The fold list (R258 to R260). -/
structure FoldList where
  /-- Generation of the area in use (R258). -/
  gen : Nat := 0
  /-- Area in use (R258). -/
  area : Nat := 0
  /-- Area 0 (R258). -/
  areaA : FoldArea := {}
  /-- Area 1 (R258). -/
  areaB : FoldArea := {}
  /-- Valid entries of the area in use, oldest first (R258). -/
  entries : List FoldEntry := []
  /-- Entries appended and not yet committed (R259). -/
  waiting : List FoldEntry := []
  /-- Sequence of the next entry (R258). -/
  next : Nat := 0
  /-- Compatibility grade last recorded (R257). -/
  grade : Nat := 0
  deriving DecidableEq, Repr

/-- What the governor holds per physical flock (R225, R233). -/
structure GovFlock where
  /-- Replay threshold computed (R233). -/
  pR : Nat := 0
  /-- Twin threshold computed (R233). -/
  pT : Nat := 0
  /-- Firmware has loaded thresholds since the start; else the OTP defaults stand (R235). -/
  loaded : Bool := false
  /-- Checking counters at the last epoch end (R233). -/
  snap : List Nat := []
  /-- Replayable announces of the last epoch (R225). -/
  a : Nat := 0
  /-- Achieved replay fraction (R225). -/
  cR : Rat := 0
  /-- Achieved twin fraction (R225). -/
  cT : Rat := 0
  /-- Achieved to wanted replay selections (R234). -/
  aR : Rat := 1
  /-- Achieved to wanted twin selections (R234). -/
  aT : Rat := 1
  /-- Screening coverage (R227). -/
  cS : Rat := 0
  deriving DecidableEq, Repr

/-- One operating-hour bin (R231). -/
structure GovBin where
  /-- Operating hour (R231). -/
  hour : Nat := 0
  /-- Detections (R231). -/
  det : Nat := 0
  /-- Coverage-weighted exposure [h] (R231). -/
  exposure : Rat := 0
  deriving DecidableEq, Repr

/-- The coverage governor (R224 to R239). -/
structure Gov where
  /-- Die-wide scale (R235). -/
  x : Rat := 1
  /-- Lambda_u; none is +infinity (R232). -/
  lambda : Option Rat := none
  /-- U; none is +infinity (R232). -/
  u : Option Rat := none
  /-- Die coverage C_e (R228). -/
  ce : Rat := 0
  /-- Checking coverage of the die (R238). -/
  cx : Rat := 0
  /-- Screening coverage of the die (R238). -/
  cs : Rat := 0
  /-- E0 (R230). -/
  e0 : Rat := 0
  /-- CT (R231). -/
  ct : Rat := 0
  /-- D (R231). -/
  det : Nat := 0
  /-- Flock of the lowest coverage (R238). -/
  lowFlock : BitVec 32 := 0
  /-- Its coverage (R238). -/
  lowC : Rat := 0
  /-- TBASE multiple of the last epoch end (R233). -/
  boundary : Nat := 0
  /-- Epochs since the last start (R238). -/
  epochs : Nat := 0
  /-- TBASE of the epoch reported (R238). -/
  endAt : Nat := 0
  /-- The bound is met (R236). -/
  met : Bool := true
  /-- TBASE of the last change of the met state (R238). -/
  metAt : Nat := 0
  /-- Consecutive epochs with U above the target (R236). -/
  streak : Nat := 0
  /-- Operating hour of the last 0x7020 (R236). -/
  unmetHour : Nat := 0
  /-- Bound report (Table 9.2) of the last completed epoch (R238). -/
  last : List Byte := []
  /-- No exposure yet since entry to FIELD (R238). -/
  noExposure : Bool := true
  /-- Written bins (configuration partition) (R231). -/
  bins : List GovBin := []
  /-- Bin of the current operating hour (R231). -/
  open_ : GovBin := {}
  /-- Detections of the present epoch (R229). -/
  epochDet : Nat := 0
  /-- An own-rank 0x0504 or 0x0505 counted this epoch (R229). -/
  ownNamed : Bool := false
  /-- Flock entries of the last completed epoch (R238). -/
  report : List (BitVec 32 × Nat × Nat × Nat × Nat) := []
  deriving DecidableEq, Repr

/-- An open or closed sweep of a target (R215). -/
structure SweepAcc where
  /-- Target index (R213). -/
  target : Nat := 0
  /-- Sweep number (R213). -/
  number : Nat := 0
  /-- Segments digested (R215). -/
  count : Nat := 0
  /-- XOR of their digests (R215). -/
  xor_ : BitVec 64 := 0
  /-- TBASE of the first segment (R215). -/
  firstAt : Nat := 0
  /-- Closed (R215). -/
  closed : Bool := false
  /-- Closed complete (R215). -/
  complete : Bool := false
  deriving DecidableEq, Repr

/-- One result target of EARMARK_CONFIG (R212, Table 8.8). -/
structure ResultTarget where
  /-- Target index (R212). -/
  index : Nat := 0
  /-- Result tensor ID (R212). -/
  tensor : BitVec 32 := 0
  /-- Tap mask (R212). -/
  taps : BitVec 64 := 0
  /-- Segment count (R212). -/
  segs : Nat := 1
  /-- Exchange wait [us] (R212). -/
  exWait : Nat := 10
  /-- Sweep wait [ms] (R212). -/
  swWait : Nat := 1
  deriving DecidableEq, Repr

/-- A received exchange value (R216, R219). -/
structure ExBody where
  /-- Target index (R216). -/
  target : Nat := 0
  /-- Sweep number (R216). -/
  number : Nat := 0
  /-- Source rank (R216). -/
  rank : BitVec 32 := 0
  /-- Earmark or digest, none when incomplete (R216). -/
  value : Option (BitVec 64) := none
  /-- TBASE of its arrival (R216). -/
  heldAt : Nat := 0
  deriving DecidableEq, Repr

/-- An open exchange of one target (R216, R219). -/
structure Exchange where
  /-- Target index (R216). -/
  target : Nat := 0
  /-- Sweep number (R216). -/
  number : Nat := 0
  /-- Own value, none when incomplete (R216). -/
  own : Option (BitVec 64) := none
  /-- Peer ranks a value is expected from (R216). -/
  ranks : List (BitVec 32) := []
  /-- Exchange wait [us] (R216). -/
  wait : Nat := 0
  /-- TBASE at which the chip's own sweep closed (R216). -/
  closedAt : Nat := 0
  deriving DecidableEq, Repr

/-- One replica of REPLICA_DIGEST (R218). -/
structure FleecePeer where
  /-- Rank (R218). -/
  rank : BitVec 32 := 0
  /-- Route (R218). -/
  route : List Nat := []
  deriving DecidableEq, Repr

/-- One region of REPLICA_DIGEST (R218). -/
structure FleeceRegion where
  /-- Region ID (R218). -/
  tensor : BitVec 32 := 0
  /-- Target index (R218). -/
  target : Nat := 32
  /-- Segment count (R218). -/
  segs : Nat := 1
  /-- Chip step at its last closed sweep or last lapse record (R219). -/
  lastStep : Nat := 0
  deriving DecidableEq, Repr

/-- A closed sweep of a fleece region (R219). -/
structure FleeceClose where
  /-- Target index (R219). -/
  target : Nat := 32
  /-- Sweep number (R219). -/
  number : Nat := 0
  /-- Digest, none when incomplete (R219). -/
  value : Option (BitVec 64) := none
  /-- TBASE of the close (R219). -/
  closedAt : Nat := 0
  /-- It has gone into a fleece frame (R219). -/
  sent : Bool := false
  deriving DecidableEq, Repr

/-- Fleece targets (R218, R219). -/
structure Fleece where
  /-- Own index (R218). -/
  own : Nat := 0
  /-- Period N (R218). -/
  period : Nat := 1
  /-- Exchange wait [us] (R218). -/
  exWait : Nat := 10
  /-- Sweep wait [ms] (R218). -/
  swWait : Nat := 1
  /-- Replicas (R218). -/
  peers : List FleecePeer := []
  /-- Regions (R218). -/
  regions : List FleeceRegion := []
  /-- Closed sweeps, oldest first: those not sent, and each region's last (R219). -/
  closes : List FleeceClose := []
  deriving DecidableEq, Repr

/-- Earmark configuration, sweeps and exchanges (R212 to R219). -/
structure Earmarks where
  /-- Tracker idle time (R212). -/
  idleUs : Nat := 50
  /-- Result targets (R212). -/
  targets : List ResultTarget := []
  /-- Fleece targets (R218). -/
  fleece : Fleece := {}
  /-- Latest sweep of each target (R215). -/
  sweeps : List SweepAcc := []
  /-- Segments of closed sweep numbers, counted and discarded (R215). -/
  late : Nat := 0
  /-- Received values held (R216). -/
  bodies : List ExBody := []
  /-- Open exchanges (R216). -/
  exchanges : List Exchange := []
  deriving DecidableEq, Repr

/-- One watch point (R220 to R222). -/
structure Watch where
  /-- Mode (R220). -/
  mode : Nat := 0
  /-- Field (R220). -/
  field : Nat := 0
  /-- Logical flock (R220). -/
  flock : Nat := 0
  /-- Logical slot or 0xFF (R220). -/
  slot : Nat := 0
  /-- Instance value (R220). -/
  value : BitVec 48 := 0
  /-- Instance mask (R220). -/
  mask : BitVec 48 := 0
  /-- Histogram base (R220). -/
  e0 : Int := 0
  /-- Report period (R220). -/
  period : Nat := 1
  /-- Operations observed (R222). -/
  observed : Nat := 0
  /-- Operations withheld for capacity (R222). -/
  withheld : Nat := 0
  /-- Operations not observed for their verdict (R222). -/
  unobserved : Nat := 0
  /-- Element count (R222). -/
  elems : Nat := 0
  /-- NaN count (R222). -/
  nans : Nat := 0
  /-- Infinity count (R222). -/
  infs : Nat := 0
  /-- Zero count (R222). -/
  zeros : Nat := 0
  /-- Minimum (R222). -/
  minimum : Option (BitVec 64) := none
  /-- Maximum (R222). -/
  maximum : Option (BitVec 64) := none
  /-- Sum, binary64 (R221). -/
  sum : BitVec 64 := 0
  /-- Sum of squares, binary64 (R221). -/
  sumSq : BitVec 64 := 0
  /-- Histogram, empty for all zero (R221). -/
  bins : List Nat := []
  /-- Mode 2: instance number and reference digest (R221). -/
  digests : List (BitVec 48 × BitVec 64) := []
  deriving DecidableEq, Repr

/-- Lee, Breeze, PMBus and energy (R323 to R340). -/
structure Power where
  /-- Lee field being stepped down (R329). -/
  leeCur : Option Nat := none
  /-- Calm [ms] (R329). -/
  calm : Nat := 0
  /-- TBASE of the last run of the Breeze governor (R336). -/
  breezeRuns : Nat := 0
  /-- TBASE of the last calibration (R339). -/
  calibrated : Nat := 0
  /-- TBASE of the last Lee run (R329). -/
  leeRuns : Nat := 0
  /-- Set frequency in force (R323). -/
  fset : Nat := 1500
  /-- Breeze throttle k (R336). -/
  k : Nat := 0
  /-- F (R336). -/
  fill : Rat := 0
  /-- Pref (R336). -/
  pref : Option Rat := none
  /-- Modelled power of the intervals of the present 100 ms window (R337). -/
  window : List Rat := []
  /-- Average of the last whole window (R337). -/
  lastAvg : Option Rat := none
  /-- Consecutive windows with the limit exceeded by more than 10 % (R337). -/
  excess : Nat := 0
  /-- TBASE of the last 0x3008 (R337). -/
  rampRec : Option Nat := none
  /-- TBASE of the last exempt happening (R337). -/
  exemptAt : Option Nat := none
  /-- Measured mode (R338). -/
  measuredMode : Bool := false
  /-- PMBus segments lost (R91). -/
  segLost : List Nat := []
  /-- TBASE at which the last telemetry round of each segment started (R90). -/
  rounds : List (Nat × Nat) := []
  /-- Bus clears made in a row, per segment (R91). -/
  segHeld : List (Nat × Nat) := []
  /-- Regulators left out of measured mode: segment, page (R89). -/
  badRows : List (Nat × Nat) := []
  /-- TBASE of the last 0x3001 or 0x3002 (R365). -/
  lastTrip : Option Nat := none
  /-- Latest telemetry value per PLDM sensor (R90). -/
  readings : List (Nat × Nat) := []
  /-- Filler energy drawn during the job [uJ] (R340). -/
  fillEnergy : Nat := 0
  deriving DecidableEq, Repr

/-- Firmware slots and the live update (R361 to R368). -/
structure Fw where
  /-- Firmware slot A (R362). -/
  slotA : Option FwImage := none
  /-- Firmware slot B (R362). -/
  slotB : Option FwImage := none
  /-- Committed slot (configuration partition) (R363). -/
  committed : Nat := 0
  /-- Firmware floor (R363). -/
  floor : Nat := 0
  /-- Image the active Shepherd runs (R361). -/
  running : Option FwImage := none
  /-- Slot that holds the running image (R362). -/
  runningSlot : Nat := 0
  /-- The other slot holds a staged image (R364). -/
  staged : Bool := false
  /-- FW_STAGE under way: ring and image (R362). -/
  staging : Option (Nat × FwImage) := none
  /-- Failures of the block that failed last (R362). -/
  blockFails : Nat := 0
  /-- That block (R362). -/
  failBlock : Nat := 0
  /-- Cause of a deferred activation (R364). -/
  deferred : Option Nat := none
  /-- The deferral waits for the job's end (R364). -/
  deferJob : Bool := false
  /-- TBASE since which no emergency holds (R364). -/
  calmSince : Option Nat := none
  /-- Step of an update under way, 0 for none (R366). -/
  step : Nat := 0
  /-- The swap has taken place (R366). -/
  swapped : Bool := false
  /-- Command ring of the FW_ACTIVATE in progress (R364). -/
  ring : Option Nat := none
  /-- S1 of the update (R366). -/
  s1 : ShcId := .a
  /-- TBASE at which S2 left the order (R367). -/
  leftAt : Nat := 0
  /-- Image to return to on an abort (R367). -/
  old : Option FwImage := none
  deriving DecidableEq, Repr

/-- The shut-down self-test (R396 to R398). -/
structure SelfTest where
  /-- TBASE at its start (R398). -/
  began : Nat := 0
  /-- Groups not yet begun (R396). -/
  groups : List (List Nat) := []
  /-- Fields of the group under way (R396). -/
  cur : List Nat := []
  /-- Number of the group under way (R397). -/
  groupNo : Nat := 0
  /-- Cores failed in it (R409). -/
  groupFails : Nat := 0
  /-- TBASE at its start (R398). -/
  groupAt : Nat := 0
  /-- The self-test stops at this boundary (R398). -/
  stopping : Bool := false
  /-- Fields of an ended group whose folds are being carried out (R396). -/
  folding : List Nat := []
  deriving DecidableEq, Repr

/-- A graceful shut-down under way (R395). -/
structure ShutDown where
  /-- Command ring (R395). -/
  ring : Nat := 0
  /-- Step of R395 reached (R395). -/
  phase : ShutPhase := .reset
  /-- Self-test under way (R396). -/
  test : Option SelfTest := none
  /-- Groups completed (R409). -/
  groupsDone : Nat := 0
  /-- Cores failed (R409). -/
  failed : Nat := 0
  /-- Outcome of 0x6004 (R409). -/
  outcome : Nat := 2
  /-- Rows whose hard repair has failed: tap and row (R395). -/
  tried : List (Nat × BitVec 32) := []
  /-- Sequence number of the 0x6004 record awaited (R395). -/
  record : Option Nat := none
  deriving DecidableEq, Repr

/-- Life cycle, authorisations and debug (R389 to R409). -/
structure Life where
  /-- Life-cycle fuses burnt (R399). -/
  fuses : Nat := 0
  /-- Owner key slots burnt, oldest first; all ones is void (R389). -/
  owners : List (BitVec 384) := []
  /-- Owner pack key (settings) (R401). -/
  packKey : List Byte := []
  /-- SHA-384 of the owner pack key (R401). -/
  packKeyHash : Option (BitVec 384) := none
  /-- Challenge in force (R406). -/
  challenge : BitVec 64 := 0
  /-- TBASE of the failed attempts of the last 60 s (R406). -/
  fails : List Nat := []
  /-- TBASE at which the lock-out ends (R406). -/
  lockEnd : Option Nat := none
  /-- What was written through open instruments: instrument, address, value (R400). -/
  instr : List (Nat × Nat × BitVec 64) := []
  /-- Read-only instruments opened in FIELD (R404). -/
  roOpen : Bool := false
  /-- Write instruments opened in RETURN (R400). -/
  wrOpen : Bool := false
  /-- Scan and SRAM paths enabled (R403). -/
  scanOpen : Bool := false
  /-- TBASE of a scan request whose secret clear runs (R403). -/
  scanReq : Option Nat := none
  /-- Shut-down under way or ended (R395). -/
  shut : Option ShutDown := none
  /-- OTP item found uncorrectable (R389). -/
  otpFault : Option Nat := none
  /-- Fields of completed self-test groups of the last stop (from the Tally) (R394). -/
  selfTested : List Nat := []
  /-- Cores that failed the last shut-down self-test (model's own record) (R394). -/
  selfFailed : List Nat := []
  deriving DecidableEq, Repr

/-- The start sequence (R390 to R393). -/
structure Start where
  /-- Step of Table 17.2 (R390). -/
  phase : StartPhase := .off
  /-- COLD_RESET_N is asserted (R98). -/
  coldLow : Bool := false
  /-- TBASE at which this start began (R390). -/
  began : Nat := 0
  /-- TBASE of the PWR_GOOD rise of this power cycle (R409). -/
  pwrAt : Nat := 0
  /-- TBASE of readiness (0x6006 of this start) (R152, 17 R393). -/
  readyAt : Nat := 0
  /-- READY (R393). -/
  ready : Bool := false
  /-- FWRUN (R393). -/
  fwRun : Bool := false
  /-- The previous stop was graceful (R391). -/
  graceful : Bool := false
  /-- Field groups whose compute rails are still to be closed (R390). -/
  groups : List (List Nat) := []
  /-- Fields of the group being closed (R390). -/
  pgWait : List Nat := []
  /-- Flocks whose reset status is awaited (R390). -/
  waiting : List Nat := []
  /-- Flocks whose reset word is not yet written (R390). -/
  queue : List Nat := []
  /-- Flocks whose reset has failed once (R390). -/
  retried : List Nat := []
  /-- The compute part of the sequence has ended (R391). -/
  shipped : Bool := false
  /-- Parts out of service at readiness (R409). -/
  outParts : Nat := 0
  /-- Screening has started (R390). -/
  screening : Bool := false
  /-- Policy held in the settings while the OTP default policy is in force (R374, 15 R359). -/
  settings : Option Policy := none
  deriving DecidableEq, Repr

/-- The reference clocks (R81, R82). -/
structure RefClk where
  /-- Selected reference: 0 A, 1 B (R81). -/
  sel : Nat := 0
  /-- References found failed (R81). -/
  failed : List Nat := []
  /-- TBASE at which hold-over began (R82). -/
  holdSince : Option Nat := none
  /-- PLLs re-lock, and TBASE is carried on the DCLK interpolators (R81). -/
  relocking : Bool := false
  /-- Error that TBASE gathered in the last failover [ns] (R32). -/
  slewErr : Nat := 0
  /-- TBASE at which its removal began (R32). -/
  slewAt : Nat := 0
  deriving DecidableEq, Repr

/-- The Drove mesh as the Shepherd sees it (R25 to R28). -/
structure Mesh where
  /-- Links marked down: plane, field, link (R28). -/
  down : List (Nat × Nat × Nat) := []
  /-- Detour tables are to be loaded (R28). -/
  detourDue : Bool := false
  /-- Planes lost (R28). -/
  planeLost : List Nat := []
  /-- Links down that the detour tables at the routers lead round (R28). -/
  detoured : List (Nat × Nat × Nat) := []
  /-- Next sequence number per source other than a Drover (R26). -/
  seqs : List (Nat × Nat) := []
  /-- Dual messages acted on: source, sequence (R27). -/
  seen : List (BitVec 32 × Nat) := []
  /-- Undeliverable messages kept for resending (R28). -/
  resend : List MeshMsg := []
  deriving DecidableEq, Repr

/-- The I3C target and MCTP endpoint (R86 to R88). -/
structure I3c where
  /-- Dynamic address (R86). -/
  dyn : Option Nat := none
  /-- In-band interrupts enabled (R86). -/
  ibi : Bool := true
  /-- Maximum write length (R86). -/
  mwl : Nat := 69
  /-- Maximum read length (R86). -/
  mrl : Nat := 69
  /-- MCTP endpoint ID (R87). -/
  eid : Nat := 0
  deriving DecidableEq, Repr

/-- One trace or log ring (R412, R413). -/
structure TraceRing where
  /-- Base (R412). -/
  base : Nat := 0
  /-- Blocks (R412). -/
  blocks : Nat := 16
  /-- Next block sequence (R413). -/
  next : Nat := 0
  deriving DecidableEq, Repr

/-- Trace configuration, pacer and counters (R410 to R418). -/
structure Trace where
  /-- Drover buffer mode stop (R412). -/
  droverStop : Bool := false
  /-- Shepherd buffer mode stop (R412). -/
  shcStop : Bool := false
  /-- Minimum log level (R412). -/
  minLevel : Nat := 2
  /-- Snapshot period (R412). -/
  snapMs : Nat := 0
  /-- Pacer rate [0.1 %] (R412). -/
  pacer : Nat := 30
  /-- Type mask (R412). -/
  mask : BitVec 64 := 0xFFFFFFFFFFFFFFFF
  /-- Host trace ring (R412). -/
  host : Option TraceRing := none
  /-- Stack trace ring (R412). -/
  stack : Option TraceRing := none
  /-- Host log ring (R412). -/
  log : Option TraceRing := none
  /-- TBASE of the present 10 us window (R415). -/
  windowAt : Nat := 0
  /-- Observation bytes of the window (R415). -/
  used : Nat := 0
  /-- TBASE of the last periodic snapshot (R417). -/
  snapAt : Nat := 0
  /-- Counter group 0x07 (R417). -/
  counters : List Nat := [0,0,0,0,0]
  /-- Pacer wait below 1 us [ns] (R417). -/
  waitNs : Nat := 0
  deriving DecidableEq, Repr

/-- The alarm pins (R94 to R98, R284). -/
structure Pins where
  /-- ERR_N (R95). -/
  err : Pin := {}
  /-- FATAL_N (R95). -/
  fatal : Pin := {}
  /-- THERMTRIP_N is low (R96). -/
  therm : Bool := false
  /-- Latched first field (R96). -/
  thermField : Nat := 0
  /-- The Warden drivers hold FATAL_N low (R284). -/
  wardenFatal : Bool := false
  deriving DecidableEq, Repr

/-- The flash master (R79, R83). -/
structure Qspi where
  /-- SFDP declares the 4-byte-address commands (R83). -/
  four : Bool := false
  /-- SFDP declares the quad I/O read (R83). -/
  quadIo : Bool := false
  /-- The file that a staging writes into a slot (R135). -/
  stage : List Byte := []
  /-- The last program or erase whose completion is not confirmed: opcode, address, data (R79). -/
  open_ : Option (Nat × Nat × List Byte) := none
  deriving DecidableEq, Repr

/-- Beyja, RI-48. -/
structure State where
  /-- Waiting commands, first in first out. -/
  pending : List Instr := []
  /-- What the latest command sent out of the block. -/
  out : List Output := []
  /-- Reactions ordered and not yet carried out (R274). -/
  due : List Due := []
  /-- PWR_GOOD (R97). -/
  pwrGood : Bool := false
  /-- TBASE [ns] (R31). -/
  tbase : Nat := 0
  /-- Entropy draws taken (R179). -/
  draws : Nat := 0
  /-- Free values taken. -/
  free : Nat := 0
  /-- Start sequence (R390). -/
  start : Start := {}
  /-- Life cycle (R389). -/
  life : Life := {}
  /-- Reference clocks (R81). -/
  refclk : RefClk := {}
  /-- Flash master (R83). -/
  qspi : Qspi := {}
  /-- Alarm pins (R94). -/
  pins : Pins := {}
  /-- First-error latch (R280). -/
  ferr : Ferr := {}
  /-- Host interface (R99). -/
  hif : Hif := {}
  /-- Tally (R373). -/
  tally : Tally := {}
  /-- Policy store (R279). -/
  policy : Policy := {}
  /-- Fields (R15). -/
  fields : List (Nat × Field) := []
  /-- Flocks, key 64 f + k (R18). -/
  flocks : List (Nat × Flock) := []
  /-- Cores, key 2048 f + 32 k + c (R18). -/
  cores : List (Nat × Core) := []
  /-- Lanes, key 16 core + lane (R18). -/
  lanes : List (Nat × Lane) := []
  /-- Crooks, key 8 f + i (R181). -/
  crooks : List (Nat × Crook) := []
  /-- Link taps (R16). -/
  taps : List (Nat × LinkTap) := []
  /-- Memory taps (R16). -/
  mems : List (Nat × MemTap) := []
  /-- Shepherd pair and Warden (R343). -/
  pair : Pair := {}
  /-- Firmware (R361). -/
  fw : Fw := {}
  /-- Packs (R135). -/
  screen : Screen := {}
  /-- Job (R204). -/
  job : Job := {}
  /-- Hurdles, resets, capture (R286). -/
  recovery : Recovery := {}
  /-- Muster points under way (R248). -/
  musters : List Muster := []
  /-- Fold list (R258). -/
  folds : FoldList := {}
  /-- Governor (R224). -/
  gov : Gov := {}
  /-- Governor values per flock (R225). -/
  govFlocks : List (Nat × GovFlock) := []
  /-- Earmark configuration (R212). -/
  earmarks : Earmarks := {}
  /-- Watch points (R220). -/
  watches : List (Nat × Watch) := []
  /-- Power (R323). -/
  power : Power := {}
  /-- Drove mesh (R25). -/
  mesh : Mesh := {}
  /-- I3C (R86). -/
  i3c : I3c := {}
  /-- Trace (R412). -/
  trace : Trace := {}
  /-- Instruction in the JTAG instruction register (R92). -/
  jtag : JtagIns := .idcode
  /-- Taint notices waiting for an engine (R194). -/
  taints : List TaintOrder := []
  /-- Muster orders whose first sending is awaited (R311). -/
  musterOrders : List MusterOrder := []
  deriving DecidableEq, Repr

/-- The state at power-on, before PWR_GOOD rises (R33, R97): every field at its reset value. -/
def State.reset : State := {}

end Sys2Proof.Machine
end

