-- ==== Sys2Proof/Machine/Uid.lean ====
section
/-! DEFINITION. Unit identifiers (R20 to R23) and the domains they name (R299). -/

namespace Sys2Proof.Machine

/-- Form a UID from its fields (Table 1.3). -/
def mkUid (level f k c lane elem : Nat) : Uid :=
  BitVec.ofNat 32 (level * 2 ^ 29 + f * 2 ^ 23 + k * 2 ^ 17 + c * 2 ^ 12 + lane * 2 ^ 8 + elem)

/-- Level code, bits 31:29 (Table 1.3). -/
def uidLevel (u : Uid) : Nat := u.toNat / 2 ^ 29
/-- Field, bits 28:23 (Table 1.3). -/
def uidField (u : Uid) : Nat := u.toNat / 2 ^ 23 % 64
/-- Flock, bits 22:17 (Table 1.3). -/
def uidFlock (u : Uid) : Nat := u.toNat / 2 ^ 17 % 64
/-- Core, bits 16:12 (Table 1.3). -/
def uidCore (u : Uid) : Nat := u.toNat / 2 ^ 12 % 32
/-- Lane, bits 11:8 (Table 1.3). -/
def uidLane (u : Uid) : Nat := u.toNat / 2 ^ 8 % 16
/-- Element, bits 7:0 (Table 1.3). -/
def uidElem (u : Uid) : Nat := u.toNat % 256

/-- The die (level 4). -/
def dieUid : Uid := mkUid 4 0 0 0 0 0
/-- A field (level 3). -/
def fieldUid (f : Nat) : Uid := mkUid 3 f 0 0 0 0
/-- A physical flock (level 2). -/
def flockUid (f k : Nat) : Uid := mkUid 2 f k 0 0 0
/-- A physical core (level 1). -/
def coreUid (f k c : Nat) : Uid := mkUid 1 f k c 0 0
/-- A physical lane (level 0). -/
def laneUid (f k c l : Nat) : Uid := mkUid 0 f k c l 0
/-- A field-resident part of Beyja (level 5, Table 1.5). -/
def partUid (f elem : Nat) : Uid := mkUid 5 f 0 0 0 elem
/-- The Drover of a field. -/
def droverUid (f : Nat) : Uid := partUid f 0
/-- A Crook of a field. -/
def crookUid (f i : Nat) : Uid := partUid f (8 + i)
/-- The Earmark engine of a link tap. -/
def engineUid (tap : Nat) : Uid := partUid (Config.linkField tap) (0x10 + tap % 2)
/-- A memory tap: each perimeter field of RI-48 carries one (R16). -/
def memUid (tap : Nat) : Uid := partUid (Config.memField tap) 0x14
/-- A Shepherd: SHC-A for false, SHC-B for true (level 6). -/
def shcUid (b : Bool) : Uid := mkUid 6 (Config.shcField b) 0 0 0 (if b then 1 else 0)
/-- A Warden voter (level 6). -/
def voterUid (v : Nat) : Uid := mkUid 6 (Config.voterField v) 0 0 0 (2 + v)

/-- Hierarchy fields of the levels below the named one are zero (R21). -/
def uidBelowZero (u : Uid) : Bool :=
  match uidLevel u with
  | 0 => true
  | 1 => uidLane u == 0
  | 2 => uidCore u == 0 && uidLane u == 0
  | 3 => uidFlock u == 0 && uidCore u == 0 && uidLane u == 0
  | 4 => uidField u == 0 && uidFlock u == 0 && uidCore u == 0 && uidLane u == 0
  | 5 => uidFlock u == 0 && uidCore u == 0 && uidLane u == 0
  | 6 => uidFlock u == 0 && uidCore u == 0 && uidLane u == 0
  | _ => false

/-- The UID names a domain a command may take: the die, a field or a physical flock, of this integration, with element 0x00 (R21). -/
def isDomain (u : Uid) : Bool :=
  uidBelowZero u && uidElem u == 0 &&
  match uidLevel u with
  | 2 => decide (uidField u < Config.fields) && decide (uidFlock u < Config.flocks)
  | 3 => decide (uidField u < Config.fields)
  | 4 => true
  | _ => false

/-- Element values that Table 1.4 lists, by level. -/
def elemListed (level elem : Nat) : Bool :=
  match level with
  | 0 => elem == 0
  | 1 => decide (elem ≤ 0x40) || (decide (0x80 ≤ elem) && decide (elem ≤ 0x84))
  | 2 => decide (elem ≤ 3) || (decide (0x40 ≤ elem) && decide (elem ≤ 0x7F))
  | 3 => decide (elem ≤ 4)
  | 4 => decide (elem ≤ 2)
  | _ => false

/-- Domain `d` contains physical flock `k` of field `f`. -/
def domHasFlock (d : Uid) (f k : Nat) : Bool :=
  match uidLevel d with
  | 2 => uidField d == f && uidFlock d == k
  | 3 => uidField d == f
  | 4 => true
  | _ => false

/-- Domain `d` shares a flock with field `f`. -/
def domHasField (d : Uid) (f : Nat) : Bool := uidLevel d == 4 || uidField d == f

/-- Domain `a` contains domain `b` (R299). -/
def domContains (a b : Uid) : Bool :=
  uidLevel a == 4 || (uidLevel a == 3 && decide (uidLevel b ≤ 3) && uidField a == uidField b) || a == b

/-- The two domains share a flock: one contains the other (R299). -/
def domOverlap (a b : Uid) : Bool := domContains a b || domContains b a

/-- The fields of a domain, in ascending order. -/
def domFields (d : Uid) : List Nat := if uidLevel d == 4 then List.range Config.fields else [uidField d]

/-- The physical flocks of a domain, in ascending UID. -/
def domFlocks (d : Uid) : List (Nat × Nat) :=
  if uidLevel d == 2 then [(uidField d, uidFlock d)]
  else (domFields d).flatMap (fun f => (List.range Config.flocks).map (fun k => (f, k)))

/-- Key of a physical flock. -/
def flockKey (f k : Nat) : Nat := 64 * f + k
/-- Key of a physical core. -/
def coreKey (f k c : Nat) : Nat := 32 * (64 * f + k) + c
/-- Key of a physical lane. -/
def laneKey (f k c l : Nat) : Nat := 16 * (32 * (64 * f + k) + c) + l
/-- Key of a Crook. -/
def crookKey (f i : Nat) : Nat := 8 * f + i

end Sys2Proof.Machine
end

