-- ==== Sys2Proof/Machine/Ops.lean ====
section
/-! DEFINITION. The named operations over the state: reading and writing units, sending outputs, time, and the clocks of
the fields. Every read and write of a unit goes through here. -/

namespace Sys2Proof.Machine

/-- A physical flock that nothing has changed: flock k serves logical flock k, the spare flock none (R19). -/
def flockDefault (key : Nat) : Flock :=
  { logical := if key % 64 < Config.logicalFlocks then some (key % 64) else none }

/-- A field. -/
def State.field (s : State) (f : Nat) : Field := mapGet (fun _ => {}) s.fields f
/-- Write a field. -/
def State.setField (s : State) (f : Nat) (v : Field) : State := { s with fields := mapSet (fun _ => {}) s.fields f v }
/-- Change a field. -/
def State.modField (s : State) (f : Nat) (g : Field → Field) : State := s.setField f (g (s.field f))
/-- A physical flock. -/
def State.flock (s : State) (f k : Nat) : Flock := mapGet flockDefault s.flocks (flockKey f k)
/-- Write a physical flock. -/
def State.setFlock (s : State) (f k : Nat) (v : Flock) : State := { s with flocks := mapSet flockDefault s.flocks (flockKey f k) v }
/-- Change a physical flock. -/
def State.modFlock (s : State) (f k : Nat) (g : Flock → Flock) : State := s.setFlock f k (g (s.flock f k))
/-- A physical core. -/
def State.core (s : State) (f k c : Nat) : Core := mapGet (fun _ => {}) s.cores (coreKey f k c)
/-- Write a physical core. -/
def State.setCore (s : State) (f k c : Nat) (v : Core) : State := { s with cores := mapSet (fun _ => {}) s.cores (coreKey f k c) v }
/-- Change a physical core. -/
def State.modCore (s : State) (f k c : Nat) (g : Core → Core) : State := s.setCore f k c (g (s.core f k c))
/-- A physical lane. -/
def State.lane (s : State) (f k c l : Nat) : Lane := mapGet (fun _ => {}) s.lanes (laneKey f k c l)
/-- Change a physical lane. -/
def State.modLane (s : State) (f k c l : Nat) (g : Lane → Lane) : State :=
  { s with lanes := mapSet (fun _ => {}) s.lanes (laneKey f k c l) (g (s.lane f k c l)) }
/-- A Crook. -/
def State.crook (s : State) (f i : Nat) : Crook := mapGet (fun _ => {}) s.crooks (crookKey f i)
/-- Change a Crook. -/
def State.modCrook (s : State) (f i : Nat) (g : Crook → Crook) : State :=
  { s with crooks := mapSet (fun _ => {}) s.crooks (crookKey f i) (g (s.crook f i)) }
/-- A link tap. -/
def State.tap (s : State) (t : Nat) : LinkTap := mapGet (fun _ => {}) s.taps t
/-- Change a link tap. -/
def State.modTap (s : State) (t : Nat) (g : LinkTap → LinkTap) : State :=
  { s with taps := mapSet (fun _ => {}) s.taps t (g (s.tap t)) }
/-- A memory tap. -/
def State.mem (s : State) (t : Nat) : MemTap := mapGet (fun _ => {}) s.mems t
/-- Change a memory tap. -/
def State.modMem (s : State) (t : Nat) (g : MemTap → MemTap) : State :=
  { s with mems := mapSet (fun _ => {}) s.mems t (g (s.mem t)) }
/-- What the governor holds of a physical flock. -/
def State.gflock (s : State) (f k : Nat) : GovFlock := mapGet (fun _ => {}) s.govFlocks (flockKey f k)
/-- Change what the governor holds of a physical flock. -/
def State.modGflock (s : State) (f k : Nat) (g : GovFlock → GovFlock) : State :=
  { s with govFlocks := mapSet (fun _ => {}) s.govFlocks (flockKey f k) (g (s.gflock f k)) }
/-- A watch point. -/
def State.watch (s : State) (w : Nat) : Watch := mapGet (fun _ => {}) s.watches w
/-- Change a watch point. -/
def State.modWatch (s : State) (w : Nat) (g : Watch → Watch) : State :=
  { s with watches := mapSet (fun _ => {}) s.watches w (g (s.watch w)) }

/-- A Shepherd. -/
def Pair.shc (p : Pair) (b : Bool) : Shc := if b then p.b else p.a
/-- Change a Shepherd. -/
def State.modShc (s : State) (b : Bool) (g : Shc → Shc) : State :=
  if b then { s with pair := { s.pair with b := g s.pair.b } } else { s with pair := { s.pair with a := g s.pair.a } }
/-- SHC-B is `true`. -/
def ShcId.isB : ShcId → Bool
  | .a => false
  | .b => true
/-- The Shepherd a Boolean names. -/
def shcOf (b : Bool) : ShcId := if b then .b else .a
/-- The active Shepherd, when its gate is open (R344, R349). -/
def State.activeShc (s : State) : Option Bool :=
  match s.pair.active with
  | some i => if (s.pair.shc i.isB).gate && (s.pair.shc i.isB).status == .active then some i.isB else none
  | none => none
/-- The following Shepherd, when one is in service (R344). -/
def State.follower (s : State) : Option Bool :=
  if s.pair.a.status == .following then some false
  else if s.pair.b.status == .following then some true else none
/-- Firmware runs in an active Shepherd whose gate is open. -/
def State.firmware (s : State) : Bool := s.start.fwRun && s.activeShc.isSome

/-- Send an output that no Shepherd gate holds back: a Drover's, an engine's, a Crook's, a pin driver's. -/
def State.drive (s : State) (o : Output) : State := { s with out := s.out ++ [o] }
/-- Put a value on a port signal of a unit. -/
def State.sig (s : State) (n : Sig) (at_ v : Nat) : State := s.drive (.sig n at_ v)
/-- Send an output of the active Shepherd: with a follower in service it waits at the release gate under the order number
of the input that produced it (R346). -/
def State.send (s : State) (o : Output) : State :=
  if s.follower.isSome then { s with pair := { s.pair with held := s.pair.held ++ [(s.pair.order, o)] } } else s.drive o
/-- Send several outputs of the active Shepherd in order. -/
def State.sendAll (s : State) (os : List Output) : State :=
  if s.follower.isSome then { s with pair := { s.pair with held := s.pair.held ++ os.map (fun o => (s.pair.order, o)) } } else { s with out := s.out ++ os }

/-- The service register accesses of a tap that have no answer yet. -/
def State.srOf (s : State) (mtp : Bool) (t : Nat) : List (Nat × Option (BitVec 32)) := if mtp then (s.mem t).sr else (s.tap t).sr
/-- The oldest access of a tap stands on the channel: sr_req is 1, with its address and data (R71). -/
def State.srDrive (s : State) (mtp : Bool) (t : Nat) : State :=
  match s.srOf mtp t with
  | (addr, data) :: _ => s.send (.service mtp t addr data)
  | [] => s
/-- A service register access of a link tap or a memory tap, whose answer is then awaited; it goes on the channel when no other is on it
(R71, Table 2.11). -/
def State.access (s : State) (mtp : Bool) (tap addr : Nat) (data : Option (BitVec 32)) : State :=
  let first := (s.srOf mtp tap).isEmpty
  let a := (addr, data)
  let s := if mtp then s.modMem tap (fun m => { m with sr := m.sr ++ [a] }) else s.modTap tap (fun x => { x with sr := x.sr ++ [a] })
  if first then s.srDrive mtp tap else s
/-- A link's retrain word is written (R302, Table 2.11). -/
def State.retrainLink (s : State) (t : Nat) : State := (s.modTap t (fun x => { x with retrain := some 0, retrainWait := false })).access false t 3 (some 1)
/-- A stack's retrain word is written (R291). -/
def State.retrainStack (s : State) (t : Nat) : State := (s.modMem t (fun m => { m with retrain := some 0 })).sig .retrainStack t 1

/-- Advance TBASE to an instant: it never steps backwards (R32). -/
def State.advanceTo (s : State) (t : Nat) : State := { s with tbase := max s.tbase t }

/-- A field of the die that is in service. -/
def State.fieldUp (s : State) (f : Nat) : Bool := decide (f < Config.fields) && (s.field f).pad == .inService
/-- The fields in service, in ascending order. -/
def State.upFields (s : State) : List Nat := (List.range Config.fields).filter s.fieldUp
/-- The Drover of a field acts. -/
def State.droverUp (s : State) (f : Nat) : Bool :=
  decide (f < Config.fields) && (s.field f).drover && !(s.field f).droverOut && !(s.field f).droverResetting
/-- A flock of the integration whose field is in service and whose unit is neither Folded nor Retired. -/
def State.flockUp (s : State) (f k : Nat) : Bool :=
  s.fieldUp f && decide (k < Config.flocks) && (s.flock f k).st != .folded && (s.flock f k).st != .retired
/-- The in-service physical flocks of a domain, in ascending UID. -/
def State.upFlocks (s : State) (d : Uid) : List (Nat × Nat) := (domFlocks d).filter (fun p => s.flockUp p.1 p.2)
/-- The link taps whose engine is in service and powered. -/
def State.upTaps (s : State) : List Nat :=
  (List.range Config.linkTaps).filter (fun t =>
  (s.tap t).inService && !(s.tap t).resetting && (s.field (Config.linkField t)).infraPg)
/-- The memory taps whose stack is in service and whose field's infrastructure rail is closed. -/
def State.upMems (s : State) : List Nat := (List.range Config.memTaps).filter (fun t =>
  (s.mem t).inService && (s.field (Config.memField t)).infraPg)
/-- Apply a change to every member of a list in order. -/
def State.forEach {α : Type} (s : State) (l : List α) (g : State → α → State) : State := l.foldl g s

/-- The compute clock of a field runs (R34, R81, R332). -/
def Field.clockRuns (fd : Field) : Bool :=
  fd.released && fd.compEn && fd.compPg && !fd.thermOff && !fd.relock && !fd.ocComp && !fd.ocInfra
/-- CCLK cycles delivered per 48 microseconds: half rate under the hardware throttle (R331), k of 16 edges removed
(R336), two thirds while a gust stretches the clock (R325). -/
def Field.cycleRate (fd : Field) : Nat :=
  let base := fd.freq * 48
  let thr := if fd.divider then base / 2 else base
  let brz := thr * (16 - fd.k) / 16
  if decide (0 < fd.stretch) || fd.storm then brz * 2 / 3 else brz
/-- A Muster point holds a field's core-cycle count (R34). DEDUCED: one announced for a flock holds the count of the flock's field,
for the count is the field's (log 80). -/
def State.musterHolds (s : State) (f : Nat) : Bool := s.musters.any (fun m => domHasField m.dom f)
/-- Tracker timers run on TBASE while the compute clock of their field runs (R288). -/
def Flock.runTrackers (fl : Flock) (run : Bool) (now : Nat) : Flock :=
  { fl with trackers := fl.trackers.map (fun p =>
      if p.2.held then (p.1, { p.2 with run := if run then p.2.run + (now - p.2.seen) else p.2.run, seen := now }) else p) }
/-- Flocks of a field that have held a tracker. -/
def State.trackedFlocks (s : State) (f : Nat) : List Nat :=
  (s.flocks.filter (fun p => p.1 / 64 == f && !p.2.trackers.isEmpty)).map (fun p => p.1 % 64)
/-- A field with its core-cycle count brought up to an instant; a Muster point holds the count (R34). The edges that gusts have
removed do not count: `skipDebt` of them are still ahead. -/
def Field.advance (fd : Field) (held : Bool) (now : Nat) : Field :=
  if fd.clockRuns && !held then
    let total := (now - fd.cyclesAt) * fd.cycleRate + fd.cycleFrac
    let gone := min fd.skipDebt (total / 48000)
    { fd with cycles := fd.cycles + (total / 48000 - gone), skipDebt := fd.skipDebt - gone, cycleFrac := total % 48000, cyclesAt := now
              counters := if fd.k = 0 then fd.counters else bump fd.counters 4 ((now - fd.cyclesAt) * fd.cycleRate * fd.k / (16 - fd.k) / 48000) }
  else { fd with cyclesAt := now }
/-- Bring a field's core-cycle count and its trackers' timers up to the present TBASE. -/
def State.syncField (s : State) (f : Nat) : State :=
  let run := (s.field f).clockRuns
  let s := s.forEach (s.trackedFlocks f) (fun s k => s.modFlock f k (fun fl => fl.runTrackers run s.tbase))
  s.modField f fun fd => fd.advance (s.musterHolds f) s.tbase
/-- The core-cycle count of a field now (R34). -/
def State.cycleCount (s : State) (f : Nat) : Nat := ((s.field f).advance (s.musterHolds f) s.tbase).cycles

/-- A thermal sensor of a field. -/
def Field.sensor (fd : Field) (i : Nat) : Sensor := mapGet (fun _ => {}) fd.sensors i
/-- Change a thermal sensor of a field. -/
def Field.modSensor (fd : Field) (i : Nat) (g : Sensor → Sensor) : Field :=
  { fd with sensors := mapSet (fun _ => {}) fd.sensors i (g (fd.sensor i)) }
/-- The highest reading of a sensor over the last 1 ms. -/
def Sensor.peak (x : Sensor) (now : Nat) : Int :=
  (x.recent.filter (fun p => decide (now < p.1 + 1000000))).foldl (fun a p => max a p.2) x.reading
/-- The in-service sensors of a field. -/
def Field.liveSensors (fd : Field) : List Sensor := ((List.range Config.sensors).map fd.sensor).filter (·.inService)
/-- T(f), in 0.125 C: the highest reading of the in-service sensors over the last 1 ms (R328); zero when none is in service. -/
def State.temp (s : State) (f : Nat) : Int :=
  match (s.field f).liveSensors with
  | [] => 0
  | x :: t => t.foldl (fun a y => max a (y.peak s.tbase)) (x.peak s.tbase)
/-- The highest T(f) of the die. -/
def State.dieTemp (s : State) : Int := ((List.range Config.fields).map s.temp).foldl max (s.temp 0)

/-- The command tracker of a flock. -/
def Flock.tracker (fl : Flock) (i : Nat) : Tracker := mapGet (fun _ => {}) fl.trackers i
/-- Change a command tracker. -/
def Flock.modTracker (fl : Flock) (i : Nat) (g : Tracker → Tracker) : Flock :=
  { fl with trackers := mapSet (fun _ => {}) fl.trackers i (g (fl.tracker i)) }
/-- Raise checking counter `i` of a flock (Table 7.8, group 0x02). -/
def Flock.count (fl : Flock) (i : Nat) : Flock := { fl with counters := bump fl.counters i 1 }

/-- The lowest-numbered free tracker of a flock (R55). -/
def Flock.freeTracker (fl : Flock) : Option Nat := (List.range 64).find? (fun i => !(fl.tracker i).held)
/-- fsp_trk_avail (R55). -/
def State.trkAvail (s : State) (f k : Nat) : Bool :=
  let fl := s.flock f k
  fl.ready && (s.field f).compEn && (s.field f).compPg && !fl.kill && fl.freeTracker.isSome
/-- Present fsp_trk_avail and fsp_trk_id (R55). -/
def State.presentTracker (s : State) (f k : Nat) : State :=
  s.sig .fspTrkId (flockUid f k).toNat (b2n (s.trkAvail f k) + 2 * ((s.flock f k).freeTracker.getD 0))

/-- The physical flock of a field that serves a logical flock. -/
def State.physFlock (s : State) (f l : Nat) : Option Nat :=
  (List.range Config.flocks).find? (fun k => (s.flock f k).logical == some l)
/-- The physical core that serves a logical slot. -/
def Flock.coreOf (fl : Flock) (slot : Nat) : Nat := fl.slots.getD slot slot
/-- The logical slot a core serves, when its flock serves a logical flock and the slot is not disabled. -/
def Flock.slotOf (fl : Flock) (c : Nat) : Option Nat :=
  if fl.logical.isSome then
    (List.range Config.slots).find? (fun j => fl.slots.getD j j == c && !(fl.disabled.contains j))
  else none
/-- The unconsumed spare core of a flock: the core that serves no slot, disabled or not (R24). -/
def Flock.spareCore (fl : Flock) : Option Nat :=
  (List.range Config.cores).find? (fun c => !(fl.slots.contains c))
/-- A unit is Folded or Retired. -/
def UnitState.gone : UnitState → Bool
  | .folded | .retired => true
  | _ => false
/-- A unit is Healthy or Watched. -/
def UnitState.fitSpare : UnitState → Bool
  | .healthy | .watched => true
  | _ => false
/-- A unit may twin: it is not Suspect or worse, but for one Sheltered, whose step is then compared (R190, R247). -/
def UnitState.fitTwin : UnitState → Bool
  | .healthy | .watched | .sheltered => true
  | _ => false
/-- Code of a unit state (Table 10.1). -/
def UnitState.code : UnitState → Nat
  | .healthy => 0 | .watched => 1 | .suspect => 2 | .sheltered => 3 | .folded => 4 | .retired => 5

/-- The field's spare flock: the physical flock that serves no logical flock and is neither Folded nor Retired; flock 32 until
UNFOLD returns another (R251, R261). -/
def State.spareOf (s : State) (f : Nat) : Nat :=
  ((List.range Config.flocks).find? (fun k => (s.flock f k).logical.isNone && !(s.flock f k).st.gone)).getD Config.spareFlock

/-- The life-cycle state (R399): 0 MANUFACTURE, 1 PROVISIONED, 2 FIELD, 3 RETURN. -/
def State.lcs (s : State) : Nat := if s.life.fuses = 0 then 0 else (s.life.fuses - 1) % 3 + 1

/-- The next value of the entropy source (R179, R406). -/
def State.draw (s : State) : State × BitVec 64 := ({ s with draws := s.draws + 1 }, Config.entropy s.draws)
/-- A value the spec leaves open, free for every use. -/
def State.freeVal (s : State) : State × BitVec 64 := ({ s with free := s.free + 1 }, Config.freeValue s.free)

/-- Job epoch and step, as record bytes 32-39 and descriptors carry them (Table 16.3). -/
def Job.opId (j : Job) : BitVec 64 := if j.active then BitVec.ofNat 64 (j.epoch.toNat + 65536 * j.step.toNat) else 0

/-- Job epoch and step of the chip, whether or not a job runs (R223). -/
def Job.closeId (j : Job) : BitVec 64 := BitVec.ofNat 64 (j.epoch.toNat + 65536 * j.step.toNat)
/-- Job epoch and taint step, as the records of replay and twinning carry them (R196, R200): the chip's step less the step lag. -/
def Job.taintId (j : Job) : BitVec 64 := if j.active then BitVec.ofNat 64 (j.epoch.toNat + 65536 * (j.step.toNat - j.lag)) else 0
/-- TBASE goes on to the instant at which a field's core-cycle count reaches a value, when the count runs (R34). -/
def State.toCycle (s : State) (f n : Nat) : Option State :=
  let now := s.cycleCount f
  let rate := (s.field f).cycleRate
  if n ≤ now then some s
  else if (s.field f).clockRuns && !s.musterHolds f && rate != 0 then some (s.advanceTo (s.tbase + ((n - now) * 48000 + rate - 1) / rate))
  else none

/-- The run is no longer timing-clean (R39). -/
def State.notClean (s : State) : State := if s.job.active then { s with job := { s.job with clean := false } } else s
/-- What happened makes the running job not timing-clean, and counts as one stretch or frequency-change event (R39). -/
def State.unclean (s : State) : State :=
  if s.job.active then { s with job := { s.job with clean := false, changes := s.job.changes + 1 } } else s

end Sys2Proof.Machine
end

