-- ==== Sys2Proof/Machine/Codes.lean ====
section
/-! DEFINITION. Event codes: class, severity and default reaction mask of every code (R269 to R278, Tables 11.1 to 11.5
and the event tables of the chapters), and the masks in force (R279). -/

namespace Sys2Proof.Machine

/-- Class codes (Table 11.1). -/
def clsCE : Nat := 0
def clsUC : Nat := 1
def clsFE : Nat := 2
def clsEV : Nat := 3

/-- What the spec fixes about an infrastructure code. -/
structure CodeInfo where
  code : Nat
  cls : Nat
  /-- Severity of an EV code; the other classes fix theirs (Table 11.1). -/
  sev : Nat
  /-- Default reaction mask (Table 11.3). -/
  mask : Nat
  deriving DecidableEq, Repr

/-- INT alone. -/
def maskInt : Nat := 1
/-- INT and PIN. -/
def maskPin : Nat := 33

/-- EV codes of one severity with INT alone. -/
def evCodes (sev : Nat) (l : List Nat) : List CodeInfo := l.map (fun c => ⟨c, clsEV, sev, maskInt⟩)
/-- Codes of one class that is not EV, with one default mask. -/
def errCodes (cls mask : Nat) (l : List Nat) : List CodeInfo := l.map (fun c => ⟨c, cls, cls + 1, mask⟩)

/-- The infrastructure codes with one class (Tables 11.4, 11.5, R278, R316, R342, R358, R372, R388, R409). -/
def infraCodes : List CodeInfo :=
  evCodes 0 [0x0510, 0x300B, 0x6005, 0x7007, 0x7016, 0x7023]
  ++ evCodes 1 [0x0109, 0x010D, 0x0112, 0x0310, 0x0312, 0x0313, 0x0316, 0x0318, 0x0503, 0x0506, 0x0507, 0x2020, 0x2102,
      0x3009, 0x300C, 0x300D, 0x3101, 0x4006, 0x5005, 0x5007, 0x6004, 0x6006, 0x7002, 0x7005, 0x7009, 0x7021, 0x7022,
      0x7030, 0x7032, 0x7036, 0x7037]
  ++ evCodes 2 [0x010A, 0x0110, 0x0111, 0x0317, 0x3008, 0x5001, 0x5002, 0x5003, 0x5008, 0x6001, 0x6003, 0x6008, 0x7003,
      0x7006, 0x7012, 0x7013, 0x7020, 0x7031, 0x7034, 0x7035]
  ++ errCodes clsCE maskInt [0x0101, 0x0102, 0x0104, 0x010C, 0x0201, 0x0301, 0x0501, 0x2001, 0x2101, 0x7014]
  ++ errCodes clsUC maskInt [0x0113, 0x0202, 0x0203, 0x0305, 0x0311, 0x0401, 0x0402, 0x0502, 0x0504, 0x0505, 0x2003, 0x2004,
      0x2005, 0x2103, 0x2104, 0x3003, 0x3004, 0x3005, 0x3006, 0x300A, 0x3104, 0x4002, 0x4005, 0x4007, 0x5006, 0x6002,
      0x6007, 0x7001, 0x7008, 0x7010, 0x7011, 0x7033]
  ++ errCodes clsUC maskPin [0x0106, 0x0107, 0x0204, 0x0303, 0x0304, 0x0314, 0x2006, 0x2105, 0x3001, 0x3002, 0x3007, 0x3102,
      0x5004]
  ++ errCodes clsUC 5 [0x010E, 0x0205, 0x0302, 0x0508, 0x4004]
  ++ errCodes clsUC 7 [0x0105, 0x010B]
  ++ errCodes clsUC 3 [0x4003]
  ++ errCodes clsUC 9 [0x2002]
  ++ errCodes clsFE maskPin [0x0103, 0x0108, 0x010F, 0x0315, 0x3103, 0x4001, 0x6009]

/-- The codes that carry two classes, neither of them FE (R279): 0x0403 is CE or UC, 0x7015 is EV or UC. -/
def isTwoClass (code : Nat) : Bool := code == 0x0403 || code == 0x7015

/-- The code is a data-plane code (R270, R271, Table 11.2): a code of groups 0x10 to 0x12 whose low byte is assigned, or one
of the five Beyja-generated ones. -/
def isDataPlane (code : Nat) : Bool :=
  let low := code % 256
  (code == 0x7004 || code == 0x1230 || code == 0x1231 || code == 0x1240 || code == 0x1241)
  || (code / 256 == 0x10 && (decide (1 ≤ low) && decide (low ≤ 5) || (decide (0x10 ≤ low) && decide (low ≤ 0x2F))))
  || (code / 256 == 0x11 && (decide (1 ≤ low) && decide (low ≤ 3) || (decide (0x10 ≤ low) && decide (low ≤ 0x2F))))
  || (code / 256 == 0x12 && (decide (1 ≤ low) && decide (low ≤ 5) || (decide (0x10 ≤ low) && decide (low ≤ 0x2F))))

/-- What the spec fixes about a code that carries one class. -/
def codeInfo (code : Nat) : Option CodeInfo := infraCodes.find? (fun i => i.code == code)

/-- The code is defined (R279). -/
def codeDefined (code : Nat) : Bool := (codeInfo code).isSome || isTwoClass code || isDataPlane code

/-- The code is EV in every case (R279). -/
def isEvCode (code : Nat) : Bool :=
  match codeInfo code with
  | some i => i.cls == clsEV
  | none => false

/-- Default mask of a code, for a data-plane code of the class given (R272, R278). -/
def defaultMask (code cls : Nat) : Nat :=
  if isDataPlane code then (if cls = clsFE then maskPin else maskInt)
  else match codeInfo code with
    | some i => i.mask
    | none => maskInt

/-- Key of a mask in the policy store: data-plane codes have one per class (R274). -/
def maskKey (code cls : Nat) : Nat := if isDataPlane code then 4 * code + cls else 4 * code

/-- The mask in force for a report (R273, R274). -/
def State.mask (s : State) (code cls : Nat) : Nat :=
  match assoc s.policy.masks (maskKey code cls) with
  | some m => m.toNat
  | none => defaultMask code cls

/-- Class of a code that carries one class; a code of two classes has its class given with the report. -/
def classOf (code dflt : Nat) : Nat :=
  match codeInfo code with
  | some i => i.cls
  | none => dflt

/-- Severity of a record (R269). 0x7015 as an EV has severity 1 (R278). -/
def severityOf (code cls : Nat) : Nat :=
  if cls = clsEV then (match codeInfo code with | some i => i.sev | none => 1) else cls + 1

/-- Event group bit of a code in an event ring's group mask (R111). -/
def groupBit (code : Nat) : Nat :=
  match code / 256 with
  | 0x01 => 0 | 0x02 => 1 | 0x03 => 2 | 0x04 => 3 | 0x05 => 4 | 0x10 => 5 | 0x11 => 6 | 0x12 => 7 | 0x20 => 8 | 0x21 => 9
  | 0x30 => 10 | 0x31 => 11 | 0x40 => 12 | 0x50 => 13 | 0x60 => 14 | _ => 15

end Sys2Proof.Machine
end

