-- ==== Sys2Proof/Machine/Record.lean ====
section
/-! DEFINITION. Forming a Tally record and posting it: the rate limit, the drop conditions, the sequence count (R375 to
R383), the event rings and their interrupts (R110 to R113). -/

namespace Sys2Proof.Machine

/-- The bytes of a record in a TRF version, with further flags set (Table 16.3, R375, R386). -/
def recBytes (r : Rec) (fmt flags : Nat) : List Byte :=
  let head := le 6 r.sequence ++ le 1 fmt ++ le 1 (r.sev * 64 + r.cls * 16 + Nat.lor r.flags flags)
    ++ le 4 r.opSec ++ le 3 r.pcc ++ le 1 0 ++ le 8 r.tbase ++ le 2 r.code ++ le 4 r.uid.toNat ++ le 2 r.supp
    ++ le 8 r.opId.toNat ++ le 2 (toTwos 16 r.temp) ++ le 2 r.volt ++ fit 12 r.payload
  head ++ le 4 (crc32c head) ++ zeros 3 ++ [0xA5]

/-- Operating seconds now (R378). -/
def State.opSeconds (s : State) : Nat := s.tally.opSec + (s.tbase - s.tally.opSecAt) / 1000000000

/-- Capacity of a Tally region outside its reserve sector (R379). -/
def regionSlots (fatal : Bool) : Nat := if fatal then 24448 else 171968
/-- The region a record of a class lies in (Table 16.5). -/
def Tally.region (t : Tally) (fatal : Bool) : Region := if fatal then t.fatal else t.general
/-- Write a region. -/
def Tally.setRegion (t : Tally) (fatal : Bool) (r : Region) : Tally :=
  if fatal then { t with fatal := r } else { t with general := r }
/-- The records of a region in flash. -/
def Region.all (r : Region) : List Rec := r.sectors.flatMap (·.2)
/-- A committed clear names the record (R387): it never names a clear record, and scope 0 leaves the Fatal sub-region. -/
def Tally.isNamed (t : Tally) (r : Rec) : Bool :=
  r.code != 0x0110 && t.named.any (fun c => decide (r.sequence ≤ c.bound) && (c.scope == 1 || r.cls != clsFE))
/-- A record of the region is eligible for a new record of severity `sev` (R380). -/
def Tally.eligible (t : Tally) (sev : Nat) (r : Rec) : Bool := t.isNamed r || decide (r.sev ≤ sev)
/-- The uncommitted records that will go into a region. -/
def Tally.waitingFor (t : Tally) (fatal : Bool) : List Rec :=
  t.waiting.filter (fun r => r.code != 0x0110 && (r.cls == clsFE) == fatal)
/-- A region has neither a free slot nor an eligible record for a new record (R382). -/
def Tally.regionFull (t : Tally) (fatal : Bool) (sev : Nat) : Bool :=
  let r := t.region fatal
  let held := (r.sectors.filter (fun p => !(r.bad.contains p.1))).flatMap (·.2)
  decide (regionSlots fatal ≤ 64 * r.bad.length + held.length + (t.waitingFor fatal).length) && !(held.any (t.eligible sev))

/-- The code takes no token (R383): 0x0110, 0x0111 and 0x5002. -/
def bucketExempt (code : Nat) : Bool := code == 0x0110 || code == 0x0111 || code == 0x5002

/-- The TRF version the running firmware forms records in, the highest it supports (R386); 1.0 while none runs. -/
def State.trfVersion (s : State) : Nat :=
  match s.fw.running with
  | some i => (i.sup.getD 7 0x10).toNat
  | none => 0x10

/-- The negotiated TRF version, 1.0 before negotiation (R122, R386). -/
def State.trfOut (s : State) : Nat :=
  match s.hif.neg with
  | some l => (l.getD 3 0x10).toNat
  | none => 0x10

/-- The field whose temperature and voltage a record carries: none for a level-4 or level-6 UID (R375). -/
def recField (u : Uid) : Option Nat := if uidLevel u = 4 ∨ uidLevel u = 6 then none else some (uidField u)

/-- Voltage of a record: that of its UID's field; the die has none, and the value is free (R375). -/
def State.recVolt (s : State) (u : Uid) : Nat :=
  if uidLevel u = 4 then (Config.dieVolt s.tally.next).toNat else (s.field (uidField u)).volt

/-- The record that a report becomes (R375, R377, R378). -/
def State.mkRec (s : State) (e : Ev) : Rec :=
  { sequence := s.tally.next
    fmt := s.trfVersion
    sev := e.sev
    cls := e.cls
    flags := (if e.cls = clsFE ∨ e.code = 0x0110 then 1 else 0) + (if e.replayed then 4 else 0)
    opSec := s.opSeconds
    pcc := s.tally.powerCycles
    tbase := e.tbase
    code := e.code
    uid := e.uid
    supp := sat 65535 ((assoc s.tally.withheld e.code).getD 0)
    opId := e.opId
    temp := match recField e.uid with | some f => s.temp f | none => s.dieTemp
    volt := s.recVolt e.uid
    payload := fit 12 e.payload }

/-- Form one record: the bucket, then the drop conditions, then the number (R377, R382, R383). -/
def State.formOne (s : State) (e : Ev) (exempt : Bool) : State × Option Rec :=
  let t := s.tally
  let taken := (assoc t.spent e.code).getD 0
  let free := exempt || bucketExempt e.code || e.cls == clsFE
  if !free && decide (16 ≤ taken) then
    ({ s with tally := { t with withheld := assocSet t.withheld e.code ((assoc t.withheld e.code).getD 0 + 1) } }, none)
  else
    let t := if free then t else { t with spent := assocSet t.spent e.code (taken + 1) }
    let full := decide (4096 ≤ t.waiting.length)
    if full || (e.code != 0x0110 && t.regionFull (e.cls == clsFE) e.sev) then
      let t := if t.newDrops = 0 then { t with dropCause := b2n full, beforeDrop := t.next - 1 } else t
      ({ s with tally := { t with dropped := t.dropped + 1, newDrops := t.newDrops + 1 } }, none)
    else
      let s := { s with tally := t }
      let r := s.mkRec e
      ({ s with tally := { t with next := t.next + 1, waiting := t.waiting ++ [r], withheld := assocDel t.withheld e.code } }, some r)

/-- Drive the interrupt message port of the active Shepherd: imp_vld in bit 0 and imp_vec above it (R77). -/
def State.driveImp (s : State) (v : Option Nat) : State :=
  s.send (.sig .impVld (b2n (s.pair.active == some .b)) (match v with | some v => 1 + 2 * v | none => 0))
/-- The next interrupt message leaves the port when none is outstanding (R77). -/
def State.nextVector (s : State) : State :=
  match s.hif.impVld, s.hif.impQueue with
  | none, v :: t => ({ s with hif := { s.hif with impVld := some v, impQueue := t } } : State).driveImp (some v)
  | _, _ => s
/-- Send a vector on the interrupt message port; during host loss only vector 8 is sent (R77, R128). -/
def State.vector (s : State) (v : Nat) : State :=
  if s.hif.st == .hostLost && v != 8 then s
  else { s with hif := { s.hif with impQueue := s.hif.impQueue ++ [v] } }.nextVector

/-- An event ring by number. -/
def Hif.ev (h : Hif) (j : Nat) : Option EvRing := h.evs.find? (fun r => r.num == j)
/-- Change an event ring. -/
def Hif.modEv (h : Hif) (j : Nat) (g : EvRing → EvRing) : Hif :=
  { h with evs := h.evs.map (fun r => if r.num == j then g r else r) }
/-- A command ring by number. -/
def Hif.cmd (h : Hif) (i : Nat) : Option CmdRing := h.cmds.find? (fun r => r.num == i)
/-- Change a command ring. -/
def Hif.modCmd (h : Hif) (i : Nat) (g : CmdRing → CmdRing) : Hif :=
  { h with cmds := h.cmds.map (fun r => if r.num == i then g r else r) }
/-- Change the host interface. -/
def State.modHif (s : State) (g : Hif → Hif) : State := { s with hif := g s.hif }

/-- A moderation interval of the ring runs: it has not ended, or the signal collected in it is still to be sent (R113). -/
def EvRing.inInterval (r : EvRing) (now : Nat) : Bool :=
  match r.intervalEnd with | some t => decide (now < t) || r.signal | none => false
/-- The ring's vector is sent, and its moderation interval begins (R113). -/
def State.sendVector (s : State) (j : Nat) : State :=
  (s.modHif (·.modEv j (fun r => { r with intervalEnd := if r.moderation = 0 then none else some (s.tbase + 1000 * r.moderation), signal := false }))).vector j
/-- Raise the vector of event ring j, moderated (R113). -/
def State.signalRing (s : State) (j : Nat) : State :=
  match s.hif.ev j with
  | none => s
  | some r => if r.inInterval s.tbase then s.modHif (·.modEv j (fun r => { r with signal := true })) else s.sendVector j

/-- Host addresses `a` to `a + n - 1` lie inside the DMA aperture (R102). -/
def Hif.inside (h : Hif) (a n : Nat) : Bool := decide (h.aptBase.toNat ≤ a) && decide (a + n ≤ h.aptLimit.toNat + 1)

/-- The interface state as HIF_STATUS bits 3:0. -/
def HifState.code : HifState → Nat
  | .idle => 0 | .running => 1 | .hostLost => 2 | .bootFailed => 3

/-- Write to host memory, in requests of at most 256 bytes that carry the service attribute (R76). -/
def State.hostWrite (s : State) (a : Nat) (b : List Byte) : State :=
  s.sendAll ((chunks b.length 256 b).mapIdx (fun i l => .host (a + 256 * i) l true))
/-- The head counts of the command rings and the tail counts of the event rings, as words of the status block (Table 4.4). -/
def Hif.counts (h : Hif) : List (Nat × Nat) := h.cmds.map (fun r => (r.num, r.head)) ++ h.evs.map (fun r => (64 + r.num, r.tail))
/-- Write words of the status block with words 72 and 73, which carries the interface state (Table 4.4); a block outside the aperture
is a failed access (R430). -/
def State.statusWords (s : State) (st : HifState) (l : List (Nat × Nat)) : State :=
  if !s.hif.inside s.hif.stCur 1024 then { s with due := s.due ++ [.dmaError .status s.hif.stCur] }
  else
    let s := s.forEach l (fun s p => s.hostWrite (s.hif.stCur + 8 * p.1) (le 8 (p.2 % 2 ^ 32)))
    (s.hostWrite (s.hif.stCur + 8 * 72) (le 8 s.tbase)).hostWrite (s.hif.stCur + 8 * 73) (le 8 st.code)
/-- Write a count into the status block; after a failed write it carries all the current counts (R106, R117). Host loss writes
nothing (R128). -/
def State.statusWord (s : State) (w v : Nat) : State :=
  if s.hif.st == .hostLost then s else s.statusWords s.hif.st (if s.hif.stFailed then s.hif.counts else [(w, v)])

/-- Put a record into the next slot of an event ring that has a free slot: bytes 0-62, byte 63, then the tail count and
the vector (R110, R113). -/
def State.placeRec (s : State) (j : Nat) (r : Rec) : State :=
  match s.hif.ev j with
  | none => s
  | some q =>
    let a := q.base + 64 * (q.tail % 2 ^ q.log2)
    if !s.hif.inside q.base (64 * 2 ^ q.log2) then { s with due := s.due ++ [.dmaError (.event j) a] }
    else
      let b := recBytes r s.trfOut 0
      let s := (s.hostWrite a (b.take 63)).hostWrite (a + 63) (b.drop 63)
      let s := s.modHif (·.modEv j (fun q => { q with tail := (q.tail + 1) % 2 ^ 32, unconf := q.unconf ++ [(a, b)] }))
      (s.statusWord (64 + j) ((q.tail + 1) % 2 ^ 32)).signalRing j

/-- Slots of an event ring that hold unread entries (R108). -/
def EvRing.used (q : EvRing) : Nat := (q.tail + 2 ^ 32 - q.head) % 2 ^ 32
/-- The ring's filter accepts the record (R111). -/
def EvRing.accepts (q : EvRing) (r : Rec) : Bool := decide (q.minSev ≤ r.sev) && q.mask.getLsbD (groupBit r.code)

/-- Offer a record to an event ring: posted, counted as lost, or neither (R111, R112, R117, R128). -/
def State.offerRec (s : State) (r : Rec) (j : Nat) : State :=
  match s.hif.ev j with
  | none => s
  | some q =>
    if s.hif.st != .running || q.stopped || !q.accepts r then s
    else if decide (q.used < 2 ^ q.log2) && q.lost == 0 then s.placeRec j r
    else s.modHif (·.modEv j (fun q => { q with lost := q.lost + 1, firstLost := if q.lost = 0 then r.sequence else q.firstLost }))

/-- Post a record to every event ring, in ascending number (R111), and raise vector 8 for an FE (R113). -/
def State.postRec (s : State) (r : Rec) (int : Bool) : State :=
  let s := if int then s.forEach ((s.hif.evs.map (·.num))) (fun s j => s.offerRec r j) else s
  if r.cls = clsFE then s.vector 8 else s

/-- Form one record and post it. -/
def State.formPost (s : State) (e : Ev) (exempt int : Bool) : State :=
  match s.formOne e exempt with
  | (s, some r) => s.postRec r int
  | (s, none) => s

/-- Form a record and post it; when it lands after drops, 0x0111 follows with their count (R382, R388). -/
def State.form (s : State) (e : Ev) (exempt int : Bool) : State :=
  let n := s.tally.newDrops
  match s.formOne e exempt with
  | (s, none) => s
  | (s, some r) =>
    let s := s.postRec r int
    if n = 0 then s
    else
      let t := s.tally
      let d : Ev := { code := 0x0111, cls := clsEV, sev := 2, uid := dieUid, tbase := s.tbase,
                      payload := le 4 t.dropCause ++ le 4 t.newDrops ++ le 4 t.beforeDrop }
      match s.formOne d true with
      | (s, some r) => { s with tally := { s.tally with newDrops := 0 } }.postRec r (bit (s.mask 0x0111 clsEV) 0)
      | (s, none) => s

end Sys2Proof.Machine
end

