-- ==== Sys2Proof/Machine/Flash.lean ====
section
/-! DEFINITION. The masters of the package pins: the QSPI flash commands (R79, R83, Table 3.2) and the PMBus transactions (R79, R89,
Table 3.6); and the MCTP packets of the I3C target (R86, R87). -/

namespace Sys2Proof.Machine

/-- Change the flash master. -/
def State.modQspi (s : State) (g : Qspi → Qspi) : State := { s with qspi := g s.qspi }
/-- The opcode of a pair: the 4-byte-address form when SFDP declares it, else the other form in the 4-byte mode (Table 3.2). -/
def Qspi.op (q : Qspi) (long short : Nat) : Nat := if q.four then long else short
/-- A program or an erase: write enable, the command, and the polling of the status register (Table 3.2). -/
def flashWriteOps (op addr : Nat) (data : List Byte) : List Output := [.flash 0x06 none [], .flash op (some addr) data, .flash 0x05 none []]
/-- Programs and erases in their order; the last one stays open until its completion is confirmed (R79). -/
def State.flashWrites (s : State) (l : List (Nat × Nat × List Byte)) : State :=
  (s.sendAll (l.flatMap (fun x => flashWriteOps x.1 x.2.1 x.2.2))).modQspi (fun q => { q with open_ := match l.getLast? with | some x => some x | none => q.open_ })
/-- The last program or erase has ended. -/
def State.flashEnded (s : State) : State := s.modQspi (fun q => { q with open_ := none })
/-- The page programs of bytes from a page's begin on (Table 3.2). -/
def Qspi.pages (q : Qspi) (addr : Nat) (b : List Byte) : List (Nat × Nat × List Byte) :=
  (chunks b.length 256 b).mapIdx (fun i l => (q.op 0x12 0x02, addr + 256 * i, l))
/-- The erase of a 4 KiB sector (Table 3.2). -/
def Qspi.eraseSector (q : Qspi) (addr : Nat) : Nat × Nat × List Byte := (q.op 0x21 0x20, addr, [])
/-- The erases of the 64 KiB blocks that `n` bytes take (Table 3.2). -/
def Qspi.eraseBlocks (q : Qspi) (addr n : Nat) : List (Nat × Nat × List Byte) :=
  (List.range ((n + 65535) / 65536)).map (fun i => (q.op 0xDC 0xD8, addr + 65536 * i, []))
/-- A slot's image: its blocks are erased, every page but the first is programmed, and the first page last (R135). -/
def Qspi.slotWrites (q : Qspi) (addr : Nat) (b : List Byte) : List (Nat × Nat × List Byte) :=
  q.eraseBlocks addr b.length ++ q.pages (addr + 256) (b.drop 256) ++ q.pages addr (b.take 256)
/-- A fast read from an address on (Table 3.2). -/
def State.flashRead (s : State) (addr : Nat) : State :=
  s.send (.flash (if s.qspi.quadIo then s.qspi.op 0xEC 0xEB else s.qspi.op 0x6C 0x6B) (some addr) [])
/-- A file is staged into a slot (R135, R362). -/
def State.stageFile (s : State) (addr : Nat) (b : List Byte) : State :=
  (s.modQspi (fun q => { q with stage := b })).flashWrites (s.qspi.slotWrites addr b)
/-- A failing 64 KiB block of a slot is erased and programmed again, its first page last (R135). -/
def State.blockAgain (s : State) (addr block : Nat) : State :=
  s.flashWrites (s.qspi.slotWrites (addr + 65536 * block) ((s.qspi.stage.drop (65536 * block)).take 65536))
/-- A staging has ended: its slot is read back (R135). -/
def State.stageEnded (s : State) (addr : Nat) : State := (s.modQspi (fun q => { q with open_ := none, stage := [] })).flashRead addr
/-- A staging has failed: the first page is erased with its block, the smallest erase of a slot (R135, Table 3.2). -/
def State.stageFailed (s : State) (addr : Nat) : State :=
  (s.flashWrites (s.qspi.eraseBlocks addr 1)).modQspi (fun q => { q with open_ := none, stage := [] })
/-- The flash is found at start-up: reset, SFDP with a 3-byte address, identification, and the 4-byte mode where no 4-byte commands are
declared (R83, Table 3.2). -/
def State.flashStart (s : State) (id : Option FlashId) : State :=
  let s := s.modQspi (fun _ => { four := (id.map (·.fourByte)).getD false, quadIo := (id.map (·.quadIo)).getD false })
  s.sendAll ([.flash 0x66 none [], .flash 0x99 none [], .flash 0x5A (some 0) [], .flash 0x9F none []] ++
    match id with | some i => if i.fourByte then [] else [.flash 0xB7 none []] | none => [])
/-- The flash after a switch-over (R79, Table 3.2): polled, reset, and the program or erase whose completion is not confirmed is reissued. -/
def State.flashTakeover (s : State) : State :=
  let s := s.sendAll ([.flash 0x05 none [], .flash 0x66 none [], .flash 0x99 none []] ++ if s.qspi.four then [] else [.flash 0xB7 none []])
  match s.qspi.open_ with | some x => s.flashWrites [x] | none => s

/-- The PMBus segment of a field (R89). -/
def segmentOf (f : Nat) : Nat := f / Config.cols % 6
/-- A PMBus access of a page: PAGE, then the command, each with its packet error check (R89). -/
def pmbusOps (f page cmd : Nat) (data : List Byte) : List Output :=
  let a := BitVec.setWidth 8 (Config.pmbusAddr f)
  [.pmbus f page 0x00 [BitVec.ofNat 8 page] (Config.pec [a, 0x00, BitVec.ofNat 8 page]),
   .pmbus f page cmd data (Config.pec ([a, BitVec.ofNat 8 cmd] ++ data))]
/-- A PMBus access by the active Shepherd. -/
def State.pmb (s : State) (f page cmd : Nat) (data : List Byte) : State := s.sendAll (pmbusOps f page cmd data)
/-- What the start writes to and reads from the regulator of a field (Table 3.6): the checks of CAPABILITY, PMBUS_REVISION and VOUT_MODE,
the voltage cap, the current limit, and OPERATION on, whose data byte the PMBus document gives. -/
def regulatorStart (f : Nat) : List Output :=
  [0, 1].flatMap (fun p => pmbusOps f p 0x19 [] ++ pmbusOps f p 0x98 [] ++ pmbusOps f p 0x20 [] ++ pmbusOps f p 0x24 (le 2 Config.voltageCap)
    ++ pmbusOps f p 0x46 (le 2 (Config.ioutLimit f p).toNat) ++ pmbusOps f p 0x01 [Config.operationOn])
/-- The PMBus after a switch-over: every segment is cleared, and a VOUT_COMMAND without its acknowledged end goes out again (R79). -/
def State.pmbusTakeover (s : State) : State :=
  let s := s.sendAll ((List.range (min 6 Config.rows)).map .busClear)
  s.forEach ((List.range Config.fields).filter (fun f => (s.field f).voutWait)) (fun s f => s.pmb f 0 0x21 (le 2 (s.field f).volt))

/-- The MCTP packets of a message (R86): transmission units of at most 64 bytes, each behind its 4-byte header and before its packet error
check. PRESUMED: the header is that of the MCTP base document: version, destination, source, and the flags with the sequence and tag (log 86). -/
def mctpPackets (eid : Nat) (b : List Byte) : List (List Byte) :=
  let l := if b.isEmpty then [[]] else chunks b.length 64 b
  l.mapIdx (fun i u =>
    let flags := b2n (i == 0) * 128 + b2n (i + 1 == l.length) * 64 + i % 4 * 16 + Config.mctpTag.toNat
    let p := [1, Config.mctpPeer, BitVec.ofNat 8 eid, BitVec.ofNat 8 flags] ++ u
    p ++ [Config.pec p])
/-- A response or an event message is ready: an in-band interrupt with data byte 0xAE, when enabled, and its packets (R86). -/
def State.respondMctp (s : State) (b : List Byte) : State :=
  let s := if s.i3c.ibi then s.send (.ibi 0xAE) else s
  s.sendAll ((mctpPackets s.i3c.eid b).map (fun p => .i3c (some p)))
/-- Beyja sends a PlatformEventMessage for the state sensor 0x0003 (R86, R87). DESIGN CHOICE: R87 does not say when; the model sends one when
the sensor turns to host lost and when it leaves that state (log 87). -/
def State.platformEvent (s : State) (sensor : Nat) : State :=
  if s.i3c.dyn.isSome then s.respondMctp (Config.dmtfBody 0x020A (3 + 65536 * sensor) s.i3c.eid) else s

end Sys2Proof.Machine
end

