-- ==== Sys2Proof/Machine/Planes.lean ====
section
/-! DEFINITION. The two planes of the Drove mesh: the header flit, routing, and sending a message (R25 to R28). -/

namespace Sys2Proof.Machine

/-- The header flit (Table 1.7). -/
def meshHead (dst src : Uid) (typ : BitVec 8) (flits : Nat) (dual : Bool) (sn : Nat) (word : BitVec 32) : BitVec 128 :=
  dst ++ src ++ typ ++ BitVec.ofNat 3 (flits - 1) ++ BitVec.ofBool dual ++ (0 : BitVec 4) ++ BitVec.ofNat 16 sn ++ word
end Sys2Proof.Machine

namespace Sys2Proof

/-- Destination of a message (Table 1.7). -/
def MeshMsg.dst (m : MeshMsg) : Uid := m.head.extractLsb' 96 32
/-- Source of a message (Table 1.7). -/
def MeshMsg.src (m : MeshMsg) : Uid := m.head.extractLsb' 64 32
/-- Flits of a message (Table 1.7). -/
def MeshMsg.len (m : MeshMsg) : Nat := (m.head.extractLsb' 53 3).toNat + 1
/-- The message travels on both planes (Table 1.7). -/
def MeshMsg.dual (m : MeshMsg) : Bool := m.head.getLsbD 52
/-- Per-source sequence number of a message (Table 1.7). -/
def MeshMsg.sn (m : MeshMsg) : Nat := (m.head.extractLsb' 32 16).toNat

end Sys2Proof

namespace Sys2Proof.Machine

/-- A part of RI-48 that sends and receives on the mesh: a level-5 or level-6 UID with zero fields below its level (R21, Table 1.7). -/
def meshPart (u : Uid) : Bool := (uidLevel u == 5 || uidLevel u == 6) && uidBelowZero u && decide (uidField u < Config.fields)

/-- The router that finds a flit bad is one of the plane's, and its link one of the five (Table 11.4). -/
def flitsOk : FlitState → Bool
  | .clean => true
  | .corrected f l | .uncorrectable f l => decide (f < Config.fields) && decide (l < 5)

/-- A message that the mesh can carry (R21, R26): both ends are parts, its length is its flits', its reserved bits are zero. -/
def meshOk (m : MeshMsg) : Bool :=
  meshPart m.dst && meshPart m.src && m.len == m.rest.length + 1 && m.head.extractLsb' 48 4 == 0 && decide (m.plane < 2) && flitsOk m.flits

/-- Hops along a row of the grid: the router each leaves and the link it takes (1 E, 3 W). -/
def hopsInRow (row c0 c1 : Nat) : List (Nat × Nat) :=
  if c0 ≤ c1 then (List.range (c1 - c0)).map (fun i => (row * Config.cols + c0 + i, 1))
  else (List.range (c0 - c1)).map (fun i => (row * Config.cols + c0 - i, 3))
/-- Hops along a column of the grid (0 N, 2 S). -/
def hopsInCol (col r0 r1 : Nat) : List (Nat × Nat) :=
  if r0 ≤ r1 then (List.range (r1 - r0)).map (fun i => ((r0 + i) * Config.cols + col, 2))
  else (List.range (r0 - r1)).map (fun i => ((r0 - i) * Config.cols + col, 0))
/-- The hops of a message between two fields (R25): upwind to the destination's column first and then to its row, downwind to
the row first and then to the column. -/
def meshHops (plane src dst : Nat) : List (Nat × Nat) :=
  let r0 := src / Config.cols
  let c0 := src % Config.cols
  let r1 := dst / Config.cols
  let c1 := dst % Config.cols
  if plane = 0 then hopsInRow r0 c0 c1 ++ hopsInCol c1 r0 r1 else hopsInCol c0 r0 r1 ++ hopsInRow r1 c0 c1

/-- Change the mesh. -/
def State.modMesh (s : State) (g : Mesh → Mesh) : State := { s with mesh := g s.mesh }

/-- A next hop of the message is down and the detour tables at the routers do not lead round it yet (R28). -/
def State.undeliverable (s : State) (m : MeshMsg) : Bool :=
  (meshHops m.plane (uidField m.src) (uidField m.dst)).any (fun h =>
    s.mesh.down.contains (m.plane, h.1, h.2) && !s.mesh.detoured.contains (m.plane, h.1, h.2))

/-- The planes a message leaves on (R25): both, the upwind one toward a Shepherd, the downwind one otherwise. The traffic of a
plane that is lost as a whole moves to the other (R28). -/
def State.planesFor (s : State) (dst : Uid) (dual : Bool) : List Nat :=
  let live := [0, 1].filter (fun p => !s.mesh.planeLost.contains p)
  let own := if dual then [0, 1] else if uidLevel dst == 6 && decide (uidElem dst ≤ 1) then [0] else [1]
  let use := own.filter (fun p => live.contains p)
  if use.isEmpty then live else use

/-- A source takes its next sequence number, which wraps at 65,536 (R26): a Drover that of its event buffer. -/
def State.nextMeshSn (s : State) (src : Uid) : State × Nat :=
  if uidLevel src = 5 ∧ uidElem src = 0 then
    let f := uidField src
    let n := (s.field f).bufSn
    (s.modField f (fun fd => { fd with bufSn := (n + 1) % 65536 }), n)
  else
    let n := (assoc s.mesh.seqs src.toNat).getD 0
    (s.modMesh (fun m => { m with seqs := assocSet m.seqs src.toNat ((n + 1) % 65536) }), n)

/-- Number of a kind of message, the argument of its opaque type byte. -/
def meshKindNo : MeshKind → Nat
  | .hurdleClose => 0 | .hurdleOpen => 1 | .tbaseSync => 2 | .musterOrder => 3 | .taintOrder => 4 | .pairCopy => 5
  | .heartbeat => 6 | .vote => 7 | .refSwitch => 8 | .takeover => 9 | .pattern => 10 | .challenge => 11 | .digest => 12 | .response => 13
  | .lost => 14
/-- The kinds sent on both planes (R25, R81, R194, R197, R311, R348, R349, R351). DEDUCED: the other messages of the Warden too (log 82). -/
def meshKindDual : MeshKind → Bool
  | .pattern => false
  | _ => true

/-- The messages a Shepherd sends to the voters, or as TBASE master, which pass no release gate (R31, R347, R348, R350, R351). -/
def meshKindUngated : MeshKind → Bool
  | .heartbeat | .tbaseSync | .takeover | .digest | .response | .lost => true
  | .hurdleClose | .hurdleOpen | .musterOrder | .taintOrder | .pairCopy | .vote | .refSwitch | .pattern | .challenge => false

/-- Send a message: one sequence number, one copy on each plane it leaves on. What a Shepherd sends passes its release gate (R346). -/
def State.message (s : State) (src dst : Uid) (k : MeshKind) (arg : Nat) : State :=
  match s.nextMeshSn src with
  | (s, sn) =>
    let rest := (Config.meshRest (meshKindNo k) arg).take 7
    let planes := s.planesFor dst (meshKindDual k)
    let head := meshHead dst src (Config.meshType (meshKindNo k)) (rest.length + 1) (planes.length == 2) sn (Config.meshWord (meshKindNo k) arg)
    let out := planes.map (fun p => Output.mesh p head rest)
    if uidLevel src == 6 && decide (uidElem src ≤ 1) && !meshKindUngated k then s.sendAll out
    else { s with out := s.out ++ out }
/-- Send a message to each receiver of a list. -/
def State.broadcast (s : State) (src : Uid) (dsts : List Uid) (k : MeshKind) (arg : Nat) : State :=
  s.forEach dsts (fun s d => s.message src d k arg)

/-- The Drovers that act. -/
def State.drovers (s : State) : List Uid := ((List.range Config.fields).filter s.droverUp).map droverUid
/-- The active Shepherd sends a message to every Drover. -/
def State.toDrovers (s : State) (k : MeshKind) (arg : Nat) : State :=
  match s.activeShc with
  | some b => s.broadcast (shcUid b) s.drovers k arg
  | none => s
/-- A message goes out again on a plane with its header as it stands (R27, R28). -/
def State.resendOn (s : State) (m : MeshMsg) (plane : Nat) : State := s.drive (.mesh plane m.head m.rest)
/-- Entries of a Drover's event buffer: its reports, and its messages that were returned undeliverable (R28, R354). -/
def State.bufferHeld (s : State) (f : Nat) : Nat :=
  (s.field f).buffer.length + (s.mesh.resend.filter (fun m => uidLevel m.src == 5 && uidField m.src == f)).length

/-- Neighbours a field has in the grid (R6, R25). -/
def meshDegree (f : Nat) : Nat :=
  b2n (decide (0 < f / Config.cols)) + b2n (decide (f / Config.cols + 1 < Config.rows)) + b2n (decide (0 < f % Config.cols))
    + b2n (decide (f % Config.cols + 1 < Config.cols))
/-- A plane has failed as a whole: each of its routers is gone or has every link down (R28). -/
def State.planeGone (s : State) (p : Nat) : Bool :=
  (List.range Config.fields).all (fun f => !(s.field f).routers || (s.field f).routerOut.contains p
    || decide (meshDegree f ≤ (s.mesh.down.filter (fun q => q.1 == p && q.2.1 == f)).length))

/-- The link of a router that leads to a field next to it, none for another field. -/
def linkToward (f g : Nat) : Option Nat := ((List.range 4).find? (fun l => (meshHops 0 f g == [(f, l)])))
/-- A field's routers are back: their links and those of the routers next to them are up again, and the detour tables are
reloaded (Table 11.6). -/
def State.linksBack (s : State) (f : Nat) (planes : List Nat) : State :=
  let stays := fun (q : Nat × Nat × Nat) => !(planes.contains q.1) || (q.2.1 != f && linkToward q.2.1 f != some q.2.2)
  if s.mesh.down.all stays then s
  else
    let s := s.modMesh (fun m => { m with down := m.down.filter stays, detourDue := true })
    s.modMesh (fun m => { m with planeLost := m.planeLost.filter s.planeGone })

/-- Drovers measure the path delay to the active master by round trip, at their start and after every load of detour tables (R31). -/
def State.measureDelay (s : State) (fs : List Nat) : State :=
  let m := Config.shcField (s.activeShc.getD false)
  s.forEach fs (fun s f => s.modField f (fun fd => { fd with tbaseOffset := Config.meshDelay (meshHops 1 m f).length }))

end Sys2Proof.Machine
end

