-- ==== Sys2Proof/Machine/TraceBuf.lean ====
section
/-! DEFINITION. Trace buffers: writing an entry, and what a full buffer does (R410, R411, R416). -/

namespace Sys2Proof.Machine

/-- Bytes an entry takes: its header, and its body in whole 8-byte words (R410). -/
def TraceEntry.size (e : TraceEntry) : Nat := 16 + 8 * ceilDiv e.body.length 8
/-- Bytes a buffer holds. -/
def TraceBuf.size (b : TraceBuf) : Nat := b.entries.foldl (fun n e => n + e.size) 0
/-- Discard oldest entries until `room` bytes are free; answers the entries discarded of all types and of type 0x01. -/
def dropOldest (cap room : Nat) : List TraceEntry → Nat → List TraceEntry × Nat × Nat
  | [], _ => ([], 0, 0)
  | e :: t, used =>
    if used + room ≤ cap then (e :: t, 0, 0)
    else
      let (l, n, g) := dropOldest cap room t (used - e.size)
      (l, n + 1, g + b2n (e.typ == 1))
/-- Put an entry into a buffer of `cap` bytes in wrap or stop mode; answers how many entries were lost (R416). -/
def TraceBuf.add (b : TraceBuf) (cap : Nat) (stop : Bool) (typ : Nat) (uid : Uid) (tbase : Nat) (body : List Byte) : TraceBuf × Nat :=
  let e : TraceEntry := { typ := typ, sn := b.nextSn, uid := uid, tbase := tbase, body := body }
  let b := { b with nextSn := (b.nextSn + 1) % 65536 }
  if b.size + e.size ≤ cap then ({ b with entries := b.entries ++ [e] }, 0)
  else if stop then ({ b with lost := b.lost + 1, lostLog := b.lostLog + b2n (typ == 1) }, 1)
  else
    let (l, n, g) := dropOldest cap e.size b.entries b.size
    ({ b with entries := l ++ [e], lost := b.lost + n, lostLog := b.lostLog + g }, n)

/-- Raise a counter of die group 0x07 (Table 18.5). -/
def State.dieCount (s : State) (i n : Nat) : State := { s with trace := { s.trace with counters := bump s.trace.counters i n } }

/-- A Drover writes an entry of a type the mask enables into its trace buffer (R411, R412). -/
def State.traceDrover (s : State) (f typ : Nat) (body : List Byte) : State :=
  if !s.trace.mask.getLsbD typ then s
  else
    let (b, n) := (s.field f).trace.add 65536 s.trace.droverStop typ (droverUid f) s.tbase body
    (s.modField f (fun fd => { fd with trace := b })).dieCount 2 n

/-- One Shepherd writes an entry into its trace buffer. -/
def State.traceOne (s : State) (b : Bool) (typ : Nat) (body : List Byte) : State :=
  let (t, n) := (s.pair.shc b).trace.add 1048576 s.trace.shcStop typ (shcUid b) s.tbase body
  let s := s.modShc b (fun x => { x with trace := t })
  if s.activeShc == some b then s.dieCount 2 n else s

/-- The Shepherds in service write an entry into their trace buffers; a follower keeps its own (R370, R411). -/
def State.traceShc (s : State) (typ : Nat) (body : List Byte) : State :=
  if !s.trace.mask.getLsbD typ then s
  else
    let s := match s.activeShc with | some b => s.traceOne b typ body | none => s
    match s.follower with | some b => s.traceOne b typ body | none => s

/-- A firmware log entry at a trace point (R370, Table 15.5); entries above the minimum level are not written (R412). -/
def State.log (s : State) (point level : Nat) (args : List Nat) : State :=
  if s.trace.minLevel < level then s
  else
    let v := match s.fw.running with | some i => i.version.toNat | none => 0
    let b := b2n (s.activeShc == some true)
    let s := s.traceShc 1 (le 8 s.tbase ++ le 2 point ++ le 1 level ++ le 1 b ++ le 4 v ++ fit 16 (args.flatMap (le 4)))
    match s.activeShc with
    | some b => s.modShc b (fun x => { x with tracePoint := point })
    | none => s

end Sys2Proof.Machine
end

