-- ==== Sys2Proof/Machine/Report.lean ====
section
/-! DEFINITION. Reporting an error or an event: the first-error latch (R280 to R283), the alarm pins (R95, R284), the
non-maskable trap, the record, and the reactions in the order of R274; and the Drover event buffers that hold reports
while no active Shepherd with firmware takes them (R354, R359). -/

namespace Sys2Proof.Machine

/-- Change an alarm pin. -/
def State.modPin (s : State) (fatal : Bool) (g : Pin → Pin) : State :=
  if fatal then { s with pins := { s.pins with fatal := g s.pins.fatal } } else { s with pins := { s.pins with err := g s.pins.err } }
/-- An alarm pin. -/
def State.pin (s : State) (fatal : Bool) : Pin := if fatal then s.pins.fatal else s.pins.err
/-- Drive an alarm pin to a level; 0 is low. The Warden drivers keep FATAL_N low as long as they pull it (R94). -/
def State.drivePin (s : State) (fatal : Bool) (v : Nat) : State :=
  s.send (.sig (if fatal then .fatalN else .errN) 0 (if fatal && s.pins.wardenFatal then 0 else v))

/-- A PIN reaction: the pin falls for at least 1 us; an event while it is low restarts that time; an event in the high time
of release mode is held (R95, R284). The pins are not driven while both Shepherds are lost. -/
def State.assertPin (s : State) (fatal : Bool) : State :=
  let p := s.pin fatal
  if s.pair.bothLost then s
  else if p.low then s.modPin fatal (fun p => { p with lowEnd := some (s.tbase + 1000) })
  else if p.highEnd.isSome then s.modPin fatal (fun p => { p with waiting := true })
  else (s.modPin fatal (fun p => { p with low := true, mode := p.modeReg, held := p.modeReg, clear := false,
                                          lowEnd := some (s.tbase + 1000) })).drivePin fatal 0

/-- The part that a UID names can be reset by PARTRST (R285). -/
def partResettable (u : Uid) : Bool :=
  let e := uidElem u
  match uidLevel u with
  | 5 => decide (e ≤ 4) || (decide (8 ≤ e) && decide (e < 8 + Config.crooks)) || (decide (0x10 ≤ e) && decide (e ≤ 0x13))
  | 6 => decide (e ≤ 4) || (decide (8 ≤ e) && decide (e ≤ 0x15))
  | _ => false

/-- Handling flags of the latch are not all clear. -/
def Ferr.handling (l : Ferr) : Bool := l.fence || l.nmi || l.partrst || l.reset

/-- The domain that a data-plane report fences: the flock for a UC, the field for an FE (R272). -/
def fenceDom (u : Uid) (cls : Nat) : Uid := if cls = clsFE then fieldUid (uidField u) else flockUid (uidField u) (uidFlock u)

/-- The first-error latch takes a UC or FE: capture, merge or overflow (R281). `sq` is the number its record takes. -/
def Ferr.take (l : Ferr) (e : Ev) (sq : Nat) (fence nmi part reset : Bool) : Ferr :=
  let add := fun (l : Ferr) => { l with
    fence := l.fence || fence, nmi := l.nmi || nmi, partrst := l.partrst || part, reset := l.reset || reset
    fences := if fence then insertNew l.fences (fenceDom e.uid e.cls) else l.fences
    parts := if part then insertNew l.parts e.uid else l.parts }
  if !l.valid then
    add { l with valid := true, cls := e.cls, code := e.code, uid := e.uid, tbase := e.tbase, sequence := sq,
                 merges := 0, muids := [], feMerged := false, fence := false, nmi := false, partrst := false,
                 reset := false, fences := [], parts := [] }
  else if l.handling then
    add { l with merges := sat 65535 (l.merges + 1)
                 muids := if e.uid ∈ l.muids ∨ e.uid = l.uid ∨ 8 ≤ l.muids.length then l.muids else l.muids ++ [e.uid]
                 feMerged := l.feMerged || e.cls == clsFE }
  else { l with overflow := true }

/-- The non-maskable trap to the control cores of both Shepherds (Table 11.3); not raised again while the NMI flag is set (R282). -/
def State.raiseNmi (s : State) : State :=
  if s.pair.a.nmi.isSome || s.pair.b.nmi.isSome then s
  else
    let go := fun (s : State) (b : Bool) =>
      match (s.pair.shc b).status with
      | .active | .following => (s.modShc b (fun x => { x with nmi := some s.tbase })).sig .shcNmi (b2n b) 1
      | _ => s
    go (go s false) true

/-- The record of an event of class EV, with its INT and PIN reactions (R273, R274, R279). -/
def State.event (s : State) (code : Nat) (uid : Uid) (payload : List Byte) (opId : BitVec 64 := 0) : State :=
  let e : Ev := { code := code, cls := clsEV, sev := severityOf code clsEV, uid := uid, tbase := s.tbase, opId := opId, payload := payload }
  let m := s.mask code clsEV
  (if bit m 5 then s.assertPin false else s).form e false (bit m 0)

/-- What a report does, in the order of R274: the latch, the pins, the trap, the record and its posting; then the part reset,
the die reset or recovery and the reset of the fenced domain are ordered. `latched` is a report that the latch and the pins
took while no firmware ran (`mine`: the one it captured, whose record number the latch takes now), `parted` one whose part the Drovers have reset already. An uncorrectable error of a core's usable
SRAM resets die compute under policy item 0x0C04; its reaction is FENCE, not DIERST (R272, R305, Table 12.1). -/
def State.takeReport (s : State) (e : Ev) (latched parted : Bool) : State :=
  let m := s.mask e.code e.cls
  let dp := isDataPlane e.code
  let err := e.cls == clsUC || e.cls == clsFE
  let react := !dp && e.cls != clsEV
  let fence := dp && err
  let pin := bit m 5 && !(dp && e.cls == clsCE)
  let nmi := react && bit m 1
  let part := react && bit m 2 && partResettable e.uid && !parted
  let sram := e.code == 0x1101 && e.cls == clsUC && s.policy.sramDepth == 1
  let reset := react && (bit m 3 || bit m 4)
  let mine := latched && s.ferr.valid && s.ferr.code == e.code && s.ferr.uid == e.uid && s.ferr.tbase == e.tbase
  let captured := err && (mine || (!s.ferr.valid && !latched))
  let ovf := err && !latched && s.ferr.valid && !s.ferr.handling && !s.ferr.overflow
  let s := if err && !latched then { s with ferr := s.ferr.take e s.tally.next fence nmi part reset }
    else if mine then { s with ferr := { s.ferr with sequence := s.tally.next } } else s
  let s := if pin && !latched then s.assertPin (e.cls == clsFE) else s
  let s := if nmi then s.raiseNmi else s
  let s := s.form e captured (bit m 0 || e.cls == clsFE)
  let s := if ovf then s.event 0x010A dieUid (zeros 4 ++ le 4 e.uid.toNat ++ le 2 e.code) else s
  let s := if part then { s with due := s.due ++ [.partrst e.uid] } else s
  let s := if react && bit m 4 then { s with due := s.due ++ [.recover e.code] }
    else if react && bit m 3 then { s with due := s.due ++ [.dierst e.code] } else s
  if fence then { s with due := s.due ++ [.level0 (if sram then dieUid else fenceDom e.uid e.cls) 0 e.code] } else s

/-- A Drover keeps a report in its event buffer: from 7,168 entries CE and EV are only counted, when full UC and FE too (R354). -/
def State.bufferReport (s : State) (f : Nat) (e : Ev) (latched parted : Bool) : State :=
  let n := s.bufferHeld f
  s.modField f fun fd =>
    let minor := e.cls == clsCE || e.cls == clsEV
    let above := if 7168 ≤ n + 1 then (match fd.bufAbove with | some t => some t | none => some s.tbase) else fd.bufAbove
    if Config.eventBuffer ≤ n ∨ (minor ∧ 7168 ≤ n) then
      { fd with bufCounts := if fd.bufCounts.any (fun p => p.1 == e.code)
                  then fd.bufCounts.map (fun p => if p.1 == e.code then (p.1, p.2.1 + 1, p.2.2) else p)
                  else fd.bufCounts ++ [(e.code, 1, e.uid)]
                bufCeEv := fd.bufCeEv + b2n minor, bufUcFe := fd.bufUcFe + b2n (!minor), bufAbove := above }
    else { fd with buffer := fd.buffer ++ [{ sn := fd.bufSn, ev := e, latched := latched, parted := parted }],
                   bufSn := (fd.bufSn + 1) % 65536, bufAbove := above }

/-- A Drover keeps a message to the pair that is no error report in its event buffer. DEDUCED: the buffer's last 1,024 entries do not take
it (R354, log 94). -/
def State.bufferMessage (s : State) (f : Nat) (e : EvEntry) : State :=
  if 7168 ≤ s.bufferHeld f then s
  else s.modField f (fun fd => { fd with buffer := fd.buffer ++ [{ e with sn := fd.bufSn }], bufSn := (fd.bufSn + 1) % 65536
                                         bufAbove := if s.bufferHeld f + 1 = 7168 then some s.tbase else fd.bufAbove })

/-- The field whose event buffer holds a report of a unit: its own, and for the die the active Shepherd's field. -/
def bufField (u : Uid) : Nat := if uidLevel u = 4 then Config.shcField false else uidField u

/-- A report reaches the active Shepherd, or waits in a Drover event buffer: while no firmware runs (the latch and the pins
still act, R84, R359), during a gap or the loss of both Shepherds (R353, R357), or while the Drover has no TBASE (R33). The
Drovers then carry out a PARTRST of a field-resident part themselves (R353). -/
def State.reportEv (s : State) (e : Ev) : State :=
  let f := bufField e.uid
  let m := s.mask e.code e.cls
  let parted := !isDataPlane e.code && e.cls != clsEV && bit m 2 && uidLevel e.uid == 5 && partResettable e.uid
  let stamped := uidLevel e.uid == 4 || uidLevel e.uid == 6 || (s.field f).tbaseSet
  if s.firmware && stamped then s.takeReport e false false
  else
    let s := if parted then { s with due := s.due ++ [.partrst e.uid] } else s
    if s.activeShc.isSome && stamped then
      let err := e.cls == clsUC || e.cls == clsFE
      let fence := isDataPlane e.code && err
      let s := if err then { s with ferr := s.ferr.take e s.tally.next fence false parted false } else s
      let s := if bit m 5 && !(isDataPlane e.code && e.cls == clsCE) then s.assertPin (e.cls == clsFE) else s
      s.bufferReport f e true parted
    else s.bufferReport f e false parted

/-- Report an error of a code with one class. -/
def State.report (s : State) (code : Nat) (uid : Uid) (payload : List Byte) (opId : BitVec 64 := 0) : State :=
  let c := classOf code clsUC
  s.reportEv { code := code, cls := c, sev := severityOf code c, uid := uid, tbase := s.tbase, opId := opId, payload := payload }

/-- Report a code whose class comes with the report (data-plane codes, 0x0403 and 0x7015). -/
def State.reportCls (s : State) (code cls : Nat) (uid : Uid) (payload : List Byte) (opId : BitVec 64 := 0) : State :=
  s.reportEv { code := code, cls := cls, sev := severityOf code cls, uid := uid, tbase := s.tbase, opId := opId, payload := payload }

/-- Record an event of class EV, or hold it while no firmware takes it. -/
def State.note (s : State) (code : Nat) (uid : Uid) (payload : List Byte) (opId : BitVec 64 := 0) : State :=
  s.reportCls code clsEV uid payload opId

/-- Payload of a record about a unit of a field: the field's core-cycle count in bytes 44-51, then four bytes (R35). -/
def State.cyclePayload (s : State) (f : Nat) (rest : List Byte) : List Byte := le 8 (s.cycleCount f) ++ fit 4 rest

end Sys2Proof.Machine
end

