-- ==== Sys2Proof/Machine/Hurdles.lean ====
section
/-! DEFINITION. Hurdles: closing, what a closing hurdle ends, and reopening (R57, R294, R422). -/

namespace Sys2Proof.Machine

/-- Change the recovery state. -/
def State.modRec (s : State) (g : Recovery → Recovery) : State := { s with recovery := g s.recovery }

/-- Flocks listed in the state that lie in a domain. -/
def State.listedFlocks (s : State) (d : Uid) : List (Nat × Nat) :=
  (s.flocks.map (fun p => (p.1 / 64, p.1 % 64))).filter (fun p => domHasFlock d p.1 p.2)
/-- Cores listed in the state that lie in a domain. -/
def State.listedCores (s : State) (d : Uid) : List (Nat × Nat × Nat) :=
  (s.cores.map (fun p => (p.1 / 2048, p.1 / 32 % 64, p.1 % 32))).filter (fun p => domHasFlock d p.1 p.2.1)

/-- A hurdle closes on a domain that contains flock `k` of field `f`, or the flock's own hurdle is held (R251, R255, R294). -/
def State.hurdled (s : State) (f k : Nat) : Bool :=
  (s.flock f k).hurdleHeld || s.recovery.hurdles.any (fun h => domHasFlock h.dom f k)
/-- A hurdle covers flock `k` of field `f` that is not merely held: closed by a FENCE or by a reset (R144, R248). -/
def State.fenced (s : State) (f k : Nat) : Bool := s.recovery.hurdles.any (fun h => !h.held && domHasFlock h.dom f k)
/-- Some hurdle of the list covers the whole domain. -/
def State.hurdleOn (s : State) (d : Uid) : Bool := s.recovery.hurdles.any (fun h => domContains h.dom d)

/-- The clock step of a core goes back to its standing step, when a slice at another step has written its own (R145). -/
def State.stepBack (s : State) (f k c : Nat) : State :=
  let x := s.core f k c
  match x.slice with
  | some sl =>
    if sl.step != x.step && (sl.phase == .stepping || sl.phase == .running) then
      s.sig .fspClkStep (coreUid f k c).toNat (toTwos 3 x.step) else s
  | none => s

/-- fsp_ts_exit rises for a slice (R61). -/
def State.exitSlice (s : State) (f k c : Nat) : State :=
  (s.modCore f k c (fun x => { x with slice := x.slice.map (fun sl => { sl with phase := .exiting, exiting := true }) })).sig
    .fspTsExit (coreUid f k c).toNat 1

/-- A slice ends without a verdict: fsp_ts_exit rises within 8 cycles, with the standing step written back; the slice counts as
interrupted unless its verdict was given (R57, R62, R145, R146, R154). One whose scratch is still being written has not begun. -/
def State.cutSlice (s : State) (f k c : Nat) : State :=
  match (s.core f k c).slice with
  | none => s
  | some sl =>
    if sl.exiting || sl.phase == .writing then s
    else
      let s := s.stepBack f k c
      let s := if sl.phase == .returning then s else s.modCore f k c (fun x => { x with counters := bump x.counters 6 1 })
      s.exitSlice f k c

/-- A copy under way on a flock is abandoned, and is no failure: fsp_copy_req falls, of a flock copy on both FSPs (R251, R422). -/
def State.abandonCopy (s : State) (f k : Nat) : State :=
  match (s.flock f k).copy with
  | none => s
  | some cp =>
    let s := (s.modFlock f k (fun fl => { fl with copy := none })).sig .fspCopyReq (flockUid f k).toNat 0
    if cp.flockCopy then s.sig .fspCopyReq (flockUid f cp.dst).toNat 0 else s

/-- The flocks outside a domain whose flock copy goes to a spare flock of the domain. -/
def State.copiesInto (s : State) (d : Uid) : List (Nat × Nat) :=
  (s.flocks.map (fun p => (p.1 / 64, p.1 % 64))).filter (fun p =>
    match (s.flock p.1 p.2).copy with
    | some cp => cp.flockCopy && domHasFlock d p.1 cp.dst && !domHasFlock d p.1 p.2
    | none => false)

/-- What a closing hurdle ends in its domain: test slices (R57), and a copy under way, which is abandoned
and is no failure (R422). Planned windows stay, and are busy skips when they open (R144). A flock outside the domain whose copy to its spare flock ends so leaves its Muster point. -/
def State.quench (s : State) (d : Uid) : State :=
  let s := s.forEach (s.listedCores d) (fun s p => s.cutSlice p.1 p.2.1 p.2.2)
  let s := s.forEach (s.listedFlocks d) (fun s p => s.abandonCopy p.1 p.2)
  s.forEach (s.copiesInto d) (fun s p =>
    let s := s.abandonCopy p.1 p.2
    { s with musters := s.musters.map (fun m => { m with left := without m.left (flockKey p.1 p.2) }) })

/-- Close the hurdle of a domain, unless a hurdle that is not merely held covers it already (R272, R294, R298):
fsp_hdl_close rises on every FSP of the domain; a die-wide order goes to the Drovers on both planes (R25). Behind a hurdle that
is merely held the domain is closed and drained. -/
def State.closeHurdle (s : State) (d : Uid) (cause code : Nat) : State :=
  if s.recovery.hurdles.any (fun h => !h.held && domContains h.dom d) then s
  else
    let h : Hurdle := { dom := d, cause := cause, code := code, began := s.tbase }
    if s.hurdleOn d then
      (s.modRec (fun r => { r with hurdles := r.hurdles ++ [{ h with phase := .drained, closedAt := s.tbase }] })).quench d
    else
      let s := if d = dieUid then s.toDrovers .hurdleClose cause else s
      ((s.modRec (fun r => { r with hurdles := r.hurdles ++ [h] })).sig .fspHdlClose d.toNat 1).quench d

/-- fsp_hdl_close falls on the FSPs of a domain, but on those whose flock keeps its own hurdle (R251, R255). -/
def State.openPorts (s : State) (d : Uid) : State :=
  if (s.listedFlocks d).all (fun p => !(s.flock p.1 p.2).hurdleHeld) then s.sig .fspHdlClose d.toNat 0
  else s.forEach ((domFlocks d).filter (fun p => !(s.flock p.1 p.2).hurdleHeld)) (fun s p => s.sig .fspHdlClose (flockUid p.1 p.2).toNat 0)

/-- Reopen every hurdle inside a domain that is not merely held: fsp_hdl_close and fsp_hdl_flush fall (Table 2.5, R294),
unless a hurdle that is merely held keeps them up. -/
def State.reopenHurdle (s : State) (d : Uid) : State :=
  let gone := s.recovery.hurdles.filter (fun h => !h.held && domContains d h.dom)
  let s := s.modRec (fun r => { r with hurdles := r.hurdles.filter (fun h => h.held || !domContains d h.dom) })
  let s := s.forEach gone (fun s h =>
    let s := if h.dom = dieUid then s.toDrovers .hurdleOpen 0 else s
    let s := s.sig .fspHdlFlush h.dom.toNat 0
    if s.hurdleOn h.dom then s else s.openPorts h.dom)
  s.forEach (s.listedFlocks d) (fun s p => s.modFlock p.1 p.2 (fun x => { x with flush := false }))

/-- Hold the hurdles of the whole die closed until the next JOB_BEGIN (R300, R393, R395). -/
def State.holdHurdles (s : State) : State :=
  let s := s.closeHurdle dieUid 2 0
  s.modRec (fun r => { r with hurdles := [{ dom := dieUid, cause := 2, began := s.tbase, phase := .drained, closedAt := s.tbase, held := true }] })

/-- Raise a data-plane error of the Drover's own making, of class UC: the Drover closes the flock's hurdle by itself, and the
report follows (R270, R272). -/
def State.reportPlane (s : State) (code : Nat) (uid : Uid) (rest : List Byte) : State :=
  (s.closeHurdle (fenceDom uid clsUC) 0 code).reportCls code clsUC uid (s.cyclePayload (uidField uid) rest)

end Sys2Proof.Machine
end

