-- ==== Sys2Proof/Machine/Rotation.lean ====
section
/-! DEFINITION. The rotation list of a core and the length of a slice (R131, R144). -/

namespace Sys2Proof.Machine

/-- Patterns of the pack that runs. -/
def State.patterns (s : State) : List Pattern := match s.screen.running with | some p => p.patterns | none => []
/-- A pattern of the pack that runs. -/
def State.patternOf (s : State) (i : Nat) : Pattern := s.patterns.getD i {}

/-- Core `c` of flock `k` belongs to the Bellwether flock of its field: the spare flock, unconsumed (R150). -/
def State.isBellwether (s : State) (f k : Nat) : Bool := k == s.spareOf f && (s.flock f k).logical.isNone

/-- The unconsumed spare flock of a field is eligible: at least S of its cores are Healthy or Watched, and it is itself in
service (R251). -/
def State.spareFlockEligible (s : State) (f : Nat) : Bool :=
  let k := s.spareOf f
  let fl := s.flock f k
  fl.logical.isNone && !fl.st.gone
  && decide (Config.slots ≤ ((List.range Config.cores).filter (fun c => (s.core f k c).st.fitSpare)).length)

/-- Guard items are in the rotation list: policy item 0x0501, and always on the Bellwether flock (R144, R150). -/
def State.guardItems (s : State) (f k : Nat) : Bool := s.policy.guard == 1 || (s.policy.bell == 1 && s.isBellwether f k)

/-- The rotation list of physical core `c` (R144): pattern order from (c * 97) mod the pattern count, each pattern's guard
item after its nominal item. -/
def State.rotation (s : State) (f k c : Nat) : List Item :=
  let n := s.patterns.length
  (List.range n).flatMap fun i =>
    let p := (c * 97 + i) % n
    if s.guardItems f k && (s.patternOf p).guard then [{ pattern := p }, { pattern := p, guard := true }] else [{ pattern := p }]

/-- The clock step an item runs at on a core with standing step `s` (R144). -/
def Item.g (it : Item) (step : Int) : Int := if it.guard then step + 1 else step
/-- dur(p, g) (R144). -/
def durOf (runtime : Nat) (g : Int) : Nat := ceilDiv (runtime * 16) (16 + g).toNat
/-- need(p, g) (R144). -/
def needOf (runtime : Nat) (g step : Int) : Nat := 97 + durOf runtime g + (if g = step then 0 else 16)

/-- The stepped clock of a guard item exceeds the fused maximum (R60, R144): clk(field) * (17 + s) / 16. -/
def State.overFused (s : State) (f : Nat) (step : Int) : Bool :=
  decide ((Config.fusedMax : Int) * 16 < ((s.field f).freq : Int) * (17 + step))

/-- The first pattern indices of the re-test of a core (R246): the failing pattern, then the next of classes 0 and 1, then
the next of the others, counted from the first unused nominal item, round the list, each once, up to 32. -/
def State.retestItems (s : State) (f k c : Nat) (pat : Option Nat) : List Nat :=
  let noms := (s.rotation f k c).filter (fun it => !it.guard)
  let used := (s.core f k c).used
  let start := noms.findIdx (fun it => !(used.contains it))
  let start := if start < noms.length then start else 0
  let order := ((noms.drop start) ++ (noms.take start)).map (·.pattern)
  let first := match pat with | some p => if p < s.patterns.length then [p] else [] | none => []
  let rest := order.filter (fun p => !(first.contains p))
  let hard := rest.filter (fun p => decide ((s.patternOf p).cls ≤ 1))
  let soft := rest.filter (fun p => !decide ((s.patternOf p).cls ≤ 1))
  (first ++ hard ++ soft).take 32

end Sys2Proof.Machine
end

