-- ==== Sys2Proof/Machine/Sparing.lean ====
section
/-! DEFINITION. Unit states and what moves them: findings on cores, lanes and flocks, shelter, re-test, the decision
between core fold, flock fold and thin, the fold list, the disabled-unit map and the grade (R240 to R259). -/

namespace Sys2Proof.Machine

/-- Code of a shelter in a record (Table 10.11). -/
def Shelter.code : Shelter → Nat
  | .none => 0 | .trim => 1 | .step => 2

/-- Bytes 0 to 30 of a fold-list entry (Table 10.5): the CRC covers bytes 0 to 23. -/
def FoldEntry.body (e : FoldEntry) : List Byte :=
  let b := le 4 e.sequence ++ le 1 e.kind ++ le 1 e.state ++ le 1 e.slot ++ le 1 e.value ++ le 4 e.uid.toNat ++ le 4 e.opSec ++ le 3 e.pcc ++ zeros 1
    ++ le 4 e.row.toNat
  b ++ le 4 (crc32c b) ++ zeros 3
/-- A committed fold-list entry, with its valid mark (Table 10.5). -/
def FoldEntry.bytes (e : FoldEntry) : List Byte := e.body ++ [0xA5]
/-- The entry that 32 bytes of flash hold; none without the valid mark or with a wrong CRC (R259). -/
def foldEntryOf (b : List Byte) : Option FoldEntry :=
  if b.length = 32 ∧ rd b 31 1 = 0xA5 ∧ rd b 24 4 = crc32c (b.take 24) then
    some { sequence := rd b 0 4, kind := rd b 4 1, state := rd b 5 1, slot := rd b 6 1, value := rd b 7 1, uid := BitVec.ofNat 32 (rd b 8 4),
           opSec := rd b 12 4, pcc := rd b 16 3, row := BitVec.ofNat 32 (rd b 20 4) }
  else none
/-- The header of an area (R258). -/
def foldHeader (gen : Nat) : List Byte :=
  let b : List Byte := [0x46, 0x4F, 0x4C, 0x44] ++ le 4 gen ++ zeros 16
  b ++ le 4 (crc32c b) ++ zeros 3 ++ [0xA5]
/-- The generation of an area with a valid header (R258, R259). -/
def FoldArea.gen (a : FoldArea) : Option Nat :=
  let b := a.header
  if b.length = 32 ∧ b.take 4 = [0x46, 0x4F, 0x4C, 0x44] ∧ rd b 31 1 = 0xA5 ∧ rd b 24 4 = crc32c (b.take 24) then some (rd b 4 4) else none
/-- What a start finds in flash: the area with a valid header and the higher generation, and its valid entries (R259). With no valid header the
list is empty, in area 0 (log 98). -/
def FoldList.found (l : FoldList) : FoldList :=
  let useB := match l.areaA.gen, l.areaB.gen with
    | some a, some b => decide (a < b)
    | none, some _ => true
    | _, none => false
  let x := if useB then l.areaB else l.areaA
  let es := x.slots.filterMap foldEntryOf
  { areaA := l.areaA, areaB := l.areaB, gen := x.gen.getD 0, area := b2n useB, entries := es, grade := l.grade
    next := match es.getLast? with | some e => e.sequence + 1 | none => 0 }
/-- Append an entry to the fold list (R258, R259). -/
def State.foldEntry (s : State) (kind state slot value : Nat) (u : Uid) (row : BitVec 32 := 0) : State :=
  let e : FoldEntry := { sequence := s.folds.next, kind := kind, state := state, slot := slot, value := value, uid := u,
                         opSec := s.opSeconds, pcc := s.tally.powerCycles, row := row }
  { s with folds := { s.folds with waiting := s.folds.waiting ++ [e], next := s.folds.next + 1 } }

/-- Move a core to a state and record 0x7030 (R241, Table 10.11). -/
def State.coreTo (s : State) (f k c : Nat) (new : UnitState) (cause : Nat) : State :=
  let old := (s.core f k c).st
  if old = new then s
  else
    let s := s.modCore f k c (fun x => { x with st := new })
    s.note 0x7030 (coreUid f k c) (s.cyclePayload f
      [BitVec.ofNat 8 old.code, BitVec.ofNat 8 new.code, BitVec.ofNat 8 cause, BitVec.ofNat 8 (s.core f k c).shelter.code])

/-- Move a lane to a state and record 0x7030. -/
def State.laneTo (s : State) (f k c l : Nat) (new : UnitState) (cause : Nat) : State :=
  let old := (s.lane f k c l).st
  if old = new then s
  else
    let s := s.modLane f k c l (fun x => { x with st := new })
    s.note 0x7030 (laneUid f k c l) (s.cyclePayload f [BitVec.ofNat 8 old.code, BitVec.ofNat 8 new.code, BitVec.ofNat 8 cause, 0])

/-- Move a flock to a state and record 0x7030. -/
def State.flockTo (s : State) (f k : Nat) (new : UnitState) (cause : Nat) : State :=
  let old := (s.flock f k).st
  if old = new then s
  else
    let s := s.modFlock f k (fun x => { x with st := new })
    s.note 0x7030 (flockUid f k) (s.cyclePayload f [BitVec.ofNat 8 old.code, BitVec.ofNat 8 new.code, BitVec.ofNat 8 cause, 0])

/-- The spare core of a flock that a fold or a twin may use: unconsumed and Healthy or Watched (R250). -/
def State.usableSpare (s : State) (f k : Nat) : Option Nat :=
  match (s.flock f k).spareCore with
  | some c => if (s.core f k c).st.fitSpare then some c else none
  | none => none

/-- The unconsumed spare core of a flock: the core that serves no slot, unless it is Folded or Retired (R24, R243). -/
def State.unconsumedSpare (s : State) (f k : Nat) : Option Nat :=
  match (s.flock f k).spareCore with
  | some c => if (s.core f k c).st.gone then none else some c
  | none => none

/-- A byte that names a unit, or 0xFF. -/
def byteOr (o : Option Nat) : Byte := match o with | some v => BitVec.ofNat 8 v | none => 0xFF

/-- The disabled slots of a flock as a count. -/
def Flock.disabledCount (fl : Flock) : Nat := fl.disabled.length

/-- Event 0x7034 of a flock (Table 10.11). -/
def State.noteThin (s : State) (f k : Nat) (slot : Option Nat) (pending : Bool) : State :=
  let fl := s.flock f k
  s.note 0x7034 (flockUid f k) (s.cyclePayload f
    [byteOr fl.logical, byteOr slot, BitVec.ofNat 8 (b2n pending), BitVec.ofNat 8 fl.disabledCount])

/-- The fold of a core becomes a pending thin of its slot (R254). -/
def State.pendThin (s : State) (f k c : Nat) : State :=
  match (s.flock f k).slotOf c with
  | none => s
  | some j =>
    if (s.flock f k).thinPending.contains j then s
    else
      let s := s.modFlock f k (fun fl => { fl with thinPending := insertNew fl.thinPending j })
      let s := s.note 0x7031 (coreUid f k c) (s.cyclePayload f [3, BitVec.ofNat 8 j, 0xFF])
      s.noteThin f k (some j) true

/-- A whole-flock fold becomes pending (R251). -/
def State.pendFlock (s : State) (f k cause : Nat) (core : Option Nat) (requested : Bool) : State :=
  if (s.flock f k).foldPending then s.modFlock f k (fun fl => { fl with foldRequested := fl.foldRequested || requested })
  else
    let s := s.flockTo f k .suspect cause
    let s := s.modFlock f k (fun fl => { fl with foldPending := true, foldRequested := requested, foldCore := core, foldFails := 0 })
    s.note 0x7031 (flockUid f k) (s.cyclePayload f [2, 0xFF, 0xFF])

/-- The fold a fold-pending core needs: to the flock's spare core, else of the flock, else a thin (R250, R251, R254). -/
def State.decideFold (s : State) (f k c : Nat) : State :=
  match s.usableSpare f k with
  | some sp => s.note 0x7031 (coreUid f k c) (s.cyclePayload f [1, byteOr ((s.flock f k).slotOf c), BitVec.ofNat 8 sp])
  | none => if s.spareFlockEligible f then s.pendFlock f k 0x31 (some c) false else s.pendThin f k c

/-- The flock's spare core is usable no more: its cores whose fold is pending need a flock fold or a thin instead (R251, R254). -/
def State.redecide (s : State) (f k : Nat) : State :=
  if (s.usableSpare f k).isSome || (s.flock f k).foldPending then s
  else s.forEach ((List.range Config.cores).filter (fun c => (s.core f k c).foldPending)) (fun s c =>
    if s.spareFlockEligible f then s.pendFlock f k 0x31 (some c) false else s.pendThin f k c)

/-- A slot-serving core becomes Suspect with fold pending; its shelter stays in force until the fold (R241). -/
def State.coreFoldPending (s : State) (f k c cause : Nat) : State :=
  if (s.core f k c).foldPending then s
  else
    let s := s.coreTo f k c .suspect cause
    let s := s.modCore f k c (fun x => { x with foldPending := true, foldFails := 0, retest := none, stepPending := false })
    s.decideFold f k c

/-- Trim code of a flock: +4 while a core of it is Suspect or Sheltered with a trim shelter in force, else 0 (R245). -/
def State.trimOf (s : State) (f k : Nat) : Int :=
  if (List.range Config.cores).any (fun c =>
      let x := s.core f k c
      x.shelter == .trim && (x.st == .suspect || x.st == .sheltered)) then 4 else 0

/-- Write the flock's trim on fsp_ldo_trim when it differs from the code in force (R60, R245). -/
def State.writeTrim (s : State) (f k : Nat) (code : Int) : State :=
  if (s.flock f k).trim = code then s
  else (s.modFlock f k (fun fl => { fl with trim := code, ldoOk := false })).sig .fspLdoTrim (flockUid f k).toNat (toTwos 5 code)

/-- The re-test of a core opens (R246); with no pack running a slot-serving core goes to fold pending at once. -/
def State.openRetest (s : State) (f k c : Nat) : State :=
  let x := s.core f k c
  let served := ((s.flock f k).slotOf c).isSome
  if s.patterns.isEmpty && served then s.coreFoldPending f k c x.cause
  else
    let r : Retest := { items := s.retestItems f k c x.failPattern, deadline := s.tbase + s.policy.retest * 1000000000, open_ := true }
    s.modCore f k c (fun x => { x with retest := some r, retestCount := 0 })

/-- The clock-step shelter: the standing step is written at the next Muster point (R245 method 1). -/
def State.shelterStep (s : State) (f k c : Nat) : State :=
  s.modCore f k c (fun x => { x with shelter := .step, stepPending := true })

/-- Voltage of the OTP voltage-frequency table for a frequency in 25 MHz steps (R323): 0.70 V at 800 MHz, 0.80 V at
1,500 MHz, 0.84 V at 1,600 MHz; the steps between are OTP data. -/
def voltOf (mhz : Nat) : Nat :=
  if mhz ≤ 800 then 700 else if mhz = 1500 then 800 else if 1600 ≤ mhz then 840 else Config.voltStep ((mhz - 800) / 25)

/-- A slot-serving core becomes Suspect and its shelter starts, as policy item 0x0A00 selects (R241, R245). -/
def State.coreSuspect (s : State) (f k c cause : Nat) (pat : Option Nat) : State :=
  let s := s.coreTo f k c .suspect cause
  let s := s.modCore f k c (fun x => { x with cause := cause, failPattern := pat })
  if s.policy.shelter = 2 then s.coreFoldPending f k c cause
  else if s.policy.shelter = 0 ∧ voltOf s.power.fset + 20 ≤ Config.voltageCap then
    let s := s.modCore f k c (fun x => { x with shelter := .trim })
    if (s.flock f k).trim = s.trimOf f k then
      if (s.flock f k).ldoOk then s.openRetest f k c else s.modFlock f k (fun fl => { fl with ldoWait := some c })
    else (s.writeTrim f k (s.trimOf f k)).modFlock f k (fun fl => { fl with ldoWait := some c })
  else s.shelterStep f k c

/-- A finding on a slot-serving core (Table 10.2). -/
def State.servingFinding (s : State) (f k c : Nat) (kind : Finding) (cause : Nat) (pat : Option Nat) : State :=
  let x := s.core f k c
  match kind, x.st with
  | .guardFail, .healthy => s.coreTo f k c .watched cause
  | .guardFail, .sheltered => s.coreFoldPending f k c cause
  | .cluster, .healthy => s.coreTo f k c .watched cause
  | .detection, .healthy => s.coreSuspect f k c cause pat
  | .detection, .watched => s.coreSuspect f k c cause pat
  | .detection, .sheltered => s.coreFoldPending f k c cause
  | .detection, .suspect => if x.retest.isSome then s.coreFoldPending f k c cause else s
  | .uc, .healthy => s.coreSuspect f k c cause pat
  | .uc, .watched => s.coreSuspect f k c cause pat
  | .fe, .healthy => s.coreFoldPending f k c cause
  | .fe, .watched => s.coreFoldPending f k c cause
  | .fe, .suspect => s.coreFoldPending f k c cause
  | .fe, .sheltered => s.coreFoldPending f k c cause
  | _, _ => s

/-- A finding on a core that serves no slot (R243): it becomes Suspect and re-tests at step 0 without shelter. -/
def State.spareFinding (s : State) (f k c : Nat) (kind : Finding) (cause : Nat) (pat : Option Nat) : State :=
  let x := s.core f k c
  let repeats := x.guardFails.any (fun p => p.1 == pat && p.2 + 1 == x.passNo)
  let acts := match kind with | .cluster => false | .guardFail => repeats | _ => true
  if acts && x.st.fitSpare then
    let s := s.coreTo f k c .suspect cause
    (s.modCore f k c (fun x => { x with cause := cause, failPattern := pat })).openRetest f k c
  else s

/-- The firmware takes a finding on a core (R241, R243). Cores of a Folded or Retired flock and cores out of service take none. -/
def State.takeFinding (s : State) (f k c : Nat) (kind : Finding) (cause : Nat) (pat : Option Nat := none) : State :=
  if Config.cores ≤ c || (s.core f k c).st.gone || (s.flock f k).st.gone then s
  else
    let s := match kind with
      | .guardFail | .cluster => s.modCore f k c (fun x => { x with passDirty := true })
      | _ => s
    if ((s.flock f k).slotOf c).isSome then s.servingFinding f k c kind cause pat
    else
      let s := (s.spareFinding f k c kind cause pat).redecide f k
      if kind = .guardFail then
        s.modCore f k c (fun x => { x with guardFails := x.guardFails.filter (fun p => decide (x.passNo ≤ p.2 + 1)) ++ [(pat, x.passNo)] })
      else s

/-- A finding on a core (R241, R243); it waits while no firmware runs (Table 15.1). -/
def State.finding (s : State) (f k c : Nat) (kind : Finding) (cause : Nat) (pat : Option Nat := none) : State :=
  if s.firmware then s.takeFinding f k c kind cause pat else { s with due := s.due ++ [.finding f k c kind cause pat] }

/-- A lane becomes Suspect with fold pending; in a core that already skips a lane, the core does as well (R241, R249). -/
def State.takeLaneFinding (s : State) (f k c l cause : Nat) : State :=
  let x := s.core f k c
  if Config.cores ≤ c || Config.lanes ≤ l || x.laneSkip == l || (s.lane f k c l).foldPending || (s.lane f k c l).st.gone
      || x.st.gone || (s.flock f k).st.gone then s
  else
    let second := x.laneSkip != 8 || (List.range Config.lanes).any (fun l' => l' != l && (s.lane f k c l').foldPending)
    let s := (s.laneTo f k c l .suspect cause).modLane f k c l (fun y => { y with foldPending := true })
    let s := s.note 0x7031 (laneUid f k c l) (s.cyclePayload f [0, byteOr ((s.flock f k).slotOf c), 0xFF])
    if second then s.takeFinding f k c .fe cause else s
/-- A finding on a lane (R241, R249); it waits while no firmware runs (Table 15.1). -/
def State.laneFinding (s : State) (f k c l cause : Nat) : State :=
  if s.firmware then s.takeLaneFinding f k c l cause else { s with due := s.due ++ [.laneFinding f k c l cause] }

/-- A CE report of group 0x10 or 0x11 counts toward a cluster of its core, and of its lane when it names one (R242). -/
def State.takeCE (s : State) (f k c : Nat) (lane : Option Nat) (cause at_ : Nat) : State :=
  let span := 3600 * 1000000000
  let need := s.policy.cluster
  let ts := recentTimes s.tbase span (s.core f k c).ceTimes ++ [at_]
  let s := if need ≤ ts.length then (s.modCore f k c (fun x => { x with ceTimes := [] })).takeFinding f k c .cluster cause
    else s.modCore f k c (fun x => { x with ceTimes := ts })
  match lane with
  | none => s
  | some l =>
    let ts := recentTimes s.tbase span (s.lane f k c l).ceTimes ++ [at_]
    if need ≤ ts.length then (s.modLane f k c l (fun y => { y with ceTimes := [] })).takeLaneFinding f k c l cause
    else s.modLane f k c l (fun y => { y with ceTimes := ts })
/-- A corrected error counts (R242); it waits while no firmware runs (Table 15.1). -/
def State.countCE (s : State) (f k c : Nat) (lane : Option Nat) (cause : Nat) : State :=
  if s.firmware then s.takeCE f k c lane cause s.tbase else { s with due := s.due ++ [.countCE f k c lane cause s.tbase] }

/-- A re-test of a slot-serving core passes: Sheltered, with a fold-list entry; of another core: Watched (R241, R243). -/
def State.retestPassed (s : State) (f k c : Nat) : State :=
  let s := s.modCore f k c (fun x => { x with retest := none })
  let x := s.core f k c
  match (s.flock f k).slotOf c with
  | some j =>
    let s := s.coreTo f k c .sheltered x.cause
    if x.shelter == .step then s.foldEntry 2 3 j (toTwos 8 (-1)) (coreUid f k c) else s.foldEntry 1 3 j 4 (coreUid f k c)
  | none => s.coreTo f k c .watched x.cause

/-- A re-test fails: fold pending; a core that serves no slot goes straight to Retired (R241, R243). -/
def State.retestFailed (s : State) (f k c cause : Nat) : State :=
  match (s.flock f k).slotOf c with
  | some _ => s.coreFoldPending f k c cause
  | none =>
    let s := s.modCore f k c (fun x => { x with retest := none })
    ((s.coreTo f k c .retired cause).foldEntry 8 5 0xFF 0 (coreUid f k c)).redecide f k

/-- The slots of a flock that stand disabled once UNFOLD's returns and the pending thins have taken effect, and whether the whole flock is
disabled instead (R254, R255, R261). -/
def Flock.thinned (fl : Flock) (limit : Nat) : List Nat × Bool :=
  let kept := fl.disabled.filter (fun j => !(fl.unfoldSlots.contains j))
  let all := fl.thinPending.foldl insertNew kept
  (all, fl.wholeThin || (!fl.thinPending.isEmpty && decide (limit < all.length)))
/-- Mask of the disabled slots of a logical flock (R256); all slots for a lost field, for a field paddocked off from the next
job onward (R319), and for a disabled flock. -/
def State.maskOf (s : State) (f l : Nat) (next : Bool) : Nat :=
  if (s.field f).pad = .lost ∨ ((s.field f).pad = .off ∧ (next ∨ s.job.active)) then 2 ^ Config.slots - 1
  else match s.physFlock f l with
    | none => 2 ^ Config.slots - 1
    | some k =>
      let fl := s.flock f k
      let after := fl.thinned s.policy.thinLimit
      let off := if !next then fl.disabled else if after.2 then List.range Config.slots else after.1
      ((List.range Config.slots).filter (fun j => off.contains j)).foldl (fun n j => n + 2 ^ j) 0
/-- The disabled-unit map, in effect or for the next job (R256). -/
def State.mapBytes (s : State) (next : Bool) : List Byte :=
  (List.range Config.fields).flatMap fun f => (List.range Config.logicalFlocks).flatMap fun l => le 4 (s.maskOf f l next)
/-- EM64 of the map (R256). -/
def State.mapDigest (s : State) (next : Bool) : BitVec 64 := em64 (s.mapBytes next)

/-- The compatibility grade (R257, Table 10.4); a logical flock that no physical flock serves has every slot disabled. -/
def State.gradeNow (s : State) : Nat :=
  if (List.range Config.fields).any (fun f => (s.field f).pad == .lost) then 2
  else if s.flocks.any (fun p => p.2.logical.isSome && decide (0 < p.2.disabledCount))
      || ((s.flocks.map (fun p => p.1 / 64)).eraseDups).any (fun f => (List.range Config.logicalFlocks).any (fun l => (s.physFlock f l).isNone)) then 1
  else 0
/-- A change of grade records 0x7035 (R257). -/
def State.checkGrade (s : State) : State :=
  let g := s.gradeNow
  let old := s.folds.grade
  if g = old then s
  else ({ s with folds := { s.folds with grade := g } }).note 0x7035 dieUid
    ([BitVec.ofNat 8 old, BitVec.ofNat 8 g, 0, 0] ++ le 8 (s.mapDigest false).toNat)

/-- A fold completes: event 0x7032 (Table 10.11). -/
def State.noteFold (s : State) (u : Uid) (level : Nat) (slot : Option Nat) (now : Nat) (micros : Nat) : State :=
  s.note 0x7032 u (s.cyclePayload (uidField u) [BitVec.ofNat 8 level, byteOr slot, BitVec.ofNat 8 now, BitVec.ofNat 8 (sat 255 micros)])

/-- Map write of a slot (R59). -/
def State.mapWrite (s : State) (f k j c : Nat) (dis : Bool) : State :=
  ((s.sig .fspMapSlot (flockUid f k).toNat j).sig .fspMapCore (flockUid f k).toNat c).sig .fspMapDis (flockUid f k).toNat (b2n dis)
    |>.sig .fspMapWr (flockUid f k).toNat 1

/-- A clean core copy is followed by the map write and the trim write; the core is Folded (R250, R241). -/
def State.coreFolded (s : State) (f k c sp j micros : Nat) : State :=
  let s := s.modFlock f k (fun fl => { fl with slots := setAt fl.slots j sp, thinPending := without fl.thinPending j })
  let s := s.mapWrite f k j sp false
  let s := s.modCore f k c (fun x => { x with foldPending := false, stepPending := false, retest := none })
  let s := s.modCore f k c (fun x => { x with st := .folded, foldedOut := true })
  let s := (s.noteFold (coreUid f k c) 1 (some j) sp micros).foldEntry 4 5 j sp (coreUid f k c)
  let s := s.modCore f k c (fun x => { x with shelter := .none })
  let s := if (s.core f k sp).step = 0 then s
    else (s.modCore f k sp (fun x => { x with step := 0, stepPending := false })).sig .fspClkStep (coreUid f k sp).toNat 0
  (s.writeTrim f k (s.trimOf f k)).redecide f k

/-- A clean flock copy: the spare flock serves the logical flock; the source flock is Folded and its hurdle held (R251). -/
def State.flockFolded (s : State) (f k micros : Nat) : State :=
  let src := s.flock f k
  let sp := s.spareOf f
  let l := src.logical
  let s := s.modFlock f sp (fun fl => { fl with logical := l, disabled := src.disabled, forced := src.forced })
  let s := s.modField f (fun fd => { fd with vmin := none, bellCode := none })
  let s := s.modFlock f k (fun fl => { fl with logical := none, forced := [], foldPending := false, foldRequested := false, foldCore := none,
                                               thinPending := [], wholeThin := false, hurdleHeld := true, st := .folded })
  let s := s.forEach (List.range Config.cores) (fun s c =>
    let s := if (s.core f k c).foldPending || (s.core f k c).retest.isSome then
      s.modCore f k c (fun x => { x with foldPending := false, retest := none, stepPending := false }) else s
    s.forEach (List.range Config.lanes) (fun s l => if (s.lane f k c l).foldPending then s.modLane f k c l (fun y => { y with foldPending := false }) else s))
  let s := s.sig .fspHdlClose (flockUid f k).toNat 1
  (s.noteFold (flockUid f k) 2 none sp micros).foldEntry 5 5 0xFF 0 (flockUid f k)

end Sys2Proof.Machine
end

