-- ==== Sys2Proof/Machine/Frames.lean ====
section
/-! DEFINITION. Service frames: their bytes, the queues of an engine, and the orders for taint and muster notices (R194 to
R197, R205 to R208, R311). -/

namespace Sys2Proof.Machine

/-- The version of the i-th interface that a frame or a trailer follows: the job's set while a job runs, else the negotiated one, 1.0
before negotiation (R121, R123). -/
def State.versionIn (s : State) (i : Nat) : Nat :=
  match (if s.job.active then s.job.ver else s.hif.neg) with | some l => (l.getD i 0x10).toNat | none => 0x10
/-- SVF version of a service frame (R205). -/
def State.svfVersion (s : State) : Nat := s.versionIn 4
/-- EMF version of a trailer (R212). -/
def State.emfVersion (s : State) : Nat := s.versionIn 2

/-- Header bytes 0-39 of a service frame (Table 8.4). -/
def SvcFrame.head (fr : SvcFrame) : List Byte :=
  le 1 fr.ver ++ le 1 fr.typ ++ le 2 fr.body.length ++ le 4 fr.jobId.toNat ++ le 4 fr.src.toNat ++ le 4 fr.dst.toNat
  ++ le 2 fr.epoch.toNat ++ le 1 fr.routeLen ++ le 1 fr.routeIdx ++ fit 16 fr.route ++ fit 4 fr.resv
/-- A service frame with its check, filled to whole beats of 128 bytes (R205). -/
def SvcFrame.bytes (fr : SvcFrame) : List Byte :=
  let l := fr.head ++ le 8 (em64 (fr.head ++ fr.body)).toNat ++ fr.body
  fit (128 * ceilDiv l.length 128) l

/-- Raise a counter of an engine, group 0x06 (Table 18.5). -/
def State.tapCount (s : State) (t i : Nat) : State := s.modTap t (fun x => { x with counters := bump x.counters i 1 })

/-- A dropped service frame is counted and recorded as 0x0507 (R206, R207). -/
def State.dropFrame (s : State) (t : Nat) (reason typ : Nat) (src : BitVec 32) : State :=
  (s.tapCount t 9).note 0x0507 (engineUid t) ([BitVec.ofNat 8 reason, BitVec.ofNat 8 typ, 0, 0] ++ le 4 src.toNat)

/-- Frames an engine's queue holds. -/
def LinkTap.queued (x : LinkTap) : Nat := x.notices.length + x.queue.length

/-- Queue a frame of type 0x03 or 0x04: full, it is dropped (R207). -/
def State.queueFrame (s : State) (t : Nat) (fr : SvcFrame) : State :=
  if 32 ≤ (s.tap t).queued then s.dropFrame t 3 fr.typ fr.src
  else (s.modTap t (fun x => { x with queue := x.queue ++ [fr] })).sig .ltpSvcTxReq t 1

/-- Queue a taint or muster notice: full, it displaces the newest other frame; no notice is ever dropped (R207). -/
def State.queueNotice (s : State) (t : Nat) (fr : SvcFrame) : State :=
  let x := s.tap t
  let s := match x.queue.getLast? with
    | some last => if 32 ≤ x.queued then (s.modTap t (fun x => { x with queue := x.queue.dropLast })).dropFrame t 3 last.typ last.src else s
    | none => s
  (s.modTap t (fun x => { x with notices := x.notices ++ [fr] })).sig .ltpSvcTxReq t 1

/-- Queue a frame by its type. -/
def State.queueAny (s : State) (t : Nat) (fr : SvcFrame) : State :=
  if fr.typ = 1 ∨ fr.typ = 2 then s.queueNotice t fr else s.queueFrame t fr

/-- The taps a notice can leave on now: engine in service, link up. -/
def State.noticeTaps (s : State) : List Nat := s.upTaps.filter (fun t => (s.tap t).linkUp)

/-- A frame of this chip's own, sent to the directly linked peer (R205). -/
def State.ownFrame (s : State) (typ : Nat) (jobId : BitVec 32) (body : List Byte) : SvcFrame :=
  { ver := s.svfVersion, typ := typ, jobId := jobId, src := s.job.rank, dst := 0xFFFFFFFF, epoch := s.job.epoch, body := body }

/-- Event 0x7012 (Table 7.9). -/
def State.noteTaintSent (s : State) (o : TaintOrder) (noTap : Bool) : State :=
  s.note 0x7012 o.uid (s.cyclePayload (uidField o.uid) (le 4 (o.sn.toNat % 2 ^ 31 + b2n noTap * 2 ^ 31))) o.opId

/-- A Drover's order goes to every in-service Earmark engine on both planes (R194, R311). -/
def State.toEngines (s : State) (src : Uid) (k : MeshKind) (arg : Nat) : State := s.broadcast src (s.upTaps.map engineUid) k arg

/-- Rank, taint hop limit and count of notices of the job that an operation belongs to: the present job or the one before it (R195, R198). -/
def Job.taintOf (j : Job) (no : Nat) : BitVec 32 × Nat × Nat :=
  if no = j.no then (j.rank, j.hops, j.notices) else (j.prevRank, j.prevHops, j.prevNotices)
/-- The next notice of that job. -/
def Job.nextNotice (j : Job) (no : Nat) : Job :=
  if no = j.no then { j with notices := j.notices + 1 } else { j with prevNotices := j.prevNotices + 1 }
/-- Order a taint notice on every in-service engine (R194, R195); with no tap up it is recorded unsent. A notice about an operation of the
previous job carries that job's values (R198). -/
def State.orderTaint (s : State) (code verdict : Nat) (u : Uid) (t : TagSt) (coreDig refDig : BitVec 64) : State :=
  let (rank, hops, sn) := s.job.taintOf t.jobNo
  let body := le 4 t.jobId.toNat ++ le 4 rank.toNat ++ le 4 sn ++ le 2 t.epoch.toNat ++ le 6 t.step.toNat ++ le 8 s.tbase
    ++ le 4 u.toNat ++ le 1 verdict ++ le 1 hops ++ le 6 t.inst.toNat ++ le 8 coreDig.toNat ++ le 8 refDig.toNat ++ zeros 8
  let o : TaintOrder := { code := code, uid := u, sn := BitVec.ofNat 32 sn, jobId := t.jobId,
                          opId := BitVec.ofNat 64 (t.epoch.toNat + 65536 * t.step.toNat) }
  let s := { s with job := s.job.nextNotice t.jobNo }
  let s := s.toEngines (droverUid (uidField u)) .taintOrder sn
  let taps := s.noticeTaps
  if taps.isEmpty then s.noteTaintSent o true
  else ({ s with taints := s.taints ++ [o] }).forEach taps (fun s t' => s.queueNotice t' { s.ownFrame 1 t.jobId body with src := rank })

/-- Event 0x0316 (Table 12.8). -/
def State.noteMusterSent (s : State) (o : MusterOrder) (sent : Bool) : State :=
  s.note 0x0316 dieUid (le 4 o.dom.toNat ++ [BitVec.ofNat 8 o.level, BitVec.ofNat 8 (if sent then o.taps else 0), 0, 0] ++ le 4 o.micros) s.job.opId

/-- Order a muster notice on every in-service engine, while a job is active (R311). -/
def State.orderMuster (s : State) (dom : Uid) (level micros : Nat) : State :=
  if !s.job.active then s
  else
    let taps := s.noticeTaps
    let o : MusterOrder := { dom := dom, level := level, micros := micros, taps := taps.length, began := s.tbase }
    let body := le 4 s.job.id.toNat ++ le 4 s.job.rank.toNat ++ le 2 s.job.epoch.toNat ++ le 1 level ++ le 1 0 ++ le 4 dom.toNat
      ++ le 8 s.tbase ++ le 4 micros ++ zeros 36
    let s := s.toEngines (match s.activeShc with | some b => shcUid b | none => droverUid (uidField dom)) .musterOrder dom.toNat
    if taps.isEmpty then s.noteMusterSent o false
    else ({ s with musterOrders := s.musterOrders ++ [o] }).forEach taps (fun s t => s.queueNotice t (s.ownFrame 2 s.job.id body))

end Sys2Proof.Machine
end

