-- ==== Sys2Proof/Machine/Sweeps.lean ====
section
/-! DEFINITION. Digest sweeps, result earmarks and fleece digests: accumulating segments, closing a sweep, the exchanges and
the majority rule (R213 to R219). -/

namespace Sys2Proof.Machine

/-- Change the earmark state. -/
def State.modEarmarks (s : State) (g : Earmarks → Earmarks) : State := { s with earmarks := g s.earmarks }

/-- One detection counts for the governor, in the bin of the current hour (R229, R231). -/
def State.countDetection (s : State) : State :=
  { s with gov := { s.gov with epochDet := s.gov.epochDet + 1, open_ := { s.gov.open_ with det := s.gov.open_.det + 1 } } }
/-- A detection on a core that served a slot when what shows it ran, at most one per core and epoch (R229). -/
def State.countCoreDetection (s : State) (f k c : Nat) (served : Bool) : State :=
  if served && (s.core f k c).detectedEpoch != s.gov.epochs + 1 then
    (s.modCore f k c (fun x => { x with detectedEpoch := s.gov.epochs + 1 })).countDetection
  else s

/-- The bytes of the A stream that a segment digest covers (R214). -/
def sweepBytes (d : CraDesc) (a : List Byte) : List Byte :=
  let t := fmtD d.fa
  a.take (ceilDiv (d.m * d.n * t.bits) 8 + (if t.mx then d.m * ceilDiv d.n 32 else 0))

/-- Sweep prefix of an instance number (R213). -/
def isSweep (n : BitVec 48) : Bool := n.toNat / 2 ^ 40 == 0xFE
/-- Target index of a sweep operation. -/
def sweepTarget (n : BitVec 48) : Nat := n.toNat / 2 ^ 34 % 64
/-- Sweep number of a sweep operation. -/
def sweepNumber (n : BitVec 48) : Nat := n.toNat / 2 ^ 14 % 2 ^ 20
/-- Segment index of a sweep operation. -/
def sweepIndex (n : BitVec 48) : Nat := n.toNat % 2 ^ 14

/-- Tensor ID and segment count of a declared target: a result target, or a fleece region (R212, R218). -/
def Earmarks.target (e : Earmarks) (i : Nat) : Option (BitVec 32 × Nat) :=
  if i < 32 then (e.targets.find? (fun t => t.index == i)).map (fun t => (t.tensor, t.segs))
  else (e.fleece.regions.find? (fun r => r.target == i)).map (fun r => (r.tensor, r.segs))

/-- The latest sweep of a target. -/
def Earmarks.sweep (e : Earmarks) (i : Nat) : Option SweepAcc := e.sweeps.find? (fun a => a.target == i)
/-- Write the latest sweep of a target. -/
def Earmarks.setSweep (e : Earmarks) (a : SweepAcc) : Earmarks :=
  { e with sweeps := e.sweeps.filter (fun b => b.target != a.target) ++ [a] }

/-- Event 0x0506 (Table 8.14). -/
def State.noteSweep (s : State) (target cause count number : Nat) : State :=
  s.note 0x0506 dieUid ([BitVec.ofNat 8 target, BitVec.ofNat 8 cause, 0, 0] ++ le 4 count ++ le 4 number) s.job.closeId

/-- The majority rule of R217 over the values an exchange holds: the chip's own value, and rank and value of each peer, none when missing or
incomplete. The payload's byte 51 counts peers only (Table 8.14). -/
def State.majority (s : State) (code target number : Nat) (own : Option (BitVec 64)) (peers : List (BitVec 32 × Option (BitVec 64))) : State :=
  let held := peers.filterMap (fun p => p.2.map (fun x => (p.1, x)))
  let v := (match own with | some x => [(s.job.rank, x)] | none => []) ++ held
  if v.length < 3 then s
  else
    match maxOn (fun p => (((v.filter (fun q => q.2 == p.2)).length : Nat) : Int)) v with
    | none => s
    | some b =>
      let n := (v.filter (fun q => q.2 == b.2)).length
      let won := decide (v.length < 2 * n)
      let rec_ := fun (s : State) (rank : BitVec 32) =>
        s.report code dieUid (le 4 rank.toNat ++ [BitVec.ofNat 8 target, BitVec.ofNat 8 v.length, BitVec.ofNat 8 (if won then n else 0),
          BitVec.ofNat 8 (peers.length - held.length)] ++ le 4 number) s.job.closeId
      if !won then rec_ s 0xFFFFFFFF
      else
        s.forEach (v.filter (fun q => q.2 != b.2)) (fun s q =>
          let s := rec_ s q.1
          if q.1 = s.job.rank ∧ !s.gov.ownNamed then ({ s with gov := { s.gov with ownNamed := true } }).countDetection else s)

/-- A held body is in time for an exchange (R216). -/
def ExBody.inTime (b : ExBody) (x : Exchange) : Bool := b.target == x.target && b.number == x.number && decide (x.closedAt ≤ b.heldAt + x.wait * 1000)

/-- Close an exchange and apply the majority rule (R216, R217). -/
def State.closeExchange (s : State) (x : Exchange) : State :=
  let bodies := s.earmarks.bodies
  let vals := x.ranks.map (fun r => (r, (bodies.find? (fun b => b.rank == r && b.inTime x)).bind (·.value)))
  let s := s.modEarmarks (fun e => { e with exchanges := e.exchanges.filter (fun y => !(y.target == x.target && y.number == x.number))
                                            bodies := e.bodies.filter (fun b => !(b.target == x.target && b.number == x.number)) })
  s.majority (if x.target < 32 then 0x0504 else 0x0505) x.target x.number x.own vals

/-- Close every exchange that a value from every peer completes (R216). -/
def State.tryExchanges (s : State) : State :=
  s.forEach (s.earmarks.exchanges.filter (fun x => x.ranks.all (fun r => s.earmarks.bodies.any (fun b => b.rank == r && b.inTime x))))
    State.closeExchange

/-- The values a delivered frame of type 0x03 or 0x04 carries: target, sweep number, value (Tables 8.9 and 8.11). -/
def State.frameValues (s : State) (fr : SvcFrame) : List (Nat × Nat × Option (BitVec 64)) :=
  let b := fr.body
  if fr.typ = 3 then
    [(rd b 0 1, rd b 4 4 % 2 ^ 20, if rd b 1 1 = 0 then some (BitVec.ofNat 64 (rd b 16 8)) else none)]
  else
    (List.range (min 32 (rd b 0 1))).filterMap (fun j =>
      let o := 8 + 24 * j
      (s.earmarks.fleece.regions.find? (fun r => r.tensor.toNat == rd b o 4)).map (fun r =>
        (r.target, rd b (o + 4) 4 % 2 ^ 20, if rd b (o + 8) 1 = 0 then some (BitVec.ofNat 64 (rd b (o + 16) 8)) else none)))

/-- The Shepherd holds the received values of a frame (R216, R219). -/
def State.holdValues (s : State) (fr : SvcFrame) : State :=
  let l := s.frameValues fr
  let s := s.forEach l (fun s v => s.modEarmarks (fun e => { e with bodies :=
    (e.bodies.filter (fun q => !(q.target == v.1 && q.number == v.2.1 && q.rank == fr.src)))
      ++ [{ target := v.1, number := v.2.1, rank := fr.src, value := v.2.2, heldAt := s.tbase }] }))
  s.tryExchanges

/-- The regions of the fleece targets with their closed sweep of one number that no fleece frame has carried (R219). -/
def Fleece.ready (e : Fleece) (number : Nat) : List (FleeceRegion × FleeceClose) :=
  e.regions.filterMap (fun r => (e.closes.find? (fun c => c.target == r.target && c.number == number && !c.sent)).map (fun c => (r, c)))
/-- Every region's sweep of a number has closed (R219). -/
def Fleece.allClosed (e : Fleece) (number : Nat) : Bool :=
  e.regions.all (fun r => e.closes.any (fun c => c.target == r.target && c.number == number))
/-- A region's sweep closes: what the region's earlier sent sweeps held goes (R219). -/
def Fleece.close (e : Fleece) (a : SweepAcc) (step now : Nat) : Fleece :=
  { e with
    regions := e.regions.map (fun r => if r.target == a.target then { r with lastStep := step } else r)
    closes := e.closes.filter (fun c => !(c.target == a.target && c.sent))
      ++ [{ target := a.target, number := a.number, value := if a.complete then some a.xor_ else none, closedAt := now }] }

/-- Send the fleece-digest frame of a sweep number to every other replica, and open its exchanges (R219). -/
def State.fleeceSend (s : State) (number : Nat) : State :=
  let fl := s.earmarks.fleece
  let l := fl.ready number
  if l.isEmpty then s
  else
    let entry := fun (p : FleeceRegion × FleeceClose) => le 4 p.1.tensor.toNat ++ le 4 number ++ le 1 (b2n p.2.value.isNone) ++ zeros 7
      ++ (match p.2.value with | some x => le 8 x.toNat | none => zeros 8)
    let body := le 1 l.length ++ le 1 fl.own ++ zeros 6 ++ l.flatMap entry
    let others := (fl.peers.mapIdx (fun i p => (i, p))).filter (fun q => q.1 != fl.own)
    let s := s.forEach others (fun s q =>
      match q.2.route with
      | [] => s
      | t :: _ => s.queueFrame t { (s.ownFrame 4 s.job.id body) with dst := q.2.rank, routeLen := q.2.route.length, routeIdx := 1,
                                                                      route := q.2.route.map (BitVec.ofNat 8) })
    let exs := l.map (fun p => ({ target := p.1.target, number := number, own := p.2.value,
                                   ranks := (others.map (fun q => q.2.rank)).eraseDups, wait := fl.exWait, closedAt := p.2.closedAt } : Exchange))
    let s := s.modEarmarks (fun e => { e with
      fleece := { e.fleece with closes := e.fleece.closes.map (fun c => if c.number = number then { c with sent := true } else c) }
      exchanges := e.exchanges ++ exs })
    s.tryExchanges

/-- Open the result exchange of a closed sweep and send the result-earmark frames (R216). -/
def State.resultExchange (s : State) (t : ResultTarget) (a : SweepAcc) : State :=
  if !(s.job.active && bit s.job.flags 1) then s
  else
    let ps := s.job.peers.filter (fun p => t.taps.getLsbD p.1)
    let body := le 1 t.index ++ le 1 (b2n (!a.complete)) ++ zeros 2 ++ le 4 a.number ++ le 4 t.tensor.toNat ++ le 4 a.count
      ++ (if a.complete then le 8 a.xor_.toNat else zeros 8) ++ zeros 8
    let s := s.forEach ps (fun s p =>
      if (s.tap p.1).inService then s.queueFrame p.1 { (s.ownFrame 3 s.job.id body) with dst := p.2.1 } else s)
    let x : Exchange := { target := t.index, number := a.number, own := if a.complete then some a.xor_ else none,
                          ranks := (ps.map (fun p => p.2.1)).eraseDups, wait := t.exWait, closedAt := s.tbase }
    (s.modEarmarks (fun e => { e with exchanges := e.exchanges ++ [x] })).tryExchanges

/-- Close the latest sweep of a target, complete or for a cause of event 0x0506; `exchange` is clear for a redefined target
and an epoch change (R212, R215, R218). -/
def State.closeSweep (s : State) (a : SweepAcc) (incomplete : Option Nat) (exchange : Bool) : State :=
  let a := { a with closed := true, complete := incomplete.isNone }
  let s := s.modEarmarks (·.setSweep a)
  let s := match incomplete with | some cause => s.noteSweep a.target cause a.count a.number | none => s
  if !exchange then s
  else if a.target < 32 then
    match s.earmarks.targets.find? (fun t => t.index == a.target) with
    | some t => s.resultExchange t a
    | none => s
  else
    let s := s.modEarmarks (fun e => { e with fleece := e.fleece.close a s.job.step.toNat s.tbase })
    if s.earmarks.fleece.allClosed a.number then s.fleeceSend a.number else s

/-- A Drover's report of XOR and count reaches the Shepherd; segments of a closed sweep number are counted and discarded (R215). -/
def State.sweepAccumulate (s : State) (b : SweepBatch) : State :=
  match s.earmarks.target b.target with
  | none => s
  | some (_, segs) =>
    let s := match s.earmarks.sweep b.target with
      | some a => if !a.closed && decide (a.number < b.number) then s.closeSweep a (some 2) true else s
      | none => s
    let fresh : SweepAcc := { target := b.target, number := b.number, firstAt := b.firstAt }
    let cur := match s.earmarks.sweep b.target with
      | some a => if a.number < b.number then some fresh else if a.number = b.number ∧ !a.closed then some { a with firstAt := min a.firstAt b.firstAt } else none
      | none => some fresh
    match cur with
    | none => s.modEarmarks (fun e => { e with late := e.late + b.count })
    | some a =>
      let a := { a with count := a.count + b.count, xor_ := a.xor_ ^^^ b.xor_ }
      let s := s.modEarmarks (·.setSweep a)
      if a.count = segs then s.closeSweep a none true
      else if segs < a.count then s.closeSweep a (some 1) true
      else s

/-- A Drover sends a gathered batch over the upwind plane; while no Shepherd acts it waits in the Drover's event buffer (R215, R354). -/
def State.sendBatch (s : State) (f : Nat) (b : SweepBatch) : State :=
  let s := s.modField f (fun fd => { fd with sweeps := fd.sweeps.filter (fun q => !(q.target == b.target && q.number == b.number)) })
  if s.firmware then s.sweepAccumulate b else s.bufferMessage f { batch := some b }

/-- A Drover gathers one segment digest per pair of target and sweep number; one of a newer number sends the target's older batches at
once (R215). -/
def State.segment (s : State) (f target number : Nat) (dig : BitVec 64) : State :=
  let s := s.forEach ((s.field f).sweeps.filter (fun b => b.target == target && decide (b.number < number))) (fun s b => s.sendBatch f b)
  s.modField f fun fd =>
    if fd.sweeps.any (fun b => b.target == target && b.number == number) then
      { fd with sweeps := fd.sweeps.map (fun b => if b.target == target && b.number == number
          then { b with xor_ := b.xor_ ^^^ dig, count := b.count + 1, lastAt := s.tbase } else b) }
    else { fd with sweeps := fd.sweeps ++ [{ target := target, number := number, xor_ := dig, count := 1, firstAt := s.tbase, lastAt := s.tbase }] }

/-- An overdue fleece region records 0x0506 (R219). -/
def State.checkOverdue (s : State) : State :=
  let n := s.earmarks.fleece.period
  s.forEach s.earmarks.fleece.regions (fun s r =>
    if r.lastStep + 2 * n ≤ s.job.step.toNat then
      let num := match s.earmarks.sweep r.target with | some a => a.number | none => 0
      (s.noteSweep r.target 4 0 num).modEarmarks (fun e => { e with fleece := { e.fleece with regions := e.fleece.regions.map (fun q =>
        if q.target == r.target then { q with lastStep := s.job.step.toNat } else q) } })
    else s)

/-- The epoch changes: open sweeps close incomplete, exchanges close without records, trackers release (R210, R215). -/
def State.sweepsEpoch (s : State) : State :=
  let s := s.forEach (s.earmarks.sweeps.filter (fun a => !a.closed)) (fun s a => s.closeSweep a (some 3) false)
  let s := s.forEach (List.range Config.fields) (fun s f => if (s.field f).sweeps.isEmpty then s else s.modField f (fun fd => { fd with sweeps := [] }))
  s.modEarmarks (fun e => { e with sweeps := [], bodies := [], exchanges := [],
                                   fleece := { e.fleece with regions := e.fleece.regions.map (fun r => { r with lastStep := 0 }), closes := [] } })

end Sys2Proof.Machine
end

