-- ==== Sys2Proof/Machine/Operands.lean ====
section
/-! DEFINITION. The operands of a descriptor: inline parameters, buffer, and which inline bytes must be zero (R107, Table 4.5). -/

namespace Sys2Proof.Machine

/-- Inline bytes 8-31 that a command does not use are zero; `used` lists offset and length of the parameters (R107). -/
def unusedZero (b : List Byte) (used : List (Nat × Nat)) : Bool :=
  (List.range 24).all (fun i => used.any (fun p => decide (p.1 ≤ i + 8) && decide (i + 8 < p.1 + p.2)) || b.getD (i + 8) 0 == 0)

end Sys2Proof.Machine

namespace Sys2Proof

/-- Buffer length of a descriptor (bytes 40-43). -/
def Desc.len (d : Desc) : Nat := Machine.rd d.bytes 40 4
/-- Buffer address of a descriptor (bytes 32-39). -/
def Desc.addr (d : Desc) : Nat := Machine.rd d.bytes 32 8
/-- Inline parameter of `n` bytes at offset `o`. -/
def Desc.arg (d : Desc) (o n : Nat) : Nat := Machine.rd d.bytes o n
/-- Inline UID at offset `o`. -/
def Desc.uid (d : Desc) (o : Nat) : Uid := BitVec.ofNat 32 (Machine.rd d.bytes o 4)
/-- Little-endian field of `n` bytes at offset `o` of the input buffer. -/
def Desc.buf' (d : Desc) (o n : Nat) : Nat := Machine.rd d.buf o n

end Sys2Proof
end

