-- ==== Sys2Proof/Machine/Complete.lean ====
section
/-! DEFINITION. Completing a command of a ring (R109, R116, R128), taking one (R107, R114, R116), and the checks common to
all commands. -/

namespace Sys2Proof.Machine

/-- Status codes (Table 4.7). -/
def stOk : Nat := 0x00
def stDeferred : Nat := 0x01
def stVersion : Nat := 0x02
def stAuth : Nat := 0x03
def stNoResource : Nat := 0x04
def stBad : Nat := 0x05
def stHurdle : Nat := 0x06
def stTimeout : Nat := 0x07
def stAborted : Nat := 0x08

/-- Address of the slot of the command in progress on a ring (R107). -/
def CmdRing.slot (r : CmdRing) : Nat := r.base + 64 * (r.head % 2 ^ r.log2)

/-- Write bytes 48-63 with the done bit clear, then byte 57 with it set (R109 steps 2 and 3); the versions that a NEGOTIATE chose take
effect (R122). Without host memory the completion is held; its buffer is written (R128). -/
def State.writeResult (s : State) (r : CmdRing) (c : Completion) : State :=
  let a := r.slot
  if s.hif.st == .hostLost then s.modHif (·.modCmd r.num (fun r => { r with stage := none, held := some { c with buffer := [] } }))
  else if !s.hif.inside r.base (64 * 2 ^ r.log2) then { s with due := s.due ++ [.dmaError (.completion r.num) a] }
  else
    let s := (s.hostWrite (a + 48) (fit 8 c.result ++ le 1 c.status ++ zeros 3 ++ le 4 c.returned)).hostWrite (a + 57) [1]
    let s := s.modHif (·.modCmd r.num (fun q => { q with stage := some (1, c), issued := s.hif.issues }))
    s.modHif (fun h => { h with issues := h.issues + 1, neg := if c.neg.isSome then c.neg else h.neg })

/-- Begin the completion writes of R109: the output buffer first, whose write responses are waited for. -/
def State.writeCompletion (s : State) (r : CmdRing) (c : Completion) : State :=
  if c.buffer.isEmpty then s.writeResult r c
  else if !s.hif.inside r.bufAddr c.buffer.length then
    let c := { c with status := stBad, result := [], returned := 0, buffer := [], neg := none }
    { s.writeResult r c with due := (s.writeResult r c).due ++ [.dmaError (.buffer r.num) r.bufAddr] }
  else
    let s := (s.hostWrite r.bufAddr c.buffer).modHif (·.modCmd r.num (fun q => { q with stage := some (0, c), issued := s.hif.issues }))
    s.modHif (fun h => { h with issues := h.issues + 1 })

/-- Complete the command in progress on a ring. Without host memory the completion is held, one per ring (R128); a
completion for a ring that no longer carries the command is discarded (R103). -/
def State.complete (s : State) (ring status : Nat) (result : List Byte := []) (buffer : List Byte := []) (neg : Option (List Byte) := none) : State :=
  match s.hif.cmd ring with
  | none => s
  | some r =>
    if r.busy.isNone || r.stage.isSome || r.held.isSome then s
    else
      let c : Completion := { ring := ring, status := status, result := result, returned := buffer.length, buffer := buffer, notify := r.notify, neg := neg }
      if s.hif.st == .hostLost then s.modHif (·.modCmd ring (fun r => { r with held := some c }))
      else if r.stopped then s
      else s.writeCompletion r c

/-- The ring has a descriptor that Beyja may take now (R107, R114, R117). -/
def CmdRing.ready (r : CmdRing) : Bool := !r.stopped && r.busy.isNone && r.head != r.tail

/-- The ring whose descriptor is taken next: one descriptor per ring per turn, in ascending ring number (R114). -/
def Hif.nextRing (h : Hif) : Option Nat :=
  let l := (h.cmds.filter CmdRing.ready).map (·.num)
  match l.find? (fun i => decide (h.turn ≤ i)) with
  | some i => some i
  | none => l.head?

/-- A descriptor's common breaches (Table 4.7, check 1): a reserved bit or byte not zero, byte 57 not zero, a buffer
misaligned, outside the aperture or longer than `maxLen`. -/
def State.badDesc (s : State) (d : Desc) (used : List (Nat × Nat)) (maxLen : Nat) : Bool :=
  !(decide ((d.bytes.getD 1 0).toNat < 2) && isZero d.bytes 2 2 && isZero d.bytes 44 4 && d.bytes.getD 57 0 == 0
    && unusedZero d.bytes used
    && (if d.len = 0 then d.addr == 0
        else d.addr % 64 == 0 && decide (d.len ≤ maxLen) && s.hif.inside d.addr d.len))

/-- The opcodes of Table 4.8; every other opcode is reserved. -/
def opcodes : List Nat := [0x01, 0x02, 0x03, 0x04, 0x10, 0x11, 0x12, 0x13, 0x14, 0x15, 0x20, 0x21, 0x30, 0x31, 0x32, 0x40, 0x41, 0x50,
  0x51, 0x60, 0x61, 0x70, 0x71, 0x80, 0x81, 0x90, 0x91, 0xA0]

/-- The opcodes whose commands program the flash: packs, firmware, and what the settings hold (R374). DESIGN CHOICE: after the fall of
PWR_GOOD they are not taken; R97 says that no flash program starts, not what becomes of the command (log 83). -/
def flashOps : List Nat := [0x14, 0x15, 0x20, 0x21, 0x80, 0x81, 0xA0]

/-- Take a descriptor from its ring and run the command: the breaches of the descriptor and of the command's own parameters
first, then the negotiation (R116, R123), then `k`. A failed read of the input buffer completes it with BAD_DESCRIPTOR and records
0x5006 (R117). Nothing is taken when the interface is not running, no firmware serves
it, or it is not the turn of a ring with a descriptor to take (R114); a ring outside the aperture stops at this access (R430). A descriptor with a
reserved opcode belongs to no command, and every command of the table takes it and completes it with BAD_DESCRIPTOR (Table 4.7). -/
def State.takeCmd (s : State) (d : Desc) (op : Nat) (used : List (Nat × Nat)) (maxLen : Nat) (bad : Bool) (k : State → State) : State :=
  match s.hif.cmd d.ring with
  | none => s
  | some r =>
    if !(s.firmware && s.hif.st == .running && s.hif.nextRing == some d.ring && decide (d.bytes.length = 64)
        && (s.pwrGood || !flashOps.contains op)
        && ((d.bytes.getD 0 0).toNat == op || !opcodes.contains (d.bytes.getD 0 0).toNat)) then s
    else if !s.hif.inside r.base (64 * 2 ^ r.log2) then { s with due := s.due ++ [.dmaError (.fetch r.num) r.slot] }
    else
      let b := s.badDesc d used maxLen || (d.bytes.getD 0 0).toNat != op
      let s := s.modHif (fun h => { h with turn := d.ring + 1 })
      let s := s.modHif (·.modCmd d.ring (fun r => { r with busy := some op, notify := bit (d.bytes.getD 1 0).toNat 0, bufAddr := d.addr }))
      if !b && d.bufLost then ({ s with due := s.due ++ [.dmaError (.buffer d.ring) d.addr] } : State).complete d.ring stBad
      else if b || bad then s.complete d.ring stBad
      else if op ≠ 0x01 ∧ op ≠ 0x04 ∧ s.hif.neg.isNone then s.complete d.ring stVersion
      else k s

/-- Complete with the status of the first check that holds, or go on (R116). -/
def State.checked (s : State) (ring : Nat) (checks : List (Bool × Nat)) (k : State → State) : State :=
  match checks.find? (·.1) with
  | some (_, st) => s.complete ring st
  | none => k s

end Sys2Proof.Machine
end

