-- ==== Sys2Proof/Machine/Watch.lean ====
section
/-! DEFINITION. Tensor watch: what a watch point observes of a reference output, and its report (R220 to R222). -/

namespace Sys2Proof.Machine

/-- binary64. -/
def fmt64 : Fmt := ⟨64, 11, 52, 1023, .ieee, false⟩
/-- Encode a value in binary64 by roundTiesToEven. -/
def encode64 (x : Num) : BitVec 64 :=
  match x with
  | .nan => 0x7FF8000000000000
  | .inf n => if n then 0xFFF0000000000000 else 0x7FF0000000000000
  | .fin n m e =>
    if m = 0 then (if n then 0x8000000000000000 else 0)
    else
      let (q, l) := rne m e 53 (-1074)
      if exceeds q l (2 ^ 53 - 1) 971 then (if n then 0xFFF0000000000000 else 0x7FF0000000000000)
      else BitVec.ofNat 64 (encodeFloat fmt64 n q l)
/-- The value of a binary64 pattern. -/
def decode64 (x : BitVec 64) : Num := decodeElem fmt64 x.toNat
/-- A value as a rational number; zero for a NaN or an infinity. -/
def Num.rat (x : Num) : Rat :=
  match x with
  | .fin n m e => (if 0 ≤ e then (signed n (m * 2 ^ e.toNat) : Rat) else (signed n m : Rat) / ((2 ^ (- e).toNat : Nat) : Rat))
  | _ => 0
/-- A rational number in binary64: exact for the binary fractions it is used on, else rounded after 200 places. -/
def ratNum (r : Rat) : Num :=
  let n := r.num.natAbs
  let sh := Nat.log2 r.den
  if 2 ^ sh = r.den then .fin (decide (r.num < 0)) n (- (sh : Int))
  else
    let k := 200 + sh
    let q := n * 2 ^ k / r.den
    .fin (decide (r.num < 0)) (2 * q + 1) (- (k + 1 : Int))
/-- A rational number in binary64. -/
def encodeRat (r : Rat) : BitVec 64 := encode64 (ratNum r)
/-- The value of a binary64 pattern as a rational; none for a NaN or an infinity. -/
def ratOf64 (x : BitVec 64) : Option Rat := match decode64 x with | .fin n m e => some (Num.fin n m e).rat | _ => none
/-- A rational number in binary32. -/
def encode32 (r : Rat) : BitVec 32 :=
  match roundFp32 (ratNum r) with
  | .fin n m e => if m = 0 then (if n then 0x80000000 else 0) else BitVec.ofNat 32 (encodeFloat (fmtD 0) n m e)
  | .inf n => if n then 0xFF800000 else 0x7F800000
  | .nan => 0x7FC00000
/-- The value of a binary32 pattern as a rational; none for a NaN or an infinity. -/
def ratOf32 (x : BitVec 32) : Option Rat := match decodeElem (fmtD 0) x.toNat with | .fin n m e => some (Num.fin n m e).rat | _ => none

/-- One finite binary64 pattern lies below another. DEDUCED: -0 lies below +0, so that minimum and maximum do not depend on the order of the
elements (R221, log 95). -/
def below (a b : BitVec 64) : Bool :=
  let x := (decode64 a).rat
  let y := (decode64 b).rat
  decide (x < y) || (decide (x = y) && a.getLsbD 63 && !b.getLsbD 63)
/-- One output element taken into the statistics of a watch point (R221). -/
def Watch.take (w : Watch) (x : Num) : Watch :=
  let w := { w with elems := w.elems + 1 }
  match x with
  | .nan => { w with nans := w.nans + 1 }
  | .inf _ => { w with infs := w.infs + 1 }
  | .fin n m e =>
    let x := encode64 (.fin n m e)
    let w := { w with
      minimum := some (match w.minimum with | some a => if below x a then x else a | none => x)
      maximum := some (match w.maximum with | some a => if below a x then x else a | none => x)
      sum := encode64 ((decode64 w.sum).add (.fin n m e))
      sumSq := encode64 ((decode64 w.sumSq).add (.fin false (m * m) (2 * e))) }
    if m = 0 then { w with zeros := w.zeros + 1 }
    else
      let b := max 0 (min 31 ((Nat.log2 m : Int) + e - w.e0))
      { w with bins := bump (if w.bins.isEmpty then List.replicate 32 0 else w.bins) b.toNat 1 }

/-- The watch report (Table 8.13). -/
def watchBytes (w : Watch) (i now : Nat) : List Byte :=
  let head := le 1 i ++ le 1 w.mode ++ zeros 2 ++ le 4 w.observed ++ le 4 w.withheld ++ le 4 w.unobserved ++ le 8 now ++ zeros 8
  let ext := fun (o : Option (BitVec 64)) => match o with | some r => le 8 r.toNat | none => zeros 8
  let body := if w.mode = 1 then
      le 8 w.elems ++ le 4 w.nans ++ le 4 w.infs ++ le 4 w.zeros ++ zeros 4 ++ ext w.minimum ++ ext w.maximum ++ le 8 w.sum.toNat
      ++ le 8 w.sumSq.toNat ++ fit 128 (w.bins.flatMap (le 4)) ++ zeros 40
    else (w.digests.take 14).flatMap (fun p => le 6 p.1.toNat ++ zeros 2 ++ le 8 p.2.toNat)
  head ++ fit 224 body

/-- The definition of a watch point with its accumulators cleared (R222). -/
def Watch.restart (w : Watch) : Watch :=
  { mode := w.mode, field := w.field, flock := w.flock, slot := w.slot, value := w.value, mask := w.mask, e0 := w.e0, period := w.period }

/-- A watch point reports: trace entry 0x04, event 0x0510, and the accumulators restart (R222). -/
def State.watchReport (s : State) (i : Nat) : State :=
  let w := s.watch i
  let last := match w.digests.getLast? with | some p => p.2.toNat % 2 ^ 32 | none => 0
  let s := s.traceShc 4 (watchBytes w i s.tbase)
  let s := s.note 0x0510 dieUid ([BitVec.ofNat 8 i, BitVec.ofNat 8 w.mode, 0, 0] ++ le 4 w.observed ++ le 4 (if w.mode = 1 then w.nans else last))
  s.modWatch i Watch.restart

/-- A watch point matches an operation of a logical slot (R220). -/
def Watch.covers (w : Watch) (f l slot : Nat) (n : BitVec 48) : Bool :=
  w.mode != 0 && w.field == f && w.flock == l && (w.slot == 0xFF || w.slot == slot) && (n &&& w.mask) == w.value
/-- The watch points in use. -/
def State.watchKeys (s : State) : List Nat := s.watches.map (·.1)
/-- Some watch point matches an operation. -/
def State.watched (s : State) (f l slot : Nat) (n : BitVec 48) : Bool := s.watchKeys.any (fun i => (s.watch i).covers f l slot n)

/-- Every watch point that the announce matched observes an operation, or counts it as not observed (R220 to R222). -/
def State.observe (s : State) (keys : List Nat) (n : BitVec 48) (good : Bool) (d : CraDesc) (out : List Byte) (ref : BitVec 64) : State :=
  s.forEach keys (fun s i =>
    if !good then s.modWatch i (fun w => { w with unobserved := w.unobserved + 1 })
    else
      let t := fmtD d.fo
      let s := s.modWatch i (fun w =>
        let w := if w.mode = 1 then (List.range (d.m * d.n)).foldl (fun w e => w.take (decodeElem t (elemBits out t.bits e))) w
          else { w with digests := w.digests ++ [(n, ref)] }
        { w with observed := w.observed + 1 })
      if (s.watch i).period ≤ (s.watch i).observed then s.watchReport i else s)

/-- The watch points in use report at JOB_END; at an epoch change, those with an observed operation (R222). -/
def State.watchFlush (s : State) (jobEnd : Bool) : State :=
  s.forEach s.watchKeys (fun s i => if (s.watch i).mode != 0 && (jobEnd || decide (0 < (s.watch i).observed)) then s.watchReport i else s)

end Sys2Proof.Machine
end

