-- ==== Sys2Proof/Machine/Verdicts.lean ====
section
/-! DEFINITION. Tags, Crook queues and verdicts: what every outcome of a replay or a twin comparison does (R181 to R200). -/

namespace Sys2Proof.Machine

/-- Code of a verdict (Table 7.4). -/
def Verdict.code : Verdict → Nat
  | .matched => 0 | .mismatch => 1 | .twinMismatch => 2 | .mirrorParity => 3 | .digestParity => 4 | .protocol => 5
  | .digestMissing => 6 | .abandoned => 7 | .crookDisagree => 8 | .inconclusive => 9
/-- The verdict settles nothing: codes 0x3 to 0x9 (R191). -/
def Verdict.void (v : Verdict) : Bool := decide (3 ≤ v.code)

/-- A tag in use on a flock. -/
def State.tagSt (s : State) (f k t : Nat) : Option TagSt := assoc (s.flock f k).tags t
/-- Change a tag in use. -/
def State.modTag (s : State) (f k t : Nat) (g : TagSt → TagSt) : State :=
  s.modFlock f k (fun fl => { fl with tags := fl.tags.map (fun p => if p.1 == t then (p.1, g p.2) else p) })
/-- The lowest free tag of 64 (R184). -/
def Flock.freeTag (fl : Flock) : Option Nat := (List.range 64).find? (fun t => (assoc fl.tags t).isNone)

/-- The Crook entry of a tag. -/
def Crook.entry (x : Crook) (k t : Nat) : Option CrookEntry := x.queue.find? (fun e => e.flock == k && e.tag == t)
/-- Change the Crook entry of a tag. -/
def State.modEntry (s : State) (f i k t : Nat) (g : CrookEntry → CrookEntry) : State :=
  s.modCrook f i (fun x => { x with queue := x.queue.map (fun e => if e.flock == k && e.tag == t then g e else e) })
/-- The Crook starts its next computation: the first READY entry, in the order in which the streams closed (R182); a recomputation that
waits goes ahead of every entry, and so does a self-test that is due at once (R185). -/
def Crook.kick (x : Crook) : Crook :=
  if x.queue.any (fun e => e.state == .computing) || !x.confirms.isEmpty || x.testDue then x
  else
    let i := x.queue.findIdx (fun e => e.state == .ready)
    { x with queue := modifyAt x.queue i (fun e => { e with state := .computing }) }
/-- A recomputation of an entry is no longer asked of any Crook of the field. -/
def State.dropConfirm (s : State) (f i k t : Nat) : State :=
  s.forEach ((List.range Config.crooks).filter (fun j => (s.crook f j).confirms.contains (i, k, t))) (fun s j =>
    s.modCrook f j (fun x => ({ x with confirms := x.confirms.filter (· != (i, k, t)) } : Crook).kick))
/-- Free the Crook entry of a tag. -/
def State.freeEntry (s : State) (f i k t : Nat) : State :=
  (s.dropConfirm f i k t).modCrook f i (fun x => ({ x with queue := x.queue.filter (fun e => !(e.flock == k && e.tag == t)) } : Crook).kick)

/-- Bytes 32-39 of a record about an operation: job epoch and taint step (R196, R200). -/
def TagSt.opId (t : TagSt) : BitVec 64 := BitVec.ofNat 64 (t.epoch.toNat + 65536 * t.step.toNat)

/-- A verdict is counted against its flock (R187, R199). -/
def State.countVerdict (s : State) (f k : Nat) (v : Verdict) : State := s.modFlock f k (fun fl => fl.count (10 + v.code))

/-- Event 0x7015 for a verdict, at most once per flock, verdict code and TBASE second (R200). -/
def State.voidEvent (s : State) (f k : Nat) (v : Verdict) (u : Uid) (tag low : Nat) (opId : BitVec 64) (cls : Nat) : State :=
  let sec := s.tbase / 1000000000 + 1
  if (assoc (s.flock f k).voids v.code).getD 0 = sec then s
  else
    (s.modFlock f k (fun fl => { fl with voids := assocSet fl.voids v.code sec })).reportCls 0x7015 cls u
      (s.cyclePayload f ([BitVec.ofNat 8 v.code, BitVec.ofNat 8 tag] ++ le 2 low)) opId

/-- Trace entry 0x11 of a verdict with an event (R199, Table 18.2). -/
def State.traceVerdict (s : State) (f : Nat) (u : Uid) (v : Verdict) (tag : Nat) (n : BitVec 48) (core ref : BitVec 64) : State :=
  s.traceDrover f 0x11 (le 4 u.toNat ++ le 1 v.code ++ le 1 tag ++ zeros 2 ++ le 6 n.toNat ++ zeros 2 ++ le 8 core.toNat ++ le 8 ref.toNat)

/-- A core is named in a MISMATCH: record, trace, governor, suspect handling and taint notice (R191, R194, R229, R241). -/
def State.nameMismatch (s : State) (f k c tag : Nat) (t : TagSt) (dig : BitVec 64) (crook confirmer : Nat) (served : Bool) : State :=
  let u := coreUid f k c
  let s := s.report 0x7010 u (s.cyclePayload f (le 2 t.inst.toNat ++ [BitVec.ofNat 8 crook, BitVec.ofNat 8 confirmer])) t.opId
  let s := s.traceVerdict f u .mismatch tag t.inst dig t.refDig
  let s := (s.countCoreDetection f k c served).orderTaint 0x7010 1 u t dig t.refDig
  s.finding f k c .detection 0x10

/-- The tag is freed when every verdict of its operation is given (R184). -/
def State.releaseTag (s : State) (f k tag : Nat) : State :=
  match s.tagSt f k tag with
  | none => s
  | some t =>
    if (t.crook.isNone || t.replayVerdict.isSome) && (t.twin.isNone || t.twinDone) then
      s.modFlock f k (fun fl => { fl with tags := assocDel fl.tags tag })
    else s

/-- A twin core's duty for a tag is over: its digest is there, or its wait has ended (R190). -/
def State.freeTwin (s : State) (f k tag : Nat) : State :=
  match (s.tagSt f k tag).bind (·.twin) with
  | some c => if (s.core f k c).twinTag = some tag then s.modCore f k c (fun x => { x with twinTag := none }) else s
  | none => s
/-- A twin verdict ends the twin's duty. -/
def State.endTwin (s : State) (f k tag : Nat) (v : Verdict) : State :=
  (((s.freeTwin f k tag).countVerdict f k v).modTag f k tag (fun t => { t with twinDone := true })).releaseTag f k tag

/-- TWIN_MISMATCH (R191, R192): the record, both cores to suspect handling, forced replays for the slot, the notice. -/
def State.twinMismatch (s : State) (f k tag : Nat) (t : TagSt) (tw : Nat) (a b : BitVec 64) : State :=
  let u := coreUid f k t.core
  let s := s.report 0x7011 u (s.cyclePayload f ([BitVec.ofNat 8 tw, BitVec.ofNat 8 (b2n t.twinDonated)] ++ le 2 t.inst.toNat)) t.opId
  let s := s.traceVerdict f u .twinMismatch tag t.inst a b
  let s := (s.countCoreDetection f k t.core true).orderTaint 0x7011 2 u t a b
  let s := s.modFlock f k (fun fl => { fl with forced := assocSet fl.forced t.slot 256 })
  (s.finding f k t.core .detection 0x11).finding f k tw .detection 0x11

/-- The twin comparison of a tag, when both digests are there and no replay of the tag is outstanding (R191). -/
def State.settleTwin (s : State) (f k tag : Nat) : State :=
  match s.tagSt f k tag with
  | none => s
  | some t =>
    match t.twin with
    | none => s.releaseTag f k tag
    | some tw =>
      if t.twinDone then s.releaseTag f k tag
      else if t.crook.isSome && t.replayVerdict.isNone then s
      else if t.twinBad || t.coreBad then
        let u := coreUid f k (if t.twinBad then tw else t.core)
        ((s.voidEvent f k .digestParity u tag t.inst.toNat t.opId clsEV).traceVerdict f u .digestParity tag t.inst (t.coreDig.getD 0) (t.twinDig.getD 0)).endTwin
          f k tag .digestParity
      else
        match t.coreDig, t.twinDig with
        | some a, some b =>
          match t.replayVerdict with
          | some v =>
            if v.void then
              if a = b then s.endTwin f k tag .matched else (s.twinMismatch f k tag t tw a b).endTwin f k tag .twinMismatch
            else if b = t.refDig then s.endTwin f k tag .matched
            else (s.nameMismatch f k tw tag t b (8 + t.crook.getD 0) 0 t.twinDonated).endTwin f k tag .mismatch
          | none => if a = b then s.endTwin f k tag .matched else (s.twinMismatch f k tag t tw a b).endTwin f k tag .twinMismatch
        | _, _ => s

/-- The segment that a sweep operation contributes (R213, R214). DEDUCED: an operation contributes
when its verdict is given, if its computation had ended and the verdict is not ABANDONED (log 93). -/
def State.sweepSegment (s : State) (f : Nat) (e : CrookEntry) (n : BitVec 48) : State :=
  let d := craDesc (e.desc.getD [])
  if isSweep n && d.op == 8 && !d.hasC then
    match s.earmarks.target (sweepTarget n) with
    | some (tensor, _) => s.segment f (sweepTarget n) (sweepNumber n)
        (segmentDigest tensor.toNat d.epoch (sweepNumber n) (sweepIndex n) (sweepBytes d e.a))
    | none => s
  else s

/-- The replay verdict of a tag is given (R187): it is counted and recorded, watch points see it, the entry is freed, and a
twin comparison that waited goes on. `cause` is set when the caller has recorded the blame of a void replay. -/
def State.giveReplay (s : State) (f k tag : Nat) (v : Verdict) (confirmer : Nat) : State :=
  match s.tagSt f k tag with
  | none => s
  | some t =>
    match t.crook with
    | none => s
    | some i =>
      if t.replayVerdict.isSome then s
      else
        let e := ((s.crook f i).entry k tag).getD {}
        let ref := e.ref.getD 0
        let u := coreUid f k t.core
        let t := { t with replayVerdict := some v, refDig := ref }
        let s := (s.countVerdict f k v).modTag f k tag (fun _ => t)
        let s := match v with
          | .mismatch => s.nameMismatch f k t.core tag t (t.coreDig.getD 0) (8 + i) (8 + confirmer) true
          | .mirrorParity =>
            let p := e.parityAt.getD (0, 0, 0)
            (s.report 0x7014 (mkUid 2 f k 0 0 3) (s.cyclePayload f ([BitVec.ofNat 8 p.1, BitVec.ofNat 8 p.2.1] ++ le 2 p.2.2)) t.opId).traceVerdict
              f u v tag t.inst (t.coreDig.getD 0) ref
          | .digestParity => (s.voidEvent f k v u tag t.inst.toNat t.opId clsEV).traceVerdict f u v tag t.inst (t.coreDig.getD 0) ref
          | .protocol => (s.voidEvent f k v u tag t.inst.toNat t.opId clsEV).traceVerdict f u v tag t.inst (t.coreDig.getD 0) ref
          | .digestMissing => (s.voidEvent f k v u tag t.inst.toNat t.opId clsEV).traceVerdict f u v tag t.inst 0 ref
          | .inconclusive => (s.voidEvent f k v u tag t.inst.toNat t.opId clsEV).traceVerdict f u v tag t.inst (t.coreDig.getD 0) ref
          | .crookDisagree => s.traceVerdict f u v tag t.inst (t.coreDig.getD 0) ref
          | .matched => s
          | .twinMismatch => s
          | .abandoned => s
        let s := if v = .abandoned ∨ e.ref.isNone then s else s.sweepSegment f e t.inst
        let s := if t.watches.isEmpty then s
          else
            let d := craDesc (e.desc.getD [])
            let good := v == Verdict.matched || v == Verdict.mismatch
            s.observe t.watches t.inst good d (if good then craOutput d e.a e.b e.c else []) ref
        ((s.freeEntry f i k tag).settleTwin f k tag).releaseTag f k tag

/-- The digests differ: the operation is confirmed on another in-service Crook, next and ahead of its own queue, or on the same one after
its self-test (R185). DESIGN CHOICE: of several other Crooks the lowest-numbered one confirms; R185 names none (log 91). -/
def State.beginConfirm (s : State) (f i k tag : Nat) : State :=
  let other := (List.range Config.crooks).find? (fun j => j != i && (s.crook f j).inService && !(s.crook f j).resetting)
  let m := other.getD i
  (s.modEntry f i k tag (fun e => { e with state := .confirming, confirmer := some m, selfFirst := other.isNone })).modCrook f m (fun x =>
    { x with confirms := x.confirms ++ [(i, k, tag)] })

/-- The recomputations that a Crook was to make go to another Crook, or take the single-Crook path (R185). -/
def State.moveConfirms (s : State) (f i : Nat) : State :=
  let l := (s.crook f i).confirms
  (s.modCrook f i (fun x => { x with confirms := [], testDue := false })).forEach (l.filter (fun p => p.1 != i)) (fun s p => s.beginConfirm f p.1 p.2.1 p.2.2)

/-- Every entry of a Crook ends CROOK_DISAGREE, and its open streams close (R189, Table 1.9). -/
def State.voidEntries (s : State) (f i : Nat) : State :=
  s.forEach ((s.crook f i).queue.map (fun e => (e.flock, e.tag))) (fun s p =>
    let s := s.modEntry f i p.1 p.2 (fun e => { e with closed := true })
    (s.modFlock f p.1 (fun fl => if fl.stream = some p.2 then { fl with stream := none } else fl)).giveReplay f p.1 p.2 .crookDisagree 0)

/-- A Crook leaves service (R185, R189, Table 1.9): its entries end CROOK_DISAGREE, and its recomputations go elsewhere. -/
def State.crookOut (s : State) (f i : Nat) : State :=
  ((s.modCrook f i (fun x => { x with inService := false })).voidEntries f i).moveConfirms f i

/-- A Crook is blamed; twice within 24 hours takes it out of service (R185). -/
def State.blameCrook (s : State) (f i : Nat) : State :=
  let l := recentTimes s.tbase (86400 * 1000000000) (s.crook f i).blames ++ [s.tbase]
  let s := s.modCrook f i (fun x => { x with blames := l })
  if 2 ≤ l.length then s.crookOut f i else s

/-- Compare the reference digest with the core's digest, when both are there (R182, R185). -/
def State.compareRef (s : State) (f k tag : Nat) : State :=
  match s.tagSt f k tag with
  | none => s
  | some t =>
    match t.crook with
    | none => s
    | some i =>
      match (s.crook f i).entry k tag with
      | none => s
      | some e =>
        if e.state != .awaitDigest then s
        else match e.fixed with
          | some v => if t.coreDig.isSome || t.coreBad then s.giveReplay f k tag v 0 else s
          | none =>
            if t.coreBad then s.giveReplay f k tag .digestParity 0
            else match t.coreDig, e.ref with
              | some a, some b => if a = b then s.giveReplay f k tag .matched 0 else s.beginConfirm f i k tag
              | _, _ => s

/-- Entries of a flock that are incomplete end ABANDONED: still receiving, or waiting for a digest (R188). -/
def State.abandonFlock (s : State) (f k : Nat) : State :=
  let s := s.forEach ((s.flock f k).tags) (fun s p =>
    let tag := p.1
    let s := match (s.tagSt f k tag) with
      | some t =>
        match t.crook with
        | some i =>
          match (s.crook f i).entry k tag with
          | some e => if t.replayVerdict.isNone && (e.state == EntryState.receiving || (t.coreDig.isNone && !t.coreBad)) then s.giveReplay f k tag .abandoned 0 else s
          | none => s
        | none => s
      | none => s
    match s.tagSt f k tag with
    | some t =>
      if t.twin.isSome && !t.twinDone && ((t.coreDig.isNone && !t.coreBad) || (t.twinDig.isNone && !t.twinBad)) then s.endTwin f k tag .abandoned else s
    | none => s)
  if (s.flock f k).stream.isSome then s.modFlock f k (fun fl => { fl with stream := none }) else s

/-- Every listed flock of a domain abandons its incomplete entries (R188). -/
def State.abandon (s : State) (d : Uid) : State := s.forEach (s.listedFlocks d) (fun s p => s.abandonFlock p.1 p.2)

end Sys2Proof.Machine
end

