-- ==== Sys2Proof/Machine/Muster.lean ====
section
/-! DEFINITION. Folds at a Muster point: which folds are carried out, the copies, their failures, and the end of the point
(R248 to R255, R261). -/

namespace Sys2Proof.Machine

/-- Write slot maps, lane skips, trim code and clock steps of a flock, with the named slots disabled. -/
def State.writeMaps (s : State) (f k : Nat) (disabled : List Nat) : State :=
  let fl := s.flock f k
  let cs := (List.range Config.cores).map (fun c => s.core f k c)
  s.drive (.maps (flockUid f k) fl.slots disabled (cs.map (·.laneSkip)) (cs.map (·.step)) fl.trim)
/-- Write slot maps, lane skips, trim code and clock steps of a flock again (R298, R321). -/
def State.rewriteMaps (s : State) (f k : Nat) : State := s.writeMaps f k (s.flock f k).disabled

/-- Change the Muster points under way. -/
def State.modMuster (s : State) (d : Uid) (g : Muster → Muster) : State :=
  { s with musters := s.musters.map (fun m => if m.dom == d then g m else m) }
/-- The Muster point that carries out the folds of a flock. -/
def State.musterOf (s : State) (f k : Nat) : Option Muster := s.musters.find? (fun m => domHasFlock m.dom f k && m.folding)
/-- Core-cycle counts of a domain's fields are brought up to now (R34). -/
def State.syncDomain (s : State) (d : Uid) : State := s.forEach (domFields d) State.syncField
/-- One fold of a Muster point is complete. -/
def State.foldDone (s : State) (f k : Nat) : State :=
  match s.musterOf f k with
  | some m => s.modMuster m.dom (fun m => { m with folds := m.folds + 1 })
  | none => s

/-- A whole-flock thin becomes pending (R252). -/
def State.pendWhole (s : State) (f k : Nat) : State :=
  if (s.flock f k).wholeThin then s
  else (s.modFlock f k (fun fl => { fl with wholeThin := true })).noteThin f k none true

/-- A flock fold that cannot be made turns into pending thins: of every slot when FOLD_REQUEST asked for it, else of the
Suspect cores' slots (R251, R252). The flock stays Suspect: Table 10.2 names no way back. -/
def State.flockFoldToThin (s : State) (f k : Nat) : State :=
  let fl := s.flock f k
  let s := s.modFlock f k (fun fl => { fl with foldPending := false, foldCore := none, foldFails := 0, foldRequested := false })
  let s := s.forEach (List.range Config.cores) (fun s c => if (s.core f k c).foldPending then s.pendThin f k c else s)
  if fl.foldRequested then s.pendWhole f k else s

/-- Flock folds whose spare flock is no longer eligible turn into thins (R251, R252). -/
def State.recheckFolds (s : State) : State :=
  s.forEach (s.flocks.map (fun p => (p.1 / 64, p.1 % 64))) (fun s p =>
    if (s.flock p.1 p.2).foldPending && (s.flock p.1 p.2).copy.isNone && !s.spareFlockEligible p.1 then s.flockFoldToThin p.1 p.2 else s)

/-- Raise fsp_copy_req for a core fold (R250). -/
def State.startCoreCopy (s : State) (f k c sp slot : Nat) : State :=
  let u := (flockUid f k).toNat
  (((s.modFlock f k (fun fl => { fl with copy := some { src := c, dst := sp, slot := slot, started := s.tbase } })).sig .fspCopySrc u c).sig
    .fspCopyDst u sp).sig .fspCopyReq u 1

/-- Start a flock fold: the Bellwether cycle stops, the spare flock's slots are mapped, those disabled in the source flock with
fsp_map_dis 1 (R59), fsp_copy_req rises on both FSPs (R251). -/
def State.startFlockCopy (s : State) (f k : Nat) : State :=
  let sp := s.spareOf f
  let s := s.forEach (List.range Config.cores) (fun s c => s.cutSlice f sp c)
  let slots := (List.range Config.slots).map (fun j => if (s.core f sp j).st.fitSpare then j else Config.spareCore)
  let s := (s.modField f (fun fd => { fd with bellCode := none })).modFlock f sp (fun fl => { fl with slots := slots })
  let s := s.writeMaps f sp (s.flock f k).disabled
  let s := s.modFlock f k (fun fl => { fl with copy := some { flockCopy := true, src := k, dst := sp, started := s.tbase } })
  let s := (s.sig .fspCopyFlock (flockUid f k).toNat 1).sig .fspCopyReq (flockUid f k).toNat 1
  (s.sig .fspCopyFlock (flockUid f sp).toNat 1).sig .fspCopyReq (flockUid f sp).toNat 1

/-- The lane folds of a flock: one lane write each, no state moved; a core skips one lane (R249). -/
def State.laneFolds (s : State) (f k : Nat) : State :=
  s.forEach (List.range Config.cores) (fun s c =>
    s.forEach (List.range Config.lanes) (fun s l =>
      if (s.lane f k c l).foldPending && (s.core f k c).laneSkip == 8 then
        let s := s.modLane f k c l (fun y => { y with foldPending := false, st := .folded })
        let s := s.modCore f k c (fun x => { x with laneSkip := l })
        let s := (s.sig .fspLaneCore (flockUid f k).toNat c).sig .fspLaneSkip (flockUid f k).toNat l
        ((s.noteFold (laneUid f k c l) 0 ((s.flock f k).slotOf c) c 0).foldEntry 3 5 (((s.flock f k).slotOf c).getD 0xFF) l (laneUid f k c l)).foldDone f k
      else s))

/-- Pending standing steps are written: those of shelters, whose re-tests open, and the steps of cores that UNFOLD returned, back to 0 (R245,
R261). -/
def State.stepShelters (s : State) (f k : Nat) : State :=
  s.forEach (List.range Config.cores) (fun s c =>
    if (s.core f k c).stepPending then
      let on := (s.core f k c).shelter == .step
      let step : Int := if on then -1 else 0
      let s := (s.modCore f k c (fun x => { x with stepPending := false, step := step })).sig .fspClkStep (coreUid f k c).toNat (toTwos 3 step)
      if on then s.openRetest f k c else s
    else s)

/-- Lane skips that UNFOLD returned go back to the last lane (R261). -/
def State.laneReturns (s : State) (f k : Nat) : State :=
  let l := (s.flock f k).laneReturn
  let s := s.forEach l (fun s c =>
    ((s.modCore f k c (fun x => { x with laneSkip := 8 })).sig .fspLaneCore (flockUid f k).toNat c).sig .fspLaneSkip (flockUid f k).toNat 8)
  if l.isEmpty then s else s.modFlock f k (fun fl => { fl with laneReturn := [] })

/-- The next core fold of a flock at or above a slot: slot, core and spare core (R248, R250). -/
def State.nextCoreFold (s : State) (f k slot : Nat) : Option (Nat × Nat × Nat) :=
  match s.usableSpare f k with
  | none => none
  | some sp =>
    ((List.range Config.slots).filter (fun j => decide (slot ≤ j))).findSome? (fun j =>
      let fl := s.flock f k
      let c := fl.coreOf j
      if !(fl.disabled.contains j) && !(fl.thinPending.contains j) && (s.core f k c).foldPending then some (j, c, sp) else none)

/-- A flock has nothing left to do at its Muster point. -/
def State.leaveMuster (s : State) (f k : Nat) : State :=
  match s.musterOf f k with
  | some m => s.modMuster m.dom (fun m => { m with left := without m.left (flockKey f k) })
  | none => s

/-- Carry on with the folds of a flock, from a slot upward: core folds one at a time, then lane folds, then step shelters
(R248). A pending flock fold replaces the folds, not the shelters. No map, lane or copy is driven once fsp_quiet has fallen (R58). -/
def State.serviceFlock (s : State) (f k slot : Nat) : State :=
  if !(s.flock f k).quiet then s.leaveMuster f k
  else if (s.flock f k).foldPending then (s.stepShelters f k).leaveMuster f k
  else match s.nextCoreFold f k slot with
    | some (j, c, sp) => s.startCoreCopy f k c sp j
    | none => (((s.laneFolds f k).laneReturns f k).stepShelters f k).leaveMuster f k

/-- A Muster point whose folds have all ended completes (R248); level 1 waits for its own (ring 255, R302). -/
def State.endMuster (s : State) (m : Muster) : State :=
  let s := s.syncDomain m.dom
  let s : State := { s with musters := s.musters.filter (fun q => q.dom != m.dom) }
  s.complete m.ring (if m.notQuiet then stTimeout else stOk) (le 2 m.folds)

/-- Complete the Muster points that have ended. -/
def State.endMusters (s : State) : State :=
  s.forEach (s.musters.filter (fun m => m.folding && m.left.isEmpty && m.ring != 255 && m.ring != 254)) State.endMuster

/-- The wait for fsp_quiet ends: the folds of the quiet flocks begin; every FSP of the domain is asked for, of fields out of service too (R248). -/
def State.beginFolds (s : State) (d : Uid) : State :=
  let flocks := domFlocks d
  let allQuiet := flocks.all (fun p => (s.flock p.1 p.2).quiet)
  let quiet := flocks.filter (fun p => (s.flock p.1 p.2).quiet)
  let s := s.modMuster d (fun m => { m with folding := true, notQuiet := !allQuiet, left := quiet.map (fun p => flockKey p.1 p.2) })
  let s := s.forEach (domFields d) (fun s f =>
    s.forEach ((List.range Config.flocks).filter (fun k => (s.flock f k).unfoldReopen)) (fun s k =>
      (s.modFlock f k (fun fl => { fl with unfoldReopen := false, hurdleHeld := false })).sig .fspHdlClose (flockUid f k).toNat 0))
  s.forEach quiet (fun s p =>
    let fl := s.flock p.1 p.2
    if fl.foldPending && s.spareFlockEligible p.1 && (s.flock p.1 (s.spareOf p.1)).quiet
        && (List.range Config.flocks).all (fun k => match (s.flock p.1 k).copy with | some c => !c.flockCopy | none => true)
    then s.startFlockCopy p.1 p.2
    else if fl.st.gone then s.leaveMuster p.1 p.2
    else s.serviceFlock p.1 p.2 0)

/-- A Muster point of a domain begins: test slices end, none starts, and fsp_quiet is awaited (R248). -/
def State.beginMuster (s : State) (ring : Nat) (d : Uid) : State :=
  let s := s.syncDomain d
  let m : Muster := { ring := ring, dom := d, began := s.tbase }
  let s : State := { s with musters := s.musters ++ [m] }
  let s := s.forEach (s.listedCores d) (fun s p => s.cutSlice p.1 p.2.1 p.2.2)
  if (domFlocks d).all (fun p => (s.flock p.1 p.2).quiet) then s.beginFolds d else s

/-- A copy of a flock has ended well: the fold completes and the Muster point goes on (R250, R251). -/
def State.copyClean (s : State) (f k : Nat) (cp : CopySt) : State :=
  let us := (s.tbase - cp.started) / 1000
  let s := s.modFlock f k (fun fl => { fl with copy := none })
  let s := s.sig .fspCopyReq (flockUid f k).toNat 0
  if cp.flockCopy then
    let s := (s.sig .fspCopyReq (flockUid f cp.dst).toNat 0).flockFolded f k us
    (s.foldDone f k).leaveMuster f k
  else ((s.coreFolded f k cp.src cp.dst cp.slot us).foldDone f k).serviceFlock f k (cp.slot + 1)

/-- A copy has failed (R252): fsp_copy_req falls, 0x7033 is recorded, the fold stays pending; a second failure of a core fold
makes the spare core Suspect and the fold a flock fold or a thin; a second failure of a flock fold makes it a thin. -/
def State.copyFailed (s : State) (f k : Nat) (cp : CopySt) (cause : Nat) : State :=
  let s := (s.modFlock f k (fun fl => { fl with copy := none })).sig .fspCopyReq (flockUid f k).toNat 0
  if cp.flockCopy then
    let s := s.sig .fspCopyReq (flockUid f cp.dst).toNat 0
    let n := (s.flock f k).foldFails + 1
    let s := s.modFlock f k (fun fl => { fl with foldFails := n })
    let s := s.report 0x7033 (flockUid f k) (s.cyclePayload f [2, 0xFF, BitVec.ofNat 8 cause, BitVec.ofNat 8 n])
    (if 2 ≤ n then s.flockFoldToThin f k else s).serviceFlock f k 0
  else
    let n := (s.core f k cp.src).foldFails + 1
    let s := s.modCore f k cp.src (fun x => { x with foldFails := n })
    let s := s.report 0x7033 (coreUid f k cp.src) (s.cyclePayload f [1, BitVec.ofNat 8 cp.slot, BitVec.ofNat 8 cause, BitVec.ofNat 8 n])
    let s := if 2 ≤ n then (s.spareFinding f k cp.dst .uc 0x33 none).redecide f k else s
    s.serviceFlock f k (cp.slot + 1)

/-- Muster points on a reset domain or inside it end ABORTED_BY_RESET; a wider one goes on without the domain's flocks (R115,
R422). -/
def State.abortMusters (s : State) (d : Uid) : State :=
  let s := s.forEach (s.listedFlocks d) (fun s p => s.abandonCopy p.1 p.2)
  let s := s.forEach (s.musters.filter (fun m => domContains d m.dom)) (fun s m =>
    let s := s.syncDomain m.dom
    State.complete { s with musters := s.musters.filter (fun q => q.dom != m.dom) } m.ring stAborted)
  { s with musters := s.musters.map (fun m => { m with left := m.left.filter (fun key => !domHasFlock d (key / 64) (key % 64)) }) }

end Sys2Proof.Machine
end

