-- ==== Sys2Proof/Machine/Recovery.lean ====
section
/-! DEFINITION. Recovery: the end of a job, the loss of a field, level-0 resets, pre-reset capture, escalation and level 1
(R286 to R304, R319, R320). -/

namespace Sys2Proof.Machine

/-- Event 0x300B: the job's energy and the filler energy drawn during it [kJ] (R340). -/
def State.noteEnergy (s : State) : State :=
  let job := (s.flocks.map (fun p => p.2.jobEnergy)).foldl (· + ·) 0
  s.note 0x300B dieUid (le 4 s.job.id.toNat ++ le 4 (job / 1000000000) ++ le 4 (s.power.fillEnergy / 1000000000))

/-- The active job ends (R39, R222, R300): watch points report, its energy is recorded, the previous job's ID is kept, its
active time counts. -/
def State.endJob (s : State) : State :=
  if !s.job.active then s
  else
    let s := (s.watchFlush true).noteEnergy
    let s := s.forEach (s.cores.map (fun p => (p.1 / 2048, p.1 / 32 % 64, p.1 % 32))) (fun s p =>
      if (s.core p.1 p.2.1 p.2.2).breached then s.modCore p.1 p.2.1 p.2.2 (fun x => { x with breached := false }) else s)
    { s with job := { s.job with active := false, prevId := some s.job.id, activeNs := s.job.activeNs + (s.tbase - s.job.began) } }

/-- What a falling compute rail ends in its field: slices, and the entries its Crooks and flocks hold (R317, R318). No tracker is
presented (R55), and the flocks' In signals are low (R45). -/
def State.railDown (s : State) (f : Nat) : State :=
  let s := s.syncField f
  let s := (s.modField f (fun fd => { fd with compEn := false, compPg := false })).sig .pspCompEn f 0
  let s := s.forEach (s.listedFlocks (fieldUid f)) (fun s p =>
    (s.modFlock p.1 p.2 (fun fl => { fl with quiet := false, ldoOk := false })).presentTracker p.1 p.2)
  let s := s.forEach (s.listedCores (fieldUid f)) (fun s p =>
    if (s.core p.1 p.2.1 p.2.2).slice.isSome || !(s.core p.1 p.2.1 p.2.2).planned.isEmpty then
      s.modCore p.1 p.2.1 p.2.2 (fun x => { x with slice := none, planned := [] }) else s)
  s.abandon (fieldUid f)

/-- A field leaves the resets and the level-1 recovery in progress (R319, R423). A reset that lies in it ends; its
DOMAIN_RESET completes TIMEOUT. -/
def State.leaveResets (s : State) (f : Nat) : State :=
  let out := fun (l : List Nat) => l.filter (fun key => key / 64 != f)
  let inside := s.recovery.resets.filter (fun r => domContains (fieldUid f) r.dom)
  let s := s.modRec (fun r => { r with
    resets := (r.resets.filter (fun q => !domContains (fieldUid f) q.dom)).map (fun q =>
      { q with killWait := out q.killWait, queue := out q.queue, waiting := out q.waiting }),
    capture := r.capture.filter (fun c => !domContains (fieldUid f) c.dom),
    level1 := r.level1.map (fun l => { l with
      killWait := out l.killWait, queue := out l.queue, waiting := out l.waiting
      pgWait := without l.pgWait f, groups := l.groups.map (fun g => without g f), testFields := without l.testFields f, testGroup := without l.testGroup f }) })
  s.forEach inside (fun s r => s.forEach r.rings (fun s ring => s.complete ring stTimeout))

/-- Event 0x0304 of a lost field (R320). -/
def State.noteLost (s : State) (f : Nat) : State :=
  s.report 0x0304 (fieldUid f) [BitVec.ofNat 8 (s.field f).padCause, BitVec.ofNat 8 (s.field f).attempts]

/-- A field is lost: state 2, event 0x0304, and the grade follows (R303, R320). In level 1 it is paddocked off as a field that
fails level 1, and the loss is recorded at level 1's end (R303, R423). -/
def State.loseField (s : State) (f cause : Nat) : State :=
  if (s.field f).pad = .lost then s
  else
    let s := (s.railDown f).leaveResets f
    let s := s.modField f (fun fd => { fd with returning := none, attemptDue := none })
    if s.recovery.level1.isSome then
      (s.modField f (fun fd => { fd with pad := .off, padCause := 3 })).modRec
        (fun r => { r with level1 := r.level1.map (fun (l : Level1) => { l with lost := insertNew l.lost f }) })
    else ((s.modField f (fun fd => { fd with pad := .lost, padCause := cause })).noteLost f).checkGrade

/-- The flocks of a domain whose field is in service: the FSPs that a reset drains, captures, kills and resets. -/
def State.liveFlocks (s : State) (d : Uid) : List (Nat × Nat) := (domFlocks d).filter (fun p => s.fieldUp p.1)

/-- fsp_kill rises on a flock; its open Crook entries end ABANDONED (R188, R298). -/
def State.raiseKill (s : State) (f k : Nat) : State :=
  if (s.flock f k).kill then s
  else (((s.modFlock f k (fun fl => { fl with kill := true, killAt := s.tbase, kills := fl.kills + 1 })).sig .fspKill (flockUid f k).toNat 1).presentTracker f k).abandonFlock f k

/-- All 64 trackers of a flock are freed; their ages and totals stay (R56, R417). -/
def Flock.freeTrackers (fl : Flock) : Flock :=
  (fl.trackers.map (·.1)).foldl (fun fl i => fl.modTracker i (fun t => { t with held := false, run := 0, reported := false, halfSeen := false })) fl

/-- What a flock reset leaves (R55, R290, R148): trackers free, fsp_quiet 1, slices and windows over with fsp_ts_enter and fsp_ts_exit low. -/
def State.flockReset (s : State) (f k : Nat) : State :=
  let s := if (s.flock f k).kill then s.sig .fspKill (flockUid f k).toNat 0 else s
  let s := (s.modFlock f k (fun fl => { fl.freeTrackers with kill := false, quiet := true, windows := [] })).presentTracker f k
  s.forEach (List.range Config.cores) (fun s c =>
    let s := if (s.core f k c).planned.isEmpty then s else s.modCore f k c (fun x => { x with planned := [] })
    if (s.core f k c).slice.isSome then
      ((s.modCore f k c (fun x => { x with slice := none })).sig .fspTsEnter (coreUid f k c).toNat 0).sig .fspTsExit (coreUid f k c).toNat 0
    else s)

/-- Reset words go out eight flocks per field at a time (R298): what may be written now, moved from `queue` to `waiting`. -/
def fillResets (queue waiting : List Nat) : List Nat × List Nat × List Nat :=
  queue.foldl (fun (acc : List Nat × List Nat × List Nat) key =>
    let (q, w, new) := acc
    if (w.filter (fun x => x / 64 == key / 64)).length < 8 then (q, w ++ [key], new ++ [key]) else (q ++ [key], w, new)) ([], waiting, [])
/-- Write the reset words of flocks (R290). -/
def State.writeResets (s : State) (keys : List Nat) : State := s.forEach keys (fun s key => s.sig .resetWord key 1)

/-- Change a level-0 reset. -/
def State.modReset (s : State) (d : Uid) (g : Level0 → Level0) : State :=
  s.modRec (fun r => { r with resets := r.resets.map (fun q => if q.dom == d then g q else q) })
/-- Change the level-1 recovery. -/
def State.modL1 (s : State) (g : Level1 → Level1) : State := s.modRec (fun r => { r with level1 := r.level1.map g })

/-- Limit of a level-0 reset in microseconds (Table 12.1). -/
def level0Limit (d : Uid) : Nat := match uidLevel d with | 2 => 20000 | 3 => 50000 | _ => 200000

/-- JOB_BEGIN ends ABORTED_BY_RESET when the whole die is reset (R115). -/
def State.abortJobBegin (s : State) (d : Uid) : State :=
  if d != dieUid then s
  else match s.job.starting with
    | none => s
    | some (ring, _, _) =>
      let s := s.forEach s.upMems (fun s t => if (s.mem t).drainReq then (s.modMem t (fun m => { m with drainReq := false, drainDone := false })).sig .mtpDrainReq t 0 else s)
      State.complete { s with job := { s.job with starting := none, startPhase := 0 } } ring stAborted

/-- Level 1 begins (R301, R302): level-0 resets are taken over with the parts they have captured, their DOMAIN_RESET commands
end, the muster notice goes out with the hurdle order. -/
def State.startLevel1 (s : State) (cause code : Nat) (ring : Option Nat) (failed : Option Uid) : State :=
  if s.recovery.level1.isSome then s
  else
    let old := s.recovery.resets
    let done := old.flatMap (fun r => if r.step = .kill ∨ r.step = .reset then r.dom :: r.doneDoms else r.doneDoms)
    let s := s.modRec (fun r => { r with resets := [], capture := none })
    let s := s.forEach old (fun s r => s.forEach r.rings (fun s ring => s.complete ring (if failed = some r.dom then stTimeout else stAborted)))
    let s := ((s.abortMusters dieUid).abortJobBegin dieUid).closeHurdle dieUid cause code
    let s := s.orderMuster dieUid 1 4000000
    s.modRec (fun r => { r with level1 := some { began := s.tbase, code := code, ring := ring, doneDoms := done } })

/-- Escalation (R301): event 0x0314, then level 1. -/
def State.escalate (s : State) (d : Uid) (reason code : Nat) (flock : Uid) (failed : Option Uid) : State :=
  (s.report 0x0314 dieUid (le 4 d.toNat ++ [BitVec.ofNat 8 reason, 0, 0, 0] ++ le 4 flock.toNat) s.job.opId).startLevel1 4 code none failed

/-- Two domains share a field (R301). -/
def sharesField (a b : Uid) : Bool := uidLevel a == 4 || uidLevel b == 4 || uidField a == uidField b

/-- A level-0 reset is requested (R298, R299, R301): merged into one that contains it or into level 1; growing those it
contains; escalating as the third within 60 s; else started. -/
def State.startLevel0 (s : State) (d : Uid) (cause code : Nat) (ring : Option Nat) : State :=
  if s.recovery.level1.isSome || s.recovery.resets.any (fun r => domContains r.dom d) then s
  else
    let inner := s.recovery.resets.filter (fun r => domContains d r.dom)
    let hist := s.recovery.history.filter (fun h => decide (s.tbase < h.1 + 60000000000))
    if inner.isEmpty && decide (2 ≤ (hist.filter (fun h => sharesField h.2 d)).length) then s.escalate d 1 code 0 none
    else
      let hist := if inner.isEmpty then hist ++ [(s.tbase, d)] else hist.map (fun h => if inner.any (fun r => r.dom == h.2) then (h.1, d) else h)
      let s := s.closeHurdle d cause code
      let s := ((s.abortMusters d).abortJobBegin d).orderMuster d 0 (level0Limit d)
      let fresh : Level0 := { dom := d, cause := cause, code := code, began := s.tbase, rings := ring.toList }
      let grown := inner.foldl (fun (g : Level0) r => { g with
        began := min g.began r.began, rings := g.rings ++ r.rings, resets := g.resets + r.resets
        doneDoms := g.doneDoms ++ (if r.step = .kill ∨ r.step = .reset then r.dom :: r.doneDoms else r.doneDoms)
        killWait := g.killWait ++ r.killWait, killLate := g.killLate ++ r.killLate, queue := g.queue ++ r.queue, waiting := g.waiting ++ r.waiting }) fresh
      s.modRec (fun r => { r with
        history := hist
        resets := r.resets.filter (fun q => !domContains d q.dom) ++ [grown]
        capture := r.capture.filter (fun c => !(inner.any (fun q => q.dom == c.dom))) })

/-- The hurdle that covers a whole domain has got as far as this phase: the least advanced hurdle of the domain decides. -/
def State.hurdlePhase (s : State) (d : Uid) : HurdlePhase :=
  let l := s.recovery.hurdles.filter (fun h => domContains h.dom d)
  if l.any (fun h => h.phase == .drained || h.held) then .drained
  else if l.any (fun h => h.phase == .draining) then .draining else .closing

/-- The kill step of a level-0 reset: fsp_kill rises on every FSP not taken through it already (R298). -/
def State.l0Kill (s : State) (r : Level0) : State :=
  let fl := (s.liveFlocks r.dom).filter (fun p => !(r.doneDoms.any (fun d => domHasFlock d p.1 p.2)))
  let s := s.forEach fl (fun s p => s.raiseKill p.1 p.2)
  s.modReset r.dom (fun q => { q with step := .kill, captureEnd := s.tbase, killWait := q.killWait ++ fl.map (fun p => flockKey p.1 p.2) })

/-- Every fsp_kill_done is in: the reset words are written (R298). -/
def State.l0Words (s : State) (r : Level0) : State :=
  if r.step != .kill || !r.killWait.isEmpty then s
  else
    let fl := ((s.liveFlocks r.dom).filter (fun p => !(r.doneDoms.any (fun d => domHasFlock d p.1 p.2)))).map (fun p => flockKey p.1 p.2)
    let (q, w, new) := fillResets (r.queue ++ fl) r.waiting
    (s.modReset r.dom (fun x => { x with step := .reset, queue := q, waiting := w })).writeResets new

/-- A level-0 reset has ended well: maps are written again, the hurdle reopens or, for the die, the job ends and the hurdles
are held; RESET_DONE is recorded and DOMAIN_RESET completes (R298, R300, R314). -/
def State.l0Finish (s : State) (r : Level0) : State :=
  if r.step != .reset || !r.queue.isEmpty || !r.waiting.isEmpty then s
  else
    let s := s.modRec (fun x => { x with resets := x.resets.filter (fun q => q.dom != r.dom) })
    let s := s.forEach (s.liveFlocks r.dom) (fun s p => s.rewriteMaps p.1 p.2)
    let die := r.dom == dieUid
    let ended := die && s.job.active
    let s := if die then (s.endJob).holdHurdles else s.reopenHurdle r.dom
    let flags := b2n (die || s.hurdleOn r.dom) + 2 * b2n ended
    let s := s.note 0x0313 dieUid (le 4 r.dom.toNat ++ [0, BitVec.ofNat 8 flags] ++ le 2 r.resets ++ le 4 ((s.tbase - r.captureEnd) / 1000)) s.job.opId
    s.forEach r.rings (fun s ring => s.complete ring stOk)

/-- The lowest-numbered memory tap in service, whose stack holds the capture slots and a pack copy (R137, R297). -/
def State.homeMem (s : State) : Option Nat := s.upMems.head?

/-- The flocks that a capture covers, in ascending UID: those in service in its domain that no earlier capture of the same reset has
copied (R296, R299, R301). -/
def State.capFlocks (s : State) (c : CaptureRun) : List (Nat × Nat) :=
  let done := if c.level1 then (match s.recovery.level1 with | some l => l.doneDoms | none => [])
    else match s.recovery.resets.find? (fun r => r.dom == c.dom) with | some r => r.doneDoms | none => []
  (domFlocks c.dom).filter (fun p => s.flockUp p.1 p.2 && !(done.any (fun d => domHasFlock d p.1 p.2)))
/-- The header of a capture slot (R297). -/
def CapSlot.header (x : CapSlot) : List Byte :=
  le 4 x.dom.toNat ++ le 2 x.code ++ le 1 (b2n x.truncated) ++ zeros 1 ++ le 8 x.t0 ++ le 8 x.t1 ++ le 2 x.entries.length ++ zeros 4070
/-- The 4 KiB entry of a flock in a capture slot (R297). -/
def capBlock (e : CapEntry) : List Byte :=
  le 4 e.uid.toNat ++ le 1 (b2n e.copied) ++ zeros 3 ++ le 8 e.t0 ++ le 8 e.t1 ++ zeros 232 ++ (e.bytes ++ zeros 3840).take 3840
/-- Write 4 KiB into a capture slot, 256 bytes at a time (R296). -/
def State.writeSlot (s : State) (slot off : Nat) (b : List Byte) : State :=
  s.sendAll (((chunks 16 256 b).zipIdx).map (fun p => .capture slot (off + 256 * p.2) p.1))
/-- Write a capture slot: the header, then the flock entries in their order (R297). -/
def State.writeCapture (s : State) (slot : Nat) (x : CapSlot) : State :=
  (s.writeSlot slot 0 x.header).forEach x.entries.zipIdx (fun s p => s.writeSlot slot (4096 + 4096 * p.2) (capBlock p.1))
/-- Read the capture area and the wait table of every flock of a capture (R296). -/
def State.readBlocks (s : State) (c : CaptureRun) : State :=
  s.forEach (s.capFlocks c) (fun s p => s.sendAll ((List.range 15).map (fun i => .blockRead (flockUid p.1 p.2).toNat (256 * i))))

/-- Read the wait table of every in-service flock of a domain (R292); the pacer counts the bytes (R415). -/
def State.readWaitTables (s : State) (d : Uid) : State :=
  s.forEach ((domFlocks d).filter (fun p => s.flockUp p.1 p.2)) (fun s p =>
    ({ s with trace := { s.trace with used := s.trace.used + 768 } } : State).sendAll ([0xC00, 0xD00, 0xE00].map (fun o => .blockRead (flockUid p.1 p.2).toNat o)))

/-- A capture has ended, whole or truncated: the slot, event 0x0312, and the kill (R296 to R298). Without a memory tap in
service no slot is written (R138). -/
def State.captureEnded (s : State) (c : CaptureRun) (entries : List CapEntry) (truncated : Bool) : State :=
  let noMem := s.homeMem.isNone
  let entries := if noMem then [] else entries
  let trunc := truncated || noMem
  let copied := (entries.filter (·.copied)).length
  let code := match s.recovery.resets.find? (fun r => r.dom == c.dom), s.recovery.level1 with
    | some r, _ => r.code
    | none, some l => l.code
    | none, none => 0
  let slot : CapSlot := { dom := c.dom, code := code, truncated := trunc, t0 := c.began, t1 := s.tbase, entries := entries }
  let s := s.modRec (fun r => { r with capture := none, slots := if noMem then r.slots else setAt r.slots c.slot slot,
                                       lastSlot := if noMem then r.lastSlot else some c.slot })
  let s := if noMem then s else s.writeCapture c.slot slot
  let s := s.note 0x0312 dieUid (le 4 c.dom.toNat ++ [BitVec.ofNat 8 c.slot, BitVec.ofNat 8 (b2n trunc)] ++ le 2 copied
    ++ le 4 ((s.tbase - c.began) / 1000)) s.job.opId
  if c.level1 then s.modL1 (fun l => { l with step := .kill })
  else match s.recovery.resets.find? (fun r => r.dom == c.dom) with
    | some r => s.l0Kill r
    | none => s

/-- Begin a capture in the slot that does not hold the latest one (R297). -/
def State.beginCapture (s : State) (d : Uid) (level1 : Bool) : State :=
  let c : CaptureRun := { dom := d, level1 := level1, slot := if s.recovery.lastSlot = some 0 then 1 else 0, began := s.tbase }
  if s.homeMem.isNone then s.captureEnded c [] true
  else (s.modRec (fun r => { r with capture := some c })).readBlocks c

/-- A muster notice of this chip still waits in a tap's queue (R302). -/
def LinkTap.musterWaits (x : LinkTap) : Bool := x.notices.any (fun fr => fr.typ == 2)

/-- A happening after which Pref is set to the modelled power (R337). -/
def State.exempt (s : State) : State := { s with power := { s.power with pref := none, exemptAt := some s.tbase } }

/-- The rail cycle and the retraining of level 1 begin (R302): retrain words, then the compute rails open. -/
def State.l1Rails (s : State) : State :=
  let s := s.forEach (List.range Config.linkTaps) (fun s t =>
    if (s.tap t).inService && (s.tap t).linkUp && (s.tap t).musterWaits then s.modTap t (fun x => { x with retrainWait := true })
    else s.retrainLink t)
  let mems := s.upMems
  let s := s.forEach mems State.retrainStack
  let fields := s.upFields
  let s := (s.forEach fields State.railDown).exempt
  s.modL1 (fun l => { l with step := .railHold, openAt := s.tbase, killWait := [], groups := chunks 8 8 fields,
                             linkWait := List.range Config.linkTaps, stackWait := mems })

/-- Level 1's kill step: fsp_kill on every FSP not killed already (R302). -/
def State.l1Kill (s : State) (l : Level1) : State :=
  if l.step != .kill || !l.killWait.isEmpty then s
  else
    let fl := (s.liveFlocks dieUid).filter (fun p => !(s.flock p.1 p.2).kill)
    let s := s.forEach fl (fun s p => s.raiseKill p.1 p.2)
    let wait := (s.liveFlocks dieUid).map (fun p => flockKey p.1 p.2)
    if wait.isEmpty then s.l1Rails else s.modL1 (fun l => { l with killWait := wait })

/-- The next group of fields has its compute rails closed (R302). -/
def State.l1CloseGroup (s : State) : State :=
  match s.recovery.level1 with
  | none => s
  | some l =>
    match l.groups with
    | [] => s
    | g :: gs =>
      let s := s.forEach g (fun s f => (s.modField f (fun fd => { fd with compEn := true, enAt := s.tbase })).sig .pspCompEn f 1)
      s.modL1 (fun l => { l with step := .railClose, groups := gs, pgWait := g })

/-- A field's rail has reached regulation in level 1: its flock resets are queued, and the next group may close (R302). -/
def State.l1Field (s : State) (f : Nat) : State :=
  match s.recovery.level1 with
  | none => s
  | some l =>
    let keys := (List.range Config.flocks).map (fun k => flockKey f k)
    let (q, w, new) := fillResets (l.queue ++ keys) l.waiting
    (s.modL1 (fun l => { l with pgWait := without l.pgWait f, queue := q, waiting := w })).writeResets new

/-- The reference set of R150: the first 16 patterns of classes 0 and 1, by index. -/
def State.referenceSet (s : State) : List Nat :=
  (((List.range s.patterns.length).filter (fun i => decide ((s.patternOf i).cls ≤ 1)))).take 16

/-- The recovery self-test of the next eight fields: every physical core gets the reference set at its standing step (R302). -/
def State.l1TestGroup (s : State) : State :=
  match s.recovery.level1 with
  | none => s
  | some l =>
    let g := l.testFields.take 8
    let items := s.referenceSet.map (fun p => ({ pattern := p } : Item))
    let s := s.forEach g (fun s f => s.forEach (List.range Config.flocks) (fun s k => s.forEach (List.range Config.cores) (fun s c =>
      if (s.core f k c).st.gone then s else s.modCore f k c (fun x => { x with selfItems := items }))))
    s.modL1 (fun l => { l with testGroup := g, testFields := l.testFields.drop 8 })

/-- A field's part of a self-test group has ended: no core of it has items left or a slice under way. -/
def State.selfTestEnded (s : State) (f : Nat) : Bool :=
  (s.listedCores (fieldUid f)).all (fun p => (s.core p.1 p.2.1 p.2.2).selfItems.isEmpty && (s.core p.1 p.2.1 p.2.2).slice.isNone)

/-- Level 1 ends (R302 to R304, R314): maps, the end of the job, held hurdles, events 0x0315 and 0x0313, RECOVER completes. -/
def State.l1Finish (s : State) (l : Level1) (folds : List Muster) : State :=
  let s := s.syncDomain dieUid
  let s : State := { s with musters := s.musters.filter (fun m => !(folds.any (fun q => q.dom == m.dom && q.ring == m.ring))) }
  let s := s.modRec (fun r => { r with level1 := none, resets := [] })
  let s := s.forEach (s.liveFlocks dieUid) (fun s p => s.rewriteMaps p.1 p.2)
  let ended := s.job.active
  let s := s.endJob.holdHurdles
  let mask := l.lost.foldl (fun n f => n + 2 ^ f) 0
  let s := s.forEach l.lost (fun s f => (s.modField f (fun fd => { fd with pad := .lost })).noteLost f)
  let s := s.checkGrade
  let s := s.note 0x0313 dieUid (le 4 dieUid.toNat ++ [1, BitVec.ofNat 8 (1 + 2 * b2n ended)] ++ le 2 l.resets ++ le 4 ((s.tbase - l.began) / 1000)) s.job.opId
  let s := if l.lost.isEmpty then s
    else s.report 0x0315 dieUid ([BitVec.ofNat 8 l.lost.length, 0, 0, 0] ++ le 8 mask) s.job.opId
  match l.ring with
  | some r => s.complete r (if l.lost.isEmpty then stOk else stTimeout)
  | none => s

/-- One move of level 1, when the step under way has ended (Table 12.4). -/
def State.l1Move (s : State) : State :=
  match s.recovery.level1 with
  | none => s
  | some l =>
    match l.step with
    | .hurdle => match s.hurdlePhase dieUid with
      | .closing => s
      | _ => s.modL1 (fun l => { l with step := .drain, drainAt := s.tbase })
    | .drain => if s.hurdlePhase dieUid = .drained then
        (if l.doneDoms.contains dieUid then s.modL1 (fun l => { l with step := .kill })
         else if s.recovery.capture.isNone then (s.modL1 (fun l => { l with step := .capture, captureAt := s.tbase })).beginCapture dieUid true else s)
      else s
    | .capture => s
    | .kill => if l.killWait.isEmpty then s.l1Kill l else s
    | .railHold => s
    | .railClose =>
      if l.pgWait.isEmpty then
        if l.groups.all (·.isEmpty) then
          (if l.queue.isEmpty && l.waiting.isEmpty then s.modL1 (fun l => { l with step := .train, groups := [] }) else s)
        else s.l1CloseGroup
      else s
    | .train =>
      if l.stackWait.isEmpty then
        let s := s.modL1 (fun l => { l with step := .selfTest, testFields := if s.patterns.isEmpty then [] else s.upFields, testGroup := [] })
        s
      else s
    | .selfTest =>
      if l.testGroup.all s.selfTestEnded then
        if l.testFields.isEmpty then
          let m : Muster := { ring := 255, dom := dieUid, began := s.tbase }
          let s := s.syncDomain dieUid
          let s : State := { s with musters := s.musters ++ [m] }
          (s.modL1 (fun l => { l with step := .folds })).beginFolds dieUid
        else s.l1TestGroup
      else s
    | .folds =>
      let ms := s.musters.filter (fun m => m.ring == 255)
      if ms.all (fun m => m.folding && m.left.isEmpty) && l.linkWait.isEmpty then s.l1Finish l ms else s

/-- One move of a level-0 reset, when the step under way has ended (R298). -/
def State.l0Move (s : State) (r : Level0) : State :=
  match r.step with
  | .hurdle => match s.hurdlePhase r.dom with
    | .closing => s
    | _ => s.modReset r.dom (fun q => { q with step := .drain })
  | .drain => if s.hurdlePhase r.dom = .drained then s.modReset r.dom (fun q => { q with step := .capture }) else s
  | .capture => if s.recovery.capture.isNone then s.beginCapture r.dom false else s
  | .kill => s.l0Words r
  | .reset => s.l0Finish r

/-- Every reset and the level-1 recovery make the move that is open to them. -/
def State.pumpOnce (s : State) : State :=
  let s := s.forEach (s.recovery.resets.map (·.dom)) (fun s d =>
    match s.recovery.resets.find? (fun r => r.dom == d) with | some r => s.l0Move r | none => s)
  s.l1Move
/-- Moves until nothing moves: a reset passes five steps, level 1 nine. -/
def State.pump (s : State) : State := (List.range 9).foldl (fun s _ => if s.recovery.resets.isEmpty && s.recovery.level1.isNone then s else s.pumpOnce) s

/-- A flock's reset status is in (R298, R303): done, or failed. -/
def State.resetDone (s : State) (f k : Nat) (ok : Bool) : State :=
  let key := flockKey f k
  match s.recovery.resets.find? (fun r => r.waiting.contains key) with
  | some r =>
    if ok then
      let s := s.flockReset f k
      let (q, w, new) := fillResets r.queue (without r.waiting key)
      (s.modReset r.dom (fun x => { x with queue := q, waiting := w, resets := x.resets + 1 })).writeResets new
    else s.escalate r.dom 0 r.code (flockUid f k) (some r.dom)
  | none =>
    match s.recovery.level1 with
    | none => s
    | some l =>
      if !l.waiting.contains key then s
      else if ok then
        let s := s.flockReset f k
        let (q, w, new) := fillResets l.queue (without l.waiting key)
        (s.modL1 (fun x => { x with queue := q, waiting := w, resets := x.resets + 1 })).writeResets new
      else if l.retried.contains key then s.loseField f 3
      else (s.modL1 (fun x => { x with retried := x.retried ++ [key] })).writeResets [key]

end Sys2Proof.Machine
end

