-- ==== Sys2Proof/Machine/Pair.lean ====
section
/-! DEFINITION. The Shepherd pair and the Warden: resets of a Shepherd, switch-over, the loss of both, votes and the challenge
(R343 to R358). -/

namespace Sys2Proof.Machine

/-- Change the pair. -/
def State.modPair (s : State) (g : Pair → Pair) : State := { s with pair := g s.pair }
/-- The Warden voters in service and not under reset. -/
def Pair.liveVoters (p : Pair) : List Nat := (List.range 3).filter (fun v => let x := p.voters.getD v {}; x.inService && !x.resetting)
/-- A Shepherd is in service: active, following, or coming back. -/
def Shc.inService (x : Shc) : Bool := match x.status with | .active | .following | .resetting | .catchingUp => true | _ => false

/-- A Shepherd is reset (R276, R350, R355): its gate closes; a third reset within 60 s takes it out of service instead. -/
def State.resetShc (s : State) (b : Bool) : State :=
  let x := s.pair.shc b
  let times := recentTimes s.tbase 60000000000 x.resetTimes
  if x.status = .outOfService ∨ x.status = .off then s
  else if 2 ≤ times.length then
    (s.modShc b (fun x => { x with status := .outOfService, gate := false, nmi := none })).sig .shcGate (b2n b) 0
  else
    ((s.modShc b (fun x => { x with status := .resetting, gate := false, lost := false, nmi := none, resetTimes := times ++ [s.tbase], resetAt := s.tbase,
                                    trace := {} })).sig .shcGate (b2n b) 0).sig .shcReset (b2n b) 1

/-- Both Shepherds are lost (R357): no gate is open, no firmware runs, the Warden drivers hold FATAL_N low. -/
def State.loseBoth (s : State) (cause : Nat) : State :=
  if s.pair.bothLost then s
  else
    let s := s.modPair (fun p => { p with
      a := { p.a with gate := false, lost := true, nmi := none }, b := { p.b with gate := false, lost := true, nmi := none }
      active := none, bothLost := true, lostAt := s.tbase, lostCause := cause, challenge := none, digestWait := none, held := [], gapFrom := none, swDue := none, skew := false })
    let s : State := { s.exempt with pins := { s.pins with wardenFatal := true }, start := { s.start with fwRun := false, settings := some (s.start.settings.getD s.policy) }, policy := {} }
    ((s.sig .shcGate 0 0).sig .shcGate 1 0).sig .fatalN 0 0

/-- Unacknowledged entries are held in some Drover's event buffer. -/
def State.buffered (s : State) : Bool := s.fields.any (fun p => !p.2.buffer.isEmpty)

/-- Event 0x0107, once every Drover's entries have been replayed (R351, R358). -/
def State.noteSwitch (s : State) : State :=
  match s.pair.swDue with
  | none => s
  | some (id, gap) =>
    if s.buffered then s
    else
      let p := s.pair
      let s := s.modPair (fun p => { p with swDue := none, replayed := 0, resent := 0 })
      s.report 0x0107 (shcUid id.isB) (le 1 p.gapCause ++ le 1 0 ++ le 2 gap ++ le 4 p.replayed ++ le 4 p.resent)

/-- The writes of a completion go out again (R130), unless they wait among the outputs that are resent anyway. -/
def State.reissueCompletion (s : State) (held : List Output) (r : CmdRing) : State :=
  let waits := fun (a : Nat) => held.any (fun o => match o with | .host b _ _ => a == b | _ => false)
  match r.stage with
  | some (0, c) => if waits r.bufAddr then s else s.writeCompletion r c
  | some (_, c) => if waits (r.slot + 57) then s else s.writeResult r { c with neg := none }
  | none => s
/-- Host memory and interrupts after a switch-over (R130): the completion writes with no response yet in their original order, the counts,
the event entries whose tail-count write is not confirmed, and the interrupt message without its acknowledge. -/
def State.reissueHost (s : State) (held : List Output) : State :=
  let s := if s.hif.st != .running then s else
    let l := sortOn (fun r => (r.issued : Int)) (s.hif.cmds.filter (fun r => r.stage.isSome && !r.stopped))
    let s := s.forEach l (fun s r => s.reissueCompletion held r)
    let s := s.forEach (s.hif.evs.flatMap (·.unconf)) (fun s p => (s.hostWrite p.1 (p.2.take 63)).hostWrite (p.1 + 63) (p.2.drop 63))
    s.statusWords s.hif.st s.hif.counts
  if s.hif.impVld.isSome then s.driveImp s.hif.impVld else s

/-- The follower becomes active (R351, R352): it processes what it holds, its gate opens, it sends the takeover message and
resends the outputs that were not released. The gap is at most 4,096 SCLK cycles under all conditions (R9). -/
def State.switchOver (s : State) (cause : Nat) (resetOld : Bool) : State :=
  match s.follower with
  | none => s.loseBoth 0
  | some nb =>
    let ob := !nb
    let from_ := s.pair.gapFrom.getD (s.pair.shc ob).lastHb
    let gap := (s.tbase - from_) * 8 / 10
    let held := s.pair.held
    let s := if resetOld then s.resetShc ob else (s.modShc ob (fun x => { x with gate := false })).sig .shcGate (b2n ob) 0
    let s := (s.modShc nb (fun x => { x with status := .active, gate := true })).sig .shcGate (b2n nb) 1
    let s := s.modPair (fun p => { p with
      active := some (shcOf nb), held := [], processed := p.order, followed := p.order, released := p.order, challenge := none, digestWait := none
      mismatch := [], gapFrom := none, gapCause := cause, replayed := 0, resent := held.length, swDue := some (shcOf ob, sat 4096 gap) })
    let s := s.broadcast (shcUid nb) (s.drovers ++ s.upTaps.map engineUid ++ s.pair.liveVoters.map voterUid) .takeover cause
    let s := (s.pmbusTakeover).flashTakeover
    let s := ({ s with out := s.out ++ held.map (·.2) } : State).reissueHost (held.map (·.2))
    let s := match s.recovery.capture with | some c => s.readBlocks c | none => s
    s.noteSwitch

/-- A Shepherd is found lost by two voters (R348, R357). -/
def State.shcLost (s : State) (b : Bool) : State :=
  let self := (s.pair.shc b).lost
  let s := s.modShc b (fun x => { x with lost := true })
  if s.pair.active = some (shcOf b) then
    if (s.pair.shc (!b)).status = .following then
      (if (s.pair.shc (!b)).lost then s.loseBoth 1 else s.switchOver (if self then 4 else 0) true)
    else s.loseBoth 0
  else if (s.pair.shc b).status = .following then s.resetShc b
  else s

/-- A PARTRST of a Shepherd (Table 11.6): the Warden switches over first when it is the active one (R9). -/
def State.shcPartReset (s : State) (b : Bool) : State :=
  if s.pair.active = some (shcOf b) then
    (if (s.pair.shc (!b)).status = .following then s.switchOver 2 true else s.resetShc b |>.loseBoth 0)
  else s.resetShc b

/-- Two voters have found a mismatch: both gates close and the challenge goes out (R350). -/
def State.beginChallenge (s : State) (late : Bool) (x : BitVec 64) : State :=
  if s.pair.challenge.isSome || s.pair.skew || s.follower.isNone || s.pair.liveVoters.length < 2 then s
  else
    let (s, r) := s.draw
    let s := (s.modShc false (fun y => { y with gate := false })).modShc true (fun y => { y with gate := false })
    let c : Challenge := { seed := r.setWidth 32, began := s.tbase, late := late, epoch := s.pair.wEpoch, xor_ := x.setWidth 32 }
    let s := s.modPair (fun p => { p with challenge := some c, challengeNo := p.challengeNo + 1, gapFrom := some s.tbase, digestWait := none, mismatch := [] })
    let s := s.forEach s.pair.liveVoters (fun s v => s.broadcast (voterUid v) [shcUid false, shcUid true] .challenge c.seed.toNat)
    (s.sig .shcGate 0 0).sig .shcGate 1 0

/-- The challenge outcome applies (Table 14.2): gate or switch-over, the reset it names, and event 0x0106. -/
def State.applyOutcome (s : State) (outcome : Nat) : State :=
  match s.pair.challenge, s.pair.active with
  | some c, some act =>
    let ab := act.isB
    let s := s.modPair (fun p => { p with challenge := none })
    let s := if outcome = 1 then s.switchOver 1 true
      else
        let s := (s.modShc ab (fun x => { x with gate := true })).sig .shcGate (b2n ab) 1
        (s.modPair (fun p => { p with gapFrom := none })).resetShc (!ab)
    let v := s.pair.liveVoters.headD 0
    let pinned := bit (s.mask 0x0106 clsUC) 5
    let s := s.report 0x0106 (voterUid v) ([BitVec.ofNat 8 outcome, BitVec.ofNat 8 (b2n c.late), 0, 0] ++ le 4 c.epoch ++ le 4 c.xor_.toNat)
    if outcome = 3 ∧ !pinned then s.assertPin false else s
  | _, _ => s

/-- Codes of votes, as 0x010E carries them: the spec gives none (DESIGN CHOICE, log 13). -/
def voteCode : Vote → Nat
  | .loss false => 0 | .loss true => 1 | .mismatch false => 2 | .mismatch true => 3 | .challenge o => 4 + o % 4
  | .partrst false => 8 | .partrst true => 9 | .swap => 10

/-- A voter leaves service: with fewer than two left no vote can act, and 0x010F is recorded once (R349). -/
def State.retireVoter (s : State) (v : Nat) : State :=
  let s := s.modPair (fun p => { p with voters := modifyAt p.voters v (fun x => { x with inService := false, resetting := false }) })
  let n := ((List.range 3).filter (fun i => (s.pair.voters.getD i {}).inService)).length
  if n < 2 ∧ !s.pair.noMajority then
    (s.modPair (fun p => { p with noMajority := true })).report 0x010F dieUid [BitVec.ofNat 8 n]
  else s

/-- What two equal votes of one round do (R349). -/
def State.actVote (s : State) (v : Vote) : State :=
  match v with
  | .loss b => s.shcLost b
  | .mismatch late => s.beginChallenge late 0
  | .challenge o => s.applyOutcome o
  | .partrst b => s.shcPartReset b
  | .swap => s

/-- A voter's vote is sent on both planes to the other voters and to both Shepherds, and taken (R349): one for the present round acts when another voter has cast the same; a vote that
differs from two agreeing votes of the last acting round, or of this one, makes 0x010E. -/
def State.castVote (s : State) (i r : Nat) (v : Vote) : State × Bool :=
  let x := s.pair.voters.getD i {}
  if 3 ≤ i || !x.inService || x.resetting then (s, false)
  else
    let s := s.broadcast (voterUid i) ((without s.pair.liveVoters i).map voterUid ++ [shcUid false, shcUid true]) .vote (65536 * r + voteCode v)
    let s := s.modPair (fun p => { p with voters := modifyAt p.voters i (fun x => { x with vote := some (r, v) }) })
    let same := fun (w : Vote) => ((List.range 3).filter (fun j => (s.pair.voters.getD j {}).vote == some (r, w))).length
    let odd := (List.range 3).filter (fun j => match (s.pair.voters.getD j {}).vote with
      | some (q, w) => q == r && same w == 1 && (List.range 3).any (fun m => match (s.pair.voters.getD m {}).vote with
          | some (q', w') => q' == r && same w' == 2 | none => false)
      | none => false)
    let acts := r == s.pair.round && same v == 2
    let s := if acts then s.modPair (fun p => { p with round := p.round + 1 }) else s
    let major := (List.range 3).findSome? (fun m => match (s.pair.voters.getD m {}).vote with
      | some (q', w') => if q' = r ∧ same w' = 2 then some w' else none | none => none)
    let s := match major with
      | some w => s.forEach odd (fun s j =>
          let own := match (s.pair.voters.getD j {}).vote with | some (_, w') => voteCode w' | none => 0
          let s := s.modPair (fun p => { p with voters := modifyAt p.voters j (fun x => { x with vote := none }) })
          s.report 0x010E (voterUid j) (le 4 r ++ [BitVec.ofNat 8 own, BitVec.ofNat 8 (voteCode w)]))
      | none => s
    (s, acts)

end Sys2Proof.Machine
end

