-- ==== Sys2Proof/Machine/PartReset.lean ====
section
/-! DEFINITION. PARTRST: the reset of a Beyja part, its return and its retirement (R276, R285, Table 11.6). -/

namespace Sys2Proof.Machine

/-- The parts that PARTRST can reset (R285). -/
inductive Part where
  | drover (f : Nat) | router (f plane : Nat) | crook (f i : Nat) | engine (tap : Nat) | shc (b : Bool) | voter (v : Nat)
  deriving DecidableEq, Repr

/-- The link tap of an engine UID: the n-th tap of its field (Table 1.5, R16). -/
def engineTap (f e : Nat) : Option Nat := (List.range Config.linkTaps).find? (fun t => Config.linkField t == f && t % 2 == e)

/-- The part that a UID selects (R285). -/
def partOf (u : Uid) : Option Part :=
  let e := uidElem u
  let f := uidField u
  match uidLevel u with
  | 5 =>
    if e = 0 ∨ e = 3 ∨ e = 4 then some (.drover f)
    else if e = 1 ∨ e = 2 then some (.router f (e - 1))
    else if 8 ≤ e ∧ e < 8 + Config.crooks then some (.crook f (e - 8))
    else if 0x10 ≤ e ∧ e ≤ 0x13 then (engineTap f (e - 0x10)).map .engine
    else none
  | 6 =>
    if e = 0 then some (.shc false) else if e = 1 then some (.shc true)
    else if 2 ≤ e ∧ e ≤ 4 then some (.voter (e - 2))
    else if 8 ≤ e ∧ e ≤ 0x15 then some (.shc (f == Config.shcField true))
    else none
  | _ => none

/-- A part that PARTRST is resetting. -/
def State.partResetting (s : State) (p : Part) : Bool :=
  match p with
  | .drover f => (s.field f).droverResetting
  | .router f n => (s.field f).routerResetting.contains n
  | .crook f i => (s.crook f i).resetting
  | .engine t => (s.tap t).resetting
  | .shc b => (s.pair.shc b).status == .resetting || (s.pair.shc b).status == .catchingUp
  | .voter v => (s.pair.voters.getD v {}).resetting

/-- A part that is out of service: no reset brings it back before the next start (R189, Table 11.6). -/
def State.partGone (s : State) (p : Part) : Bool :=
  match p with
  | .drover f => (s.field f).droverOut
  | .router f n => (s.field f).routerOut.contains n
  | .crook f i => !(s.crook f i).inService
  | .engine t => !(s.tap t).inService
  | .shc b => (s.pair.shc b).status == .outOfService
  | .voter v => !(s.pair.voters.getD v {}).inService

/-- TBASE of the part's resets in the last 60 s (R276). -/
def State.partTimes (s : State) (p : Part) : List Nat :=
  recentTimes s.tbase 60000000000 (match p with
    | .drover f => (s.field f).droverResets
    | .router f n => ((s.field f).routerResets.filter (fun q => q.1 == n)).map (·.2)
    | .crook f i => (s.crook f i).resetTimes
    | .engine t => (s.tap t).resetTimes
    | .shc b => (s.pair.shc b).resetTimes
    | .voter v => (s.pair.voters.getD v {}).resetTimes)

/-- Release the earmark trackers of an engine, with a trace entry each (R210). -/
def State.releaseTrackers (s : State) (t : Nat) (which : Nat → EmTracker → Bool) : State :=
  let f := Config.linkField t
  s.forEach ((s.tap t).trackers.filter (fun p => which p.1 p.2)) (fun s p =>
    let x := p.2
    let s := s.modTap t (fun y => { y with trackers := assocDel y.trackers p.1 })
    s.traceDrover f 0x12 (le 1 x.coll ++ le 1 p.1 ++ le 2 x.epoch.toNat ++ le 6 x.step.toNat ++ zeros 2 ++ le 4 x.frames ++ le 8 x.bytes ++ le 8 x.xor_.toNat))

/-- The die-compute reset that a paddocked field orders while a job runs (R319 step 4). -/
def State.orderDierst (s : State) (code : Nat) : State := if s.job.active then { s with due := s.due ++ [.dierst code] } else s

/-- A part leaves service (Table 11.6). -/
def State.partOut (s : State) (p : Part) : State :=
  match p with
  | .drover f =>
    ((s.modField f (fun fd => { fd with droverOut := true, droverResetting := false })).loseField f 4).orderDierst 0x0304
  | .router f n => s.modField f (fun fd => { fd with routerOut := insertNew fd.routerOut n, routerResetting := without fd.routerResetting n })
  | .crook f i => (s.crookOut f i).modCrook f i (fun x => { x with resetting := false })
  | .engine t => s.modTap t (fun x => { x with inService := false, resetting := false })
  | .shc b => s.modShc b (fun x => { x with status := .outOfService, gate := false })
  | .voter v => s.retireVoter v

/-- PARTRST of a part (R276, Table 11.6): a third within 60 s takes it out of service; a part already being reset is not
reset again (R282), one out of service stays out. A Drover's field is fenced and its commands killed first. -/
def State.partReset (s : State) (u : Uid) : State :=
  match partOf u with
  | none => s
  | some p =>
    if s.partResetting p || s.partGone p then s
    else
      let times := s.partTimes p
      match p with
      | .shc b => s.shcPartReset b
      | _ =>
        if 2 ≤ times.length then s.partOut p
        else
          let times := times ++ [s.tbase]
          match p with
          | .drover f =>
            let s := s.closeHurdle (fieldUid f) 3 0
            let s := s.forEach (s.liveFlocks (fieldUid f)) (fun s q => s.raiseKill q.1 q.2)
            s.modField f (fun fd => { fd with droverResetting := true, droverResets := times })
          | .router f n => s.modField f (fun fd => { fd with routerResetting := insertNew fd.routerResetting n,
                                                             routerResets := fd.routerResets.filter (fun q => q.1 != n) ++ times.map (fun t => (n, t)) })
          | .crook f i => ((s.voidEntries f i).modCrook f i (fun x => { x with resetting := true, resetTimes := times })).moveConfirms f i
          | .engine t => (s.releaseTrackers t (fun _ _ => true)).modTap t (fun x => { x with resetting := true, resetTimes := times })
          | .voter v => s.modPair (fun q => { q with voters := modifyAt q.voters v (fun x => { x with resetting := true, resetTimes := times, vote := none }) })
          | .shc _ => s

/-- A part's reset has ended (Table 11.6): it returns to service, or leaves it when its self-test fails. A Drover's field
returns through the field level-0 path. -/
def State.partReturn (s : State) (u : Uid) (pass : Bool) : State :=
  match partOf u with
  | none => s
  | some p =>
    if !s.partResetting p then s
    else if !pass then s.partOut p
    else match p with
      | .drover f =>
        let s := s.modField f (fun fd => { fd with droverResetting := false, drover := true })
        { s with due := s.due ++ [.level0 (fieldUid f) 3 0] }
      | .router f n => (s.modField f (fun fd => { fd with routerResetting := without fd.routerResetting n })).linksBack f [n]
      | .crook f i => s.modCrook f i (fun x => ({ x with resetting := false, selfTestAt := s.tbase } : Crook).kick)
      | .engine t => s.modTap t (fun x => { x with resetting := false })
      | .shc _ => s
      | .voter v => s.modPair (fun q => { q with voters := modifyAt q.voters v (fun x => { x with resetting := false }) })

end Sys2Proof.Machine
end

