-- ==== Sys2Proof/Machine/Clocks.lean ====
section
/-! DEFINITION. Frequency and voltage of a field (R323, R324): the order of a change, and the PLL slew. -/

namespace Sys2Proof.Machine

/-- VOUT_COMMAND on page 0 of a field's regulator, never above the OTP cap; its read-back is awaited (R90, R323). -/
def State.commandVolt (s : State) (f mv : Nat) : State :=
  let v := min mv Config.voltageCap
  (s.modField f (fun fd => { fd with volt := v, voutWait := true })).pmb f 0 0x21 (le 2 v)

/-- The test slices of a field that run at another step than the standing one end without verdict (R147). -/
def State.cutStepped (s : State) (f : Nat) : State :=
  s.forEach (s.listedCores (fieldUid f)) (fun s p =>
    let x := s.core p.1 p.2.1 p.2.2
    match x.slice with
    | some sl => if sl.step = x.step then s else s.cutSlice p.1 p.2.1 p.2.2
    | none => s)

/-- The frequency a field is to run at: the lower of the set frequency and its Lee limit (R323). -/
def State.aimOf (s : State) (f : Nat) : Nat := min s.power.fset (s.field f).flim

/-- A field is commanded to the frequency of R323, when it is a new one: one frequency change of R39, counted once. A raise
begins with the voltage, a lowering with the slew (R324). -/
def State.aimFreq (s : State) (f cause : Nat) : State :=
  let fd := s.field f
  let t := s.aimOf f
  if fd.target = t || fd.throttleEnd then s
  else
    let s := (s.unclean.modField f (fun fd => { fd with target := t, slewCause := cause, counters := bump fd.counters 3 1 })).cutStepped f
    if fd.freq < t then
      (s.modField f (fun fd => { fd with slewing := false, raisePending := true, lowerDue := none })).commandVolt f (voltOf t)
    else s.modField f (fun fd => { fd with slewing := decide (t < fd.freq), raisePending := false
                                           lowerDue := if t = fd.freq then some (s.tbase + 10000000) else none })

/-- A slew may take its next step, once 2 us have passed since the last rise of the gust signal: no storm hold, and the PLL locked
(R324, R326). -/
def State.slewOpen (s : State) (f : Nat) : Bool :=
  let fd := s.field f
  fd.slewing && fd.freq != fd.target && !fd.storm && !fd.relock

/-- A type 0x14 trace entry (R324, R336, Table 18.2). -/
def State.traceFreq (s : State) (f old new cause : Nat) : State :=
  s.traceDrover f 0x14 (le 8 (s.cycleCount f) ++ le 2 old ++ le 2 new ++ le 1 cause ++ zeros 3)

/-- One 25 MHz step of a field's slew, which a running job is not timing-clean after (R39); a lowering that has ended is followed by the voltage 10 ms later (R324). -/
def State.slewStep (s : State) (f : Nat) : State :=
  let s := s.syncField f
  let fd := s.field f
  let new := if fd.freq < fd.target then fd.freq + 25 else fd.freq - 25
  let s := (s.traceFreq f fd.freq new fd.slewCause).sig .pllFreq f new
  let done := new = fd.target
  let s := s.notClean
  s.modField f (fun x => { x with freq := new, slewing := !done, slewAt := s.tbase
                                  lowerDue := if done && decide (new < fd.freq) then some (s.tbase + 10000000) else x.lowerDue })

end Sys2Proof.Machine
end

