-- ==== Sys2Proof/Machine/Thins.lean ====
section
/-! DEFINITION. Carrying out pending thins, whole-flock disables and the return of disabled slots (R254, R255, R261). -/

namespace Sys2Proof.Machine

/-- The core of a thinned slot is Folded; its kind-6 entry makes it Retired when it commits (R254). -/
def State.thinCore (s : State) (f k j : Nat) : State :=
  let c := (s.flock f k).coreOf j
  let s := s.modCore f k c (fun x => { x with foldPending := false, stepPending := false, retest := none, shelter := .none })
  let s := s.coreTo f k c .folded 0x34
  s.foldEntry 6 5 j 0 (coreUid f k c)

/-- One slot is disabled: the map write with fsp_map_dis 1, and event 0x7034 (R254). -/
def State.thinSlot (s : State) (f k j : Nat) : State :=
  let s := s.modFlock f k (fun fl => { fl with disabled := insertNew fl.disabled j, thinPending := without fl.thinPending j })
  let s := ((s.mapWrite f k j ((s.flock f k).coreOf j) true).thinCore f k j).noteThin f k (some j) false
  s.writeTrim f k (s.trimOf f k)

/-- The whole logical flock is disabled: its slices end (R57), every slot's map write, the hurdle held closed, the physical flock Folded (R255). -/
def State.thinFlock (s : State) (f k : Nat) : State :=
  let thinned := (s.flock f k).thinPending
  let s := s.forEach (List.range Config.cores) (fun s c => s.cutSlice f k c)
  let s := s.forEach (List.range Config.slots) (fun s j => s.mapWrite f k j ((s.flock f k).coreOf j) true)
  let s := s.forEach thinned (fun s j => s.thinCore f k j)
  let s := s.modFlock f k (fun fl => { fl with disabled := List.range Config.slots, thinPending := [], unfoldSlots := [], wholeThin := false
                                               foldPending := false, foldRequested := false, foldCore := none, hurdleHeld := true })
  let s := (s.flockTo f k .folded 0x34).sig .fspHdlClose (flockUid f k).toNat 1
  let s := (s.foldEntry 7 5 0xFF 0 (flockUid f k)).noteThin f k none false
  s.writeTrim f k (s.trimOf f k)

/-- The thins of one flock, and the disabled slots that UNFOLD returned; a flock that is not quiet keeps them pending (R254). -/
def State.thinOne (s : State) (f k : Nat) : State :=
  let fl := s.flock f k
  if !fl.quiet || fl.logical.isNone || fl.st.gone then s
  else
    if (fl.thinned s.policy.thinLimit).2 then s.thinFlock f k
    else
      let s := s.forEach fl.unfoldSlots (fun s j =>
        (s.modFlock f k (fun x => { x with disabled := without x.disabled j })).mapWrite f k j (fl.coreOf j) false)
      let s := if fl.unfoldSlots.isEmpty then s else s.modFlock f k (fun x => { x with unfoldSlots := [] })
      s.forEach fl.thinPending (fun s j => s.thinSlot f k j)

/-- Flocks of a field that have something to thin or to serve again. -/
def State.thinKeys (s : State) (fields : List Nat) : List (Nat × Nat) :=
  ((s.flocks.filter (fun p => p.2.wholeThin || !p.2.thinPending.isEmpty || !p.2.unfoldSlots.isEmpty)).map (fun p => (p.1 / 64, p.1 % 64))).filter
    (fun p => fields.contains p.1)

/-- Apply the pending thins of fields, then the grade follows (R254, R255, R257). -/
def State.applyThins (s : State) (fields : List Nat) : State :=
  (s.forEach (s.thinKeys fields) (fun s p => s.thinOne p.1 p.2)).checkGrade

end Sys2Proof.Machine
end

