-- ==== Sys2Proof/Machine/JobStart.lean ====
section
/-! DEFINITION. What JOB_BEGIN does once its checks have passed (R309): the waits, the epoch, the drain, and the job. -/

namespace Sys2Proof.Machine

/-- JOB_BEGIN waits: for a soft repair (R263), for a paddock return and at most 60 ms (R321), or for an update to another contract version (R368). -/
def State.jobWaits (s : State) : Bool :=
  s.mems.any (fun p => p.2.repair.isSome) || (decide (s.tbase < s.job.startAt + 60000000) && s.fields.any (fun p => p.2.returning.isSome))
  || (s.fw.step != 0 && (match s.fw.running, s.fw.staging, (if s.fw.runningSlot = 0 then s.fw.slotB else s.fw.slotA) with
      | some r, _, some n => r.contract != n.contract
      | _, _, _ => false))

/-- The epoch moves (R308 to R310): it goes out on every link tap and memory tap, watch points report, open entries end, earmark
trackers are released, open sweeps close, and the drain of old-epoch stack writes is asked for. -/
def State.moveEpoch (s : State) (e : BitVec 16) : State :=
  let s := (s.watchFlush false).sweepsEpoch
  let s : State := { s with job := { s.job with epoch := e, begun := true, step := 0 } }
  let s := s.forEach (List.range Config.linkTaps) (fun s t => s.sig .ltpEpoch t e.toNat)
  let s := s.forEach (List.range Config.memTaps) (fun s t => s.sig .mtpEpoch t e.toNat)
  let s := s.abandon dieUid
  let s := s.forEach (List.range Config.linkTaps) (fun s t =>
    if (s.tap t).trackers.isEmpty && (s.tap t).unmarked.isEmpty then s
    else (s.releaseTrackers t (fun _ _ => true)).modTap t (fun x => { x with unmarked := x.unmarked.getLast?.toList }))
  s.forEach s.upMems (fun s t => (s.modMem t (fun m => { m with drainReq := true, drainDone := false })).sig .mtpDrainReq t 1)

/-- mtp_drain_req falls on every tap. -/
def State.lowerDrain (s : State) : State :=
  s.forEach (List.range Config.memTaps) (fun s t =>
    if (s.mem t).drainReq then (s.modMem t (fun m => { m with drainReq := false, drainDone := false })).sig .mtpDrainReq t 0 else s)

/-- Region i of the policy store (R307): base 1, limit 0 until a policy sets it. -/
def Policy.region (p : Policy) (i : Nat) : BitVec 64 := (assoc p.regions i).getD 1

/-- The regions go into the MTP service words 0x100 to 0x13F of every memory tap in service (R307, Table 2.11). -/
def State.writeRegions (s : State) : State :=
  let rs := (List.range 16).map s.policy.region
  s.forEach s.upMems (fun s t =>
    if (s.mem t).regions = rs then s
    else
      let s := s.modMem t (fun m => { m with regions := rs })
      s.forEach (List.range 16) (fun s i =>
        let v := (rs.getD i 1).toNat
        ((s.access true t (0x100 + 4 * i) (some (BitVec.ofNat 32 (v % 2 ^ 24)))).access true t (0x101 + 4 * i) (some (BitVec.ofNat 32 (v / 2 ^ 24 % 2 ^ 24)))).access true t
          (0x102 + 4 * i) (some (BitVec.ofNat 32 (v / 2 ^ 48 % 2)))))

/-- The valid peer entries of a job descriptor: tap, peer rank, peer tap (Table 8.3). -/
def peerEntries (d : List Byte) : List (Nat × BitVec 32 × Nat) :=
  (List.range Config.linkTaps).filterMap (fun t =>
    let o := 64 + 8 * t
    if rd d (o + 5) 1 = 1 then some (t, BitVec.ofNat 32 (rd d o 4), rd d (o + 4) 1) else none)

/-- A clock is stretched, stopped or thinned out by the throttle as a job begins: the job is not timing-clean (R39). -/
def State.disturbed (s : State) : Bool :=
  s.fields.any (fun p => decide (0 < p.2.stretch) || p.2.storm || p.2.relock || decide (0 < p.2.k))

/-- The new job's values, from its descriptor (R204, R309), and the versions in force at its JOB_BEGIN (R123); the arrangement of the job before it is
kept (R198). -/
def State.loadJob (s : State) (d : List Byte) (key : BitVec 64) : State :=
  { s with job := { s.job with
      active := true, no := s.job.no + 1, prevRank := s.job.rank, prevHops := s.job.hops, prevNotices := s.job.notices, prevPeers := s.job.peers, id := BitVec.ofNat 32 (rd d 0 4), key := key, donation := rd d 6 1, hops := rd d 7 1, lag := rd d 8 1, flags := rd d 9 1
      rank := BitVec.ofNat 32 (rd d 12 4), ranks := rd d 16 4, peers := peerEntries d, step := 0, notices := 0, clean := !s.disturbed, changes := 0
      ver := s.job.startVer, began := s.tbase, starting := none, startPhase := 0 } }

/-- The stagger word of every field in service; 0x300D when it is 0 (R334). -/
def State.writeStagger (s : State) (off : Bool) (jobId : Nat) : State :=
  let s := s.forEach s.upFields (fun s f => (s.modField f (fun fd => { fd with stagger := !off })).send (.sig .stagger f (b2n (!off))))
  if off then s.note 0x300D dieUid (le 4 jobId) else s

/-- Held hurdles reopen (R300, R309). -/
def State.reopenHeld (s : State) : State :=
  if s.recovery.hurdles.any (·.held) then
    let s := s.modRec (fun r => { r with hurdles := r.hurdles.filter (fun h => !h.held) })
    (s.toDrovers .hurdleOpen 0).openPorts dieUid
  else s

/-- The core-cycle count of every field restarts at zero (R34), and the energy of the current job (R340). -/
def State.restartCounts (s : State) : State :=
  let s := s.forEach (List.range Config.fields) (fun s f => (s.syncField f).modField f (fun fd => { fd with cycles := 0, cycleFrac := 0, cyclesAt := s.tbase }))
  let s := s.forEach (s.flocks.map (fun p => (p.1 / 64, p.1 % 64))) (fun s p => s.modFlock p.1 p.2 (fun fl => { fl with jobEnergy := 0 }))
  { s with power := { s.power with fillEnergy := 0 } }

/-- Every memory tap has drained: the job begins, and the set frequency takes effect in it (R309, R254, R179, R334, R323). -/
def State.jobGo (s : State) (ring : Nat) (d : List Byte) (off : Bool) : State :=
  let s := ((s.lowerDrain).writeRegions).applyThins s.upFields
  let (s, key) := s.draw
  let s := s.note 0x7016 dieUid (le 8 key.toNat ++ le 4 (rd d 0 4)) (BitVec.ofNat 64 s.job.epoch.toNat)
  let s := s.writeStagger off (rd d 0 4)
  let s := ((s.reopenHeld).restartCounts).loadJob d key
  let s : State := { s with power := { s.power with fset := s.policy.freq } }
  let s := s.forEach (List.range Config.fields) (fun s f => s.aimFreq f 0)
  s.complete ring stOk (le 2 s.job.epoch.toNat)

/-- JOB_BEGIN goes on as far as its waits allow (R309). -/
def State.jobMove (s : State) : State :=
  match s.job.starting with
  | none => s
  | some (ring, d, off) =>
    let s := if s.job.startPhase = 1 ∧ !s.jobWaits then
        let s := s.moveEpoch (BitVec.ofNat 16 (rd d 4 2))
        { s with job := { s.job with startPhase := 2, startAt := s.tbase } }
      else s
    if s.job.startPhase = 2 ∧ s.upMems.all (fun t => (s.mem t).drainDone) then s.jobGo ring d off else s

end Sys2Proof.Machine
end

