-- ==== Sys2Proof/Machine/Stacks.lean ====
section
/-! DEFINITION. Row repair of the memory stacks: which row is next, the repair, and its outcome (R262 to R265). -/

namespace Sys2Proof.Machine

/-- A graceful shut-down has been taken (R395). -/
def State.shutting (s : State) : Bool := s.life.shut.isSome
/-- The shut-down makes its hard repairs (R263, R395). -/
def State.hardRepairs (s : State) : Bool := match s.life.shut with | some d => d.phase == .repair | none => false
/-- Rows whose hard repair has failed in this shut-down. -/
def State.triedRows (s : State) : List (Nat × BitVec 32) := match s.life.shut with | some d => d.tried | none => []

/-- The row a memory tap repairs next, and whether for good (R263): soft between jobs in mode 1, rows of the fold list first;
hard at shut-down. -/
def State.nextRepair (s : State) (t : Nat) : Option (BitVec 32 × Bool) :=
  let m := s.mem t
  let due := (m.rows.filter (·.due)).map (·.loc)
  let untried := fun (l : List (BitVec 32)) => l.filter (fun r => !(s.triedRows.contains (t, r)))
  if !m.inService || m.repair.isSome then none
  else if s.hardRepairs then
    let l := match s.policy.repairMode with | 1 => untried m.softRows | 2 => untried due | _ => []
    l.head?.map (fun r => (r, true))
  else if s.policy.repairMode = 1 ∧ !s.job.active ∧ !s.shutting then (m.redoRows ++ due).head?.map (fun r => (r, false))
  else none

/-- A repair starts: the target, then the command, through the service words 0x010 and 0x011 (R263, Table 2.11). -/
def State.startRepair (s : State) (t : Nat) : State :=
  match s.nextRepair t with
  | none => s
  | some (r, hard) =>
    let s := s.modMem t (fun m => { m with repair := some { loc := r, hard := hard, started := s.tbase } })
    ((s.access true t 0x010 (some r)).access true t 0x011 (some (if hard then 2 else 1))).access true t 0x012 none

/-- A repair has ended with a status of word 0x012 (R265): 2 appends a fold-list entry; every outcome records 0x2020. A row that was
repaired before counts no further among the rows repaired (Table 10.8). -/
def State.repairEnded (s : State) (t status : Nat) : State :=
  match (s.mem t).repair with
  | none => s
  | some r =>
    let drop := fun (l : List (BitVec 32)) => without l r.loc
    let s := s.modMem t (fun m => { m with repair := none, redoRows := drop m.redoRows })
    let s := if status = 2 then
        let s := s.modMem t (fun m => { m with
          rows := m.rows.filter (fun q => q.loc ≠ r.loc)
          softRows := if r.hard then drop m.softRows else insertNew m.softRows r.loc })
        let known := (s.folds.entries ++ s.folds.waiting).any (fun e => decide (10 ≤ e.kind) && e.uid == memUid t && e.row == r.loc)
        let s := if known then s else s.modField (Config.memField t) (fun fd => { fd with rowsRepaired := fd.rowsRepaired + 1 })
        s.foldEntry (if r.hard then 11 else 10) 0 0xFF 0 (memUid t) r.loc
      else match s.life.shut with
        | some d => if r.hard then { s with life := { s.life with shut := some { d with tried := d.tried ++ [(t, r.loc)] } } } else s
        | none => s
    s.note 0x2020 (memUid t) (le 4 r.loc.toNat ++ [if r.hard then 2 else 1, BitVec.ofNat 8 status])

/-- The copies of the pack lie in the stacks of the lowest and the highest memory tap in service; when one becomes unreachable, the
next stack takes it (R137). -/
def State.placeCopies (s : State) : State :=
  let ends := (s.upMems.head?).toList ++ (s.upMems.getLast?).toList
  s.forEach (List.range Config.memTaps) (fun s t =>
    let want := if ends.contains t ∧ s.screen.running.isSome then some s.screen.gen else none
    if (s.mem t).packCopy = want then s else s.modMem t (fun m => { m with packCopy := want }))

end Sys2Proof.Machine
end

