-- ==== Sys2Proof/Machine/ShutDown.lean ====
section
/-! DEFINITION. The graceful shut-down and its self-test (R395 to R398). -/

namespace Sys2Proof.Machine

/-- Change the shut-down. -/
def State.modShut (s : State) (g : ShutDown → ShutDown) : State := { s with life := { s.life with shut := s.life.shut.map g } }
/-- Change its self-test. -/
def State.modTest (s : State) (g : SelfTest → SelfTest) : State := s.modShut (fun d => { d with test := d.test.map g })

/-- The self-test list of a core (R397): the rotation items with every guard item, then the lane items of classes 0 and 1,
unless the core skips a lane. -/
def State.selfList (s : State) (f k c : Nat) : List Item :=
  let n := s.patterns.length
  let rot := (List.range n).flatMap fun i =>
    let p := (c * 97 + i) % n
    if (s.patternOf p).guard then [({ pattern := p } : Item), { pattern := p, guard := true }] else [{ pattern := p }]
  let lanes := ((List.range n).filter (fun p => decide ((s.patternOf p).cls ≤ 1))).map (fun p => ({ pattern := p, lane := true } : Item))
  if (s.core f k c).laneSkip = 8 then rot ++ lanes else rot

/-- A core takes the self-test: its unit and its flock are neither Folded nor Retired. -/
def State.selfTests (s : State) (f k c : Nat) : Bool := !(s.core f k c).st.gone && !(s.flock f k).st.gone

/-- The next group begins, unless the boundary at its start stops the self-test (R396, R398). -/
def State.beginGroup (s : State) (t : SelfTest) : State :=
  let slice := s.policy.sliceLen * 1000000
  match t.groups with
  | [] => s.modShut (fun d => { d with test := none, phase := .filler })
  | g :: gs =>
    if s.policy.budget * 1000000000 < (s.tbase - t.began) + slice then
      s.modShut (fun d => { d with test := none, outcome := 1, phase := .filler })
    else
      let live := g.filter s.fieldUp
      let s := s.forEach live (fun s f => s.forEach (List.range Config.flocks) (fun s k => s.forEach (List.range Config.cores) (fun s c =>
        if s.selfTests f k c then s.modCore f k c (fun x => { x with selfItems := s.selfList f k c, used := [] }) else s)))
      s.modTest (fun t => { t with groups := gs, cur := live, groupFails := 0, groupAt := s.tbase, folding := [] })

/-- Every field of the group under way has ended its items: its folds are carried out as at a Muster point (R397). -/
def State.foldGroup (s : State) (t : SelfTest) : State :=
  if t.cur.isEmpty then s
  else if !(t.cur.all s.selfTestEnded) then s
  else
    let live := t.cur.filter s.fieldUp
    let s := s.modTest (fun t => { t with cur := [], folding := live })
    s.forEach live (fun s f =>
      let d := fieldUid f
      let s := s.syncDomain d
      let m : Muster := { ring := 254, dom := d, began := s.tbase }
      let s : State := { s with musters := s.musters ++ [m] }
      s.beginFolds d)

/-- The cores of fields that failed the self-test. -/
def State.failedCores (s : State) (fields : List Nat) : Nat :=
  (s.cores.filter (fun p => fields.contains (p.1 / 2048) && p.2.selfTestFailed)).length

/-- The folds of a group have ended: its thins are applied, and event 0x6005 is recorded unless the self-test stops (R397, R398). -/
def State.closeGroup (s : State) (t : SelfTest) : State :=
  let mine := s.musters.filter (fun m => m.ring == 254)
  if !(mine.all (fun m => m.folding && m.left.isEmpty)) then s
  else
    let s := s.forEach mine (fun s m => s.syncDomain m.dom)
    let s : State := { s with musters := s.musters.filter (fun m => m.ring != 254) }
    let s := s.applyThins t.folding
    let fails := s.failedCores t.folding
    let mask := t.folding.foldl (fun n f => n + 2 ^ f) 0
    let s := s.modShut (fun d => { d with failed := d.failed + fails, groupsDone := d.groupsDone + b2n (!t.stopping) })
    if t.stopping then s.modShut (fun d => { d with test := none, outcome := 1, phase := .filler })
    else
      let s := s.note 0x6005 dieUid ([BitVec.ofNat 8 t.groupNo, BitVec.ofNat 8 t.folding.length] ++ le 2 fails ++ le 8 mask)
      let t : SelfTest := { t with groupNo := t.groupNo + 1, cur := [], folding := [] }
      (s.modTest (fun _ => t)).beginGroup t

/-- One move of the self-test (R396 to R398). -/
def State.testMove (s : State) : State :=
  match s.life.shut.bind (·.test) with
  | none => s
  | some t => if t.folding.isEmpty && !t.cur.isEmpty then s.foldGroup t else s.closeGroup t

/-- The self-test begins, or is skipped without budget or pack (R395, policy item 0x1101). -/
def State.beginTest (s : State) : State :=
  if s.policy.budget = 0 ∨ s.patterns.isEmpty then s.modShut (fun d => { d with phase := .filler, outcome := 2 })
  else
    let t : SelfTest := { began := s.tbase, groups := chunks Config.fields s.policy.group s.upFields }
    let s := s.forEach (s.cores.map (fun p => (p.1 / 2048, p.1 / 32 % 64, p.1 % 32))) (fun s p =>
      if (s.core p.1 p.2.1 p.2.2).selfTestFailed then s.modCore p.1 p.2.1 p.2.2 (fun x => { x with selfTestFailed := false }) else s)
    (s.modShut (fun d => { d with phase := .selfTest, outcome := 0, test := some t })).beginGroup t

/-- Event 0x6004, whose commit is awaited (R395, R409). -/
def State.noteShut (s : State) (d : ShutDown) : State :=
  let (id, serial) := match s.screen.running with | some p => (p.id, p.serial) | none => (0, 0)
  let n := s.tally.next
  let s := s.note 0x6004 dieUid ([BitVec.ofNat 8 d.outcome, BitVec.ofNat 8 d.groupsDone] ++ le 2 d.failed ++ le 4 id ++ le 4 serial)
  s.modShut (fun d => { d with phase := .commit, record := some n })

/-- One move of the shut-down (R395). -/
def State.shutOnce (s : State) : State :=
  match s.life.shut with
  | none => s
  | some d =>
    match d.phase with
    | .reset =>
      if s.recovery.resets.isEmpty && s.recovery.level1.isNone && !s.job.active then s.modShut (fun d => { d with phase := .update }) else s
    | .update =>
      if s.fw.step != 0 then s
      else if !(s.recovery.hurdles.any (fun h => h.dom == dieUid)) then s.closeHurdle dieUid 1 0
      else if s.hurdlePhase dieUid = .closing then s
      else (s.holdHurdles).modShut (fun d => { d with phase := .repair })
    | .repair =>
      if s.mems.all (fun p => p.2.repair.isNone && (s.nextRepair p.1).isNone) then s.beginTest else s
    | .selfTest => s.testMove
    | .filler => if s.upFields.all (fun f => (s.field f).filler == 0) then s.noteShut d else s
    | .commit =>
      if s.tally.recent.any (fun r => r.code == 0x6004 && d.record == some r.sequence) then
        (s.modShut (fun d => { d with phase := .ended })).complete d.ring stOk
      else s
    | .ended => s

/-- The shut-down goes on as far as its waits allow; a group takes two moves. -/
def State.shutMove (s : State) : State :=
  (List.range 8).foldl (fun s _ => if s.life.shut.isSome then s.shutOnce else s) s

end Sys2Proof.Machine
end

