-- ==== Sys2Proof/Machine/FwUpdate.lean ====
section
/-! DEFINITION. Emergencies, the Lee level, and the live update of the firmware as far as it goes by itself (R330, R364 to R368). -/

namespace Sys2Proof.Machine

/-- T(f) as the Lee sequencer takes it: the target plus 1 C with fewer than four sensors in service (R328). -/
def State.leeTemp (s : State) (f : Nat) : Int :=
  if (s.field f).liveSensors.length < 4 then (s.policy.thermal : Int) * 8 + 8 else s.temp f

/-- The Lee level (Table 13.4). -/
def State.leeLevel (s : State) : Nat :=
  let any := fun (p : Nat → Bool) => (List.range Config.fields).any p
  if any (fun f => (s.field f).pad == .off && (s.field f).padCause == 2) then 3
  else if any (fun f => (s.field f).infraPg && (((s.field f).flim == 800 && decide ((s.policy.thermal : Int) * 8 < s.leeTemp f)) || (s.field f).divider
      || decide ((s.field f).liveSensors.length < 4))) then 2
  else if any (fun f => decide ((s.field f).flim < s.power.fset)) then 1 else 0

/-- Cause of the emergency that holds: 1 Lee level, 2 rail trip, 3 gust storm; 0 for none (R365, Table 15.7). -/
def State.emergency (s : State) : Nat :=
  if 2 ≤ s.leeLevel then 1
  else if (match s.power.lastTrip with | some t => decide (s.tbase < t + 1000000000) | none => false) then 2
  else if s.fields.any (fun p => p.2.storm) then 3 else 0

/-- Change the firmware state. -/
def State.modFw (s : State) (g : Fw → Fw) : State := { s with fw := g s.fw }
/-- The image in a firmware slot. -/
def Fw.slot (w : Fw) (i : Nat) : Option FwImage := if i = 0 then w.slotA else w.slotB
/-- The staged image: that of the slot which does not hold the running image (R364). -/
def Fw.stagedImage (w : Fw) : Option FwImage := if w.staged then w.slot (1 - w.runningSlot) else none
/-- The image an update brings: before the swap the staged one, after it the running one. -/
def Fw.newImage (w : Fw) : Option FwImage := if w.swapped then w.running else w.stagedImage

/-- Contract version of an image. -/
def contractOf (o : Option FwImage) : Nat := (o.map (·.contract)).getD 0
/-- Version of an image. -/
def versionOf (o : Option FwImage) : Nat := (o.map (·.version.toNat)).getD 0

/-- Event 0x4006 (Table 15.7). -/
def State.noteUpdate (s : State) (phase cause : Nat) (new : Option FwImage) : State :=
  s.note 0x4006 dieUid ([BitVec.ofNat 8 phase, BitVec.ofNat 8 cause, 0, 0] ++ le 4 (versionOf new) ++ le 2 (contractOf new) ++ le 2 (contractOf s.fw.running))

/-- The FW_ACTIVATE in progress completes. -/
def State.endActivate (s : State) (status : Nat) : State :=
  let r := s.fw.ring
  let s := s.modFw (fun w => { w with ring := none })
  match r with | some r => s.complete r status | none => s

/-- An update starts (Table 15.3, step 1). -/
def State.startUpdate (s : State) (ring : Option Nat) : State :=
  let s := s.modFw (fun w => { w with step := 1, ring := ring, s1 := s.pair.active.getD .a, swapped := false, old := w.running
                                      deferred := none, deferJob := false, calmSince := some 0 })
  s.noteUpdate 2 0 s.fw.stagedImage

/-- The Shepherd that runs the new image in an update. -/
def State.newShc (s : State) : Bool := !s.fw.s1.isB

/-- An update aborts (R367): 0x4007; the Shepherd that ran the new image is reset and takes the old one; the staged image stays. -/
def State.abortUpdate (s : State) (cause : Nat) : State :=
  let w := s.fw
  let v := versionOf w.newImage
  let nb := s.newShc
  let s := s.modFw (fun w => { w with step := 0, swapped := false, running := if w.swapped then w.old else w.running
                                      runningSlot := if w.swapped then 1 - w.runningSlot else w.runningSlot, staged := true })
  let s := s.modPair (fun p => { p with skew := false })
  let s := if 3 ≤ w.step ∧ ((s.pair.shc nb).status = .catchingUp ∨ (s.pair.shc nb).status = .following) ∧ !w.swapped then
      (s.modShc nb (fun x => { x with status := .resetting, resetAt := s.tbase, image := none })).sig .shcReset (b2n nb) 1
    else s
  (s.report 0x4007 dieUid ([BitVec.ofNat 8 w.step, BitVec.ofNat 8 cause, 0, 0] ++ le 4 v)).endActivate stTimeout

/-- The swap (Table 15.3, steps 4 and 5): S2 is active and S1 leaves service, to return on the new image. -/
def State.swapped (s : State) : State :=
  let new := s.fw.stagedImage
  let s := s.modFw (fun w => { w with step := 5, swapped := true, running := new, runningSlot := 1 - w.runningSlot, staged := false })
  s.noteUpdate 3 0 new

/-- The committed slot and the raised floor are written (Table 15.3, step 7). -/
def State.commitUpdate (s : State) : State :=
  let fl := (s.fw.running.map (·.floor)).getD 0
  let s := s.modFw (fun w => { w with step := 0, swapped := false, committed := w.runningSlot, floor := max w.floor fl, old := none })
  (s.noteUpdate 4 0 s.fw.running).endActivate stOk

/-- What happens to an update by itself after a command: a switch-over to S2 under skew mode makes it the Shepherd in service
(R356); the loss or reset of the Shepherd on the new image aborts before step 6 (R367). -/
def State.updateMove (s : State) : State :=
  if s.fw.step = 0 && s.fw.deferred.isNone then s
  else
    let busy := s.emergency != 0 || (s.fw.step != 0 && s.recovery.level1.isSome)
    let s := s.modFw (fun w => { w with calmSince := if busy then none else (match w.calmSince with | some t => some t | none => some s.tbase) })
    if s.fw.step = 0 || !s.firmware then s
    else
      let nb := s.newShc
      let st := (s.pair.shc nb).status
      if s.fw.step = 3 ∧ st = .active then s.swapped
      else if (s.fw.step = 3 ∨ s.fw.step = 5) ∧ st ≠ .active ∧ st ≠ .following ∧ st ≠ .catchingUp then s.abortUpdate 3
      else if s.fw.step = 5 ∧ s.follower.isSome then s.modFw (fun w => { w with step := 6 })
      else s

end Sys2Proof.Machine
end

