-- ==== Sys2Proof/Machine/Window.lean ====
section
/-! DEFINITION. The writes of the set-up window at emulated offsets: bring-up and resume of the host interface, the DMA aperture and the
bootstrap registers; held in a switch-over gap and answered when it ends (R100 to R103, R129, R429, R430). -/

namespace Sys2Proof.Machine

/-- Firmware answers the emulated offsets (R100). -/
def State.emulated (s : State) : Bool := s.start.fwRun && !s.pair.bothLost

/-- In-progress commands lose their ring, so that their completions are discarded (R103). Ring 255 names none. -/
def State.orphan (s : State) : State :=
  let s := s.modRec (fun r => { r with resets := r.resets.map (fun q => { q with rings := [] })
                                       level1 := r.level1.map (fun l => { l with ring := none })
                                       waitReqs := r.waitReqs.map (fun w => { w with ring := 255 }) })
  { s with
    job := { s.job with starting := s.job.starting.map (fun p => (255, p.2)) }
    musters := s.musters.map (fun m => if m.ring < 64 then { m with ring := 100 } else m)
    tally := { s.tally with pendingRead := [], pendingClear := [] }
    screen := { s.screen with staging := s.screen.staging.map (fun p => (255, p.2)) }
    fw := { s.fw with staging := s.fw.staging.map (fun p => (255, p.2)), ring := s.fw.ring.map (fun _ => 255) }
    life := { s.life with shut := s.life.shut.map (fun d => { d with ring := 255 }) } }

/-- The failure reason of a bootstrap, 0 for none (R103, Table 20.1). -/
def Hif.bootReason (h : Hif) : Nat :=
  let a := fun (b : BitVec 64) (n : Nat) => b.toNat % n == 0
  let c := h.cr0Size.toNat % 16
  let e := h.er0Size.toNat % 16
  if !a h.cr0Base 4096 then 1 else if c < 4 ∨ 12 < c then 2
  else if !a h.er0Base 4096 then 3 else if e < 4 ∨ 12 < e then 4
  else if !a h.dbAddr 1024 then 5 else if !a h.stAddr 1024 then 6
  else if h.inside h.cr0Base.toNat (64 * 2 ^ c) && h.inside h.er0Base.toNat (64 * 2 ^ e) && h.inside h.dbAddr.toNat 1024
      && h.inside h.stAddr.toNat 1024 then 0 else 7

/-- The state sensor leaves host lost; which of normal, degraded and fatal it then reads is free (R87). -/
def State.hostBack (s : State) : State :=
  let (s, v) := s.freeVal
  s.platformEvent ([0, 1, 3].getD (v.toNat % 3) 0)

/-- Bring the interface up with the ring-0 pair, or fail (R103). -/
def State.bringUp (s : State) : State :=
  let was := s.hif.st == .hostLost
  let first := s.hif.lostSeq.getD s.tally.next
  let s := s.orphan
  let s := s.modHif (fun h => { h with cmds := [], evs := [], neg := none, startHeld := false, reason := 0, lostSeq := none, hbOn := false
                                       dbFailed := false, stFailed := false })
  let r := s.hif.bootReason
  if r ≠ 0 then (s.modHif (fun h => { h with st := .bootFailed, reason := r })).report 0x5008 dieUid [BitVec.ofNat 8 r]
  else
    let s := s.modHif (fun h => { h with
      st := .running, dbCur := h.dbAddr.toNat, stCur := h.stAddr.toNat, hbOn := true, hbLast := s.tbase, hbLate := false
      cmds := [{ num := 0, base := h.cr0Base.toNat, log2 := h.cr0Size.toNat % 16, paired := 0 }]
      evs := [{ num := 0, base := h.er0Base.toNat, log2 := h.er0Size.toNat % 16, minSev := 0, mask := 0xFFFF, moderation := 20 }] })
    if was then (s.note 0x5005 dieUid ([0, 0] ++ le 6 first ++ zeros 4)).hostBack else s

/-- Host loss ends with the rings kept (R129): the held completions and the status block are written, word 73 of which still reads
HOST_LOST (R128). -/
def State.resume (s : State) : State :=
  let first := s.hif.lostSeq.getD s.tally.next
  let s := s.modHif (fun h => { h with st := .running, hbOn := true, hbLast := s.tbase, hbLate := false, lostSeq := none })
  let s := s.forEach (s.hif.cmds.filter (fun r => r.held.isSome)) (fun s r =>
    let s := s.modHif (·.modCmd r.num (fun r => { r with held := none }))
    match r.held with
    | some c => if r.stopped then s else s.writeCompletion { r with held := none } c
    | none => s)
  let s := s.statusWords .hostLost s.hif.counts
  (s.note 0x5005 dieUid ([1, 0] ++ le 6 first ++ zeros 4)).hostBack

/-- A write of `size` bytes at byte `o` of a 64-bit register (R424). -/
def putBits (old : BitVec 64) (o size : Nat) (v : BitVec 64) : BitVec 64 :=
  if size = 8 then v
  else
    let lo := old.toNat % 2 ^ 32
    let hi := old.toNat / 2 ^ 32
    let w := v.toNat % 2 ^ 32
    if o = 0 then BitVec.ofNat 64 (w + 2 ^ 32 * hi) else BitVec.ofNat 64 (lo + 2 ^ 32 * w)

/-- A write to APT_BASE or APT_LIMIT; ignored once the window is locked (R428, R430). -/
def Hif.aperture (h : Hif) (off size : Nat) (v : BitVec 64) : Hif :=
  let o := off % 8
  if h.lock then h
  else if off / 8 * 8 = 0x180 then { h with aptBase := putBits h.aptBase o size v &&& ~~~0xFFF#64 }
  else if off / 8 * 8 = 0x188 then { h with aptLimit := putBits h.aptLimit o size v ||| 0xFFF#64 }
  else h

/-- A write to a bootstrap register, or to an offset without one, which is ignored (R100, Table 4.2). -/
def Hif.bootWrite (h : Hif) (off size : Nat) (v : BitVec 64) : Hif :=
  let o := off % 8
  let size4 := BitVec.ofNat 32 (v.toNat % 16)
  if off / 8 * 8 = 0x100 then { h with cr0Base := putBits h.cr0Base o size v }
  else if off = 0x108 then { h with cr0Size := size4 }
  else if off / 8 * 8 = 0x110 then { h with er0Base := putBits h.er0Base o size v }
  else if off = 0x118 then { h with er0Size := size4 }
  else if off / 8 * 8 = 0x120 then { h with dbAddr := putBits h.dbAddr o size v }
  else if off / 8 * 8 = 0x128 then { h with stAddr := putBits h.stAddr o size v }
  else h

/-- The effect of a window write at an emulated offset (R100, R103, R429, R430): a START before readiness is held (R393), and one with KEEP
set is ignored in any state other than HOST_LOST. -/
def State.windowDo (s : State) (a : WinAccess) : State :=
  match a with
  | .start false => if s.start.ready then s.bringUp else s.modHif (fun h => { h with startHeld := true })
  | .start true => if s.hif.st == .hostLost then s.resume else s
  | .aperture off size v => s.modHif (·.aperture off size v)
  | .boot off size v => s.modHif (·.bootWrite off size v)
/-- An access at an emulated offset: OK with its effect; ERROR without one while no firmware runs; in a switch-over gap it is held (R100). -/
def State.emulate (s : State) (a : WinAccess) : State :=
  if !s.emulated then s.drive (.window true)
  else if s.activeShc.isSome then (s.windowDo a).drive (.window false)
  else s.modHif (fun h => { h with waiting := h.waiting ++ [a] })
/-- The accesses held in a gap are answered once it has ended (R100). -/
def State.answerHeld (s : State) : State :=
  if s.hif.waiting.isEmpty || (s.emulated && s.activeShc.isNone) then s
  else
    let l := s.hif.waiting
    (s.modHif (fun h => { h with waiting := [] })).forEach l State.emulate

end Sys2Proof.Machine
end

