-- ==== Sys2Proof/Machine/Settle.lean ====
section
/-! DEFINITION. What follows a command before the next one is taken: the reactions it ordered are carried out (R274, R353),
resets make their moves (R298, R302), folds are looked at again (R252), and the handling flags of the first-error latch
clear when their work has ended (R281). -/

namespace Sys2Proof.Machine

/-- The reaction can be carried out now: a part reset of a field-resident part by the Drovers alone (R353), a failed access
at once, every other by the firmware (R359). -/
def State.dueNow (s : State) : Due → Bool
  | .partrst u => uidLevel u == 5 || s.firmware
  | .dmaError _ _ => true
  | _ => s.firmware

/-- A command ring is stopped (R117). A RING_DESTROY that waited for its command in progress ends the stop, and completes (R119). -/
def State.stopRing (s : State) (i : Nat) : State :=
  let s := s.modHif (·.modCmd i (fun r => { r with stopped := true, stage := none }))
  match (s.hif.cmd i).bind (·.dying) with
  | some carrier => (s.modHif (fun h => { h with cmds := h.cmds.filter (fun q => q.num != i) })).complete carrier stOk
  | none => s

/-- Suspend doorbell or status handling, stop a ring, or fail the command of a failed host-memory access (R117, Table 4.8);
event 0x5006 is recorded once for a run of failures of one block. -/
def State.accessFailed (s : State) (a : HostAccess) (addr : Nat) : State :=
  let rec_ := fun (s : State) (kind ring : Nat) =>
    s.report 0x5006 dieUid ([BitVec.ofNat 8 kind, BitVec.ofNat 8 ring, 0, 0] ++ le 8 addr)
  match a with
  | .fetch i | .completion i => (rec_ s 0 i).stopRing i
  | .event j => (rec_ s 1 j).modHif (·.modEv j (fun r => { r with stopped := true }))
  | .buffer i => rec_ s 2 i
  | .doorbell => if s.hif.dbFailed then s else rec_ (s.modHif (fun h => { h with dbFailed := true })) 3 0xFF
  | .status => if s.hif.stFailed then s else rec_ (s.modHif (fun h => { h with stFailed := true })) 4 0xFF

/-- Carry out one ordered reaction (R274, R282): a RECOVER during a level-0 reset escalates (R301). -/
def State.carryOut (s : State) (d : Due) : State :=
  match d with
  | .partrst u => s.partReset u
  | .dierst code => s.startLevel0 dieUid 2 code none
  | .recover code =>
    if s.recovery.level1.isSome then s
    else match s.recovery.resets with
      | r :: _ => s.escalate r.dom 2 code 0 none
      | [] => s.startLevel1 2 code none none
  | .level0 dom cause code => s.startLevel0 dom cause code none
  | .dmaError a addr => s.accessFailed a addr
  | .finding f k c kind cause pat => s.takeFinding f k c kind cause pat
  | .laneFinding f k c l cause => s.takeLaneFinding f k c l cause
  | .countCE f k c lane cause at_ => s.takeCE f k c lane cause at_

/-- Carry out the ordered reactions in their order; a reaction that no firmware takes waits. -/
def State.drain (fuel : Nat) (s : State) : State :=
  match fuel with
  | 0 => s
  | n + 1 =>
    match s.due.find? s.dueNow with
    | none => s
    | some d => (({ s with due := s.due.erase d } : State).carryOut d).drain n

/-- The flags of the latch whose work is still going on (R281). -/
def State.ferrFlags (s : State) : Ferr :=
  let l := s.ferr
  let fences := l.fences.filter (fun d => s.hurdleOn d && (s.field (uidField d)).pad != .lost)
  let parts := l.parts.filter (fun u => match partOf u with
    | some p => s.partResetting p || s.due.any (fun d => d == .partrst u)
    | none => false)
  { l with fences := fences, fence := l.fence && !fences.isEmpty
           parts := parts, partrst := l.partrst && !parts.isEmpty
           nmi := l.nmi && (s.pair.a.nmi.isSome || s.pair.b.nmi.isSome)
           reset := l.reset && (s.recovery.level1.isSome || s.recovery.resets.any (fun r => r.dom == dieUid)
             || s.due.any (fun d => match d with | .dierst _ => true | .recover _ => true | _ => false)) }

/-- The handling flags clear; when the last one does and errors were merged, 0x0109 is recorded (R281). -/
def State.ferrSettle (s : State) : State :=
  if !s.ferr.handling then s
  else
    let l := s.ferrFlags
    let s : State := { s with ferr := l }
    if l.handling || l.merges == 0 then s
    else s.note 0x0109 dieUid (le 2 l.merges ++ [BitVec.ofNat 8 l.muids.length, 0] ++ le 4 (l.muids.headD 0).toNat ++ le 2 l.code)

/-- What follows every command. -/
def State.settle (s : State) : State :=
  let s := (s.drain 64).answerHeld
  let s := if s.firmware then ((((((s.pump).drain 64).recheckFolds).endMusters).jobMove).shutMove).updateMove else s
  s.noteSwitch.ferrSettle

/-- The state in which a command's effect begins: the outputs of the command before it are gone, and the command has taken
one order number when a follower is in service (R345). -/
def State.begun (s : State) : State :=
  { s with out := [], pair := if s.follower.isSome then { s.pair with order := s.pair.order + 1 } else s.pair }

/-- A command's effect `g` on the state: what it orders is carried out, and the queue is as it was. -/
def act (s : State) (g : State → State) : Host.Outcome State Fault Refusal :=
  .next { (g s.begun).settle with pending := s.pending }

/-- A command whose condition does not hold has no effect. -/
def actIf (b : Bool) (s : State) (g : State → State) : Host.Outcome State Fault Refusal := act s (fun s => if b then g s else s)

end Sys2Proof.Machine
end

