-- ==== Sys2Proof/Machine/Gusts.lean ====
section
/-! DEFINITION. Clock, voltage and gusts of a field: slew steps, the voltage after them, the read-back, and what the gust signal
does (R90, R323 to R327). -/

namespace Sys2Proof.Machine

/-- The hardware throttle of a field is released: the divider goes out, which takes the cores from 400 MHz to 800 MHz (R39), flim
is 800 MHz, 0x3102 (R331). -/
def State.throttleReleased (s : State) (f : Nat) : State :=
  let s := (s.syncField f).traceFreq f 400 800 2
  let s := s.unclean.modField f (fun fd => { fd with divider := false, throttleEnd := false, flim := 800, counters := bump fd.counters 3 1 })
  let s := s.sig .cclkHalf f 0
  let hot := ((List.range Config.sensors).filter (fun i => ((s.field f).sensor i).inService)).foldl
    (fun b i => if ((s.field f).sensor b).reading < ((s.field f).sensor i).reading then i else b) 0
  (s.report 0x3102 (fieldUid f) ([1, BitVec.ofNat 8 hot] ++ le 2 (toTwos 16 ((s.field f).sensor hot).reading))).exempt

/-- FREQUENCY_SLEW_STEP (R324, R331): one step per us, and none within 2 us after a rise of the gust signal. -/
def execFrequencySlewStep (f : Nat) (s : State) : Host.Outcome State Fault Refusal :=
  actIf (decide (f < Config.fields) && s.slewOpen f) s fun s =>
    let fd := s.field f
    let s := s.advanceTo (max (fd.slewAt + 1000) (match fd.lastRise with | some t => t + 2000 | none => 0))
    let s := s.slewStep f
    if (s.field f).throttleEnd && (s.field f).freq == 800 then s.throttleReleased f else s

/-- VOLTAGE_LOWER (R324): 10 ms after a lowering slew, unless a raise is pending by then. -/
def execVoltageLower (f : Nat) (s : State) : Host.Outcome State Fault Refusal :=
  actIf (decide (f < Config.fields) && (s.field f).lowerDue.isSome) s fun s =>
    let s := s.advanceTo ((s.field f).lowerDue.getD 0)
    let s := s.modField f (fun fd => { fd with lowerDue := none })
    if (s.field f).raisePending then s else s.commandVolt f (voltOf (s.field f).freq)

/-- VOUT_READ_BACK (R90, R324, Table 13.7): an agreement within 15 mV starts the slew of a raise; else 0x3005. -/
def execVoutReadBack (f mv : Nat) (s : State) : Host.Outcome State Fault Refusal :=
  actIf (decide (f < Config.fields) && (s.field f).voutWait) s fun s =>
    let fd := s.field f
    let s := s.modField f (fun fd => { fd with voutWait := false })
    if mv ≤ fd.volt + 15 ∧ fd.volt ≤ mv + 15 then
      if fd.raisePending then s.modField f (fun fd => { fd with raisePending := false, slewing := fd.freq != fd.target }) else s
    else s.report 0x3005 (mkUid 3 f 0 0 0 3) ([BitVec.ofNat 8 (f / Config.cols), 0, 0, 0] ++ le 2 fd.volt ++ le 2 mv)

/-- Cycles that a field has run since an instant at its present rate, at most `n`. -/
def State.stretched (s : State) (f n since : Nat) : Nat := min n ((s.tbase - since) * (s.field f).cycleRate / 48000)

/-- Rises that the last 1 ms holds, with one now; during a storm hold a millisecond of the hold with more than 100 of them ends the calm (R326). -/
def State.addRise (s : State) (f : Nat) : State :=
  s.modField f fun fd =>
    let l := recentTimes s.tbase 1000000 fd.rises ++ [s.tbase]
    let from_ := fd.stormStart + (s.tbase - fd.stormStart) / 1000000 * 1000000
    let busy := fd.storm && decide (100 < (l.filter (fun t => decide (from_ ≤ t))).length)
    { fd with rises := l, lastRise := some s.tbase, worstMs := if fd.storm then max fd.worstMs l.length else l.length
              calmFrom := if busy then from_ + 1000000 else fd.calmFrom }

/-- A rise in mode 0 removes the next edge of CCLK (R325, R327): it will not count (R34). A count that is held has no edge to lose. -/
def State.skipEdge (s : State) (f : Nat) : State :=
  let live := (s.field f).clockRuns && !s.musterHolds f
  ((s.modField f (fun fd => { fd with counters := bump fd.counters 1 1, skipDebt := fd.skipDebt + b2n live })).notClean).sig .cclkSkip f 1

/-- A rise in mode 1 stretches the clock for N cycles from now (R325, R327). -/
def State.stretchClock (s : State) (f : Nat) : State :=
  let fd := s.field f
  let done := if fd.storm then 0 else s.stretched f fd.stretch (fd.lastRise.getD s.tbase)
  let s := s.unclean.modField f (fun fd => { fd with counters := bump (bump fd.counters 0 1) 2 done, stretch := s.policy.gustN })
  s.sig .cclkStretch f 1

/-- The rise that completes a storm begins the hold in mode-1 stretch, whatever the mode; 0x3003 (R326). -/
def State.stormBegin (s : State) (f : Nat) : State :=
  if (s.field f).storm || decide ((s.field f).rises.length ≤ 1000) then s
  else
    let s := (s.unclean.modField f (fun fd => { fd with storm := true, stormStart := s.tbase, calmFrom := s.tbase })).sig .cclkStretch f 1
    (s.report 0x3003 (fieldUid f) (zeros 4 ++ le 4 (s.field f).worstMs)).exempt

/-- GUST_RISE (R325, R326, R327). -/
def execGustRise (f detector : Nat) (s : State) : Host.Outcome State Fault Refusal :=
  let fd := s.field f
  actIf (decide (f < Config.fields) && decide (detector < Config.gusts) && fd.compPg && !(fd.deadDetectors.contains detector)) s fun s =>
    let s := s.syncField f
    let mode := if (s.field f).storm then 1 else s.policy.gustMode
    let s := s.traceDrover f 0x13 (le 8 (s.cycleCount f) ++ le 1 detector ++ le 1 mode ++ zeros 6)
    let s := if mode = 0 then s.skipEdge f else s.stretchClock f
    (s.addRise f).stormBegin f

/-- STRETCH_END (R325): N stretched cycles after the latest rise. -/
def execStretchEnd (f : Nat) (s : State) : Host.Outcome State Fault Refusal :=
  let fd := s.field f
  actIf (decide (f < Config.fields) && decide (0 < fd.stretch)) s fun s =>
    let s := if fd.cycleRate = 0 then s else s.advanceTo (fd.lastRise.getD s.tbase + ceilDiv (fd.stretch * 48000) fd.cycleRate)
    let s := s.syncField f
    let s := s.modField f (fun fd => { fd with stretch := 0, counters := bump fd.counters 2 (if fd.storm then 0 else fd.stretch) })
    if (s.field f).storm then s else s.sig .cclkStretch f 0

/-- STORM_HOLD_END (R326): ten milliseconds that each held at most 100 rises. -/
def execStormHoldEnd (f : Nat) (s : State) : Host.Outcome State Fault Refusal :=
  let fd := s.field f
  let now := max s.tbase (fd.calmFrom + 10000000)
  actIf (decide (f < Config.fields) && fd.storm) s fun s =>
    let s := (s.advanceTo now).syncField f
    let n := (now - fd.stormStart) * (s.field f).cycleRate / 48000
    let s := s.modField f (fun fd => { fd with storm := false, counters := bump fd.counters 2 n })
    let s := if (s.field f).stretch = 0 then s.sig .cclkStretch f 0 else s
    (s.report 0x3003 (fieldUid f) ([1, 0, 0, 0] ++ le 4 fd.worstMs ++ le 4 ((now - fd.stormStart) / 1000000))).exempt

/-- GUST_DETECTOR_STUCK (R325): 100 us of firing. -/
def execGustDetectorStuck (f detector : Nat) (s : State) : Host.Outcome State Fault Refusal :=
  actIf (decide (f < Config.fields) && decide (detector < Config.gusts) && !((s.field f).deadDetectors.contains detector)) s fun s =>
    (s.modField f (fun fd => { fd with deadDetectors := insertNew fd.deadDetectors detector })).report 0x0305 (partUid f (0x40 + detector)) [0]

end Sys2Proof.Machine
end

