-- ==== Sys2Proof/Machine/Paddocks.lean ====
section
/-! DEFINITION. Paddocks and heat: rail trips, the 115 C opening, the hardware throttle, sensors, and the return or loss of a
paddocked field (R317 to R322, R328, R331, R332, R423). -/

namespace Sys2Proof.Machine

/-- The partner of a field: the same row, column c xor 1 (R74). -/
def partner (f : Nat) : Nat := f / Config.cols * Config.cols + (f % Config.cols) / 2 * 2 + (1 - f % 2)

/-- What a falling infrastructure rail takes with it: Drover, routers, and the voter and the Shepherd of the field (R317,
Table 13.1). The Shepherd's outputs stop; the voters find it lost by themselves (R348). -/
def State.infraDown (s : State) (f : Nat) : State :=
  let s := (s.modField f (fun fd => { fd with infraEn := false, infraPg := false, drover := false, tbaseSet := false, routers := false })).sig .pspInfraEn f 0
  let s := s.forEach ((List.range 3).filter (fun v => Config.voterField v == f)) (fun s v =>
    s.modPair (fun p => { p with voters := modifyAt p.voters v (fun x => { x with resetting := true, vote := none }) }))
  let s := s.placeCopies
  s.forEach ([false, true].filter (fun b => Config.shcField b == f && (s.pair.shc b).gate)) (fun s b =>
    (s.modShc b (fun x => { x with gate := false })).modPair (fun p => { p with gapFrom := some s.tbase }))

/-- A field is paddocked off (R319): state 1 and its cause; its flocks present no tracker before their reset (R55); it leaves the resets under way. While a job runs DIERST follows,
whatever the code's mask; during level 1 the field has failed it (R423). -/
def State.paddockOff (s : State) (f cause code : Nat) : State :=
  let s := s.leaveResets f
  let s := s.modField f (fun fd => { fd with returning := none, attemptDue := none })
  let s := s.forEach (s.listedFlocks (fieldUid f)) (fun s p => s.modFlock p.1 p.2 (fun fl => { fl with ready := false }))
  if (s.field f).pad = .lost then s
  else if s.recovery.level1.isSome then s.loseField f 3
  else (s.modField f (fun fd => { fd with pad := .off, padCause := cause })).orderDierst code

/-- Trip records carry the threshold, the trips of the last 3,600 s, whether a job was active, and the last monitored current,
which is a free value (R342). -/
def State.tripPayload (s : State) (f threshold : Nat) : State × List Byte :=
  let (s, v) := s.freeVal
  (s, [BitVec.ofNat 8 threshold, BitVec.ofNat 8 (sat 255 (s.field f).trips.length), BitVec.ofNat 8 (b2n s.job.active), 0] ++ le 4 v.toNat)

/-- Drive psp_comp_en low for 1 us and then high; psp_comp_pg is awaited (R73, R321 step 2). -/
def State.closeCompute (s : State) (f : Nat) : State :=
  ((s.sig .pspCompEn f 0).sig .pspCompEn f 1).modField f (fun fd => { fd with compEn := true, enAt := s.tbase, ocComp := false, returning := some 1 })
/-- Drive psp_infra_en low for 1 us and then high, by the partner's Drover; psp_infra_pg is awaited (R321 step 1). -/
def State.closeInfra (s : State) (f : Nat) : State :=
  ((s.sig .pspInfraEn f 0).sig .pspInfraEn f 1).modField f (fun fd =>
    { fd with infraEn := true, ocInfra := false, returning := some 0, infraReturn := true, enAt := s.tbase })

/-- Event 0x300C (R321). -/
def State.noteReturn (s : State) (f outcome : Nat) : State :=
  let fd := s.field f
  s.note 0x300C (fieldUid f) [BitVec.ofNat 8 (b2n fd.infraReturn), BitVec.ofNat 8 (sat 255 fd.attempts), BitVec.ofNat 8 outcome]

/-- A return attempt has failed: both rails stay open; the next attempt, or the loss of the field (R320, R321). -/
def State.returnFailed (s : State) (f : Nat) : State :=
  let s := (s.noteReturn f 1).railDown f
  let s := if (s.field f).infraPg || (s.field f).infraEn then s.infraDown f else s
  let q : Start := { s.start with queue := s.start.queue.filter (fun k => k / 64 != f), waiting := s.start.waiting.filter (fun k => k / 64 != f) }
  let s : State := { s with start := q }
  let s := s.forEach (s.listedFlocks (fieldUid f)) (fun s p => s.modFlock p.1 p.2 (fun fl => { fl with ready := false }))
  let fd := s.field f
  let s := s.modField f (fun fd => { fd with returning := none, attemptDue := fd.attemptDue.map (· + 9000000000) })
  if fd.padCause = 1 ∨ (fd.padCause = 0 ∧ 2 ≤ fd.attempts) then s.loseField f fd.padCause else s

/-- A compute-rail trip (R319, Table 13.2): two attempts, 1 s and 10 s after the trip; a trip within 60 s of a return is the
failure of that return, and a trip during an attempt the failure of the attempt. -/
def State.computeTrip (s : State) (f : Nat) : State :=
  let trying := (s.field f).returning.isSome
  let again := match (s.field f).returnedAt with
    | some t => (s.field f).padCause == 0 && (s.field f).attempts != 0 && decide (s.tbase < t + 60000000000)
    | none => false
  let s := s.railDown f
  let s := s.modField f (fun fd => { fd with ocComp := true, trips := recentTimes s.tbase 3600000000000 fd.trips ++ [s.tbase] })
  let (s, p) := s.tripPayload f (min s.policy.trip Config.tripCeiling)
  let s := s.report 0x3001 (mkUid 3 f 0 0 0 3) p
  let s : State := { s with power := { s.power with lastTrip := some s.tbase } }
  if trying then (s.returnFailed f).orderDierst 0x3001
  else
  let n := if again then (s.field f).attempts else 0
  let s := s.paddockOff f 0 0x3001
  if (s.field f).pad ≠ .off then s
  else
    let s := s.modField f (fun fd => { fd with attempts := n, returnedAt := none })
    if again && decide (2 ≤ n) then s.loseField f 0
    else s.modField f (fun fd => { fd with attemptDue := some (s.tbase + if again then 10000000000 else 1000000000) })

/-- An infrastructure-rail trip opens both rails (R73): one attempt 1 s later, by the partner's Drover; with both infrastructure
rails of the pair open both fields are lost (Table 13.2). -/
def State.infraTrip (s : State) (f : Nat) : State :=
  let s := s.railDown f
  let s := s.modField f (fun fd => { fd with ocInfra := true, trips := recentTimes s.tbase 3600000000000 fd.trips ++ [s.tbase], buffer := [], bufCounts := [], bufCeEv := 0, bufUcFe := 0, bufAbove := none, bufAboveNs := 0 })
  let (s, p) := s.tripPayload f Config.infraTrip
  let s := s.report 0x3002 (mkUid 3 f 0 0 0 4) p
  let s : State := { s with power := { s.power with lastTrip := some s.tbase } }
  if (s.field f).returning.isSome ∧ (s.field f).padCause = 1 then (s.returnFailed f).orderDierst 0x3002
  else
  let s := (s.infraDown f).paddockOff f 1 0x3002
  if (s.field f).pad ≠ .off then s
  else
    let s := s.modField f (fun fd => { fd with attempts := 0, returnedAt := none, attemptDue := some (s.tbase + 1000000000) })
    if (s.field (partner f)).infraPg then s
    else
      let s := s.loseField f 1
      if (s.field (partner f)).pad = .off ∧ (s.field (partner f)).padCause = 1 then s.loseField (partner f) 1 else s

/-- RAIL_TRIP (R72, R73, R319, R423). -/
def execRailTrip (f : Nat) (infra : Bool) (s : State) : Host.Outcome State Fault Refusal :=
  let fd := s.field f
  actIf (decide (f < Config.fields) && (if infra then fd.infraPg else (fd.compEn || fd.compPg))) s fun s =>
    if infra then s.infraTrip f else s.computeTrip f

/-- psp_therm_off of a field follows the 115 C comparators of its sensors, in service or not (R72, R332). -/
def State.driveTherm (s : State) (f : Nat) : State :=
  let hot := (List.range Config.sensors).any (fun j => ((s.field f).sensor j).at115)
  if hot = (s.field f).thermOff then s else (s.modField f (fun fd => { fd with thermOff := hot })).sig .pspThermOff f (b2n hot)

/-- A reading of a sensor is taken (R328). -/
def State.takeReading (s : State) (f i : Nat) (r : Int) : State :=
  let med := medianInt ((s.field f).liveSensors.map (·.reading))
  let s := s.modField f (fun fd => fd.modSensor i (fun x => { x with
    recent := (x.recent.filter (fun p => decide (s.tbase < p.1 + 1000000))) ++ [(s.tbase, r)]
    changedAt := if x.reading = r then x.changedAt else s.tbase
    medianThen := if x.reading = r then x.medianThen else med
    reading := r
    at115 := x.at115 && decide (920 ≤ r) }))
  let all := fun (t : Int) => (List.range Config.sensors).all (fun j => decide (((s.field f).sensor j).reading < t))
  let since := fun (b : Bool) (o : Option Nat) => if b then (match o with | some t => some t | none => some s.tbase) else none
  (s.driveTherm f).modField f (fun fd => { fd with
    coolMet := fd.coolMet || (match fd.coolSince with | some t => decide (t + 1000000000 ≤ s.tbase) | none => false)
    below100Since := since (all 800) fd.below100Since
    coolSince := since (all ((s.policy.thermal : Int) * 8 - 79)) fd.coolSince })

/-- THERMAL_SENSOR_UPDATE (R328, R331, R332). -/
def execThermalSensorUpdate (f sensor : Nat) (reading : Int) (s : State) : Host.Outcome State Fault Refusal :=
  actIf (decide (f < Config.fields) && decide (sensor < Config.sensors) && (s.field f).infraPg) s fun s =>
    let s := s.takeReading f sensor reading
    let x := (s.field f).sensor sensor
    let med := medianInt ((s.field f).liveSensors.map (·.reading))
    let range := decide (reading < -320) || decide (1200 < reading)
    let stuck := decide (x.changedAt + 10000000000 ≤ s.tbase) && decide (16 < (med - x.medianThen).natAbs)
    if !x.inService then s
    else if range || stuck then
      (s.modField f (fun fd => fd.modSensor sensor (fun y => { y with inService := false }))).report 0x0305 (partUid f (0x20 + sensor))
        [BitVec.ofNat 8 (b2n range)]
    else if 64 < (reading - med).natAbs then
      s.report 0x3104 (partUid f (0x20 + sensor)) (le 2 (toTwos 16 reading) ++ le 2 (toTwos 16 med))
    else s

/-- THERMAL_OFF (R96, R319, R332): the compute rail opens, THERMTRIP_N falls and latches the first field; a third opening within
3,600 s loses the field (Table 13.2). -/
def execThermalOff (f sensor : Nat) (reading : Int) (s : State) : Host.Outcome State Fault Refusal :=
  actIf (decide (f < Config.fields) && decide (sensor < Config.sensors) && (s.field f).infraPg && decide (920 ≤ reading)) s fun s =>
    let s := (s.takeReading f sensor reading).syncField f
    let s := (s.modField f (fun fd => fd.modSensor sensor (fun x => { x with at115 := true }))).driveTherm f
    let s := if s.pins.therm then s else ({ s with pins := { s.pins with therm := true, thermField := f } } : State).sig .thermTripN 0 0
    let trying := (s.field f).returning.isSome
    if (s.field f).pad ≠ .inService ∧ !trying then s
    else
      let s := s.railDown f
      let s := s.modField f (fun fd => { fd with openings := recentTimes s.tbase 3600000000000 fd.openings ++ [s.tbase] })
      let n := (s.field f).openings.length
      let s := s.report 0x3103 (fieldUid f) ([0, BitVec.ofNat 8 sensor] ++ le 2 (toTwos 16 reading) ++ [BitVec.ofNat 8 (sat 255 n)])
      let s := s.modField f (fun fd => { fd with coolMet := false })
      if trying then (let s := s.returnFailed f; if (s.field f).padCause = 2 ∧ 3 ≤ n then s.loseField f 2 else s.orderDierst 0x3103)
      else
      let s := s.paddockOff f 2 0x3103
      if (s.field f).pad ≠ .off then s
      else
        let s := s.modField f (fun fd => { fd with attempts := 0, returnedAt := none })
        if 3 ≤ n then s.loseField f 2 else s

/-- THERMAL_RETURN_DEADLINE (Table 13.2): 3,600 s after an opening, when the return condition has not been met since. -/
def execThermalReturnDeadline (f : Nat) (s : State) : Host.Outcome State Fault Refusal :=
  let fd := s.field f
  actIf (decide (f < Config.fields) && fd.pad == .off && fd.padCause == 2 && fd.returning.isNone && !fd.openings.isEmpty
      && !fd.coolMet && (match fd.coolSince with | some t => decide (fd.openings.getLastD 0 + 3600000000000 < t + 1000000000) | none => true)) s fun s =>
    (s.advanceTo ((s.field f).openings.getLastD 0 + 3600000000000)).loseField f 2

/-- HW_THROTTLE (R331): half the PLL frequency, a frequency change of R39, 0x3102. -/
def execHwThrottle (f sensor : Nat) (reading : Int) (s : State) : Host.Outcome State Fault Refusal :=
  actIf (decide (f < Config.fields) && decide (sensor < Config.sensors) && (s.field f).infraPg && decide (840 ≤ reading)) s fun s =>
    let s := s.takeReading f sensor reading
    if (s.field f).divider then s.modField f (fun fd => { fd with throttleEnd := false, slewing := fd.slewing && !fd.throttleEnd })
    else
      let s := s.syncField f
      let q := (s.field f).freq
      let s := s.traceFreq f q (q / 2) 2
      let s := (s.unclean.modField f (fun fd => { fd with divider := true, counters := bump fd.counters 3 1 })).cutStepped f
      let s := s.sig .cclkHalf f 1
      (s.report 0x3102 (fieldUid f) ([0, BitVec.ofNat 8 sensor] ++ le 2 (toTwos 16 reading))).exempt

/-- HW_THROTTLE_RELEASE (R331): every sensor below 100 C for 10 ms; the PLL slews to 800 MHz first. -/
def execHwThrottleRelease (f : Nat) (s : State) : Host.Outcome State Fault Refusal :=
  let fd := s.field f
  actIf (decide (f < Config.fields) && fd.divider && !fd.throttleEnd && fd.below100Since.isSome) s fun s =>
    let s := s.advanceTo ((s.field f).below100Since.getD 0 + 10000000)
    if (s.field f).freq = 800 then s.throttleReleased f
    else
      s.unclean.modField f (fun fd => { fd with target := 800, slewCause := 2, slewing := true, raisePending := false, lowerDue := none, throttleEnd := true
                                                counters := bump fd.counters 3 1 })

/-- A return attempt is due (Table 13.2): the instant from which it may run. -/
def Field.returnDue (fd : Field) : Option Nat :=
  if fd.padCause = 0 ∨ fd.padCause = 1 then fd.attemptDue
  else if fd.padCause = 2 ∧ !fd.thermOff then fd.coolSince.map (· + 1000000000) else none

/-- PADDOCK_RETURN (R320, R321): only while no job is active, at most eight fields at once; with the infrastructure rail open the
partner's Drover closes it first. -/
def execPaddockReturn (f : Nat) (s : State) : Host.Outcome State Fault Refusal :=
  let fd := s.field f
  let busy := (s.fields.filter (fun p => p.2.returning.isSome)).length
  actIf (decide (f < Config.fields) && s.firmware && fd.pad == .off && fd.returning.isNone && !s.job.active && s.job.starting.isNone
      && s.recovery.level1.isNone && decide (busy < 8) && fd.returnDue.isSome && (fd.infraPg || (s.field (partner f)).infraPg)) s fun s =>
    let s := s.advanceTo ((s.field f).returnDue.getD 0)
    let s := s.modField f (fun fd => { fd with attempts := fd.attempts + 1, infraReturn := false })
    if (s.field f).infraPg then s.closeCompute f else s.closeInfra f

/-- A return attempt has succeeded (R321): slot maps, lane skips, trim codes and clock steps are written, the field hurdle
reopens unless the die's are held, and the field is in service. -/
def State.returnDone (s : State) (f : Nat) : State :=
  let s := s.modField f (fun fd => { fd with pad := .inService, returning := none, attemptDue := if fd.padCause = 0 then fd.attemptDue else none
                                             returnedAt := some s.tbase })
  let s := s.forEach (List.range Config.flocks) (fun s k => s.rewriteMaps f k)
  let s := if s.recovery.hurdles.any (·.held) then s else s.reopenHurdle (fieldUid f)
  (s.noteReturn f 0).checkGrade

end Sys2Proof.Machine
end

