-- ==== Sys2Proof/Machine/Breeze.lean ====
section
/-! DEFINITION. The Lee sequencer, the Breeze governor, PMBus telemetry and calibration (R89 to R91, R329, R330, R335 to R340). -/

namespace Sys2Proof.Machine

/-- The fields whose infrastructure runs: those the Lee sequencer looks at. -/
def State.leeFields (s : State) : List Nat := (List.range Config.fields).filter (fun f => (s.field f).infraPg)

/-- A Lee step of a field: flim, the frequency change, 0x3101 (R329, R330). -/
def State.leeStep (s : State) (f new dir : Nat) : State :=
  let old := (s.field f).flim
  let s := (s.modField f (fun fd => { fd with flim := new })).aimFreq f 1
  (s.note 0x3101 (fieldUid f) ([BitVec.ofNat 8 dir, BitVec.ofNat 8 s.leeLevel] ++ le 2 (toTwos 16 (s.leeTemp f)) ++ le 2 old ++ le 2 new)).exempt

/-- One run of the Lee sequencer (R329). -/
def State.leeRun (s : State) : State :=
  let target : Int := s.policy.thermal * 8
  let hot := fun f => decide (target < s.leeTemp f) && decide (800 < (s.field f).flim)
  let keep := match s.power.leeCur with | some c => hot c | none => false
  let cur := if keep then s.power.leeCur else maxOn s.leeTemp (s.leeFields.filter hot)
  let s : State := { s with power := { s.power with leeCur := cur } }
  match cur with
  | some c =>
    let s := s.leeStep c (max 800 (25 * ((s.field c).flim * 15 / 16 / 25))) 0
    { s with power := { s.power with calm := 0 } }
  | none =>
    if s.leeFields.all (fun f => decide (s.leeTemp f ≤ target - 16)) then
      let calm := s.power.calm + 1
      let s : State := { s with power := { s.power with calm := calm } }
      let low := minOn s.leeTemp (s.leeFields.filter (fun f => decide ((s.field f).flim < s.power.fset)))
      match low with
      | some g =>
        if 100 ≤ calm ∧ calm % 10 = 0 then s.leeStep g (min s.power.fset (25 * ((s.field g).flim * 16 / 15 / 25))) 1 else s
      | none => s
    else { s with power := { s.power with calm := 0 } }

/-- LEE_RUN (R329): every 1 ms, in the active Shepherd. -/
def execLeeRun (s : State) : Host.Outcome State Fault Refusal :=
  actIf s.firmware s fun s =>
    let s := s.advanceTo (s.power.leeRuns + 1000000)
    ({ s with power := { s.power with leeRuns := s.tbase } } : State).leeRun

/-- Filler power of one core [W] (R335). -/
def fillPower : Rat := 55 / 100
/-- The interval of the Breeze governor [s] (R336). -/
def breezeDt : Rat := 1 / 10000

/-- Modelled static power of a field (R338); nothing with the infrastructure rail open, no core voltage with the compute rail open. -/
def State.staticOf (s : State) (f : Nat) : Rat :=
  let fd := s.field f
  if !fd.infraPg then 0 else Config.staticPower (s.temp f) (if fd.compPg then fd.volt else 0)

/-- Energy of an activity entry without its filler cycles, and of the filler cycles [pJ] (Table 13.5, R338, R340). -/
def Activity.energy (a : Activity) : Nat :=
  a.mac * Config.energyCoeff 0 + a.sram * Config.energyCoeff 1 + a.net * Config.energyCoeff 2
/-- Energy of an activity entry's filler cycles [pJ]. -/
def Activity.fillEnergy (a : Activity) : Nat := a.filler * Config.energyCoeff 3
/-- pJ over an interval as W. -/
def wattsOf (pj : Nat) : Rat := pj * (1 / 1000000000000) / breezeDt

/-- Sum of a list of rationals. -/
def sumRat (l : List Rat) : Rat := l.foldl (· + ·) 0

/-- The activity of the flocks of a field. -/
def actsOf (acts : List Activity) (f : Nat) : List Activity := acts.filter (fun a => a.f == f)

/-- Energy counters of the flocks of a field over one interval (R340). -/
def State.addEnergy (s : State) (acts : List Activity) (f : Nat) : State :=
  let g := (s.field f).calib
  let share := s.staticOf f * 100 / Config.flocks
  s.forEach (List.range Config.flocks) fun s k =>
    let mine := (actsOf acts f).filter (fun a => a.k == k)
    let pj : Nat := (mine.map Activity.energy).foldl (· + ·) 0
    let fj : Nat := (mine.map Activity.fillEnergy).foldl (· + ·) 0
    let work := ((pj : Rat) * g / 1000000 + share).floor.toNat
    let fill := ((fj : Rat) * g / 1000000).floor.toNat
    let s := s.modFlock f k (fun fl => { fl with energy := fl.energy + work + fill, fillerEnergy := fl.fillerEnergy + fill
                                                 jobEnergy := if s.job.active then fl.jobEnergy + work else fl.jobEnergy })
    { s with power := { s.power with fillEnergy := s.power.fillEnergy + fill } }

/-- The governor's k goes to every field (R336): a frequency change of R39 in each field whose k changes. -/
def State.setThrottle (s : State) (k : Nat) : State :=
  let s := s.forEach ((List.range Config.fields).filter (fun f => (s.field f).infraPg && (s.field f).k != k)) (fun s f =>
    let s := s.syncField f
    let fd := s.field f
    let clk := if fd.divider then fd.freq / 2 else fd.freq
    let s := s.traceFreq f (clk * (16 - fd.k) / 16) (clk * (16 - k) / 16) 3
    (s.unclean.modField f (fun fd => { fd with k := k, counters := bump fd.counters 3 1 })).send (.sig .cclkThrottle f k))
  { s with power := { s.power with k := k } }

/-- Rounded to the nearest whole number. -/
def roundRat (r : Rat) : Nat := (r + 1 / 2).floor.toNat

/-- The changed filler levels are written: F is shared by idle capacity among the fields in service and not under thermal
throttle, so every such field with idle cores has the same level (R335, R336). -/
def State.setFillers (s : State) (acts : List Activity) (fill : Rat) : State :=
  let idle := fun (f : Nat) => ((actsOf acts f).map (·.idle)).foldl (· + ·) 0
  let fields := s.upFields.filter (fun f => !(s.field f).divider && !(s.field f).throttleEnd)
  let total : Nat := (fields.map idle).foldl (· + ·) 0
  let level := if total = 0 then 0 else min 255 (roundRat (255 * fill / (total * fillPower)))
  let s := s.forEach s.upFields (fun s f =>
    let v := if fields.contains f ∧ 0 < idle f then level else 0
    if (s.field f).filler = v then s else (s.modField f (fun fd => { fd with filler := v })).send (.sig .filler f v))
  { s with power := { s.power with fill := fill } }

/-- The limits over 100 ms windows (R337): ten windows in a row past a limit by more than 10 % record 0x3008, at most once per 60 s. -/
def State.rampWatch (s : State) (p : Rat) : State :=
  let w := s.power.window ++ [p]
  if w.length < 1000 then { s with power := { s.power with window := w } }
  else
    let avg := sumRat w / 1000
    let limit := fun (n : Nat) => if n = 0xFFFFFFFF then (none : Option Rat) else some n
    let rate := match s.power.lastAvg with | some a => (avg - a) * 10 | none => 0
    let up := decide (0 ≤ rate)
    let size := if up then rate else -rate
    let lim := limit (if up then s.policy.rampUp else s.policy.rampDown)
    let past := match lim with | some l => decide (l * 11 / 10 < size) | none => false
    let n := if past then s.power.excess + 1 else 0
    let s : State := { s with power := { s.power with window := [], lastAvg := some avg, excess := n } }
    let quiet := match s.power.rampRec with | some t => decide (t + 60000000000 ≤ s.tbase) | none => true
    if n < 10 || !quiet then s
    else
      let exempt := match s.power.exemptAt with | some t => decide (s.tbase < t + 1000000000) | none => false
      let cause := if s.power.k = 15 then 2 else if exempt then 1 else 0
      let s : State := { s with power := { s.power with rampRec := some s.tbase } }
      s.note 0x3008 dieUid ([BitVec.ofNat 8 (b2n (!up)), BitVec.ofNat 8 cause, 0, 0] ++ le 4 (encode32 (size - lim.getD 0)).toNat ++ le 4 (n * 100))

/-- One run of the Breeze governor (R336). Where the modelled program power is all static the formula for k divides by zero: k is
then a free value. -/
def State.breezeRun (s : State) (acts : List Activity) : State :=
  let fields := List.range Config.fields
  let prog := fun f => s.staticOf f + wattsOf (((actsOf acts f).map Activity.energy).foldl (· + ·) 0 : Nat)
  let fill := fun f => wattsOf (((actsOf acts f).map Activity.fillEnergy).foldl (· + ·) 0 : Nat)
  let g := fun f => (s.field f).calib
  let ps : Rat := sumRat (fields.map (fun f => g f * s.staticOf f))
  let pp := sumRat (fields.map (fun f => g f * prog f))
  let p := pp + sumRat (fields.map (fun f => g f * fill f))
  let pd := ps + (pp - ps) * 16 / (16 - s.power.k)
  let goal := max pd s.policy.powerFloor
  let p0 := s.power.pref.getD p
  let low := if s.policy.rampDown = 0xFFFFFFFF then goal else max goal (p0 - s.policy.rampDown * breezeDt)
  let pref := if s.policy.rampUp = 0xFFFFFFFF then low else min low (p0 + s.policy.rampUp * breezeDt)
  let s := s.forEach fields (fun s f => if (s.field f).infraPg then (s.modField f (fun fd => { fd with modelled := prog f + fill f })).addEnergy acts f else s)
  let s : State := { s with power := { s.power with pref := some pref } }
  let s := if pref < pd then
      (if pd = ps then
        let (s, v) := s.freeVal
        (s.setThrottle (v.toNat % 16)).setFillers acts 0
      else (s.setThrottle (min 15 (16 * (1 - (pref - ps) / (pd - ps))).ceil.toNat)).setFillers acts 0)
    else (s.setThrottle 0).setFillers acts (pref - pd)
  s.rampWatch p

/-- BREEZE_RUN (R336): every 100 us, in the active Shepherd. -/
def execBreezeRun (acts : List Activity) (s : State) : Host.Outcome State Fault Refusal :=
  actIf s.firmware s fun s =>
    let s := s.advanceTo (s.power.breezeRuns + 100000)
    ({ s with power := { s.power with breezeRuns := s.tbase } } : State).breezeRun acts

/-- Measured mode is the normal service: not before readiness, in the shut-down self-test or in level 1 (R338). -/
def State.normalService (s : State) : Bool :=
  s.start.ready && s.recovery.level1.isNone && (match s.life.shut with | some d => d.test.isNone | none => true)

/-- One rail of a telemetry round: VOUT_MODE, the status words and CLEAR_FAULTS, and its power in mW (Table 3.6, R89). -/
def State.railRead (s : State) (seg : Nat) (r : RailReading) : State :=
  let s := if r.linear || s.power.badRows.contains (r.field, r.page) then s
    else
      let s : State := { s with power := { s.power with badRows := insertNew s.power.badRows (r.field, r.page) } }
      s.report 0x3004 dieUid [BitVec.ofNat 8 seg, BitVec.setWidth 8 (Config.pmbusAddr r.field), 0x20, 3]
  match r.status with
  | none => s
  | some (w, v, i, t) =>
    let s := s.report 0x3006 (mkUid 3 r.field 0 0 0 (3 + r.page)) ([BitVec.ofNat 8 seg, BitVec.ofNat 8 r.page] ++ le 2 w ++ le 1 v ++ le 1 i ++ le 1 t)
    s.pmb r.field r.page 0x03 []

/-- The power of a field from a round, and the sums of the second (R338, R339). -/
def State.fieldRead (s : State) (rails : List RailReading) (f : Nat) : State :=
  let mine := rails.filter (fun r => r.field == f)
  if mine.isEmpty || s.power.badRows.any (fun p => p.1 == f) then s
  else
    let w : Rat := ((mine.map (fun r => r.milliVolt * r.milliAmp)).foldl (· + ·) 0 : Nat) / 1000000
    s.modField f (fun fd => { fd with measured := w, measSum := fd.measSum + w, modSum := fd.modSum + fd.modelled })

/-- A round is whole: it reads every rail of the segment once, but for one that a fault of the round has stopped (R90). -/
def wholeRound (seg : Nat) (rails : List RailReading) (fault : Bool) : Bool :=
  let keys := (List.range Config.fields).filter (fun f => segmentOf f == seg) |>.flatMap (fun f => [(f, 0), (f, 1)])
  let have_ := rails.map (fun r => (r.field, r.page))
  keys.all (fun k => have_.count k == 1 || (fault && !have_.contains k)) && have_.all keys.contains && (fault || have_.length == keys.length)
/-- Milliseconds between the telemetry rounds of a segment: 5, or 10 where it serves two rows (R90). -/
def roundMs (seg : Nat) : Nat := if 6 + seg < Config.rows then 10 else 5

/-- TELEMETRY_ROUND (R89, R90, R338, R342): a round starts every 5 ms on each segment and reads every rail of it. -/
def execTelemetryRound (seg : Nat) (rails : List RailReading) (fault : Option (Nat × Nat × Nat)) (s : State) : Host.Outcome State Fault Refusal :=
  actIf (s.firmware && decide (seg < Config.rows) && !(s.power.segLost.contains seg) && wholeRound seg rails fault.isSome) s fun s =>
    let s := match assoc s.power.rounds seg with | some t => s.advanceTo (t + 1000000 * roundMs seg) | none => s
    let s : State := { s with power := { s.power with rounds := assocSet s.power.rounds seg s.tbase } }
    let s := match fault with
      | some (a, c, k) => s.report 0x3004 dieUid [BitVec.ofNat 8 seg, BitVec.ofNat 8 a, BitVec.ofNat 8 c, BitVec.ofNat 8 k]
      | none => s
    let s := s.forEach rails (fun s r => s.railRead seg r)
    let s := s.forEach ((List.range Config.fields).filter (fun f => segmentOf f == seg)) (fun s f => s.fieldRead rails f)
    let good := rails.filter (fun r => !(s.power.badRows.any (fun p => p.1 == r.field)))
    let mw := (good.map (fun r => r.milliVolt * r.milliAmp / 1000)).foldl (· + ·) 0
    { s with power := { s.power with measuredMode := s.power.measuredMode || (s.normalService && fault.isNone)
                                     readings := assocSet s.power.readings (0x200 + seg) mw } }

/-- BUS_HELD (R91): cleared as in R79, 0x3004 with kind 2; three failed clears in a row lose the segment. -/
def execBusHeld (seg : Nat) (cleared : Bool) (s : State) : Host.Outcome State Fault Refusal :=
  actIf (s.firmware && decide (seg < Config.rows) && !(s.power.segLost.contains seg)) s fun s =>
    let n := if cleared then 0 else (assoc s.power.segHeld seg).getD 0 + 1
    let s := (s.send (.busClear seg)).report 0x3004 dieUid [BitVec.ofNat 8 seg, 0, 0, 2]
    let s : State := { s with power := { s.power with segHeld := assocSet s.power.segHeld seg n } }
    if n < 3 then s
    else ({ s with power := { s.power with segLost := insertNew s.power.segLost seg } } : State).report 0x3007 dieUid [BitVec.ofNat 8 seg]

/-- A field is measured by telemetry (R338): its segment lives and its regulator's mode is the one of R89. -/
def State.measuredField (s : State) (f : Nat) : Bool :=
  s.power.measuredMode && s.normalService && !(s.power.segLost.contains (segmentOf f)) && !(s.power.badRows.any (fun p => p.1 == f))

/-- The second's ratio of one field moves its calibration factor, clamped to 0.8 to 1.25 (R339). -/
def State.calibrate (s : State) (f : Nat) : State :=
  let fd := s.field f
  if !s.measuredField f || fd.modSum == 0 then s.modField f (fun fd => { fd with measSum := 0, modSum := 0 })
  else
    let ratio := fd.measSum / fd.modSum
    let g := min (5 / 4) (max (4 / 5) (fd.calib * 9 / 10 + ratio / 10))
    let hit := (g == 4 / 5 || g == 5 / 4) && fd.calib != g
    let s := s.modField f (fun fd => { fd with calib := g, measSum := 0, modSum := 0 })
    if hit then s.report 0x300A (fieldUid f) (zeros 4 ++ le 4 (encode32 ratio).toNat) else s

/-- CALIBRATION (R339): once per second. -/
def execCalibration (s : State) : Host.Outcome State Fault Refusal :=
  actIf s.firmware s fun s =>
    let s := s.advanceTo (s.power.calibrated + 1000000000)
    ({ s with power := { s.power with calibrated := s.tbase } } : State).forEach (List.range Config.fields) State.calibrate

end Sys2Proof.Machine
end

