-- ==== Sys2Proof/Machine/PairRows.lean ====
section
/-! DEFINITION. The rows of the Shepherd pair and the Warden: heartbeats, votes, challenges, epochs, the order and its release,
rejoining, watchdogs, NMI handlers, part resets and TBASE (R31, R273, R276, R345 to R360). -/

namespace Sys2Proof.Machine

/-- A command's effect that is no input to the pair's order: what the order itself and the Warden do (R345, R347). -/
def actOutside (s : State) (g : State → State) : Host.Outcome State Fault Refusal :=
  let s0 : State := { s with out := [] }
  .next { (g s0).settle with pending := s.pending }

/-- A Shepherd whose heartbeats reach the voters (R348). -/
def Shc.beats (x : Shc) : Bool := (x.status == .active || x.status == .following) && !x.lost

/-- SHEPHERD_HEARTBEAT (R348): on both planes to every voter. -/
def execShepherdHeartbeat (b : Bool) (s : State) : Host.Outcome State Fault Refusal :=
  actOutside s fun s =>
    if (s.pair.shc b).beats then (s.broadcast (shcUid b) (s.pair.liveVoters.map voterUid) .heartbeat 0).modShc b (fun x => { x with lastHb := s.tbase })
    else s

/-- A vote is cast and, with its second equal, acts (R349). -/
def State.voteAct (s : State) (voter round : Nat) (v : Vote) : State :=
  match s.castVote voter round v with
  | (s, true) => s.actVote v
  | (s, false) => s

/-- SHEPHERD_LOST (R348): a voter votes a Shepherd lost, by 640 ns of silence or on its own report. -/
def execShepherdLost (voter : Nat) (b reported : Bool) (s : State) : Host.Outcome State Fault Refusal :=
  actOutside s fun s =>
    let s := if reported then s.modShc b (fun x => { x with lost := true }) else s.advanceTo ((s.pair.shc b).lastHb + 640)
    s.voteAct voter s.pair.round (.loss b)

/-- VOTE (R349). -/
def execVote (voter round : Nat) (v : Vote) (s : State) : Host.Outcome State Fault Refusal :=
  actOutside s fun s => s.voteAct voter round v

/-- Outcome of a challenge from the two responses (Table 14.2). -/
def outcomeOf (active follower : Bool) : Nat := if active then (if follower then 2 else 0) else (if follower then 1 else 3)

/-- Both responses are in: the outcome applies (R350). -/
def State.closeChallenge (s : State) : State :=
  match s.pair.challenge, s.pair.active with
  | some c, some act_ =>
    match (if act_.isB then c.respB else c.respA), (if act_.isB then c.respA else c.respB) with
    | some ra, some rb => s.applyOutcome (outcomeOf ra rb)
    | _, _ => s
  | _, _ => s

/-- A Shepherd's response to a challenge is in. -/
def State.respond (s : State) (b right : Bool) : State :=
  s.modPair (fun p => { p with challenge := p.challenge.map (fun c =>
    if b then (if c.respB.isSome then c else { c with respB := some right }) else (if c.respA.isSome then c else { c with respA := some right })) })

/-- A Shepherd sends the voters its response. The spec does not say how a response follows from the seed: its value is free (log 11). -/
def State.sendResponse (s : State) (b : Bool) : State :=
  match s.freeVal with
  | (s, v) => s.broadcast (shcUid b) (s.pair.liveVoters.map voterUid) .response v.toNat

/-- CHALLENGE_RESPONSE (R350). -/
def execChallengeResponse (b right : Bool) (s : State) : Host.Outcome State Fault Refusal :=
  actOutside s fun s => if s.pair.challenge.isSome then ((s.sendResponse b).respond b right).closeChallenge else s

/-- CHALLENGE_TIMEOUT (R350): a response not in after 1,536 SCLK cycles, 1,920 ns, is wrong. -/
def execChallengeTimeout (s : State) : Host.Outcome State Fault Refusal :=
  actOutside s fun s =>
    match s.pair.challenge with
    | none => s
    | some c => (((s.advanceTo (c.began + 1920)).respond false false).respond true false).closeChallenge

/-- Both Shepherds have digests to compare: one active and one following, outside skew mode and with no challenge (R347, R356). -/
def State.compares (s : State) : Bool := s.pair.active.isSome && s.follower.isSome && !s.pair.skew && s.pair.challenge.isNone

/-- The two TBASE masters are compared: more than 10 ns apart they record 0x0101, and the active one's value stands (R31). -/
def State.compareMasters (s : State) : State :=
  match s.activeShc with
  | some b => if s.follower.isSome && decide (10 < s.pair.masterDiff.natAbs) then s.report 0x0101 (shcUid b) (le 4 (toTwos 32 s.pair.masterDiff)) else s
  | none => s

/-- A Shepherd that has processed an epoch marker sends the voters its digest of the epoch (R347). -/
def State.sendDigest (s : State) (b : Bool) (dig : BitVec 64) : State :=
  if (s.pair.shc b).beats then s.broadcast (shcUid b) (s.pair.liveVoters.map voterUid) .digest dig.toNat else s

/-- WARDEN_EPOCH (R31, R347): the epoch marker is ordered; the TBASE masters are compared; each Shepherd sends its digest, the follower
none yet where `late` is set; unequal digests of the epoch are a mismatch that every voter finds. -/
def execWardenEpoch (digA digB : BitVec 64) (late : Bool) (s : State) : Host.Outcome State Fault Refusal :=
  act s fun s =>
    let s := s.advanceTo ((s.tbase / 10000 + 1) * 10000)
    let s := (s.modPair (fun p => { p with wEpoch := s.tbase / 10000, skew := p.skew && s.fw.step != 6 })).compareMasters
    let behind := late && s.compares
    let s := if behind && s.pair.active = some .b then s else s.sendDigest false digA
    let s := if behind && s.pair.active = some .a then s else s.sendDigest true digB
    if !s.compares then s.modPair (fun p => { p with digestWait := none })
    else if late then
      let own := if s.pair.active = some .b then digB else digA
      s.modPair (fun p => { p with digestWait := match p.digestWait with | some w => some w | none => some (p.wEpoch, s.tbase, own) })
    else
      let s := s.modPair (fun p => { p with digestWait := none })
      if digA = digB then (if s.fw.step = 6 then s.commitUpdate else s) else s.beginChallenge false (digA ^^^ digB)

/-- DIGEST_LATE (R347): 20 us after the active Shepherd's digest. The record's XOR takes the missing digest as a free value. -/
def execDigestLate (s : State) : Host.Outcome State Fault Refusal :=
  actOutside s fun s =>
    match s.pair.digestWait with
    | none => s
    | some (_, t, own) =>
      if !s.compares then s
      else
        let (s, v) := s.freeVal
        (s.advanceTo (t + 20000)).beginChallenge true (own ^^^ v)

/-- Every entry of a Drover's event buffer is taken by the active Shepherd in buffer order, with its detection TBASE (R351). -/
def State.replayBuffer (s : State) (f : Nat) : State :=
  let l := (s.field f).buffer
  if l.isEmpty then s
  else
    let s := s.modField f (fun fd => { fd with
      buffer := [], bufAbove := none, bufAboveNs := fd.bufAboveNs + match fd.bufAbove with | some t => s.tbase - t | none => 0 })
    let s := s.forEach l (fun s e =>
      match e.body, e.batch with
      | some fr, _ => s.holdValues fr
      | none, some b => s.sweepAccumulate b
      | none, none => s.takeReport { e.ev with replayed := true } e.latched e.parted)
    s.modPair (fun p => { p with replayed := p.replayed + l.length })

/-- The counts a Drover sends when its buffer has drained: event 0x0303 (R354, Table 14.4). -/
def State.sendCounts (s : State) (f : Nat) : State :=
  let fd := s.field f
  if fd.bufCeEv + fd.bufUcFe = 0 then s
  else
    let s := s.modField f (fun fd => { fd with bufCounts := [], bufCeEv := 0, bufUcFe := 0, bufAboveNs := 0 })
    s.report 0x0303 (partUid f 3) (le 4 fd.bufCeEv ++ le 4 fd.bufUcFe ++ le 4 (sat (2 ^ 32 - 1) (fd.bufAboveNs / 1000)))

/-- TAKEOVER (R351). -/
def execTakeover (f : Nat) (s : State) : Host.Outcome State Fault Refusal :=
  actIf (decide (f < Config.fields) && s.firmware && (s.field f).tbaseSet) s fun s => (s.replayBuffer f).noteSwitch

/-- ORDER_ENTRY (R345): the follower processes one ordered input; a firmware assertion in that step records 0x4003 (R360). -/
def execOrderEntry (assertion : Option (Nat × BitVec 32 × BitVec 32)) (s : State) : Host.Outcome State Fault Refusal :=
  actOutside s fun s =>
    let s := if s.follower.isSome && decide (s.pair.followed < s.pair.order) then s.modPair (fun p => { p with followed := p.followed + 1 }) else s
    match assertion, s.activeShc with
    | some (core, n, arg), some b =>
      if s.firmware then s.report 0x4003 (shcUid b) ([BitVec.ofNat 8 core, 0, 0, 0] ++ le 4 n.toNat ++ le 4 arg.toNat) else s
    | _, _ => s

/-- OUTPUT_RELEASE (R346): the outputs of every input the follower reports processed leave the block. -/
def execOutputRelease (s : State) : Host.Outcome State Fault Refusal :=
  actOutside s fun s =>
    if s.follower.isNone then s
    else
      let n := s.pair.followed
      let free := s.pair.held.filter (fun p => decide (p.1 ≤ n))
      let s := s.modPair (fun p => { p with processed := n, released := n, held := p.held.filter (fun p => decide (n < p.1)), pairSeq := p.pairSeq + free.length })
      { s with out := s.out ++ free.map (·.2) }

/-- SHEPHERD_REJOIN (R355): after its self-test and the state transfer, a reset Shepherd joins the order. -/
def execShepherdRejoin (b selfTestOk : Bool) (s : State) : Host.Outcome State Fault Refusal :=
  actOutside s fun s =>
    let x := s.pair.shc b
    if x.status != .resetting && x.status != .catchingUp || !(s.field (Config.shcField b)).infraPg then s
    else if !selfTestOk then
      let s := if s.fw.step = 3 ∧ s.newShc = b then s.abortUpdate 1 else s
      s.modShc b (fun x => { x with status := .outOfService })
    else if !(s.firmware && s.activeShc == some (!b)) then s
    else
      let img := if s.fw.step = 3 ∧ s.newShc = b then s.fw.stagedImage else s.fw.running
      let s := s.modShc b (fun x => { x with status := .following, lost := false, lastHb := s.tbase, image := match img with | some i => some i | none => x.image })
      s.modPair (fun p => { p with held := [], processed := p.order, followed := p.order, released := p.order })

/-- REJOIN_TIMEOUT (R355). -/
def execRejoinTimeout (b : Bool) (s : State) : Host.Outcome State Fault Refusal :=
  actOutside s fun s =>
    let x := s.pair.shc b
    if x.status = .resetting ∨ x.status = .catchingUp then
      (s.advanceTo (x.resetAt + 100000000)).modShc b (fun x => { x with status := .outOfService })
    else s

/-- SHEPHERD_RESET_ORDER (R357): every 1 s while both are lost. -/
def execShepherdResetOrder (s : State) : Host.Outcome State Fault Refusal :=
  actOutside s fun s =>
    if !s.pair.bothLost || s.life.scanOpen then s
    else
      let s := s.advanceTo (s.pair.lostAt + ((s.tbase - s.pair.lostAt) / 1000000000 + 1) * 1000000000)
      s.forEach [false, true] (fun s b =>
        if (s.pair.shc b).status = .outOfService ∨ !(s.field (Config.shcField b)).infraPg then s
        else (s.modShc b (fun x => { x with status := .resetting, gate := false, resetAt := s.tbase, nmi := none, trace := {} })).sig .shcReset (b2n b) 1)

/-- A Shepherd reports itself lost in a message to every voter, and the voters in service find it so (R348, R360). -/
def State.selfLost (s : State) (b : Bool) : State :=
  let s := (s.modShc b (fun x => { x with lost := true })).broadcast (shcUid b) (s.pair.liveVoters.map voterUid) .lost 0
  if s.pair.liveVoters.length < 2 then s else s.shcLost b

/-- FW_WATCHDOG (R360). -/
def execFwWatchdog (b : Bool) (core : Nat) (s : State) : Host.Outcome State Fault Refusal :=
  let x := s.pair.shc b
  actOutside s fun s =>
    if !x.beats || !s.start.fwRun then s
    else (s.selfLost b).report 0x4004 (shcUid b) ([BitVec.ofNat 8 core, 0, 0, 0] ++ le 4 x.tracePoint)

/-- NMI_RETURN (Table 11.3, R411): the handler has written its state to the trace buffer. -/
def execNmiReturn (b : Bool) (s : State) : Host.Outcome State Fault Refusal :=
  actOutside s fun s =>
    if (s.pair.shc b).nmi.isNone then s
    else
      let s := if s.trace.mask.getLsbD 2 then
          ({ s with free := s.free + 1 } : State).traceOne b 2 ((Config.nmiState s.free).take 2040) else s
      s.modShc b (fun x => { x with nmi := none })

/-- NMI_OVERRUN (R360): 100 us without return; 0x4004 with cause 1. -/
def execNmiOverrun (b : Bool) (core : Nat) (s : State) : Host.Outcome State Fault Refusal :=
  actOutside s fun s =>
    match (s.pair.shc b).nmi with
    | none => s
    | some t =>
      let point := (s.pair.shc b).tracePoint
      let s := (s.advanceTo (t + 100000)).modShc b (fun x => { x with nmi := none })
      s.report 0x4004 (shcUid b) ([BitVec.ofNat 8 core, 1, 0, 0] ++ le 4 point)

/-- TBASE_SYNC (R31, R33): the active master's message goes to every Drover on both planes; a Drover that has no TBASE takes it
and measures its path delay. What the masters differ by is kept for the comparison of the Warden epoch. -/
def execTbaseSync (diff : Int) (s : State) : Host.Outcome State Fault Refusal :=
  actIf s.activeShc.isSome s fun s =>
    let s := s.toDrovers .tbaseSync s.tbase
    let new := (List.range Config.fields).filter (fun f => (s.field f).drover && !(s.field f).tbaseSet && (s.field f).infraPg)
    let s := (s.forEach new (fun s f => s.modField f (fun fd => { fd with tbaseSet := true }))).measureDelay new
    s.modPair (fun p => { p with masterDiff := diff })

/-- PART_RESET_DONE (Table 11.6). -/
def execPartResetDone (uid : Uid) (pass : Bool) (s : State) : Host.Outcome State Fault Refusal := act s fun s => s.partReturn uid pass

/-- The limit of a PARTRST [ns] (Table 11.6). -/
def partLimit : Part → Nat
  | .crook _ _ => 1000000 | .engine _ => 1000000 | .router _ _ => 5000000 | .drover _ => 20000000 | .shc _ => 100000000 | .voter _ => 10000000

/-- PART_RESET_LIMIT (R276): the reset has not ended within its limit, so the part leaves service. -/
def execPartResetLimit (uid : Uid) (s : State) : Host.Outcome State Fault Refusal :=
  act s fun s =>
    match partOf uid with
    | none => s
    | some p => if s.partResetting p then (s.advanceTo ((s.partTimes p).getLastD s.tbase + partLimit p)).partOut p else s

end Sys2Proof.Machine
end

