-- ==== Sys2Proof/Machine/Replay.lean ====
section
/-! DEFINITION. Replay spot checks and twinned execution: the announce and its answer, mirror beats, digests, Crook
computations, confirmation, self-test and buffer errors (R46 to R54, R174 to R192, R213, R220, R244). -/

namespace Sys2Proof.Machine

/-- The donated logical slots of a logical flock (Table 7.1). -/
def donatedSlots (code l : Nat) : List Nat :=
  match code with
  | 1 => if l % 4 = 0 then [Config.slots - 1] else []
  | 2 => if l % 2 = 0 then [Config.slots - 1] else []
  | 3 => [Config.slots - 1]
  | 4 => [Config.slots - 2, Config.slots - 1]
  | _ => []
/-- The donated slots of a physical flock in the present job (R175). -/
def State.donated (s : State) (f k : Nat) : List Nat :=
  match (s.flock f k).logical with
  | some l => if s.job.active then donatedSlots s.job.donation l else []
  | none => []
/-- The two hash words of an announce (R178): h_r and h_t. -/
def samplerHash (key : BitVec 64) (n : BitVec 48) (f l slot : Nat) : Nat × Nat :=
  let x := mix64 (Nat.xor (mix64 (Nat.xor key.toNat n.toNat)) (f * 2 ^ 11 + l * 2 ^ 5 + slot))
  (x / 2 ^ 32, x % 2 ^ 32)

/-- Buffer bytes that the entries of a Crook hold. -/
def Crook.held (x : Crook) : Nat := x.queue.foldl (fun n e => n + e.room) 0
/-- A Crook can take a stream of so many operand beats (R63, R181); sampled replays leave 8 entries and 256 KiB (R213). -/
def Crook.fits (x : Crook) (beats : Nat) (forced : Bool) : Bool :=
  let lanes := (x.queue.filter (fun e => e.state == EntryState.receiving)).length
  let slots := if forced then 64 else 56
  let bytes := if forced then 2097152 else 2097152 - 262144
  x.inService && !x.resetting && decide (lanes < 4) && decide (x.queue.length < slots) && decide (x.held + (beats + 1) * 64 ≤ bytes)
/-- The Crook a stream is bound to: the one with the most free buffer, the lowest among equals (R181). -/
def State.pickCrook (s : State) (f beats : Nat) (forced : Bool) : Option Nat :=
  minOn (fun i => ((s.crook f i).held : Int)) ((List.range Config.crooks).filter (fun i => (s.crook f i).fits beats forced))

/-- A core may twin an operation of core `c` (R190): one Sheltered may, at an equal standing step (R247). -/
def State.twinFits (s : State) (f k c t : Nat) : Bool :=
  let x := s.core f k t
  t != c && x.slice.isNone && x.twinTag.isNone && x.st.fitTwin && x.step == (s.core f k c).step && !x.breached
/-- The twin of an operation of core `c`: the unconsumed spare, then the donated cores in ascending slot; with its kind (R190). -/
def State.pickTwin (s : State) (f k c : Nat) : Option (Nat × Bool) :=
  let fl := s.flock f k
  let spare := match fl.spareCore with | some t => [(t, false)] | none => []
  let gift := ((s.donated f k).filter (fun j => !(fl.disabled.contains j))).map (fun j => (fl.coreOf j, true))
  (spare ++ gift).find? (fun p => s.twinFits f k c p.1)

/-- Something other than the hash selects the replay of an operation (R192, R213, R220, R244). -/
def State.forcedReplay (s : State) (f k c l slot : Nat) (n : BitVec 48) : Bool :=
  decide (0 < (assoc (s.flock f k).forced slot).getD 0) || (s.core f k c).st == .suspect || isSweep n || s.watched f l slot n

/-- Answer an announce on the FSP: fsp_mir_sel with the tag, fsp_twin_sel with the core (R49). -/
def State.answer (s : State) (f k : Nat) (mir twin : Bool) (tag core : Nat) : State :=
  (s.sig .fspOpSel (flockUid f k).toNat (b2n mir + 2 * tag)).sig .fspTwinSel (flockUid f k).toNat (b2n twin + 2 * core)

/-- A donated core announces an operation: recorded once in the job (R175). -/
def State.breach (s : State) (f k c : Nat) (n : BitVec 48) : State :=
  match (s.flock f k).slotOf c with
  | none => s
  | some j =>
    if (s.donated f k).contains j && !(s.core f k c).breached then
      (s.modCore f k c (fun x => { x with breached := true })).reportCls 0x7015 clsUC (flockUid f k)
        (s.cyclePayload f ([0xFF, BitVec.ofNat 8 c] ++ le 2 n.toNat)) s.job.taintId
    else s

/-- One forced selection of a slot is used up (R192). -/
def State.useForced (s : State) (f k slot : Nat) : State :=
  s.modFlock f k fun fl =>
    match assoc fl.forced slot with
    | some m => { fl with forced := if m ≤ 1 then assocDel fl.forced slot else assocSet fl.forced slot (m - 1) }
    | none => fl

/-- The selection of a replayable operation of a logical slot (R178, R181, R184, R190, R196). -/
def State.select (s : State) (f k c l slot : Nat) (n : BitVec 48) (beats : Nat) : State :=
  let fl := s.flock f k
  let (hr, ht) := samplerHash s.job.key n f l slot
  let (pr, pt) := fl.latched.getD (0, 0)
  let wantR := decide (hr < pr)
  let wantT := decide (ht < pt)
  let forced := s.forcedReplay f k c l slot n
  let watched := s.watched f l slot n
  let tag := fl.freeTag
  let crook : Option Nat := if (wantR || forced) && fl.stream.isNone && tag.isSome then s.pickCrook f beats forced else none
  let twin : Option (Nat × Bool) := if wantT && tag.isSome then s.pickTwin f k c else none
  let spare := match twin with | some (_, d) => !d | none => false
  let add := fun (fl : Flock) (b : Bool) (i : Nat) => if b then fl.count i else fl
  let s := s.modFlock f k (fun fl =>
    add (add (add (add (add (add (add fl wantR 1) (wantR && crook.isNone) 2) (forced && crook.isSome) 3) wantT 4)
      (wantT && twin.isNone) 5) spare 6) (twin.isSome && !spare) 7)
  let s := s.useForced f k slot
  let s := if watched && crook.isNone then
      s.forEach s.watchKeys (fun s i => if (s.watch i).covers f l slot n then s.modWatch i (fun w => { w with withheld := w.withheld + 1 }) else s)
    else s
  if crook.isNone && twin.isNone then s.answer f k false false 0 0
  else
    let t := tag.getD 0
    let step : BitVec 48 := BitVec.ofNat 48 (s.job.step.toNat - s.job.lag)
    let st : TagSt := { core := c, slot := slot, inst := n, crook := crook, twin := twin.map (·.1), twinDonated := twin.isSome && !spare,
                        epoch := s.job.epoch, jobId := s.job.id, jobNo := s.job.no, step := step, forced := forced
                        selAt := s.cycleCount f, watches := s.watchKeys.filter (fun i => (s.watch i).covers f l slot n) }
    let s := s.modFlock f k (fun fl => { fl with tags := fl.tags ++ [(t, st)], stream := if crook.isSome then some t else fl.stream })
    let s := match crook with
      | some i => s.modCrook f i (fun x => { x with queue := x.queue ++ [({ flock := k, tag := t, beats := beats, room := (beats + 1) * 64 } : CrookEntry)] })
      | none => s
    let s := match twin with
      | some (w, _) => s.modCore f k w (fun x => { x with twinTag := some t })
      | none => s
    s.answer f k crook.isSome twin.isSome t ((twin.map (·.1)).getD 0)

/-- An announce with good parity (R49, R175, R178, R179). -/
def State.announce (s : State) (f k c : Nat) (n : BitVec 48) (rep : Bool) (beats : Nat) : State :=
  if !s.job.active then s.answer f k false false 0 0
  else
    let s := s.breach f k c n
    if !rep then s.answer f k false false 0 0
    else
      let s := s.modFlock f k (fun fl => fl.count 0)
      match (s.flock f k).logical, (s.flock f k).slotOf c with
      | some l, some slot => s.select f k c l slot n beats
      | _, _ => s.answer f k false false 0 0

/-- A parity error on an In group of an FSP: the cycle's values are ignored, and it is a UC against element 0x03 (R47). -/
def State.fspParity (s : State) (f k group : Nat) : State :=
  (s.modFlock f k (fun fl => { fl with parity := fl.parity + 1 })).reportPlane 0x1230 (mkUid 2 f k 0 0 3) [BitVec.ofNat 8 group]

/-- The FSP of a physical flock exists in this integration. -/
def fspExists (f k : Nat) : Bool := decide (f < Config.fields) && decide (k < Config.flocks)

/-- OP_ANNOUNCE (R49). -/
def execOpAnnounce (f k core : Nat) (n : BitVec 48) (rep : Bool) (beats : Nat) (parityOk : Bool) (s : State) : Host.Outcome State Fault Refusal :=
  actIf (fspExists f k) s fun s => if parityOk then s.announce f k core n rep beats else s.fspParity f k 0

/-- The stream of an entry closes: a wrong stream's verdict is fixed and its buffer freed; a right one is ready, behind the
streams that closed before it (R182, R187). DESIGN CHOICE: where a beat failed parity and the descriptor breaks R160 as well, the one
verdict is MIRROR_PARITY; neither rule says which (log 92). -/
def State.closeStream (s : State) (f i k tag : Nat) : State :=
  match (s.crook f i).entry k tag with
  | none => s
  | some e =>
    let fixed : Option Verdict :=
      if e.parityAt.isSome then some .mirrorParity
      else match e.desc with
        | some d => if craLegal d && e.got == e.beats then none else some .protocol
        | none => some .protocol
    let s := (s.modFlock f k (fun fl => { fl with stream := none })).modTag f k tag (fun t => { t with closedAt := s.cycleCount f })
    match fixed with
    | some v =>
      let e : CrookEntry := { e with fixed := some v, state := .awaitDigest, room := 0, closed := true, a := [], b := [], c := [] }
      (s.modEntry f i k tag (fun _ => e)).compareRef f k tag
    | none =>
      let e : CrookEntry := { e with state := .ready, closed := true }
      s.modCrook f i (fun x =>
        ({ x with queue := x.queue.filter (fun q => !(q.flock == k && q.tag == tag)) ++ [e] } : Crook).kick)

/-- A mirror beat is taken into the bound entry (R50, R51, R46). Beats of a stream that was cut belong to no entry and are
dropped (R188). -/
def State.mirror (s : State) (f k kind : Nat) (last : Bool) (data : List Byte) (badLane : Option Nat) : State :=
  match (s.flock f k).stream with
  | none => s
  | some tag =>
    match (s.tagSt f k tag).bind (·.crook) with
    | none => s
    | some i =>
      let s := if kind = 0 then s else s.modFlock f k (fun fl => fl.count 8)
      let s := s.modEntry f i k tag (fun e =>
        let e := match badLane, e.parityAt with
          | some b, none => { e with parityAt := some (b, kind, e.got + b2n e.desc.isSome) }
          | _, _ => e
        match kind with
        | 0 => { e with desc := some (e.desc.getD (fit 64 data)) }
        | 1 => { e with got := e.got + 1, a := e.a ++ fit 64 data }
        | 2 => { e with got := e.got + 1, b := e.b ++ fit 64 data }
        | _ => { e with got := e.got + 1, c := e.c ++ fit 64 data })
      if last then s.closeStream f i k tag else s

/-- MIRROR_BEAT (R50). -/
def execMirrorBeat (f k kind : Nat) (last : Bool) (data : List Byte) (badLane : Option Nat) (s : State) : Host.Outcome State Fault Refusal :=
  actIf (fspExists f k) s fun s => s.mirror f k kind last data badLane

/-- A digest with a free tag, or of a core that holds no part in the tag: verdict PROTOCOL against the FSP (R184). No announce names it,
so its trace entry has no instance (R199). -/
def State.strayDigest (s : State) (f k core tag : Nat) (dig : BitVec 64) : State :=
  ((s.countVerdict f k .protocol).voidEvent f k .protocol (coreUid f k core) tag 0 s.job.taintId clsEV).traceVerdict f (coreUid f k core) .protocol tag 0 dig 0
/-- The first digest of a twin pair has come (R187). -/
def State.markFirst (s : State) (f k tag : Nat) : State :=
  s.modTag f k tag (fun t => { t with firstAt := match t.firstAt with | some n => some n | none => some (s.cycleCount f) })

/-- A digest is routed by its tag to the Crook entry and to the twin comparator (R52, R184, R187, R191). -/
def State.digest (s : State) (f k core tag : Nat) (dig : BitVec 64) (ok : Bool) : State :=
  match s.tagSt f k tag with
  | none => s.strayDigest f k core tag dig
  | some t =>
    if core = t.core then
      if t.coreDig.isSome || t.coreBad then s
      else
        let s := (s.markFirst f k tag).modTag f k tag (fun t => if ok then { t with coreDig := some dig } else { t with coreBad := true })
        (s.compareRef f k tag).settleTwin f k tag
    else if t.twin = some core then
      if t.twinDig.isSome || t.twinBad || t.twinDone then s
      else
        let s := (s.markFirst f k tag).modTag f k tag (fun t => if ok then { t with twinDig := some dig } else { t with twinBad := true })
        (s.freeTwin f k tag).settleTwin f k tag
    else s.strayDigest f k core tag dig

/-- DIGEST_ARRIVAL (R52). -/
def execDigestArrival (f k core tag : Nat) (dig : BitVec 64) (parityOk : Bool) (s : State) : Host.Outcome State Fault Refusal :=
  actIf (fspExists f k) s fun s => s.digest f k core tag dig parityOk

/-- The core-cycle count at which a digest wait ends (R187): 2^20 cycles after the stream's last beat; for a twin pair 1,024 cycles after the
first of its digests, or 2^20 after selection when neither has come. -/
def TagSt.deadline (t : TagSt) (ofTwin : Bool) : Nat :=
  if ofTwin then (match t.firstAt with | some n => n + 1024 | none => t.selAt + 1048576) else t.closedAt + 1048576
/-- A digest wait has ended (R187): of a closed stream, with the verdict its stream fixed or DIGEST_MISSING; of a twin pair. -/
def State.digestMissing (s : State) (f k tag : Nat) (ofTwin : Bool) : State :=
  match s.tagSt f k tag with
  | none => s
  | some t =>
    if ofTwin then
      match t.twin with
      | none => s
      | some w =>
        let u := coreUid f k (if t.twinDig.isNone then w else t.core)
        ((s.voidEvent f k .digestMissing u tag t.inst.toNat t.opId clsEV).traceVerdict f u .digestMissing tag t.inst (t.coreDig.getD 0) (t.twinDig.getD 0)).endTwin
          f k tag .digestMissing
    else
      match t.crook.bind (fun i => (s.crook f i).entry k tag) with
      | none => s
      | some e => s.giveReplay f k tag (e.fixed.getD .digestMissing) 0
/-- The digest wait of a tag is open: of a twin pair with a digest outstanding, or of a closed stream without its core's digest (R187). -/
def State.waiting (s : State) (f k tag : Nat) (ofTwin : Bool) : Bool :=
  match s.tagSt f k tag with
  | none => false
  | some t =>
    if ofTwin then t.twin.isSome && !t.twinDone && !(t.coreDig.isSome && t.twinDig.isSome) && !t.coreBad && !t.twinBad
    else t.coreDig.isNone && !t.coreBad && (match t.crook.bind (fun i => (s.crook f i).entry k tag) with | some e => e.closed | none => false)
/-- A digest wait runs to its end, in core cycles: while the count stands still it does not end (R34, R187). -/
def State.digestWaitEnd (s : State) (f k tag : Nat) (ofTwin : Bool) : State :=
  if !s.waiting f k tag ofTwin then s
  else match s.toCycle f (((s.tagSt f k tag).map (fun t => t.deadline ofTwin)).getD 0) with
    | some s => s.digestMissing f k tag ofTwin
    | none => s

/-- DIGEST_WAIT_END (R187). -/
def execDigestWaitEnd (f k tag : Nat) (ofTwin : Bool) (s : State) : Host.Outcome State Fault Refusal :=
  actIf (fspExists f k) s fun s => s.digestWaitEnd f k tag ofTwin

/-- A Crook's computation ends (R183): the reference digest is that of CRA-3, or what a faulty Crook forms instead. -/
def State.computeDone (s : State) (f c fk tag : Nat) (fault : Option (BitVec 64)) : State :=
  match (s.crook f c).entry fk tag, s.tagSt f fk tag with
  | some e, some _ =>
    if e.state != .computing then s
    else
      let l := e.desc.getD []
      let d := fault.getD (craDigest l e.a e.b e.c)
      let s := s.modFlock f fk (fun fl => { fl with counters := bump fl.counters 9 (craMacs l) })
      let s := s.modEntry f c fk tag (fun e => { e with ref := some d, state := .awaitDigest })
      let s := s.modCrook f c Crook.kick
      s.compareRef f fk tag
  | _, _ => s

/-- CROOK_COMPUTE_DONE (R183). -/
def execCrookComputeDone (f c fk tag : Nat) (fault : Option (BitVec 64)) (s : State) : Host.Outcome State Fault Refusal :=
  actIf (fspExists f fk) s fun s => s.computeDone f c fk tag fault

/-- Crook `c` makes the confirming recomputation of an entry of Crook `i` now: it is the first it was asked for, the computation in progress has
ended, and a self-test that goes first has passed (R185). -/
def State.mayConfirm (s : State) (f i c : Nat) (e : CrookEntry) : Bool :=
  let x := s.crook f c
  !e.selfFirst && !x.testDue && x.confirms.head? == some (i, e.flock, e.tag) && !(x.queue.any (fun q => q.state == .computing))

/-- A Crook is to run its self-test at once, before it computes anything more (R185). -/
def State.orderTest (s : State) (f i : Nat) : State := s.modCrook f i (fun x => { x with testDue := true })
/-- A confirming recomputation ends; Table 7.3 gives the verdict (R185). -/
def State.confirmDone (s : State) (f c fk tag : Nat) (fault : Option (BitVec 64)) : State :=
  match s.tagSt f fk tag with
  | none => s
  | some t =>
    match t.crook with
    | none => s
    | some i =>
      match (s.crook f i).entry fk tag with
      | none => s
      | some e =>
        if e.state != .confirming || !s.mayConfirm f i c e then s
        else
          let l := e.desc.getD []
          let d2 := fault.getD (craDigest l e.a e.b e.c)
          let s := s.modFlock f fk (fun fl => { fl with counters := bump fl.counters 9 (craMacs l) })
          if some d2 = e.ref then s.giveReplay f fk tag .mismatch c
          else if some d2 = t.coreDig then
            let s := s.report 0x0401 (crookUid f i) (le 4 t.inst.toNat ++ le 2 fk ++ [BitVec.ofNat 8 tag]) t.opId
            (s.giveReplay f fk tag .crookDisagree c).blameCrook f i
          else ((s.giveReplay f fk tag .inconclusive c).orderTest f i).orderTest f c

/-- CROOK_CONFIRM_DONE (R185). -/
def execCrookConfirmDone (f c fk tag : Nat) (fault : Option (BitVec 64)) (s : State) : Host.Outcome State Fault Refusal :=
  actIf (fspExists f fk) s fun s => s.confirmDone f c fk tag fault

/-- A Crook exists in this integration. -/
def crookExists (f c : Nat) : Bool := decide (f < Config.fields) && decide (c < Config.crooks)

/-- A Crook's known-answer self-test ends (R189, R185): passed, the recomputations that waited for it can be made; failed,
0x0402 with the format and the opcode, and the Crook leaves service. -/
def State.crookTested (s : State) (f c : Nat) (fail : Option (Nat × Nat)) : State :=
  if !(s.crook f c).inService || (s.crook f c).resetting then s
  else
    let s := s.modCrook f c (fun x => { x with selfTestAt := s.tbase, testDue := false })
    match fail with
    | none => s.modCrook f c (fun x => ({ x with queue := x.queue.map (fun e => if e.confirmer = some c then { e with selfFirst := false } else e) } : Crook).kick)
    | some (fmt, op) => (s.report 0x0402 (crookUid f c) [BitVec.ofNat 8 fmt, BitVec.ofNat 8 op] s.job.taintId).crookOut f c

/-- CROOK_SELFTEST (R189). -/
def execCrookSelftest (f c : Nat) (fail : Option (Nat × Nat)) (s : State) : Host.Outcome State Fault Refusal :=
  actIf (crookExists f c) s fun s => s.crookTested f c fail

/-- An ECC error in a Crook's operand buffer (R188, R189): a single-bit correction is a CE; an uncorrectable error ends the
entries that use the failing words. -/
def State.bufferEcc (s : State) (f c : Nat) (unc : Bool) (line : Nat) (tags : List (Nat × Nat)) : State :=
  let s := s.reportCls 0x0403 (if unc then clsUC else clsCE) (crookUid f c) ([BitVec.ofNat 8 (b2n unc), 0, 0, 0] ++ le 4 line) s.job.taintId
  if !unc then s
  else s.forEach (tags.filter (fun p => ((s.crook f c).entry p.1 p.2).isSome)) (fun s p =>
    (s.modFlock f p.1 (fun fl => if fl.stream = some p.2 then { fl with stream := none } else fl)).giveReplay f p.1 p.2 .crookDisagree 0)

/-- CROOK_BUFFER_ECC (R189). -/
def execCrookBufferEcc (f c : Nat) (unc : Bool) (line : Nat) (tags : List (Nat × Nat)) (s : State) : Host.Outcome State Fault Refusal :=
  actIf (crookExists f c) s fun s => s.bufferEcc f c unc line tags

end Sys2Proof.Machine
end

