-- ==== Sys2Proof/Machine/Collect.lean ====
section
/-! DEFINITION. Taking error reports: those of the Flock Service Ports and those of Beyja's own parts (R270 to R273). -/

namespace Sys2Proof.Machine

/-- The low bytes a group may use: those of Table 11.2 that are neither reserved nor Beyja's own. -/
def lowOk (grp low : Nat) : Bool :=
  (decide (0x10 ≤ low) && decide (low ≤ 0x2F)) || (decide (1 ≤ low) && decide (low ≤ (if grp = 1 then 3 else 5)))
end Sys2Proof.Machine

namespace Sys2Proof

/-- The event code of an FSP report (R48, R271). -/
def FspErr.code (r : FspErr) : Nat := (0x10 + r.grp) * 256 + r.low
/-- A malformed FSP report (R271). -/
def FspErr.malformed (r : FspErr) : Bool :=
  decide (3 ≤ r.cls) || decide (3 ≤ r.grp) || decide (3 ≤ r.scope) || !Machine.lowOk r.grp r.low || !Machine.elemListed r.scope r.elem
  || (decide (r.scope ≤ 1) && decide (Config.cores ≤ r.core)) || (r.scope == 0 && decide (Config.lanes ≤ r.lane))
/-- The source UID of an FSP report (R48). -/
def FspErr.uid (r : FspErr) (f k : Nat) : Uid :=
  match r.scope with
  | 0 => Machine.mkUid 0 f k r.core r.lane r.elem
  | 1 => Machine.mkUid 1 f k r.core 0 r.elem
  | _ => Machine.mkUid 2 f k 0 0 r.elem

end Sys2Proof

namespace Sys2Proof.Machine

/-- What a report of groups 0x10 and 0x11 finds out about the core or lane it names (R241, R242, Table 10.2). -/
def State.fspFinding (s : State) (f k : Nat) (r : FspErr) : State :=
  if 2 ≤ r.grp ∨ 2 ≤ r.scope then s
  else match r.cls with
    | 0 => s.countCE f k r.core (if r.scope = 0 then some r.lane else none) r.low
    | 1 => if r.scope = 0 then s.laneFinding f k r.core r.lane r.low else s.finding f k r.core .uc r.low
    | _ => s.finding f k r.core .fe r.low

/-- ERROR_REPORT (R47, R271, R272): acknowledged, fenced by its class by the Drover alone, reported, and counted against its unit. -/
def execErrorReport (f k : Nat) (r : FspErr) (s : State) : Host.Outcome State Fault Refusal :=
  actIf (fspExists f k) s fun s =>
    if !r.parityOk then s.fspParity f k 6
    else
      let s := s.sig .fspErrAck (flockUid f k).toNat 1
      if r.malformed then s.reportPlane 0x1230 (mkUid 2 f k 0 0 3) [6]
      else
        let u := r.uid f k
        let s := if r.cls = clsCE then s else s.closeHurdle (fenceDom u r.cls) 0 r.code
        let s := s.reportCls r.code r.cls u (s.cyclePayload f
          [BitVec.ofNat 8 r.elem, if r.scope = 0 then BitVec.ofNat 8 r.lane else 0xFF, BitVec.ofNat 8 r.scope, 0])
        s.fspFinding f k r

/-- The Shepherd that a control core or its SRAM belongs to. -/
def shepherdOf (u : Uid) : Bool := uidField u == Config.shcField true

/-- INFRASTRUCTURE_ERROR (R270, R273, R348): a Shepherd that finds a fault in itself reports itself lost as well; a rail current
monitor that disagrees is noted (R339). No UID with a non-zero field below its level is emitted (R21). -/
def execInfrastructureError (e : InfraErr) (s : State) : Host.Outcome State Fault Refusal :=
  actIf (codeDefined e.code && !isDataPlane e.code && uidBelowZero e.uid) s fun s =>
    let s := if e.code = 0x0105 ∨ e.code = 0x010B then s.selfLost (shepherdOf e.uid) else s
    let s := if e.code = 0x0305 ∧ uidLevel e.uid = 5 ∧ 0x18 ≤ uidElem e.uid ∧ uidElem e.uid ≤ 0x1F then
        s.modField (uidField e.uid) (fun fd => { fd with deadMonitors := insertNew fd.deadMonitors (uidElem e.uid - 0x18) }) else s
    s.reportCls e.code (classOf e.code e.cls) e.uid e.payload

end Sys2Proof.Machine
end

