-- ==== Sys2Proof/Machine/Commands.lean ====
section
/-! DEFINITION. Command trackers, kill, hurdle and drain, pre-reset capture, the wait-for graph and the limits of the resets
(R55 to R57, R288 to R303, R417 to R419). -/

namespace Sys2Proof.Machine

/-- Timeout of a command class in ns (R288, policy items 0x0C00 to 0x0C02). -/
def State.trackerLimit (s : State) (cls : Nat) : Nat :=
  1000000 * (match cls with | 0 => s.policy.tmoCompute | 1 => s.policy.tmoLocal | _ => s.policy.tmoRemote)

/-- A command is issued on the tracker presented, or stalls for a cycle when none is (R55, R418). -/
def State.issue (s : State) (f k cls : Nat) : State :=
  if !s.trkAvail f k then (s.modFlock f k (fun fl => { fl with stalls := fl.stalls + 1 })).sig .fspTrkStall (flockUid f k).toNat 1
  else
    let i := (s.flock f k).freeTracker.getD 0
    let now := s.cycleCount f
    let lim := s.trackerLimit cls
    let s := s.modFlock f k (fun fl =>
      { fl.modTracker i (fun t => { t with held := true, cls := cls, run := 0, limit := lim, seen := s.tbase, reported := false,
                                           halfSeen := false, age := 0, issueCycle := now, total := t.total + 1 })
        with issued := bump fl.issued cls 1 })
    s.presentTracker f k

/-- COMMAND_ISSUE (R55). Class 3 is reserved, and the host die must not use it (R48). -/
def execCommandIssue (f k cls : Nat) (parityOk : Bool) (s : State) : Host.Outcome State Fault Refusal :=
  if parityOk && decide (3 ≤ cls) && fspExists f k then .fault (.undefinedByR2 48)
  else actIf (fspExists f k) s fun s => if parityOk then s.issue f k cls else s.fspParity f k 1

/-- A tracker is freed: its age keeps its final value (R55, R417). -/
def Tracker.free (t : Tracker) (cycle : Nat) : Tracker :=
  { t with held := false, run := 0, reported := false, halfSeen := false, age := cycle - t.issueCycle + 1 }

/-- A command retires (R55): a tracker that is not held is a UC against the flock. -/
def State.retire (s : State) (f k id : Nat) : State :=
  if !((s.flock f k).tracker id).held then s.reportPlane 0x1231 (flockUid f k) [BitVec.ofNat 8 id]
  else
    let now := s.cycleCount f
    (s.modFlock f k (fun fl => { fl.modTracker id (·.free now) with retired := fl.retired + 1 })).presentTracker f k

/-- COMMAND_RETIRE (R55). -/
def execCommandRetire (f k id : Nat) (parityOk : Bool) (s : State) : Host.Outcome State Fault Refusal :=
  actIf (fspExists f k) s fun s => if parityOk then s.retire f k id else s.fspParity f k 1

/-- All 64 trackers of a flock are freed (R56). -/
def Flock.freeAll (fl : Flock) (cycle : Nat) : Flock :=
  (fl.trackers.map (·.1)).foldl (fun fl i => if (fl.tracker i).held then fl.modTracker i (·.free cycle) else fl) fl

/-- A flock leaves the lists of FSPs whose fsp_kill_done is awaited; in level 1 the rail cycle follows the last (R298, R302). -/
def State.killOver (s : State) (f k : Nat) (late : Bool) : State :=
  let key := flockKey f k
  let s := s.modRec (fun r => { r with resets := r.resets.map (fun q =>
    if q.killWait.contains key then { q with killWait := without q.killWait key, killLate := if late then insertNew q.killLate key else q.killLate } else q) })
  match s.recovery.level1 with
  | none => s
  | some l =>
    if !l.killWait.contains key then s
    else
      let s := s.modL1 (fun l => { l with killWait := without l.killWait key })
      if l.step == .kill && (without l.killWait key).isEmpty then s.l1Rails else s

/-- fsp_kill_done: the trackers are freed and fsp_kill falls (R56). -/
def State.killed (s : State) (f k : Nat) : State :=
  if !(s.flock f k).kill then s
  else
    let now := s.cycleCount f
    (((s.modFlock f k (fun fl => { fl.freeAll now with kill := false })).sig .fspKill (flockUid f k).toNat 0).killOver f k false).presentTracker f k

/-- KILL_DONE (R47, R56). -/
def execKillDone (f k : Nat) (s : State) (parityOk : Bool := true) : Host.Outcome State Fault Refusal :=
  actIf (fspExists f k) s fun s => if parityOk then s.killed f k else s.fspParity f k 1

/-- KILL_TIMEOUT (R298): 100 us pass without fsp_kill_done; the reset goes on, and fails if the flock's own reset then fails. -/
def execKillTimeout (f k : Nat) (s : State) : Host.Outcome State Fault Refusal :=
  actIf (fspExists f k) s fun s => if (s.flock f k).kill then (s.advanceTo ((s.flock f k).killAt + 100000)).killOver f k true else s

/-- Change the hurdle of a domain that is in a phase. -/
def State.modHurdle (s : State) (d : Uid) (p : HurdlePhase) (g : Hurdle → Hurdle) : State :=
  s.modRec (fun r => { r with hurdles := r.hurdles.map (fun h => if h.dom == d && h.phase == p && !h.held then g h else h) })
/-- The hurdle of a domain that is in a phase. -/
def State.hurdleIn (s : State) (d : Uid) (p : HurdlePhase) : Option Hurdle :=
  s.recovery.hurdles.find? (fun h => h.dom == d && h.phase == p && !h.held)

/-- Every fsp_hdl_closed of a domain is 1: event 0x0310, and the drain begins (R294, R295). -/
def State.hurdleClosed (s : State) (d : Uid) : State :=
  match s.hurdleIn d .closing with
  | none => s
  | some h =>
    (s.modHurdle d .closing (fun h => { h with phase := .draining, closedAt := s.tbase })).note 0x0310 dieUid
      (le 4 d.toNat ++ [BitVec.ofNat 8 h.cause, 0] ++ le 2 h.code ++ le 4 (sat 4294967295 (s.tbase - h.began))) s.job.opId

/-- The flock of a domain whose hdl group fails its parity as the domain's answer comes: the answer is ignored (R47). -/
def State.hdlAnswer (s : State) (dom : Uid) (badAt : Option (Nat × Nat)) (g : State → State) : State :=
  match badAt with
  | some q => if domHasFlock dom q.1 q.2 && fspExists q.1 q.2 then s.fspParity q.1 q.2 2 else g s
  | none => g s

/-- HURDLE_CLOSED (R47, R294). -/
def execHurdleClosed (dom : Uid) (s : State) (badAt : Option (Nat × Nat) := none) : Host.Outcome State Fault Refusal :=
  act s fun s => s.hdlAnswer dom badAt (·.hurdleClosed dom)

/-- DRAIN_END (R47, R295): every fsp_hdl_idle of the domain is 1. -/
def execDrainEnd (dom : Uid) (s : State) (badAt : Option (Nat × Nat) := none) : Host.Outcome State Fault Refusal :=
  act s fun s => s.hdlAnswer dom badAt (·.modHurdle dom .draining (fun h => { h with phase := .drained }))

/-- The drain timeout passes first: fsp_hdl_flush rises on the FSPs that are not idle, and 0x0311 counts them (R295). -/
def State.drainTimeout (s : State) (d : Uid) (notIdle : List (Nat × Nat)) : State :=
  match s.hurdleIn d .draining with
  | none => s
  | some h =>
    if h.timedOut then s
    else
    let l := notIdle.filter (fun p => domHasFlock d p.1 p.2 && fspExists p.1 p.2)
    let s := (s.advanceTo (h.closedAt + s.policy.drain * 1000)).modHurdle d .draining (fun h => { h with timedOut := true })
    let s := s.forEach l (fun s p => (s.modFlock p.1 p.2 (fun fl => { fl with flush := true })).sig .fspHdlFlush (flockUid p.1 p.2).toNat 1)
    s.report 0x0311 dieUid (le 4 d.toNat ++ le 2 l.length ++ zeros 2 ++ le 4 ((s.tbase - h.closedAt) / 1000)) s.job.opId

/-- DRAIN_TIMEOUT (R295). -/
def execDrainTimeout (dom : Uid) (notIdle : List (Nat × Nat)) (s : State) : Host.Outcome State Fault Refusal :=
  act s fun s => s.drainTimeout dom notIdle

/-- The flock entries of a capture, in ascending UID, of the flocks it covers; a flock that is not copied is marked absent (R296, R297). -/
def State.capEntries (s : State) (c : CaptureRun) (l : List CapEntry) : List CapEntry :=
  (s.capFlocks c).map (fun p =>
    let u := flockUid p.1 p.2
    match l.find? (fun e => e.uid == u) with | some e => e | none => { uid := u })

/-- CAPTURE_DONE (R296): every flock is copied. -/
def execCaptureDone (entries : List CapEntry) (s : State) : Host.Outcome State Fault Refusal :=
  actIf s.firmware s fun s => match s.recovery.capture with
    | some c => s.captureEnded c (s.capEntries c entries) false
    | none => s

/-- CAPTURE_BUDGET (R296): 1 ms has passed; what was not copied is absent, and the capture is truncated. -/
def execCaptureBudget (entries : List CapEntry) (s : State) : Host.Outcome State Fault Refusal :=
  actIf s.firmware s fun s => match s.recovery.capture with
    | some c => (s.advanceTo (c.began + 1000000)).captureEnded c (s.capEntries c entries) true
    | none => s

/-- The trackers of a flock that have expired and are not reported, oldest first (R288). -/
def Flock.expired (fl : Flock) : List (Nat × Tracker) :=
  sortOn (fun p => -(p.2.run : Int)) (fl.trackers.filter (fun p => p.2.held && !p.2.reported && decide (p.2.limit ≤ p.2.run)))

/-- The check of one flock's trackers (R288, R292). -/
def State.checkFlock (s : State) (f k : Nat) : State :=
  let fl := s.flock f k
  let ex := fl.expired
  let half := fl.trackers.filter (fun p => p.2.held && !p.2.halfSeen && decide (p.2.limit ≤ 2 * p.2.run))
  let s := if half.isEmpty then s
    else (s.modFlock f k (fun fl => half.foldl (fun fl p => fl.modTracker p.1 (fun t => { t with halfSeen := true })) fl)).modRec
      (fun r => { r with autoDue := true })
  match ex with
  | [] => s
  | (i, t) :: rest =>
    let s := s.modFlock f k (fun fl => { ex.foldl (fun fl p => fl.modTracker p.1 (fun t => { t with reported := true })) fl
                                         with timeouts := fl.timeouts + ex.length })
    s.reportPlane 0x1240 (mkUid 2 f k 0 0 (0x40 + i)) ([BitVec.ofNat 8 t.cls, BitVec.ofNat 8 rest.length] ++ le 2 (sat 65535 (t.run / 1000000)))

/-- TRACKER_CHECK (R288): every 100 us the Drover checks its held trackers. -/
def execTrackerCheck (f : Nat) (s : State) : Host.Outcome State Fault Refusal :=
  actIf (s.droverUp f) s fun s =>
    let s := s.syncField f
    s.forEach (s.trackedFlocks f) (fun s k => s.checkFlock f k)

/-- A node of the wait-for graph (R292). -/
structure WaitNode where
  uid : Uid
  e : WaitEntry
  deriving DecidableEq, Repr

/-- The nodes of the graph, in ascending flock UID and then node number (R292, R419). -/
def State.waitNodes (s : State) (d : Uid) (tables : List WaitTable) : List WaitNode :=
  let ts := sortOn (fun t => (flockKey t.f t.k : Int)) (tables.filter (fun t => s.flockUp t.f t.k && domHasFlock d t.f t.k))
  ts.flatMap (fun t => (sortOn (fun e => (e.node : Int)) (t.entries.filter (fun e => decide (e.node < 48)))).map
    (fun e => ⟨flockUid t.f t.k, e⟩))
/-- Node W waits on an object that node O owes (R292). -/
def waitEdge (w o : WaitNode) : Bool :=
  bit w.e.flags 0 && w.e.waits != 0 && (o.e.owes1 == w.e.waits || o.e.owes2 == w.e.waits)
/-- The edges, as indices of nodes. -/
def waitEdges (ns : List WaitNode) : List (Nat × Nat) :=
  (List.range ns.length).flatMap (fun i => ((List.range ns.length).filter (fun j =>
    match ns[i]?, ns[j]? with | some a, some b => waitEdge a b | _, _ => false)).map (fun j => (i, j)))
/-- The cycles through `root` whose other nodes all have a greater index, found depth first; `fuel` bounds the length. -/
def cyclesFrom (fuel : Nat) (es : List (Nat × Nat)) (root cur : Nat) (path : List Nat) : List (List Nat) :=
  match fuel with
  | 0 => []
  | n + 1 => (es.filter (fun e => e.1 == cur)).flatMap fun e =>
      if e.2 = root then [path]
      else if e.2 < root ∨ path.contains e.2 then []
      else cyclesFrom n es root e.2 (path ++ [e.2])
/-- Every cycle of the graph, each named once, from its lowest node (R292). -/
def waitCycles (count : Nat) (es : List (Nat × Nat)) : List (List Nat) :=
  (List.range count).flatMap (fun r => cyclesFrom count es r r [r])

/-- The header of the report (Table 18.6). -/
def graphHeader (d : Uid) (nodes edges cycles asm flags flocks t0 t1 wn we wc : Nat) : List Byte :=
  le 4 d.toNat ++ le 4 nodes ++ le 4 edges ++ le 4 cycles ++ le 4 asm ++ le 1 flags ++ zeros 3 ++ le 4 flocks ++ zeros 4 ++ le 8 t0 ++ le 8 t1
  ++ le 4 wn ++ le 4 we ++ le 4 wc ++ zeros 4
/-- The report in a buffer of `len` bytes: whole items until it is full (R419). -/
def graphReport (d : Uid) (ns : List WaitNode) (es : List (Nat × Nat)) (cs : List (List Nat)) (asm flocks t0 t1 len : Nat) : List Byte :=
  let node := fun (x : WaitNode) => le 4 x.uid.toNat ++ le 1 x.e.node ++ le 1 x.e.flags ++ zeros 2 ++ le 4 x.e.waits ++ zeros 4
  let edge := fun (p : Nat × Nat) => le 4 p.1 ++ le 4 p.2 ++ le 4 (match ns[p.1]? with | some w => w.e.waits | none => 0) ++ zeros 4
  let words := cs.flatMap (fun c => c.length :: c)
  let room := len - 64
  let wn := min ns.length (room / 16)
  let we := min es.length ((room - 16 * wn) / 16)
  let whole := wn == ns.length && we == es.length
  let left := (room - 16 * wn - 16 * we) / 4
  let keep := if whole then cs.foldl (fun (p : Nat × Bool) c => if p.2 && decide (p.1 + c.length + 1 ≤ left) then (p.1 + c.length + 1, true) else (p.1, false)) (0, true) else (0, false)
  let full := whole && keep.1 == words.length
  graphHeader d ns.length es.length cs.length asm (b2n (!full)) flocks t0 t1 wn we keep.1
    ++ (ns.take wn).flatMap node ++ (es.take we).flatMap edge ++ (words.take keep.1).flatMap (le 4)

/-- The flocks that hold a node of a cycle, in ascending UID. -/
def cycleFlocks (ns : List WaitNode) (c : List Nat) : List Uid :=
  sortOn (fun u => (u.toNat : Int)) ((c.filterMap (fun i => (ns[i]?).map (·.uid))).foldl insertNew [])

/-- An assembly is complete: the report or the trace entry, then 0x1241 for every flock of every cycle (R292, R293, R419). -/
def State.assembled (s : State) (auto : Bool) (t0 t1 : Nat) (tables : List WaitTable) (d : Uid) (done : State → Nat → List Byte → State) (len : Nat) : State :=
  let ns := s.waitNodes d tables
  let es := waitEdges ns
  let cs := waitCycles ns.length es
  let asm := s.recovery.assembly + 1
  let flocks := (tables.filter (fun t => s.flockUp t.f t.k && domHasFlock d t.f t.k)).length
  let s := s.modRec (fun r => { r with assembly := asm })
  let s := if auto then s.traceShc 5 (graphHeader d ns.length es.length cs.length asm 2 flocks t0 t1 0 0 0)
    else done s cs.length (graphReport d ns es cs asm flocks t0 t1 len)
  s.forEach cs (fun s c =>
    let fs := cycleFlocks ns c
    s.forEach fs (fun s u => s.reportPlane 0x1241 u ([BitVec.ofNat 8 (sat 255 c.length), BitVec.ofNat 8 (sat 255 fs.length)] ++ le 2 asm)))

/-- An automatic assembly is due and 10 ms have passed since the last (R292). -/
def State.autoReady (s : State) : Bool :=
  s.recovery.autoDue && (match s.recovery.lastAuto with | some t => decide (t + 10000000 ≤ s.tbase) | none => true)

/-- WAIT_GRAPH_ASSEMBLED (R293). -/
def execWaitGraphAssembled (auto : Bool) (t0 t1 : Nat) (tables : List WaitTable) (s : State) : Host.Outcome State Fault Refusal :=
  actIf s.firmware s fun s =>
    if auto then
      if s.autoReady then
        ((s.modRec (fun r => { r with autoDue := false, lastAuto := some s.tbase })).readWaitTables dieUid).assembled true t0 t1 tables dieUid (fun s _ _ => s) 0
      else s
    else match s.recovery.waitReqs with
      | [] => s
      | q :: rest => (s.modRec (fun r => { r with waitReqs := rest })).assembled false t0 t1 tables q.dom
          (fun s n b => s.complete q.ring stOk (le 4 n) b) q.len

/-- RESET_LIMIT (R286): a level-0 reset passes its limit and has failed. -/
def execResetLimit (dom : Uid) (s : State) : Host.Outcome State Fault Refusal :=
  actIf s.firmware s fun s =>
    match s.recovery.resets.find? (fun r => r.dom == dom) with
    | none => s
    | some r =>
      if r.step != .kill && r.step != .reset then s
      else
        let s := s.advanceTo (r.captureEnd + level0Limit dom * 1000)
        let key := (r.killWait ++ r.waiting ++ r.queue).head?
        let u : Uid := match key with | some q => flockUid (q / 64) (q % 64) | none => 0
        s.escalate dom 0 r.code u (some dom)

/-- RAIL_CYCLE_HOLD (R302): the compute rails have been open for 10 ms. -/
def execRailCycleHold (s : State) : Host.Outcome State Fault Refusal :=
  actIf s.firmware s fun s =>
    match s.recovery.level1 with
    | some l =>
      if l.step == .railHold then ((s.advanceTo (l.openAt + 10000000)).modL1 (fun l => { l with step := .railClose })).l1CloseGroup else s
    | none => s

/-- The fields whose own work in the step under way, or an earlier one, is outstanding at the limit of level 1 (R303). -/
def State.unfinished (s : State) (l : Level1) : List Nat :=
  let keys := fun (q : List Nat) => q.map (· / 64)
  let l' := match l.step with
    | .hurdle => s.upFields
    | .drain => s.upFields
    | .capture => []
    | .kill => keys l.killWait
    | .railHold => l.groups.flatten
    | .railClose => l.groups.flatten ++ l.pgWait ++ keys l.queue ++ keys l.waiting
    | .train => []
    | .selfTest => l.testFields ++ l.testGroup.filter (fun f => !s.selfTestEnded f)
    | .folds => (s.musters.filter (fun (m : Muster) => m.ring == 255)).flatMap (fun (m : Muster) => keys m.left)
  sortNat (l'.foldl insertNew [])

/-- LEVEL1_LIMIT (R303): 30 s have passed; every unfinished field is paddocked off as lost. -/
def execLevel1Limit (s : State) : Host.Outcome State Fault Refusal :=
  actIf s.firmware s fun s =>
    match s.recovery.level1 with
    | none => s
    | some l =>
      let s := s.advanceTo (l.began + 30000000000)
      s.forEach (s.unfinished l) (fun s f => s.loseField f 3)

end Sys2Proof.Machine
end

