-- ==== Sys2Proof/Machine/Folds.lean ====
section
/-! DEFINITION. Muster points, state copies, the shelter's LDO, the re-test deadline and the fold list's commit (R58, R245,
R246, R248 to R252, R258, R259). -/

namespace Sys2Proof.Machine

/-- Muster points whose flocks have all become quiet begin their folds (R248). -/
def State.quietMusters (s : State) : State :=
  s.forEach ((s.musters.filter (fun m => !m.folding)).map (·.dom)) (fun s d =>
    if (domFlocks d).all (fun p => (s.flock p.1 p.2).quiet) then s.beginFolds d else s)

/-- fsp_quiet rises: no core of the flock executes program code (R58). -/
def State.quietRise (s : State) (f k : Nat) : State :=
  let s := s.modFlock f k (fun fl => { fl with quiet := true })
  if s.firmware then s.quietMusters else s
/-- QUIET_RISE (R47, R58). -/
def execQuietRise (f k : Nat) (s : State) (parityOk : Bool := true) : Host.Outcome State Fault Refusal :=
  actIf (fspExists f k) s fun s => if parityOk then s.quietRise f k else s.fspParity f k 3

/-- The flock whose copy a falling fsp_quiet ends: its own, or the flock fold whose destination it is (R251, R252). -/
def State.copyOwner (s : State) (f k : Nat) : Option (Nat × CopySt) :=
  match (s.flock f k).copy with
  | some c => some (k, c)
  | none =>
    if k = s.spareOf f then
      (List.range Config.flocks).findSome? (fun j => match (s.flock f j).copy with
        | some c => if c.flockCopy then some (j, c) else none
        | none => none)
    else none

/-- fsp_quiet falls: a copy under way is treated as failed (R58). -/
def State.quietFall (s : State) (f k : Nat) : State :=
  let s := s.modFlock f k (fun fl => { fl with quiet := false })
  match s.copyOwner f k with
  | some (j, c) => s.copyFailed f j c 2
  | none => s
/-- QUIET_FALL (R47, R58). -/
def execQuietFall (f k : Nat) (s : State) (parityOk : Bool := true) : Host.Outcome State Fault Refusal :=
  actIf (fspExists f k) s fun s => if parityOk then s.quietFall f k else s.fspParity f k 3

/-- fsp_copy_done (R250 to R252): a flock copy fails when either FSP shows fsp_copy_err. DEDUCED: the host die raises fsp_copy_done
on both FSPs together, and the source flock's ends the copy. -/
def State.copyDone (s : State) (f k : Nat) (err : Bool) : State :=
  match s.copyOwner f k with
  | none => s
  | some (j, c) =>
    if err then s.copyFailed f j c 0
    else if j = k then s.copyClean f j c
    else s
/-- COPY_DONE (R47, R250, R251). -/
def execCopyDone (f k : Nat) (err : Bool) (s : State) (parityOk : Bool := true) : Host.Outcome State Fault Refusal :=
  actIf (fspExists f k) s fun s => if parityOk then s.copyDone f k err else s.fspParity f k 3

/-- COPY_LIMIT (R252): the limit of Table 10.3 passes. -/
def execCopyLimit (f k : Nat) (s : State) : Host.Outcome State Fault Refusal :=
  actIf (fspExists f k) s fun s =>
    match (s.flock f k).copy with
    | some c => (s.advanceTo (c.started + (if c.flockCopy then 1000000 else 100000))).copyFailed f k c 1
    | none => s

/-- MUSTER_QUIET_TIMEOUT (R248): 10 ms have passed. -/
def execMusterQuietTimeout (dom : Uid) (s : State) : Host.Outcome State Fault Refusal :=
  actIf s.firmware s fun s =>
    match s.musters.find? (fun m => m.dom == dom && !m.folding) with
    | some m => (s.advanceTo (m.began + 10000000)).beginFolds dom
    | none => s

/-- The cores of a flock whose trim shelter waits for fsp_ldo_ok (R245). -/
def State.trimWaiters (s : State) (f k : Nat) : List Nat :=
  (List.range Config.cores).filter (fun c =>
    let x := s.core f k c
    x.st == .suspect && x.shelter == .trim && !x.foldPending && x.retest.isNone)

/-- fsp_ldo_ok rises: the re-tests of the cores sheltered by trim open (R60, R245). -/
def State.ldoSettled (s : State) (f k : Nat) : State :=
  let s := s.modFlock f k (fun fl => { fl with ldoOk := true })
  if (s.flock f k).ldoWait.isNone then s
  else
    let w := s.trimWaiters f k
    (s.modFlock f k (fun fl => { fl with ldoWait := none })).forEach w (fun s c => s.openRetest f k c)
/-- LDO_OK (R47, R60, R245). -/
def execLdoOk (f k : Nat) (s : State) (parityOk : Bool := true) : Host.Outcome State Fault Refusal :=
  actIf (fspExists f k) s fun s => if parityOk then s.ldoSettled f k else s.fspParity f k 4

/-- LDO_OK_TIMEOUT (R245): fsp_ldo_ok does not rise within 10 us, so method 1 is used instead. -/
def execLdoOkTimeout (f k : Nat) (s : State) : Host.Outcome State Fault Refusal :=
  actIf (fspExists f k) s fun s =>
    if (s.flock f k).ldoWait.isNone || (s.flock f k).ldoOk then s
    else
      let w := s.trimWaiters f k
      let s := (s.modFlock f k (fun fl => { fl with ldoWait := none })).forEach w (fun s c => s.shelterStep f k c)
      s.writeTrim f k (s.trimOf f k)

/-- RETEST_DEADLINE (R241): the re-test's deadline passes. -/
def execRetestDeadline (f k c : Nat) (s : State) : Host.Outcome State Fault Refusal :=
  actIf (fspExists f k) s fun s =>
    match (s.core f k c).retest with
    | some r => if r.open_ then (s.advanceTo r.deadline).retestFailed f k c (s.core f k c).cause else s
    | none => s

/-- What the commit of a fold-list entry does to its unit: Folded becomes Retired (R241, R251, R255). No event causes the change, so
the cause byte of its 0x7030 is a free value. -/
def State.retireEntry (s : State) (e : FoldEntry) : State :=
  let f := uidField e.uid
  let k := uidFlock e.uid
  let c := uidCore e.uid
  let (s, v) := s.freeVal
  match uidLevel e.uid with
  | 0 => if (s.lane f k c (uidLane e.uid)).st == .folded && e.kind == 3 then s.laneTo f k c (uidLane e.uid) .retired v.toNat else s
  | 1 => if (s.core f k c).st == .folded && (e.kind == 4 || e.kind == 6) then s.coreTo f k c .retired v.toNat else s
  | 2 => if (s.flock f k).st == .folded && (e.kind == 5 || e.kind == 7) then s.flockTo f k .retired v.toNat else s
  | _ => s

/-- An entry's effect is replaced by a later one: of the same unit and row, and of the same slot where it moved one, with no flock fold of
the field between them, which takes the states of the field's cores as they stand (R259, R260). -/
def FoldEntry.replacedIn (e : FoldEntry) (later : List FoldEntry) : Bool :=
  let l := later.takeWhile (fun q => !(q.kind == 5 && uidField q.uid == uidField e.uid))
  let unit := l.any (fun q => q.uid == e.uid && q.row == e.row && q.kind != 9)
  let slot := e.kind != 4 || l.any (fun q => q.kind == 4 && q.slot == e.slot && uidField q.uid == uidField e.uid && uidFlock q.uid == uidFlock e.uid)
  e.kind != 9 && e.kind != 5 && unit && slot
/-- An unfold entry can act on an entry before it. -/
def FoldEntry.unfolds (e q : FoldEntry) : Bool :=
  e.kind == 9 && uidField q.uid == uidField e.uid && uidFlock q.uid == uidFlock e.uid && (e.slot == 0xFF || q.slot == e.slot)
/-- The entries still in effect, in their order: those that no later one replaces, and the unfolds that act on one of them. -/
def keepEntries : List FoldEntry → List FoldEntry → List FoldEntry
  | kept, [] => kept
  | kept, e :: rest => keepEntries (if e.kind = 9 then (if kept.any e.unfolds then kept ++ [e] else kept) else if e.replacedIn rest then kept else kept ++ [e]) rest
/-- The live state of a full area as fresh entries (R259). -/
def liveEntries (l : List FoldEntry) : List FoldEntry := (keepEntries [] l).mapIdx (fun i e => { e with sequence := i })

/-- Change one area of the fold list. -/
def FoldList.setArea (l : FoldList) (a : Nat) (x : FoldArea) : FoldList := if a = 0 then { l with areaA := x } else { l with areaB := x }
/-- Flash address of an area (Table 16.2) and of its slot i. -/
def foldBase (a : Nat) : Nat := 0x03C00000 + 65536 * a
/-- Address of an entry. -/
def foldSlot (a i : Nat) : Nat := foldBase a + 32 + 32 * i
/-- A new area takes the place of the one in use: erased, its entries and then its header written, the old area erased (R259). -/
def State.switchArea (s : State) (live : List FoldEntry) : State :=
  let fl := s.folds
  let a := 1 - fl.area
  let head := foldHeader (fl.gen + 1)
  let rows := live.map FoldEntry.bytes
  let s := s.flashWrites (s.qspi.eraseBlocks (foldBase a) 65536 ++ s.qspi.pages (foldBase a) (List.replicate 32 0xFF ++ rows.flatten)
    ++ [(s.qspi.op 0x12 0x02, foldBase a, head)] ++ s.qspi.eraseBlocks (foldBase fl.area) 65536)
  { s with folds := { (((fl.setArea a { header := head, slots := rows }).setArea fl.area {})) with
                        gen := fl.gen + 1, area := a, entries := live, next := live.length + fl.waiting.length } }
/-- The oldest waiting entry is programmed, bytes 0 to 30 and then its valid mark; a full area is compacted first (R258, R259). DESIGN CHOICE:
an entry for which even the compacted area has no room keeps waiting, and an erased area takes its header with its first entry (log 98). -/
def State.commitFold (s : State) : State :=
  match s.folds.waiting with
  | [] => s
  | e :: rest =>
    let s := if 2047 ≤ s.folds.entries.length then s.switchArea (liveEntries s.folds.entries) else s
    if 2047 ≤ s.folds.entries.length then s
    else
      let fl := s.folds
      let x := if fl.area = 0 then fl.areaA else fl.areaB
      let e := { e with sequence := fl.entries.length }
      let at_ := foldSlot fl.area x.slots.length
      let op := s.qspi.op 0x12 0x02
      let first := if x.header.isEmpty then [(op, foldBase fl.area, foldHeader fl.gen)] else []
      let s := (s.flashWrites (first ++ [(op, at_, e.body), (op, at_ + 31, [0xA5])])).flashEnded
      let x : FoldArea := { header := if x.header.isEmpty then foldHeader fl.gen else x.header, slots := x.slots ++ [e.bytes] }
      let s : State := { s with folds := { fl.setArea fl.area x with entries := fl.entries ++ [e], waiting := rest } }
      s.retireEntry e

/-- FOLD_LIST_COMMIT (R259). -/
def execFoldListCommit (s : State) : Host.Outcome State Fault Refusal := actIf (s.firmware && s.pwrGood) s fun s => s.commitFold

end Sys2Proof.Machine
end

