-- ==== Sys2Proof/Machine/Auth.lean ====
section
/-! DEFINITION. Authorisations: the block, the challenge, the checks in their order and the lock-out (R405 to R407). What the
cryptography of a block finds comes with the command (AuthFact). -/

namespace Sys2Proof.Machine

/-- Block `i` after `n` bytes of covered content, when the buffer holds it whole (R405). -/
def authBlock (buf : List Byte) (n i : Nat) : Option (List Byte) :=
  if n + 304 * (i + 1) ≤ buf.length then some ((buf.drop (n + 304 * i)).take 304) else none

/-- An authority that an owner-authorised command accepts in the present state (R407). -/
def State.ownerAllowed (s : State) (a : Nat) : Bool :=
  if a = 0 then s.lcs == 1 || s.lcs == 2 else a == 1 && (s.lcs == 0 || s.lcs == 3)
/-- The maker alone. -/
def makerAllowed (a : Nat) : Bool := a == 1

/-- The current owner slot: the newest, unless it is void (R389, R402). -/
def State.ownerSlot (s : State) : Option (BitVec 384) :=
  match s.life.owners.getLast? with
  | some h => if h = BitVec.allOnes 384 then none else some h
  | none => none

/-- The first check that fails, 1 to 7, or 0 (R406). -/
def State.authFails (s : State) (b : List Byte) (x : AuthFact) (allowed : Nat → Bool) (opcode qualifier : Nat) : Nat :=
  let a := rd b 0 1
  if !allowed a then 1
  else if (if a = 0 then s.ownerSlot else some Config.makerHash) ≠ some x.keyHash then 2
  else if rd b 4 4 ≠ Config.partNumber.toNat ∨ fromBe ((b.drop 8).take 16) ≠ Config.dieId.toNat then 3
  else if rd b 24 8 ≠ s.life.challenge.toNat then 4
  else if rd b 32 1 ≠ opcode ∨ rd b 34 2 ≠ qualifier then 5
  else if !x.digestOk then 6
  else if !x.sigOk then 7
  else 0

/-- Change the life-cycle state. -/
def State.modLife (s : State) (g : Life → Life) : State := { s with life := g s.life }

/-- A new challenge is drawn (R406). -/
def State.newChallenge (s : State) : State :=
  let (s, v) := s.draw
  s.modLife (fun l => { l with challenge := v })

/-- A verification attempt fails: it counts toward the lock-out, and event 0x6003 is recorded (R406). -/
def State.authFailed (s : State) (check claimed opcode : Nat) : State :=
  let l := recentTimes s.tbase 60000000000 s.life.fails ++ [s.tbase]
  let locked := match s.life.lockEnd with | some t => decide (s.tbase < t) | none => false
  let s := s.modLife (fun x => { x with fails := l, lockEnd := if locked then x.lockEnd else if 8 ≤ l.length then some (s.tbase + 60000000000) else none })
  s.note 0x6003 dieUid [BitVec.ofNat 8 check, BitVec.ofNat 8 claimed, BitVec.ofNat 8 opcode, BitVec.ofNat 8 (sat 255 l.length)]

/-- The lock-out is in force (R406). -/
def State.lockedOut (s : State) : Bool := match s.life.lockEnd with | some t => decide (s.tbase < t) | none => false

/-- One verification attempt of blocks, each with the authorities it may claim (R406): the first failing check gives the state
after the failure; else the state after the attempt, in which the challenge is new. -/
def State.verify (s : State) (blocks : List (Option (List Byte) × AuthFact × (Nat → Bool))) (opcode qualifier : Nat) : State × Bool :=
  let claimed := match blocks.head? with | some (some b, _, _) => rd b 0 1 | _ => 0xFF
  let fail := if s.lockedOut then some (8, claimed)
    else blocks.findSome? (fun p => match p with
      | (none, _, _) => some (0, 0xFF)
      | (some b, x, ok) => if s.authFails b x ok opcode qualifier = 0 then none else some (s.authFails b x ok opcode qualifier, rd b 0 1))
  match fail with
  | some (c, a) => ((s.authFailed c a opcode).newChallenge, false)
  | none => (s.newChallenge, true)

/-- A command that needs one owner authorisation after `n` bytes of content: it goes on with the authority that verified, or
completes with REFUSED_AUTH (R406, R407). -/
def State.authorised (s : State) (d : Desc) (n opcode qualifier : Nat) (k : State → Nat → State) : State :=
  let b := authBlock d.buf n 0
  match s.verify [(b, d.auth.headD {}, s.ownerAllowed)] opcode qualifier with
  | (s, true) => k s (match b with | some b => rd b 0 1 | none => 0)
  | (s, false) => s.complete d.ring stAuth

end Sys2Proof.Machine
end

