-- ==== Sys2Proof/Machine/Jobs.lean ====
section
/-! DEFINITION. Job, Muster point, reset, fold and shut-down commands of the host (R248, R253, R261, R309, R314, R395). -/

namespace Sys2Proof.Machine

/-- A job descriptor with a field outside its range (R204, Table 8.3). -/
def State.badJob (s : State) (b : List Byte) : Bool :=
  let e := rd b 4 2
  let ahead := (e + 65536 - s.job.epoch.toNat) % 65536
  b.length != 576 || (if s.job.begun then !(decide (1 ≤ ahead) && decide (ahead ≤ 32767)) else e == 0)
  || decide (4 < rd b 6 1) || rd b 7 1 == 0 || decide (3 < rd b 9 1) || !isZero b 10 2
  || rd b 16 4 == 0 || decide (1048576 < rd b 16 4) || decide (rd b 16 4 ≤ rd b 12 4) || !isZero b 20 44
  || (List.range 64).any (fun t => let o := 64 + 8 * t
      if Config.linkTaps ≤ t then !isZero b o 8 else decide (1 < rd b (o + 5) 1) || !isZero b (o + 6) 2)

/-- A hurdle is closed by a reset or a FENCE still in progress. -/
def State.anyFence (s : State) : Bool := s.recovery.hurdles.any (fun h => !h.held)

/-- JOB_BEGIN (R309). -/
def execJobBegin (d : Desc) (s : State) : Host.Outcome State Fault Refusal :=
  act s fun s => s.takeCmd d 0x10 [(8, 1)] 576 (decide (1 < d.arg 8 1) || d.len != 576 || s.badJob d.buf) fun s =>
    s.checked d.ring [(s.job.active, stNoResource), (s.shutting, stNoResource), (s.job.starting.isSome, stNoResource), (s.anyFence, stHurdle)] fun s =>
      { s with job := { s.job with starting := some (d.ring, d.buf, d.arg 8 1 == 1), startVer := s.hif.neg, startPhase := 1, startAt := s.tbase } }

/-- MTP_DRAIN_DONE (R70). -/
def execMtpDrainDone (tap : Nat) (s : State) : Host.Outcome State Fault Refusal :=
  actIf (decide (tap < Config.memTaps) && (s.mem tap).drainReq) s fun s => s.modMem tap (fun m => { m with drainDone := true })

/-- JOB_BEGIN_DRAIN_TIMEOUT (R309): 10 ms have passed; the epoch stays. -/
def execJobBeginDrainTimeout (s : State) : Host.Outcome State Fault Refusal :=
  actIf (s.firmware && s.job.startPhase == 2) s fun s =>
    match s.job.starting with
    | none => s
    | some (ring, _, _) =>
      let s := (s.advanceTo (s.job.startAt + 10000000)).lowerDrain
      State.complete { s with job := { s.job with starting := none, startPhase := 0 } } ring stTimeout

/-- MUSTER_POINT (R248). -/
def execMusterPoint (d : Desc) (s : State) : Host.Outcome State Fault Refusal :=
  act s fun s => s.takeCmd d 0x12 [(12, 4)] 0 (!isDomain (d.uid 12)) fun s =>
    let u := d.uid 12
    let covered := (domFlocks u).any (fun p =>
      s.fieldUp p.1 && (s.flock p.1 p.2).logical.isSome && !(s.flock p.1 p.2).st.gone && s.fenced p.1 p.2)
    s.checked d.ring [(s.musters.any (fun m => domOverlap m.dom u), stNoResource), (covered, stHurdle)] fun s => s.beginMuster d.ring u

/-- DOMAIN_RESET (R299, R314). -/
def execDomainReset (d : Desc) (s : State) : Host.Outcome State Fault Refusal :=
  act s fun s => s.takeCmd d 0x60 [(12, 4)] 0 (!isDomain (d.uid 12)) fun s =>
    let u := d.uid 12
    s.checked d.ring [(s.recovery.level1.isSome || s.recovery.resets.any (fun r => domOverlap r.dom u), stNoResource)] fun s =>
      let s := s.startLevel0 u 1 0 (some d.ring)
      if s.recovery.level1.isSome then s.complete d.ring stAborted else s

/-- RECOVER (R301, R314): during a level-0 reset it escalates that reset. -/
def execRecover (d : Desc) (s : State) : Host.Outcome State Fault Refusal :=
  act s fun s => s.takeCmd d 0x61 [] 0 false fun s =>
    s.checked d.ring [(s.recovery.level1.isSome, stNoResource)] fun s =>
      match s.recovery.resets with
      | r :: _ => (s.report 0x0314 dieUid (le 4 r.dom.toNat ++ [2, 0, 0, 0] ++ zeros 4) s.job.opId).startLevel1 4 0 (some d.ring) none
      | [] => s.startLevel1 2 0 (some d.ring) none

/-- The UID names a physical flock (R21). -/
def isFlock (u : Uid) : Bool := isDomain u && uidLevel u == 2

/-- FOLD_REQUEST (R253). No event causes the state change, so the cause byte of its 0x7030 is a free value. -/
def execFoldRequest (d : Desc) (s : State) : Host.Outcome State Fault Refusal :=
  let u := d.uid 12
  let f := uidField u
  let k := uidFlock u
  let j := d.arg 16 1
  act s fun s => s.takeCmd d 0x50 [(12, 4), (16, 1)] 0
      (!isFlock u || !(decide (j < Config.slots) || j == 0xFF) || (s.flock f k).logical.isNone || (s.flock f k).st.gone || (j != 0xFF && (s.flock f k).disabled.contains j)) fun s =>
    let flockOk := s.spareFlockEligible f
    s.checked d.ring [(!flockOk && (j == 0xFF || (s.usableSpare f k).isNone), stNoResource)] fun s =>
      let (s, v) := s.freeVal
      let s := if j = 0xFF then s.pendFlock f k v.toNat none true else s.coreFoldPending f k ((s.flock f k).coreOf j) v.toNat
      s.complete d.ring stOk

/-- The logical slot that the fold list last gave a unit (R258). -/
def State.lastSlot (s : State) (u : Uid) : Option Nat :=
  ((s.folds.entries ++ s.folds.waiting).filter (fun e => e.uid == u && e.kind != 9)).getLast?.map (·.slot)

/-- Cores of a flock that UNFOLD returns for a slot (R261). -/
def State.returnCores (s : State) (f k j : Nat) : List Nat :=
  (List.range Config.cores).filter (fun c => (s.core f k c).st == .retired && s.lastSlot (coreUid f k c) == some j)
/-- Lanes of a flock that UNFOLD returns for a slot: core and lane. -/
def State.returnLanes (s : State) (f k j : Nat) : List (Nat × Nat) :=
  (List.range Config.cores).flatMap (fun c => ((List.range Config.lanes).filter (fun l =>
    (s.lane f k c l).st == .retired && s.lastSlot (laneUid f k c l) == some j)).map (fun l => (c, l)))
/-- The Sheltered core that serves a slot. -/
def State.returnShelter (s : State) (f k j : Nat) : Option Nat :=
  match (s.flock f k).slotOf ((s.flock f k).coreOf j) with
  | some _ => if (s.core f k ((s.flock f k).coreOf j)).st = .sheltered then some ((s.flock f k).coreOf j) else none
  | none => none
/-- Units that an UNFOLD can return. -/
def State.unfoldCount (s : State) (f k j : Nat) : Nat :=
  if j = 0xFF then b2n ((s.flock f k).st == .retired)
  else (s.returnCores f k j).length + (s.returnLanes f k j).length + b2n (s.returnShelter f k j).isSome

/-- A Sheltered core loses its shelter and becomes Watched (R261); its standing step goes back to 0 at the next Muster point (R245). -/
def State.unshelter (s : State) (f k c : Nat) : State :=
  let s := (s.coreTo f k c .watched 0x36).modCore f k c (fun x => { x with shelter := .none, retest := none, stepPending := x.step != 0 })
  s.writeTrim f k (s.trimOf f k)

/-- What UNFOLD returns for a slot (R261). -/
def State.unfoldSlot (s : State) (f k j : Nat) : State :=
  let cs := s.returnCores f k j
  let ls := s.returnLanes f k j
  let sh := s.returnShelter f k j
  let s := s.forEach cs (fun s c => (s.coreTo f k c .watched 0x36).modCore f k c (fun x => { x with selfTestFailed := false, shelter := .none, stepPending := x.step != 0, foldedOut := false }))
  let s := s.forEach ls (fun s p =>
    (s.laneTo f k p.1 p.2 .watched 0x36).modFlock f k (fun fl =>
      if (s.core f k p.1).laneSkip = p.2 then { fl with laneReturn := insertNew fl.laneReturn p.1 } else fl))
  let s := match sh with | some c => s.unshelter f k c | none => s
  let fl := s.flock f k
  if fl.disabled.contains j && cs.contains (fl.coreOf j) then s.modFlock f k (fun fl => { fl with unfoldSlots := insertNew fl.unfoldSlots j }) else s

/-- A Retired physical flock becomes its field's spare flock; its hurdle reopens at the field's next Muster point (R261). -/
def State.unfoldFlock (s : State) (f k : Nat) : State :=
  (s.flockTo f k .healthy 0x36).modFlock f k (fun fl => { fl with logical := none, disabled := [], unfoldSlots := [], thinPending := [], wholeThin := false, unfoldReopen := true })

/-- UNFOLD (R261). -/
def execUnfold (d : Desc) (s : State) : Host.Outcome State Fault Refusal :=
  let u := d.uid 12
  let f := uidField u
  let k := uidFlock u
  let j := d.arg 16 1
  act s fun s => s.takeCmd d 0x51 [(12, 4), (16, 1)] 304
      (!isFlock u || !(decide (j < Config.slots) || j == 0xFF) || s.unfoldCount f k j == 0) fun s =>
    s.authorised d 0 0x51 0 fun s a =>
      let n := s.unfoldCount f k j
      let s := if j = 0xFF then s.unfoldFlock f k else s.unfoldSlot f k j
      let s := s.note 0x7036 u (s.cyclePayload f [BitVec.ofNat 8 j, BitVec.ofNat 8 a, BitVec.ofNat 8 n, 0])
      ((s.foldEntry 9 (if j = 0xFF then 0 else 1) j 0 u).checkGrade).complete d.ring stOk

/-- WAITGRAPH_REQ (R292, R419): its assembly runs until the wait tables have been read. -/
def execWaitgraphReq (d : Desc) (s : State) : Host.Outcome State Fault Refusal :=
  act s fun s => s.takeCmd d 0x91 [(12, 4)] 4294967295 (!isDomain (d.uid 12) || decide (d.len < 64)) fun s =>
    s.checked d.ring [(!s.recovery.waitReqs.isEmpty, stNoResource)] fun s =>
      (s.modRec (fun r => { r with waitReqs := r.waitReqs ++ [{ ring := d.ring, dom := d.uid 12, len := d.len }] })).readWaitTables (d.uid 12)

/-- A LIFECYCLE_REQ is this row's: its requested state is the row's, or none of Table 17.5 (R401). -/
def lifeRow (d : Desc) (code : Nat) : Bool := d.arg 8 1 == code || d.arg 8 1 == 0 || decide (5 < d.arg 8 1)

/-- SHUT_DOWN (R395): an active job ends by a reset of die compute. -/
def execShutDown (d : Desc) (s : State) : Host.Outcome State Fault Refusal :=
  actIf (lifeRow d 4) s fun s => s.takeCmd d 0xA0 [(8, 1)] 0 (d.arg 8 1 != 4 || s.shutting) fun s =>
    let s := s.modLife (fun l => { l with shut := some { ring := d.ring } })
    if s.job.active then s.startLevel0 dieUid 1 0 none else s

/-- SELFTEST_SLICE_BOUNDARY (R398): the self-test stops when its elapsed time plus one slice exceeds the budget. -/
def execSelftestSliceBoundary (s : State) : Host.Outcome State Fault Refusal :=
  actIf s.firmware s fun s =>
    match s.life.shut.bind (·.test) with
    | none => s
    | some t =>
      if t.cur.isEmpty || t.stopping then s
      else
        let slice := s.policy.sliceLen * 1000000
        let n := max 1 (ceilDiv (s.tbase - t.groupAt) slice)
        let s := s.advanceTo (t.groupAt + n * slice)
        if s.policy.budget * 1000000000 < (s.tbase - t.began) + slice then
          let s := s.forEach (s.cores.map (fun p => (p.1 / 2048, p.1 / 32 % 64, p.1 % 32))) (fun s p =>
            if t.cur.contains p.1 && !(s.core p.1 p.2.1 p.2.2).selfItems.isEmpty then
              s.modCore p.1 p.2.1 p.2.2 (fun x => { x with selfItems := x.selfItems.take (b2n x.slice.isSome) }) else s)
          s.modTest (fun t => { t with stopping := true })
        else s

end Sys2Proof.Machine
end

