-- ==== Sys2Proof/Machine/LifeCycle.lean ====
section
/-! DEFINITION. Life-cycle requests (R399, R401, R402, Table 17.5); SHUT_DOWN, the fourth, stands with the host's other commands. -/

namespace Sys2Proof.Machine

/-- One fuse is burnt and the transition recorded (R399, R401): old and new state, authority, whether the fold list was cleared, and
the fuse count. -/
def State.burnFuse (s : State) (authority : Nat) (cleared : Bool) : State :=
  let old := s.lcs
  let s := s.modLife (fun l => { l with fuses := l.fuses + 1 })
  s.note 0x6001 dieUid [BitVec.ofNat 8 old, BitVec.ofNat 8 s.lcs, BitVec.ofNat 8 authority, BitVec.ofNat 8 (b2n cleared), BitVec.ofNat 8 s.life.fuses]

/-- LIFECYCLE_PROVISIONED (R401): the hash of the owner key in the buffer is burnt into the next owner slot. -/
def execLifecycleProvisioned (d : Desc) (s : State) : Host.Outcome State Fault Refusal :=
  actIf (lifeRow d 1) s fun s => s.takeCmd d 0xA0 [(8, 1)] 400
      (d.arg 8 1 != 1 || !(s.lcs == 0 || s.lcs == 3) || decide (3 ≤ s.life.owners.length) || s.job.active) fun s =>
    match s.verify [(authBlock d.buf 96 0, d.auth.headD {}, makerAllowed)] 0xA0 1 with
    | (s, false) => s.complete d.ring stAuth
    | (s, true) => ((s.modLife (fun l => { l with owners := l.owners ++ [d.keyHash] })).burnFuse 1 false).complete d.ring stOk

/-- LIFECYCLE_FIELD (R150, R401): the Bellwether baselines are cleared. -/
def execLifecycleField (d : Desc) (s : State) : Host.Outcome State Fault Refusal :=
  actIf (lifeRow d 2) s fun s => s.takeCmd d 0xA0 [(8, 1)] 304 (d.arg 8 1 != 2 || s.lcs != 1 || s.job.active) fun s =>
    s.authorised d 0 0xA0 2 fun s a =>
      let s := s.forEach (List.range Config.fields) (fun s f => s.modField f (fun fd => { fd with baseline := none }))
      let s : State := { s with gov := { s.gov with noExposure := true } }
      (s.burnFuse a false).complete d.ring stOk

/-- Every trace buffer is zeroed (R402, R403). -/
def State.clearTraces (s : State) : State :=
  let clear := fun (b : TraceBuf) => ({ b with entries := [] } : TraceBuf)
  let s := s.forEach (List.range Config.fields) (fun s f => s.modField f (fun fd => { fd with trace := clear fd.trace }))
  (s.modShc false (fun x => { x with trace := clear x.trace })).modShc true (fun x => { x with trace := clear x.trace })

/-- The fold list is cleared: an area without entries takes the place of the one in use, and nothing waits (R259, R402). -/
def State.clearFolds (s : State) : State := { s.switchArea [] with folds := { (s.switchArea []).folds with waiting := [], next := 0 } }

/-- LIFECYCLE_RETURN (R402): the owner's slot, pack key, captures and traces go; with the maker's block, which is verified in the same
attempt, the fold list too. -/
def execLifecycleReturn (d : Desc) (s : State) : Host.Outcome State Fault Refusal :=
  actIf (lifeRow d 3) s fun s => s.takeCmd d 0xA0 [(8, 1)] 608 (d.arg 8 1 != 3 || s.lcs != 2 || s.job.active) fun s =>
    let maker := (authBlock d.buf 0 1).isSome
    let second := if maker then [(authBlock d.buf 0 1, d.auth.getD 1 {}, makerAllowed)] else []
    match s.verify ((authBlock d.buf 0 0, d.auth.headD {}, s.ownerAllowed) :: second) 0xA0 3 with
    | (s, false) => s.complete d.ring stAuth
    | (s, true) =>
      let s := s.modLife (fun l => { l with owners := l.owners.dropLast ++ [BitVec.allOnes 384], packKey := [], packKeyHash := none })
      let s : State := { s with recovery := { s.recovery with slots := [{}, {}], lastSlot := none } }
      let s := s.clearTraces
      let s : State := if maker then s.clearFolds else s
      (s.burnFuse 0 maker).complete d.ring stOk

/-- SET_OWNER_PACK_KEY (R401): an all-zero key removes the one held. -/
def execSetOwnerPackKey (d : Desc) (s : State) : Host.Outcome State Fault Refusal :=
  actIf (lifeRow d 5) s fun s => s.takeCmd d 0xA0 [(8, 1)] 400 (d.arg 8 1 != 5 || !(s.lcs == 1 || s.lcs == 2)) fun s =>
    s.authorised d 96 0xA0 5 fun s _ =>
      let none_ := isZero d.buf 0 96
      (s.modLife (fun l => { l with packKey := if none_ then [] else d.buf.take 96
                                    packKeyHash := if none_ then none else some d.keyHash })).complete d.ring stOk

end Sys2Proof.Machine
end

