-- ==== Sys2Proof/Machine/Debug.lean ====
section
/-! DEFINITION. The test access port, the instrument network and the secret clear (R92, R93, R400, R403, R404, Table 17.4). -/

namespace Sys2Proof.Machine

/-- The data register that IDCODE selects (R92): JEP106 code, part and revision. PRESUMED: the places of the fields, and bit 0, which is 1, are
those of IEEE 1149.1 (log 90). -/
def idcode : BitVec 32 := BitVec.ofNat 32 (1 + 2 * (Config.jep106 % 2048) + 4096 * (Config.partNumber.toNat % 65536) + 2 ^ 28 * (Config.partRev.toNat % 16))
/-- TAP_INSTRUCTION (R92, R93): IDCODE shifts the identification out on TDO; a pin-driving instruction takes effect only while COLD_RESET_N is low; at other times BYPASS is selected
and 0x6002 recorded. R92 gives the instructions no codes, so its byte 44 is free. -/
def execTapInstruction (ins : JtagIns) (s : State) : Host.Outcome State Fault Refusal :=
  act s fun s =>
    if ins.drivesPins && !s.start.coldLow then
      let s : State := { s with jtag := .bypass }
      if s.pwrGood then
        let (s, v) := s.freeVal
        s.report 0x6002 dieUid [v.setWidth 8]
      else s
    else if ins = .idcode then ({ s with jtag := ins } : State).drive (.tdo idcode)
    else { s with jtag := ins }

/-- The life-cycle state opens an instrument (Table 17.4). -/
def State.instrumentOpen (s : State) : Instrument → Bool
  | .readOnly => s.lcs != 2 || s.life.roOpen
  | .write => s.lcs == 0 || (s.lcs == 3 && s.life.wrOpen)
  | .otp => s.lcs == 0
  | .scan => s.life.scanOpen
  | .authorisation => true

/-- The instrument network is reached: INSTNET is loaded in a block that is powered and not in cold reset (R92). -/
def State.network (s : State) : Bool := s.pwrGood && !s.start.coldLow && s.jtag == .instnet

/-- Number of an instrument, by which the values written through it are held. -/
def instrumentNo : Instrument → Nat
  | .readOnly => 0 | .write => 1 | .otp => 2 | .scan => 3 | .authorisation => 4
/-- INSTRUMENT_ACCESS (R400): a closed instrument answers with zeros and ignores writes; the authorisation instrument gives the challenge
(R406); what another open instrument reads is free. DESIGN CHOICE: a write through an open write, OTP or scan instrument is held as the value
written there; the spec names what these instruments reach and gives it no registers (log 89). -/
def execInstrumentAccess (ins : Instrument) (write : Bool) (addr : Nat) (value : BitVec 64) (s : State) : Host.Outcome State Fault Refusal :=
  act s fun s =>
    if !s.network then s
    else if !s.instrumentOpen ins then s.drive (.instrument 0)
    else if ins = .authorisation then s.drive (.instrument s.life.challenge)
    else
      let n := instrumentNo ins
      let s := if write && ins != .readOnly then s.modLife (fun l => { l with instr := l.instr.filter (fun x => !(x.1 == n && x.2.1 == addr)) ++ [(n, addr, value)] }) else s
      let (s, v) := s.freeVal
      s.drive (.instrument v)

/-- The block of an authorisation given through the instrument network, when it is whole. -/
def wholeBlock (b : List Byte) : Option (List Byte) := if b.length = 304 then some b else none

/-- DEBUG_AUTHORISATION (R404, Table 17.4): in FIELD the owner's opens the read-only instruments, in RETURN the maker's the write
instruments. -/
def execDebugAuthorisation (block : List Byte) (fact : AuthFact) (s : State) : Host.Outcome State Fault Refusal :=
  actIf (s.network && s.firmware && (s.lcs == 2 || s.lcs == 3)) s fun s =>
    let field := s.lcs == 2
    match s.verify [(wholeBlock block, fact, if field then s.ownerAllowed else makerAllowed)] 0 0 with
    | (s, false) => s
    | (s, true) =>
      let s := s.modLife (fun l => if field then { l with roOpen := true } else { l with wrOpen := true })
      s.note 0x6008 dieUid [BitVec.ofNat 8 (b2n (!field)), BitVec.ofNat 8 (b2n (!field))]

/-- The sequencer takes a request for scan or SRAM access and tells the active Shepherd (R403). -/
def State.requestScan (s : State) (authority : Byte) : State :=
  (s.modLife (fun l => { l with scanReq := some s.tbase })).note 0x6008 dieUid [2, authority]

/-- SECRET_CLEAR (R400, R403): in MANUFACTURE without an authorisation, whose byte in 0x6008 is free; in RETURN with the maker's, given
before or with the request. -/
def execSecretClear (authorised : Option (List Byte × AuthFact)) (s : State) : Host.Outcome State Fault Refusal :=
  actIf (s.network && s.life.scanReq.isNone && !s.life.scanOpen) s fun s =>
    if s.lcs = 0 then
      let (s, v) := s.freeVal
      s.requestScan (v.setWidth 8)
    else if s.lcs = 3 then
      if s.life.wrOpen then s.requestScan 1
      else match authorised with
        | none => s
        | some (b, x) =>
          if !s.firmware then s
          else match s.verify [(wholeBlock b, x, makerAllowed)] 0 0 with
            | (s, true) => s.requestScan 1
            | (s, false) => s
    else s

/-- Every secret-bearing store reads as zero (R403): the Shepherds' SRAM and Tally RAM, the Drover SRAMs and pattern stores, the Crook
buffers, the trace buffers, the challenge and the job key. The firmware's own SRAM is among them, so it runs no more. -/
def State.clearSecrets (s : State) : State :=
  let s := s.forEach (List.range Config.fields) (fun s f => s.modField f (fun fd =>
    { fd with buffer := [], bufCounts := [], bufUcFe := 0, bufCeEv := 0, bufAbove := none, bufAboveNs := 0, store := [], tables := [], sweeps := [] }))
  let s := s.forEach (s.crooks.map (·.1)) (fun s key => s.modCrook (key / 8) (key % 8) (fun c => { c with queue := [] }))
  let s := s.clearTraces
  let s := s.modLife (fun l => { l with challenge := 0, scanReq := none })
  let s := s.modPair (fun p => { p with held := [] })
  { s with
    job := { s.job with key := 0 }
    tally := { s.tally with waiting := [], recent := [], pendingRead := [], pendingClear := [] }
    start := { s.start with fwRun := false, phase := .noFirmware } }

/-- A field's Drover is held in reset and its compute rail open (R403): no tracker is presented, and the flocks' In signals are low (R45). -/
def State.stopField (s : State) (f : Nat) : State :=
  let s := s.syncField f
  let s := s.forEach (s.listedCores (fieldUid f)) (fun s p => s.modCore p.1 p.2.1 p.2.2 (fun x => { x with slice := none, planned := [] }))
  let s := (s.modField f (fun fd => { fd with drover := false, compEn := false, compPg := false })).sig .pspCompEn f 0
  s.forEach (s.listedFlocks (fieldUid f)) (fun s p => (s.modFlock p.1 p.2 (fun fl => { fl with quiet := false, ldoOk := false })).presentTracker p.1 p.2)

/-- SCAN_ENABLE (R403): after the Shepherd's 10 ms the stores are zeroed; when every read-back is zero the paths open, with the
Shepherds and Drovers held in reset and every compute rail open until COLD_RESET_N. -/
def execScanEnable (allZero : Bool) (s : State) : Host.Outcome State Fault Refusal :=
  actOutside s fun s =>
    match s.life.scanReq with
    | none => s
    | some t =>
      let s := (s.advanceTo (t + 10000000)).clearSecrets
      if !allZero then s
      else
        let s := s.forEach [false, true] (fun s b =>
          ((s.modShc b (fun x => { x with status := if x.status = .outOfService then .outOfService else .resetting, gate := false, nmi := none })).sig .shcGate (b2n b) 0).sig .shcReset (b2n b) 1)
        let s := s.modPair (fun p => { p with active := none, challenge := none, digestWait := none, gapFrom := none })
        let s := s.forEach (List.range Config.fields) State.stopField
        s.modLife (fun l => { l with scanOpen := true })

end Sys2Proof.Machine
end

