-- ==== Sys2Proof/Machine/FwRows.lean ====
section
/-! DEFINITION. Firmware staging, activation and the live update (R361 to R368). -/

namespace Sys2Proof

open Machine

/-- An image supports a negotiated set (R126, R362). -/
def FwImage.supports (i : FwImage) (neg : List Byte) : Bool :=
  (List.range 5).all (fun n => decide ((i.sup.getD (2 * n) 0).toNat ≤ (neg.getD n 0).toNat) && decide ((neg.getD n 0).toNat ≤ (i.sup.getD (2 * n + 1) 0).toNat))

end Sys2Proof

namespace Sys2Proof.Machine

/-- The image that an FW_STAGE buffer holds (Table 15.2). -/
def imageOf (b : List Byte) : FwImage :=
  { version := BitVec.ofNat 32 (rd b 8 4), contract := rd b 12 2, schema := rd b 14 2, lowSchema := rd b 16 2, serial := rd b 20 4, floor := rd b 24 4
    part := BitVec.ofNat 32 (rd b 32 4), sup := (b.drop 36).take 10, created := rd b 48 8, sig := b.drop (b.length - 96), sigOk := true, headerOk := true }
/-- A firmware image breaks its format (R361, R362). -/
def badImage (d : Desc) : Bool :=
  let b := d.buf
  rd b 28 4 != d.len || decide (2097152 < d.len) || decide (d.len < 352) || b.length != d.len || b.take 4 != [0x43, 0x46, 0x57, 0x31]
  || rd b 4 1 != 0x10 || rd b 32 4 != Config.partNumber.toNat || !(isZero b 5 3 && isZero b 18 2 && isZero b 46 2 && isZero b 56 200)
/-- The image takes the running state over (R362). -/
def State.schemaOk (s : State) (i : FwImage) : Bool :=
  match s.fw.running with
  | some r => decide (i.lowSchema ≤ r.schema) && decide (r.schema ≤ i.schema)
  | none => true
/-- An activation is deferred or in progress (R362, R364). -/
def State.activating (s : State) : Bool := s.fw.deferred.isSome || s.fw.step != 0
/-- Write a firmware slot. -/
def Fw.setSlot (w : Fw) (i : Nat) (o : Option FwImage) : Fw := if i = 0 then { w with slotA := o } else { w with slotB := o }

/-- Flash address of a firmware slot (Table 16.1). -/
def fwBase (i : Nat) : Nat := 0x00800000 * i
/-- FW_STAGE (R362): the slot that does not hold the running image is erased and programmed. -/
def execFwStage (d : Desc) (s : State) : Host.Outcome State Fault Refusal :=
  act s fun s => s.takeCmd d 0x80 [] 2097152 (badImage d) fun s =>
    let i := imageOf d.buf
    s.checked d.ring [(!i.supports (s.hif.neg.getD []) || !s.schemaOk i, stVersion), (d.sigKey != some Config.makerHash || decide (i.serial < s.fw.floor), stAuth),
        (s.activating || s.fw.staging.isSome, stNoResource)] fun s =>
      let s := s.modFw (fun w => { w.setSlot (1 - w.runningSlot) none with staged := false, staging := some (d.ring, i), blockFails := 0 })
      s.stageFile (fwBase (1 - s.fw.runningSlot)) d.buf

/-- FW_ACTIVATE (R364, R365). -/
def execFwActivate (d : Desc) (s : State) : Host.Outcome State Fault Refusal :=
  act s fun s => s.takeCmd d 0x81 [] 0 false fun s =>
    let voters := (List.range 3).all (fun v => (s.pair.voters.getD v {}).inService)
    s.checked d.ring [(s.fw.stagedImage.isNone || s.follower.isNone || !voters || s.activating, stNoResource)] fun s =>
      let e := s.emergency
      let other := s.job.active && contractOf s.fw.stagedImage != contractOf s.fw.running
      if e ≠ 0 ∨ other then
        let cause := if e ≠ 0 then e else 4
        let s := s.modFw (fun w => { w with deferred := some cause, deferJob := other, calmSince := if e ≠ 0 then none else some 0 })
        (s.noteUpdate 1 cause s.fw.stagedImage).complete d.ring stDeferred
      else s.startUpdate (some d.ring)

/-- The emergency has been over for 1 s; 0 marks that none has held (R364, R366). -/
def State.calmTime (s : State) : Option Nat := s.fw.calmSince.map (fun t => if t = 0 then s.tbase else t + 1000000000)

/-- DEFERRED_ACTIVATION_START (R364). -/
def execDeferredActivationStart (s : State) : Host.Outcome State Fault Refusal :=
  actIf (s.firmware && s.fw.deferred.isSome && s.emergency == 0 && !(s.fw.deferJob && s.job.active) && s.calmTime.isSome && s.follower.isSome) s fun s =>
    (s.advanceTo (s.calmTime.getD 0)).startUpdate none

/-- UPDATE_IMAGE_RECEIVED (Table 15.3, steps 2 and 3): S2 verifies the image, leaves the order and restarts on it; skew mode. -/
def execUpdateImageReceived (sigOk headerOk : Bool) (s : State) : Host.Outcome State Fault Refusal :=
  actIf (s.firmware && s.fw.step == 1) s fun s =>
    let s := s.modFw (fun w => { w with step := 2 })
    if !(sigOk && headerOk) then s.abortUpdate 0
    else
      let nb := s.newShc
      let held := s.pair.held.map (·.2)
      let s := s.modShc nb (fun x => { x with status := .catchingUp, image := s.fw.stagedImage, resetAt := s.tbase })
      let s := s.modPair (fun p => { p with skew := true, held := [], released := p.order })
      let s := s.modFw (fun w => { w with step := 3, leftAt := s.tbase })
      { s with out := s.out ++ held }

/-- UPDATE_SWAP (Table 15.3, step 4): only while no emergency holds and no level 1 runs (Table 15.4). -/
def execUpdateSwap (s : State) : Host.Outcome State Fault Refusal :=
  actIf (s.firmware && s.fw.step == 3 && s.follower == some s.newShc && s.emergency == 0 && s.recovery.level1.isNone && s.calmTime.isSome) s fun s =>
    let ob := s.fw.s1.isB
    let s := s.advanceTo (s.calmTime.getD 0)
    let s := (s.modPair (fun p => { p with gapFrom := some s.tbase })).switchOver 3 false
    s.modShc ob (fun x => { x with status := .resetting, resetAt := s.tbase })

/-- UPDATE_JOIN_TIMEOUT (R367). -/
def execUpdateJoinTimeout (s : State) : Host.Outcome State Fault Refusal :=
  actIf (s.firmware && s.fw.step == 3 && (s.pair.shc s.newShc).status == .catchingUp) s fun s =>
    (s.advanceTo (s.fw.leftAt + 100000000)).abortUpdate 2

end Sys2Proof.Machine
end

