-- ==== Sys2Proof/Machine/Links.lean ====
section
/-! DEFINITION. Link taps and their Earmark engines: outgoing contribution frames and their trailers (R65, R66, R209, R210),
inbound verdicts (R67, R68, R211), service frames (R66, R197, R205 to R208, R312), the links (R302, R304, R313) and the service
register channel (R71); the earmark commands (R212, R218, R220) and the sweep timers (R215, R216, R219). -/

namespace Sys2Proof.Machine

/-- Bits of a frame descriptor, `n` of them from bit `lo` (Table 2.8). -/
def fdBits (fd : BitVec 192) (lo n : Nat) : Nat := fd.toNat / 2 ^ lo % 2 ^ n
/-- Tensor ID. -/
def fdTensor (fd : BitVec 192) : Nat := fdBits fd 0 32
/-- Epoch. -/
def fdEpoch (fd : BitVec 192) : Nat := fdBits fd 32 16
/-- Training step. -/
def fdStep (fd : BitVec 192) : Nat := fdBits fd 48 48
/-- Byte offset in the tensor. -/
def fdOffset (fd : BitVec 192) : Nat := fdBits fd 96 32
/-- Collective identifier. -/
def fdColl (fd : BitVec 192) : Nat := fdBits fd 128 8
/-- Earmark flag. -/
def fdFlag (fd : BitVec 192) : Nat := fdBits fd 136 2
/-- Kind. -/
def fdKind (fd : BitVec 192) : Nat := fdBits fd 138 2

/-- The link tap is powered: its field's infrastructure rail is closed. -/
def State.tapPowered (s : State) (t : Nat) : Bool := decide (t < Config.linkTaps) && (s.field (Config.linkField t)).infraPg
/-- The Earmark engine of a tap works; else the tap's bypass handles its frames (R211). -/
def State.engineUp (s : State) (t : Nat) : Bool := s.tapPowered t && (s.tap t).inService && !(s.tap t).resetting

/-- The tracker that holds an instance (R210). -/
def LinkTap.trackerOf (x : LinkTap) (coll epoch step : Nat) : Option Nat :=
  (x.trackers.find? (fun p => p.2.coll == coll && p.2.epoch.toNat == epoch && p.2.step.toNat == step)).map (·.1)

/-- The chip's step rises to the step of an outgoing contribution frame of the current epoch (R196, R219). -/
def State.raiseStep (s : State) (epoch step : Nat) : State :=
  if epoch = s.job.epoch.toNat ∧ s.job.step.toNat < step then
    let s : State := { s with job := { s.job with step := BitVec.ofNat 48 step } }
    if s.firmware then s.checkOverdue else s
  else s

/-- A frame of an instance without a tracker goes unmarked: counted, and recorded as 0x0503 once per instance (R210). -/
def State.noteUntracked (s : State) (t coll epoch step : Nat) : State :=
  let l := (s.tap t).unmarked
  let since := match l.getLast? with | some p => p.2.2.2 | none => 0
  let last := l.length - 1
  if l.any (fun p => p.1 == coll && p.2.1.toNat == epoch && p.2.2.1.toNat == step) then
    s.modTap t (fun x => { x with unmarked := modifyAt x.unmarked last (fun p => (p.1, p.2.1, p.2.2.1, p.2.2.2 + 1)) })
  else
    (s.modTap t (fun x => { x with unmarked := x.unmarked ++ [(coll, BitVec.ofNat 16 epoch, BitVec.ofNat 48 step, 0)] })).note 0x0503
      (engineUid t) ([BitVec.ofNat 8 coll, 0, 0, 0] ++ le 4 (since + 1))

/-- The tracker of an outgoing frame: the one that holds its instance, else the lowest free one (R210). -/
def State.takeTracker (s : State) (t coll epoch step : Nat) : State × Option Nat :=
  let s := s.releaseTrackers t (fun _ x => x.coll == coll && x.step.toNat != step)
  match (s.tap t).trackerOf coll epoch step with
  | some i => (s.modTap t (fun x => { x with trackers := x.trackers.map (fun p => if p.1 = i then (i, { p.2 with lastAt := s.tbase }) else p) }), some i)
  | none =>
    match (List.range 16).find? (fun i => !((s.tap t).trackers.any (fun p => p.1 == i))) with
    | some i =>
      let e : EmTracker := { coll := coll, epoch := BitVec.ofNat 16 epoch, step := BitVec.ofNat 48 step, lastAt := s.tbase }
      (s.modTap t (fun x => { x with trackers := x.trackers ++ [(i, e)] }), some i)
    | none => (s.noteUntracked t coll epoch step, none)

/-- TX_FRAME_START (R65, R209 to R211): ltp_tx_flag of a contribution frame; a frame of another kind carries no trailer. The bypass's frames
count as unmarked. -/
def execTxFrameStart (t : Nat) (fd : BitVec 192) (s : State) : Host.Outcome State Fault Refusal :=
  actIf (s.tapPowered t) s fun s =>
    if fdKind fd ≠ 1 then s.modTap t (fun x => { x with tx := none })
    else if !s.engineUp t then
      ((s.modTap t (fun x => { x with tx := some { fd := fd } })).tapCount t 1).sig .ltpTxFlag t 2
    else
      let s := s.raiseStep (fdEpoch fd) (fdStep fd)
      let (s, tr) := s.takeTracker t (fdColl fd) (fdEpoch fd) (fdStep fd)
      let marked := s.job.active && bit s.job.flags 0 && tr.isSome
      let s := s.tapCount t (if marked then 0 else 1)
      (s.modTap t (fun x => { x with tx := some { fd := fd, tracker := tr, marked := marked } })).sig .ltpTxFlag t (if marked then 1 else 2)

/-- A contribution trailer (Table 8.7). -/
def trailerBytes (earmark ver tracker flag len sn : Nat) : List Byte :=
  le 8 earmark ++ le 1 ver ++ le 1 tracker ++ le 1 flag ++ zeros 1 ++ le 4 len ++ le 4 sn ++ zeros 44
/-- The trailer of the bypass (R211). -/
def bypassTrailer : List Byte := zeros 10 ++ [2] ++ zeros 53

/-- TX_FRAME_END (R66, R209): the trailer of the contribution frame, and its tracker's counts. -/
def execTxFrameEnd (t : Nat) (data : List Byte) (s : State) : Host.Outcome State Fault Refusal :=
  actIf (s.tapPowered t) s fun s =>
    match (s.tap t).tx with
    | none => s
    | some x =>
      let s := s.modTap t (fun y => { y with tx := none })
      if !s.engineUp t then s.drive (.trailer t bypassTrailer)
      else
        let data := fit (128 * ceilDiv data.length 128) data
        let mark := if x.marked then (segmentDigest (fdTensor x.fd) (fdEpoch x.fd) (fdStep x.fd) (fdOffset x.fd) data) else 0
        let held := match x.tracker with
          | some i => (assoc (s.tap t).trackers i).map (fun e => (i, e))
          | none => none
        let sn := if x.marked then (match held with | some (_, e) => e.frames | none => 0) else 0
        let s := s.drive (.trailer t (trailerBytes mark.toNat s.emfVersion (if x.marked then x.tracker.getD 0xFF else 0xFF)
          (if x.marked then 1 else 2) data.length sn))
        match held with
        | none => s
        | some (i, e) =>
          let e := { e with frames := e.frames + 1, bytes := e.bytes + data.length, xor_ := e.xor_ ^^^ mark, lastAt := s.tbase }
          s.modTap t (fun y => { y with trackers := assocSet y.trackers i e })

/-- TRACKER_IDLE (R210, R212): no frame of the tracker's instance has passed for the tracker idle time. -/
def execTrackerIdle (t i : Nat) (s : State) : Host.Outcome State Fault Refusal :=
  actIf (s.engineUp t) s fun s =>
    match assoc (s.tap t).trackers i with
    | none => s
    | some e => (s.advanceTo (e.lastAt + s.earmarks.idleUs * 1000)).releaseTrackers t (fun j _ => j == i)

/-- The verdicts of Table 2.9. -/
inductive RxVerdict where
  | ok | bad | unmarked | stale | early
  deriving DecidableEq, Repr
/-- Code of a verdict (Table 2.9). -/
def RxVerdict.code : RxVerdict → Nat
  | .ok => 0 | .bad => 1 | .unmarked => 2 | .stale => 3 | .early => 4

/-- What the epoch comparator alone decides: STALE, EARLY, or nothing (R68). -/
def epochVerdict (chip frame : Nat) : Option RxVerdict :=
  let d := (chip + 65536 - frame) % 65536
  if d = 0 then none else if d ≤ 32767 then some .stale else some .early

/-- The verdict of an engine in service on a contribution frame of the chip's epoch (R211 step 4). -/
def contributionVerdict (fd : BitVec 192) (data trailer : List Byte) : RxVerdict :=
  let flag := fdFlag fd
  if flag = 0 ∨ flag = 3 then .bad
  else if rd trailer 10 1 ≠ flag then .bad
  else if flag = 2 then .unmarked
  else if rd trailer 12 4 ≠ data.length then .bad
  else if (segmentDigest (fdTensor fd) (fdEpoch fd) (fdStep fd) (fdOffset fd) data).toNat = rd trailer 0 8 then .ok
  else .bad

/-- The verdict on an inbound frame, by the engine or by the bypass (R211). -/
def State.rxVerdict (s : State) (t : Nat) (fd : BitVec 192) (data trailer : List Byte) : RxVerdict :=
  match epochVerdict s.job.epoch.toNat (fdEpoch fd) with
  | some v => v
  | none =>
    if fdKind fd = 0 then .ok
    else if fdKind fd = 3 then .bad
    else if s.engineUp t then contributionVerdict fd data trailer
    else .unmarked

/-- A received frame descriptor without its reserved bits 191:140, which the engine ignores (R206). -/
def fdKnown (fd : BitVec 192) : BitVec 192 := BitVec.ofNat 192 (fdBits fd 0 140)
/-- A BAD verdict of an engine: 0x0501, and 0x0502 for the third in a row on an equal descriptor (R211). -/
def State.badFrame (s : State) (t : Nat) (fd : BitVec 192) : State :=
  let fd := fdKnown fd
  let run := if (s.tap t).lastBad = some fd then (s.tap t).badRun + 1 else 1
  let pay := le 4 (fdTensor fd) ++ le 4 (fdOffset fd) ++ [BitVec.ofNat 8 (fdColl fd), BitVec.ofNat 8 run]
  let s := (s.modTap t (fun x => { x with lastBad := some fd, badRun := if 3 ≤ run then 0 else run })).report 0x0501 (engineUid t) pay
  if 3 ≤ run then s.report 0x0502 (engineUid t) pay else s

/-- INBOUND_FRAME (R67, R68, R211): the verdict, its count, and what a BAD records. -/
def execInboundFrame (t : Nat) (fd : BitVec 192) (data trailer : List Byte) (s : State) : Host.Outcome State Fault Refusal :=
  actIf (s.tapPowered t && fdKind fd != 2) s fun s =>
    let v := s.rxVerdict t fd data trailer
    let s := s.sig .ltpVerdict t v.code
    if !s.engineUp t then (if v = .unmarked then s.tapCount t 4 else s)
    else
      let s := s.tapCount t (2 + v.code)
      if v = .bad then s.badFrame t fd
      else if (s.tap t).lastBad = some (fdKnown fd) ∧ v ≠ .stale ∧ v ≠ .early then s.modTap t (fun x => { x with badRun := 0 })
      else s

/-- A retrain word that waited for the tap's muster notice is written once no such notice waits (R302). -/
def State.retrainIfFree (s : State) (t : Nat) : State :=
  if (s.tap t).retrainWait && !(s.tap t).musterWaits then s.retrainLink t else s

/-- The first engine has sent one of the chip's own notices: 0x7012 or 0x0316 (R194, R311). -/
def State.noteSent (s : State) (fr : SvcFrame) : State :=
  if fr.typ = 1 then
    match s.taints.find? (fun o => o.jobId.toNat == rd fr.body 0 4 && o.sn.toNat == rd fr.body 8 4 && rd fr.body 4 4 == fr.src.toNat) with
    | some o => (({ s with taints := s.taints.erase o } : State).noteTaintSent o false).dieCount 0 1
    | none => s
  else if fr.typ = 2 then
    match s.musterOrders.find? (fun o => o.dom.toNat == rd fr.body 12 4 && o.began == rd fr.body 16 8) with
    | some o => ({ s with musterOrders := s.musterOrders.erase o } : State).noteMusterSent o true
    | none => s
  else s

/-- SERVICE_FRAME_GRANT (R66, R207): the next service frame leaves, notices first. -/
def execServiceFrameGrant (t : Nat) (s : State) : Host.Outcome State Fault Refusal :=
  actIf (s.engineUp t && (s.tap t).linkUp) s fun s =>
    match (s.tap t).notices ++ (s.tap t).queue with
    | [] => s
    | fr :: _ =>
      let s := s.modTap t (fun x => if x.notices.isEmpty then { x with queue := x.queue.drop 1 } else { x with notices := x.notices.drop 1 })
      let s := (s.drive (.frame t fr.bytes)).tapCount t 7
      let s := if (s.tap t).queued = 0 then s.sig .ltpSvcTxReq t 0 else s
      (s.noteSent fr).retrainIfFree t

/-- The service frame that received bytes hold, its check and whether the check holds (R205). -/
def parseFrame (b : List Byte) : SvcFrame × Bool :=
  let len := rd b 2 2
  let fr : SvcFrame := { ver := rd b 0 1, typ := rd b 1 1, jobId := BitVec.ofNat 32 (rd b 4 4), src := BitVec.ofNat 32 (rd b 8 4)
                         dst := BitVec.ofNat 32 (rd b 12 4), epoch := BitVec.ofNat 16 (rd b 16 2), routeLen := rd b 18 1, routeIdx := rd b 19 1
                         route := (b.drop 20).take 16, resv := (b.drop 36).take 4, body := (b.drop 48).take len }
  (fr, decide (len ≤ 4048) && decide (48 + len ≤ b.length) && (em64 (b.take 40 ++ fr.body)).toNat == rd b 40 8)

/-- The job ID is that of the current or of the previous job (R197, R312). -/
def State.knownJob (s : State) (id : Nat) : Bool :=
  (s.job.active && s.job.id.toNat == id) || (match s.job.prevId with | some p => p.toNat == id | none => false)

/-- An engine enters a pair of origin rank and notice sequence in its table of 256 (R197). -/
def State.enterPair (s : State) (t : Nat) (p : BitVec 32 × BitVec 32) : State :=
  s.modTap t (fun x => { x with taintSeen := (x.taintSeen ++ [p]).drop (x.taintSeen.length + 1 - 256) })

/-- A taint notice delivered to an engine (R197). -/
def State.takeTaint (s : State) (t : Nat) (fr : SvcFrame) : State :=
  let b := fr.body
  let p : BitVec 32 × BitVec 32 := (BitVec.ofNat 32 (rd b 4 4), BitVec.ofNat 32 (rd b 8 4))
  let hops := rd b 33 1
  if !s.knownJob (rd b 0 4) then s.tapCount t 9
  else if (s.tap t).taintSeen.contains p then s
  else
    let s := s.enterPair t p
    let s := (s.note 0x7013 (engineUid t) (le 4 p.1.toNat ++ le 4 p.2.toNat ++ [BitVec.ofNat 8 hops, BitVec.ofNat 8 (rd b 32 1)]) s.job.opId).dieCount 1 1
    let fresh := s.upTaps.filter (fun q => q != t && !((s.tap q).taintSeen.contains p))
    let s := s.broadcast (droverUid (Config.linkField t)) ((without s.upTaps t).map engineUid) .pairCopy p.2.toNat
    let s := s.forEach fresh (fun s q => s.enterPair q p)
    if rd b 12 2 = s.job.epoch.toNat ∧ 1 < hops then
      let out := s.ownFrame 1 (BitVec.ofNat 32 (rd b 0 4)) (setAt b 33 (BitVec.ofNat 8 (hops - 1)))
      s.forEach (fresh.filter (fun q => (s.tap q).linkUp)) (fun s q => s.queueNotice q out)
    else s

/-- A frame delivered to its engine (R206); a body for the Shepherd waits in the Drover's event buffer while none acts (R216, R354). -/
def State.deliver (s : State) (t : Nat) (fr : SvcFrame) : State :=
  let drop := fun (s : State) (reason : Nat) => s.dropFrame t reason fr.typ fr.src
  if fr.dst ≠ 0xFFFFFFFF ∧ fr.dst ≠ s.job.rank then drop s 2
  else if fr.typ = 0 ∨ 4 < fr.typ then drop s 1
  else if fr.typ = 1 then s.takeTaint t fr
  else if fr.typ = 2 then
    if s.knownJob (rd fr.body 0 4) then
      s.note 0x0317 (engineUid t) (le 4 (rd fr.body 4 4) ++ le 4 (rd fr.body 12 4) ++ [BitVec.ofNat 8 (rd fr.body 10 1)]) s.job.opId
    else drop s 4
  else if !(s.job.active && fr.jobId == s.job.id && fr.epoch == s.job.epoch) then drop s 4
  else if s.firmware then s.holdValues fr
  else s.bufferMessage (Config.linkField t) { body := some fr }

/-- SERVICE_FRAME_RECEIVED (R206): the check, then forwarding, then delivery. -/
def execServiceFrameReceived (t : Nat) (bytes : List Byte) (s : State) : Host.Outcome State Fault Refusal :=
  actIf (s.engineUp t) s fun s =>
    let s := s.tapCount t 8
    let (fr, good) := parseFrame bytes
    if !good then s.dropFrame t 0 fr.typ fr.src
    else if fr.routeIdx < fr.routeLen then
      let q := if fr.routeIdx < 16 then (fr.route.getD fr.routeIdx 0xFF).toNat else 0xFF
      if s.engineUp q && (s.tap q).linkUp then s.queueAny q { fr with routeIdx := fr.routeIdx + 1 }
      else s.dropFrame t 2 fr.typ fr.src
    else s.deliver t fr

/-- A link of level 1 has ended its retraining (R302). -/
def State.linkEnded (s : State) (t : Nat) : State :=
  (s.modTap t (fun x => { x with retrain := none })).modL1 (fun l => { l with linkWait := without l.linkWait t })

/-- LINK_DOWN (R313): 0x2103 with the peer's rank; no notice can leave any more, so a retrain word that waited is written (R302). -/
def execLinkDown (t : Nat) (s : State) : Host.Outcome State Fault Refusal :=
  actIf (s.tapPowered t && (s.tap t).linkUp) s fun s =>
    let rank := match s.job.peers.find? (fun p => p.1 == t) with
      | some p => if s.job.active then p.2.1.toNat else 0xFFFFFFFF
      | none => 0xFFFFFFFF
    let s := (s.modTap t (fun x => { x with linkUp := false })).report 0x2103 (engineUid t) (le 4 rank)
    if (s.tap t).retrainWait then s.retrainLink t else s

/-- LINK_UP (R66, R302): the tap carries frames again, and its data and spare lanes are read (Table 2.11). -/
def execLinkUp (t : Nat) (s : State) : Host.Outcome State Fault Refusal :=
  actIf (s.tapPowered t) s fun s =>
    (((s.modTap t (fun x => { x with linkUp := true })).access false t 0x000 none).access false t 0x001 none).linkEnded t

/-- LINK_RETRAIN_FAILED (R304): the link stays down, and 0x2105 is recorded. -/
def execLinkRetrainFailed (t attempts : Nat) (s : State) : Host.Outcome State Fault Refusal :=
  actIf (s.tapPowered t && (s.tap t).retrain.isSome) s fun s =>
    ((s.modTap t (fun x => { x with linkUp := false })).linkEnded t).report 0x2105 (engineUid t) [BitVec.ofNat 8 attempts]

/-- A link lane's corrected-error count has been read: over the limit, 0x2101 is recorded, and a free spare lane takes the lane's
place, 0x2102 (R24, Table 2.11). DESIGN CHOICE: the spec gives neither the limit nor the choice of the spare lane; the lowest free one
is taken. -/
def State.laneErrors (s : State) (t lane n : Nat) : State :=
  if n ≤ Config.laneErrorLimit then s
  else
    let s := s.report 0x2101 (engineUid t) ([BitVec.ofNat 8 lane, 0, 0, 0] ++ le 4 n)
    let x := s.tap t
    match (List.range x.spares).find? (fun i => !(x.spared.any (fun p => p.2 == i))) with
    | none => s
    | some i =>
      let s := (s.modTap t (fun x => { x with spared := x.spared ++ [(lane, i)] })).access false t 0x002 (some (BitVec.ofNat 32 (256 * lane + i)))
      s.note 0x2102 (engineUid t) [BitVec.ofNat 8 lane, BitVec.ofNat 8 i]

/-- Beyja reads the lane counts of a link that is up, lane by lane, when its channel is free. -/
def State.readLanes (s : State) (t : Nat) : State :=
  let x := s.tap t
  if x.linkUp && x.sr.isEmpty then
    s.forEach ((List.range (min 256 x.lanes)).filter (fun l => !(x.spared.any (fun p => p.1 == l)))) (fun s l => s.access false t (0x100 + l) none)
  else s

/-- What a word of a link tap or memory tap says, when it has been read (Table 2.11): the lanes of the link, a lane's errors, or the
status of a row repair, which is read again while it is idle or busy. -/
def State.srTake (s : State) (mtp : Bool) (t addr v : Nat) : State :=
  if mtp then
    if addr = 0x012 ∧ (s.mem t).repair.isSome then (if 2 ≤ v ∧ v ≤ 4 then s.repairEnded t v else s.access true t 0x012 none) else s
  else if addr = 0x000 then s.modTap t (fun x => { x with lanes := v })
  else if addr = 0x001 then s.modTap t (fun x => { x with spares := v })
  else if 0x100 ≤ addr ∧ addr ≤ 0x1FF then s.laneErrors t (addr - 0x100) v
  else s

/-- SERVICE_REGISTER_ACK (R71): sr_ack ends the access on the channel; sr_req falls, and the next access takes the channel. With sr_err
the data of a read is not taken; the spec names no further reaction. -/
def execServiceRegisterAck (mtp : Bool) (t : Nat) (data : BitVec 32) (err : Bool) (s : State) : Host.Outcome State Fault Refusal :=
  actIf (!(s.srOf mtp t).isEmpty) s fun s =>
    match s.srOf mtp t with
    | [] => s
    | (addr, w) :: _ =>
      let s := if mtp then s.modMem t (fun m => { m with sr := m.sr.drop 1, srLate := false }) else s.modTap t (fun x => { x with sr := x.sr.drop 1, srLate := false })
      let s := (s.sig (if mtp then .mtpSrReq else .ltpSrReq) t 0).srDrive mtp t
      if err || w.isSome then s else s.srTake mtp t addr data.toNat

/-- SERVICE_REGISTER_LATE (R71): no answer within 64 cycles, 0x2005 or 0x2104, once for the access; the request stays on the channel
until sr_ack. -/
def execServiceRegisterLate (mtp : Bool) (t : Nat) (s : State) : Host.Outcome State Fault Refusal :=
  act s fun s =>
    match s.srOf mtp t with
    | [] => s
    | a :: _ =>
      if (if mtp then (s.mem t).srLate else (s.tap t).srLate) then s
      else
        let s := if mtp then s.modMem t (fun m => { m with srLate := true }) else s.modTap t (fun x => { x with srLate := true })
        s.report (if mtp then 0x2005 else 0x2104) (if mtp then memUid t else engineUid t) (le 2 a.1)

/-- A watch-point definition outside its ranges (R220). -/
def badWatch (d : Desc) : Bool :=
  let b := d.buf
  let mode := rd b 0 1
  let slot := rd b 3 1
  let period := rd b 20 4
  decide (63 < d.arg 8 1) || decide (b.length ≠ 64) || decide (2 < mode) || decide (Config.fields ≤ rd b 1 1)
  || decide (Config.logicalFlocks ≤ rd b 2 1) || (decide (Config.slots ≤ slot) && slot != 0xFF) || !(isZero b 17 3 && isZero b 24 40)
  || (mode == 1 && !(decide (1 ≤ period) && decide (period ≤ 65535))) || (mode == 2 && !(decide (1 ≤ period) && decide (period ≤ 14)))
/-- The watch point a definition makes, with cleared accumulators; mode 0 removes the watch point (R220). -/
def watchOf (b : List Byte) : Watch :=
  if rd b 0 1 = 0 then {}
  else { mode := rd b 0 1, field := rd b 1 1, flock := rd b 2 1, slot := rd b 3 1, value := BitVec.ofNat 48 (rd b 4 6)
         mask := BitVec.ofNat 48 (rd b 10 6), e0 := fromTwos 8 (rd b 16 1), period := rd b 20 4 }
/-- An operation announced under an earlier definition of a watch point is no longer observed by it (R220). -/
def Flock.dropWatch (fl : Flock) (i : Nat) : Flock := { fl with tags := fl.tags.map (fun p => (p.1, { p.2 with watches := without p.2.watches i })) }
/-- WATCH_SET (R220): the definition replaces the watch point's, with its accumulators cleared. -/
def execWatchSet (d : Desc) (s : State) : Host.Outcome State Fault Refusal :=
  act s fun s => s.takeCmd d 0x30 [(8, 1)] 64 (badWatch d) fun s =>
    let i := d.arg 8 1
    let s := s.forEach (s.listedFlocks dieUid) (fun s p => s.modFlock p.1 p.2 (·.dropWatch i))
    (s.modWatch i (fun _ => watchOf d.buf)).complete d.ring stOk

/-- Open sweeps of redefined targets close incomplete, without exchange (R212, R215, R218). Table 8.14 gives the cause byte no
code for it, so the byte is a free value. A closed sweep of the old definition no longer stands for its target. -/
def State.redefine (s : State) (which : Nat → Bool) : State :=
  let s := s.modEarmarks (fun e => { e with sweeps := e.sweeps.filter (fun a => !(a.closed && which a.target)) })
  s.forEach (s.earmarks.sweeps.filter (fun a => which a.target)) (fun s a =>
    let (s, v) := s.freeVal
    s.closeSweep a (some (v.toNat % 256)) false)

/-- The entries of an earmark configuration (Table 8.8). -/
def earmarkEntries (b : List Byte) : List (List Byte) := (List.range (rd b 1 1)).map (fun i => (b.drop (16 + 32 * i)).take 32)
/-- An earmark configuration outside its ranges (R212, Table 8.8). -/
def badEarmarks (b : List Byte) : Bool :=
  let n := rd b 1 1
  let es := earmarkEntries b
  let idle := rd b 2 2
  let badEntry := fun (x : List Byte) => decide (31 < rd x 0 1) || !(isZero x 1 3 && isZero x 24 8)
    || !(decide (1 ≤ rd x 16 4) && decide (rd x 16 4 ≤ 16384)) || !(decide (10 ≤ rd x 20 2) && decide (rd x 20 2 ≤ 10000))
    || !(decide (1 ≤ rd x 22 2) && decide (rd x 22 2 ≤ 1000))
  decide (32 < n) || decide (b.length ≠ 16 + 32 * n) || !(decide (1 ≤ idle) && decide (idle ≤ 1000)) || !(isZero b 4 12)
  || es.any badEntry || !((es.map (fun x => rd x 0 1)).Nodup)
/-- The result targets that an earmark configuration declares (Table 8.8). -/
def targetsOf (b : List Byte) : List ResultTarget :=
  (earmarkEntries b).map (fun x => { index := rd x 0 1, tensor := BitVec.ofNat 32 (rd x 4 4), taps := BitVec.ofNat 64 (rd x 8 8)
                                     segs := rd x 16 4, exWait := rd x 20 2, swWait := rd x 22 2 })
/-- EARMARK_CONFIG (R212, Table 8.8). -/
def execEarmarkConfig (d : Desc) (s : State) : Host.Outcome State Fault Refusal :=
  act s fun s => s.takeCmd d 0x31 [] 1040 (badEarmarks d.buf) fun s =>
    s.checked d.ring [(rd d.buf 0 1 != s.emfVersion, stVersion)] fun s =>
      let s := s.redefine (fun t => decide (t < 32))
      (s.modEarmarks (fun e => { e with idleUs := rd d.buf 2 2, targets := targetsOf d.buf })).complete d.ring stOk

/-- The peers of a replica group's definition (Table 8.10). -/
def replicaPeers (b : List Byte) : List (List Byte) := (List.range (rd b 0 1)).map (fun i => (b.drop (32 + 32 * i)).take 32)
/-- The regions of a replica group's definition (Table 8.10). -/
def replicaRegions (b : List Byte) : List (List Byte) := (List.range (rd b 2 1)).map (fun i => (b.drop (32 + 32 * rd b 0 1 + 16 * i)).take 16)
/-- The taps of a peer's route (Table 8.10). -/
def replicaRoute (x : List Byte) : List Nat := ((x.drop 8).take (rd x 4 1)).map (·.toNat)
/-- A replica group's definition outside its ranges (R218, Table 8.10). -/
def State.badReplica (s : State) (b : List Byte) : Bool :=
  let g := rd b 0 1
  let own := rd b 1 1
  let n := rd b 2 1
  let badPeer := fun (q : Nat × List Byte) =>
    let len := rd q.2 4 1
    !(isZero q.2 5 3 && isZero q.2 24 8) || (if q.1 = own then len != 0 || (s.job.active && rd q.2 0 4 != s.job.rank.toNat)
      else !(decide (1 ≤ len) && decide (len ≤ 16)))
  let badRegion := fun (x : List Byte) => !(decide (32 ≤ rd x 4 1) && decide (rd x 4 1 ≤ 63)) || !(isZero x 5 3 && isZero x 12 4)
    || !(decide (1 ≤ rd x 8 4) && decide (rd x 8 4 ≤ 16384))
  g == 1 || decide (16 < g) || (g != 0 && (decide (g ≤ own) || n == 0)) || decide (32 < n) || decide (b.length ≠ 32 + 32 * g + 16 * n)
  || !(isZero b 3 1 && isZero b 12 20) || !(decide (1 ≤ rd b 4 4) && decide (rd b 4 4 ≤ 1000000))
  || !(decide (10 ≤ rd b 8 2) && decide (rd b 8 2 ≤ 60000)) || !(decide (1 ≤ rd b 10 2) && decide (rd b 10 2 ≤ 1000))
  || ((replicaPeers b).mapIdx (fun i x => (i, x))).any badPeer || (replicaRegions b).any badRegion
  || !(((replicaRegions b).map (fun x => rd x 4 1)).Nodup)
/-- What the chip holds of a replica group once it is defined; a group of no members ends the exchange (R218, Table 8.10). -/
def fleeceOf (b : List Byte) (step : Nat) : Fleece :=
  if rd b 0 1 = 0 then {} else
    { own := rd b 1 1, period := rd b 4 4, exWait := rd b 8 2, swWait := rd b 10 2
      peers := (replicaPeers b).map (fun x => { rank := BitVec.ofNat 32 (rd x 0 4), route := replicaRoute x })
      regions := (replicaRegions b).map (fun x => { tensor := BitVec.ofNat 32 (rd x 0 4), target := rd x 4 1, segs := rd x 8 4, lastStep := step }) }
/-- A peer's route begins at a tap whose engine is not in service (R218). -/
def State.routeLost (s : State) (b : List Byte) : Bool :=
  (replicaPeers b).any (fun x => match replicaRoute x with | t :: _ => !s.engineUp t | [] => false)
/-- REPLICA_DIGEST (R218, Table 8.10). -/
def execReplicaDigest (d : Desc) (s : State) : Host.Outcome State Fault Refusal :=
  act s fun s => s.takeCmd d 0x32 [] 1056 (s.badReplica d.buf) fun s =>
    s.checked d.ring [(s.routeLost d.buf, stNoResource)] fun s =>
      let s := s.redefine (fun t => decide (32 ≤ t))
      (s.modEarmarks (fun e => { e with fleece := fleeceOf d.buf s.job.step.toNat })).complete d.ring stOk

/-- SWEEP_REPORT (R215): 10 us after the last segment of a batch, the Drover sends what it has gathered of a target. -/
def execSweepReport (f target : Nat) (s : State) : Host.Outcome State Fault Refusal :=
  actIf (s.droverUp f) s fun s =>
    match (s.field f).sweeps.find? (fun b => b.target == target) with
    | some b => (s.advanceTo (b.lastAt + 10000)).sendBatch f b
    | none => s

/-- Sweep wait of a declared target [ms]. -/
def Earmarks.sweepWait (e : Earmarks) (i : Nat) : Nat :=
  if i < 32 then (match e.targets.find? (fun t => t.index == i) with | some t => t.swWait | none => 1) else e.fleece.swWait

/-- SWEEP_WAIT (R215): the sweep wait of an open sweep has passed since its first segment. -/
def execSweepWait (target : Nat) (s : State) : Host.Outcome State Fault Refusal :=
  actIf s.firmware s fun s =>
    match s.earmarks.sweep target with
    | none => s
    | some a => if a.closed then s else (s.advanceTo (a.firstAt + s.earmarks.sweepWait target * 1000000)).closeSweep a (some 0) true

/-- EXCHANGE_WAIT (R216): the exchange wait has passed since the chip's own sweep closed; the oldest open exchange of the target closes. -/
def execExchangeWait (target : Nat) (s : State) : Host.Outcome State Fault Refusal :=
  actIf s.firmware s fun s =>
    match s.earmarks.exchanges.find? (fun x => x.target == target) with
    | none => s
    | some x => (s.advanceTo (x.closedAt + x.wait * 1000)).closeExchange x

/-- FLEECE_SEND (R219): one sweep wait after the first of the closed sweeps of a number closed, their fleece frame is sent. -/
def execFleeceSend (s : State) : Host.Outcome State Fault Refusal :=
  actIf s.firmware s fun s =>
    match s.earmarks.fleece.closes.find? (fun c => !c.sent) with
    | none => s
    | some c => (s.advanceTo (c.closedAt + s.earmarks.fleece.swWait * 1000000)).fleeceSend c.number

end Sys2Proof.Machine
end

