-- ==== Sys2Proof/Machine/Screening.lean ====
section
/-! DEFINITION. Screening: run starts, planning and opening windows, the slice handshake, verdicts, passes, the Bellwether sweep
and the rotation check (R61, R62, R139 to R154, R177, R302, R397). -/

namespace Sys2Proof.Machine

/-- A core is under test: from fsp_ts_enter to fsp_ts_restored (R143). -/
def Core.underTest (x : Core) : Bool := match x.slice with | some sl => sl.phase != .writing | none => false
/-- Cores of a flock under test. -/
def State.flockTests (s : State) (f k : Nat) : Nat := ((List.range Config.cores).filter (fun c => (s.core f k c).underTest)).length
/-- Cores of a field under test. -/
def State.fieldTests (s : State) (f : Nat) : Nat :=
  ((s.listedCores (fieldUid f)).filter (fun p => (s.core p.1 p.2.1 p.2.2).underTest)).length
/-- Raise a slot-accounting counter of a core (Table 5.7). -/
def State.slotCount (s : State) (f k c i n : Nat) : State := s.modCore f k c (fun x => { x with counters := bump x.counters i n })

/-- The windows that a run of a program identifier has on a flock, as the field's table stands (R140, R141). -/
def State.runEntries (s : State) (f k runId : Nat) : List IdleEntry :=
  match (s.flock f k).logical, (s.field f).tables.find? (fun t => t.runId == runId) with
  | some l, some t => t.entries.filter (fun e => e.flock == l)
  | _, _ => []

/-- An item fits a window of length `len` (R144). -/
def State.itemFits (s : State) (it : Item) (step : Int) (len : Nat) (quiet : Bool) : Bool :=
  let p := s.patternOf it.pattern
  (!p.quiet || quiet) && decide (needOf p.runtime (it.g step) step + 192 ≤ len)
/-- The items of the rotation list of a core that are not used up. -/
def State.unusedItems (s : State) (f k c : Nat) : List Item :=
  (s.rotation f k c).filter (fun it => !((s.core f k c).used.contains it))
/-- The candidates of a core in their order: re-test items first (R246), then the rotation; not those chosen for a window that has
not ended (R144). -/
def State.candidates (s : State) (f k c : Nat) : List Item :=
  let x := s.core f k c
  let now := s.cycleCount f
  let live := x.planned.filter (fun p => decide (now < (s.flock f k).runStart + p.w + p.len))
  let re : List Item := match x.retest with | some r => if r.open_ then r.items.map (fun p => { pattern := p }) else [] | none => []
  let rot := (s.unusedItems f k c).filter (fun it => !(re.contains it))
  (re ++ rot).filter (fun it => !(live.any (fun p => p.item == it)))

/-- A pass ends when every item is used up (R144, R146, R147, R241); on Bellwether core 0 the sweep begins (R150). -/
def State.endPass (s : State) (f k c : Nat) : State :=
  if s.patterns.isEmpty || !(s.unusedItems f k c).isEmpty then s
  else
    let s := s.modCore f k c (fun x => { x with
      screened := true, used := [], lastSkipped := x.skipped, skipped := 0, lastPassBegan := max x.passBegan s.screen.since, lastPassEnd := s.tbase, passBegan := s.tbase
      cleanPasses := if x.passDirty then 0 else x.cleanPasses + 1, passDirty := false, passNo := x.passNo + 1, unfitRuns := []
      counters := bump x.counters 8 1 })
    let x := s.core f k c
    let s := if x.st == .watched && ((s.flock f k).slotOf c).isSome && decide (s.policy.leaveWatched ≤ x.cleanPasses) then s.coreTo f k c .healthy 0 else s
    if s.isBellwether f k && c == 0 && s.policy.bell == 1 && (s.field f).bellCode.isNone && !s.referenceSet.isEmpty then
      s.modField f (fun fd => { fd with bellCode := some 0, bellPattern := 0 })
    else s

/-- An item of the rotation list is used up (R144). -/
def State.useItem (s : State) (f k c : Nat) (it : Item) (skip : Bool) : State :=
  (s.modCore f k c (fun x => { x with used := insertNew x.used it, skipped := if skip then x.skipped + 1 else x.skipped })).endPass f k c
/-- A guard item is skipped for the fused maximum (R60, R144, R147). -/
def State.guardSkip (s : State) (f k c : Nat) (it : Item) : State := (s.slotCount f k c 7 1).useItem f k c it true

/-- The Drover has the pattern in its store, or the pager brings it (R139); without firmware the store is not refilled (R359). -/
def State.patternAt (s : State) (f p : Nat) : Bool := (s.field f).store.contains p || s.firmware
/-- The patterns a core needs next, in rotation order, at most eight. -/
def State.nextPatterns (s : State) (f k c : Nat) : List Nat := ((((s.candidates f k c).take 16).map (·.pattern)).eraseDups).take 8
/-- The pager fills a Drover's store, which holds eight patterns, with those wanted next; what was not there goes over the downwind
plane (R139). DESIGN CHOICE: when the cores of a field need more than eight, those of the core that planned last come first. Without
firmware the store stays as it is (R359). -/
def State.refill (s : State) (f : Nat) (want : List Nat) : State :=
  match s.activeShc with
  | some b =>
    if !s.firmware then s
    else
      let old := (s.field f).store
      let now := ((want ++ old).eraseDups).take 8
      let s := s.forEach (now.filter (fun p => !old.contains p)) (fun s p => s.message (shcUid b) (droverUid f) .pattern p)
      s.modField f fun fd => { fd with store := now }
  | none => s

/-- The lines of a slice in the test scratch (R134): the body from line 0, then zeros up to line footprint - 65. -/
def Pattern.lines (p : Pattern) : List (List Byte) := (List.range (p.footprint - 64)).map (fun i => fit 64 ((p.body.drop (64 * i)).take 64))
/-- The lines go out on the sw group, one per cycle (R61). -/
def State.writeScratch (s : State) (f k c : Nat) (p : Pattern) : State :=
  { s with out := s.out ++ p.lines.zipIdx.map (fun q => .scratch (coreUid f k c).toNat q.2 q.1) }
/-- The scratch write of a core's next planned window begins, once no slice runs on the core (R61, R144) and no other window's lines
stand in the scratch unused. -/
def State.beginWrite (s : State) (f k c : Nat) : State :=
  let x := s.core f k c
  if x.slice.isSome || x.planned.any (fun p => p.begun && !p.opened) then s
  else match x.planned.find? (fun p => !p.begun && !p.opened) with
    | none => s
    | some pl =>
      (s.modCore f k c (fun x => { x with planned := x.planned.map (fun p => if p.w = pl.w then { p with begun := true } else p) })).writeScratch f k c pl.pat

/-- At a run start, items that fit no window of 64 run starts in a row are skipped (R147). -/
def State.countUnfit (s : State) (f k c : Nat) (ws : List IdleEntry) : State :=
  let x := s.core f k c
  let key := fun (it : Item) => 2 * it.pattern + b2n it.guard
  let items := s.unusedItems f k c
  let bad := items.filter (fun it => !(ws.any (fun w => s.itemFits it x.step w.len w.quiet)))
  let runs := bad.map (fun it => (key it, (assoc x.unfitRuns (key it)).getD 0 + 1))
  let over_ := bad.filter (fun it => decide (64 ≤ (assoc x.unfitRuns (key it)).getD 0 + 1))
  let s := s.modCore f k c (fun x => { x with unfitRuns := runs.filter (fun p => decide (p.2 < 64)) })
  s.forEach over_ (fun s it => s.useItem f k c it true)

/-- The thresholds in a Drover: those that firmware has loaded since the start, else the OTP defaults (R235). -/
def GovFlock.thresholds (g : GovFlock) : Nat × Nat := if g.loaded then (g.pR, g.pT) else (Config.otpReplay.toNat, Config.otpTwin.toNat)

/-- fsp_run_start: the thresholds are latched (R177), the flock takes its windows from the field's table (R141), and they are offered
(R154). DESIGN CHOICE: a run start that offers a core no window neither counts toward the 64 of R147 nor breaks them. -/
def State.runStart (s : State) (f k runId : Nat) : State :=
  let s := s.syncField f
  let th := (s.gflock f k).thresholds
  let now := s.cycleCount f
  let es := s.runEntries f k runId
  let s := s.modFlock f k (fun fl => { fl with latched := some th, runId := some runId, runStart := now, quiet := false, windows := es })
  s.forEach (List.range Config.slots) (fun s j =>
    let ws := es.filter (fun e => e.slot == j)
    let c := (s.flock f k).coreOf j
    if (s.flock f k).slotOf c != some j then s
    else
      let s := s.modCore f k c (fun x => { x with planned := [] })
      if ws.isEmpty then s
      else
        let s := (s.slotCount f k c 0 ws.length).slotCount f k c 1 (ws.foldl (fun n w => n + w.len) 0)
        s.countUnfit f k c ws)

/-- RUN_START (R47, R61, R177). -/
def execRunStart (f k runId : Nat) (s : State) (parityOk : Bool := true) : Host.Outcome State Fault Refusal :=
  actIf (fspExists f k && s.droverUp f) s fun s => if parityOk then s.runStart f k runId else s.fspParity f k 5

/-- The scan of window_plan: guard items over the fused maximum are skipped and counted; answers the item that fits (R144). -/
def State.choose (s : State) (f k c len : Nat) (quiet : Bool) : List Item → State × Option Item
  | [] => (s, none)
  | it :: t =>
    let p := s.patternOf it.pattern
    let step := (s.core f k c).step
    if (p.quiet && !quiet) || !s.patternAt f it.pattern then s.choose f k c len quiet t
    else if it.guard && s.overFused f step then (s.guardSkip f k c it).choose f k c len quiet t
    else if s.itemFits it step len quiet then (s, some it)
    else s.choose f k c len quiet t

/-- The slice of an item on a core: the pattern, its expectation and its step are those of the pack that runs as it is chosen (R136). -/
def State.sliceOf (s : State) (f k c : Nat) (it : Item) (len : Nat) (own : Bool) : Slice :=
  let p := s.patternOf it.pattern
  let x := s.core f k c
  let re := match x.retest with | some r => r.open_ && r.items.contains it.pattern && !it.guard && !it.lane | none => false
  { pattern := it.pattern, guard := it.guard, lane := it.lane, retest := re, step := it.g x.step, need := needOf p.runtime (it.g x.step) x.step
    window := len, own := own, packGen := s.screen.gen, expect := p.misr, cls := p.cls, runtime := p.runtime }

/-- window_plan (R144): the item is chosen, and its scratch write begins as soon as it may. -/
def State.planWindow (s : State) (f k slot w : Nat) : State :=
  let c := (s.flock f k).coreOf slot
  match (s.flock f k).windows.find? (fun e => e.slot == slot && e.w == w) with
  | none => s
  | some e =>
    if s.patterns.isEmpty || (s.flock f k).slotOf c != some slot || (s.core f k c).planned.any (fun p => p.w == w) then s
    else match s.choose f k c e.len e.quiet ((s.candidates f k c).take 8) with
      | (s, none) => s.slotCount f k c 5 1
      | (s, some it) =>
        let pl : Planned := { w := w, len := e.len, item := it, slice := s.sliceOf f k c it e.len false, pat := s.patternOf it.pattern }
        let s := s.modCore f k c (fun x => { x with planned := x.planned ++ [pl] })
        (s.refill f (it.pattern :: s.nextPatterns f k c)).beginWrite f k c

/-- WINDOW_PLAN (R144). -/
def execWindowPlan (f k slot : Nat) (w : Nat) (s : State) : Host.Outcome State Fault Refusal :=
  actIf (fspExists f k && s.droverUp f) s fun s => s.planWindow f k slot w

/-- The tests of window_open that make a busy skip (R143, R144). -/
def State.windowBusy (s : State) (f k : Nat) : Bool :=
  let bell := s.isBellwether f k
  decide ((if bell then 2 else 1) ≤ s.flockTests f k) || decide (s.policy.testLimit ≤ s.fieldTests f)
  || s.fenced f k || s.musters.any (fun m => domHasFlock m.dom f k)

/-- A recovery self-test runs behind the hurdles closed for its level 1, which do not fence it (R144). -/
def State.windowBusySelf (s : State) (f k : Nat) : Bool :=
  let bell := s.isBellwether f k
  decide ((if bell then 2 else 1) ≤ s.flockTests f k) || decide (s.policy.testLimit ≤ s.fieldTests f)

/-- fsp_ts_enter rises for a slice (Table 2.6). -/
def State.enterSlice (s : State) (f k c : Nat) (sl : Slice) : State :=
  let now := s.cycleCount f
  let s := (s.modCore f k c (fun x => { x with slice := some { sl with phase := .entering, enterAt := now } })).slotCount f k c 2 1
  let u := (coreUid f k c).toNat
  let s := if sl.lane then (s.sig .fspLaneCore (flockUid f k).toNat c).sig .fspLaneSkip (flockUid f k).toNat 0 else s
  s.sig .fspTsEnter u 1

/-- window_open (R144). The chosen item stays with its window until that ends; an item passed over stays unused. -/
def State.openWindow (s : State) (f k slot w : Nat) : State :=
  let c := (s.flock f k).coreOf slot
  match (s.core f k c).planned.find? (fun p => p.w == w && !p.opened) with
  | none => s
  | some pl =>
    let s := s.modCore f k c (fun x => { x with planned := x.planned.map (fun p => if p.w = w then { p with opened := true } else p) })
    if !pl.written || (s.core f k c).slice.isSome || s.windowBusy f k then (s.slotCount f k c 4 1).beginWrite f k c
    else if pl.item.guard && s.overFused f (s.core f k c).step then (s.guardSkip f k c pl.item).beginWrite f k c
    else s.enterSlice f k c pl.slice

/-- WINDOW_OPEN (R144). -/
def execWindowOpen (f k slot : Nat) (w : Nat) (s : State) : Host.Outcome State Fault Refusal :=
  actIf (fspExists f k && s.droverUp f) s fun s => s.openWindow f k slot w

/-- The scratch of a core is written: a planned window is ready; a window of the Drover's own making opens (R61, R144). A guard probe
over the fused maximum is skipped and counted, one of the Bellwether sweep as well (R60): the sweep then waits at its pattern. A lane
item needs fsp_quiet, for its lane write (R58). -/
def State.scratchWritten (s : State) (f k c : Nat) : State :=
  match (s.core f k c).slice with
  | some sl =>
    if sl.phase != .writing then s
    else
      let s := s.modCore f k c (fun x => { x with slice := none })
      let self := !(s.core f k c).selfItems.isEmpty
      if (if self then s.windowBusySelf f k else s.windowBusy f k) then s.slotCount f k c 4 1
      else if sl.lane && !(s.flock f k).quiet then s.slotCount f k c 4 1
      else if sl.guard && s.overFused f (s.core f k c).step then
        (if sl.bell.isSome then s.slotCount f k c 7 1
         else if self then s.modCore f k c (fun x => { x with selfItems := x.selfItems.drop 1 }) |>.slotCount f k c 7 1
         else s.guardSkip f k c { pattern := sl.pattern, guard := true })
      else s.enterSlice f k c sl
  | none =>
    s.modCore f k c (fun x =>
      let i := x.planned.findIdx (fun p => p.begun && !p.written)
      { x with planned := modifyAt x.planned i (fun p => { p with written := true }) })

/-- SCRATCH_WRITE_DONE (R61). -/
def execScratchWriteDone (f k c : Nat) (s : State) : Host.Outcome State Fault Refusal :=
  actIf (fspExists f k && s.droverUp f) s fun s => s.scratchWritten f k c

/-- A core may use windows of the Drover's own making: a spare core, a core of the Bellwether
flock while the cycle runs, any core in a self-test (R149, R150, R302, R396). -/
def State.ownWindows (s : State) (f k c : Nat) : Bool :=
  let x := s.core f k c
  if !x.selfItems.isEmpty then true
  else if s.isBellwether f k then s.policy.bell == 1 || x.retest.isSome
  else (s.flock f k).spareCore == some c && s.flockTests f k == 0

/-- Nanoseconds that a number of CCLK cycles of a field lasts. -/
def State.cycleNs (s : State) (f n : Nat) : Nat := if (s.field f).freq = 0 then 0 else ceilDiv (n * 1000) (s.field f).freq
/-- A spare core has room for a slice: with it, the core is under test for at most 1/16 of the 1 s that ends with it (R149). -/
def State.spareRoom (s : State) (f k c need : Nat) : Bool :=
  let x := s.core f k c
  if !x.selfItems.isEmpty || s.isBellwether f k then true
  else
    let n := s.cycleNs f (need + 192)
    let used := (x.spareTests.filter (fun p => decide (s.tbase + n < p.1 + 1000000000))).foldl (fun a p => a + p.2) 0
    decide (used + n ≤ 62500000)

/-- Plan a slice in a window of the Drover's own making: choose the item and write the scratch first (R144). -/
def State.planOwn (s : State) (f k c : Nat) : State :=
  let x := s.core f k c
  if x.slice.isSome || s.patterns.isEmpty || x.st.gone || (s.flock f k).st.gone || !s.ownWindows f k c then s
  else
    let put := fun (s : State) (it : Item) (bell : Option Int) =>
      let sl := s.sliceOf f k c it 0 true
      let sl := { sl with window := sl.need + 192, phase := .writing, bell := bell, retest := sl.retest && bell.isNone && x.selfItems.isEmpty }
      if !s.spareRoom f k c sl.need then s
      else
        let s := s.modCore f k c (fun x => { x with slice := some sl })
        (s.refill f (it.pattern :: s.nextPatterns f k c)).writeScratch f k c (s.patternOf it.pattern)
    match x.selfItems with
    | it :: _ => put s it none
    | [] =>
      match (s.field f).bellCode with
      | some code =>
        if c = 0 ∧ s.isBellwether f k ∧ (s.flock f k).ldoOk then
          put s { pattern := s.referenceSet.getD (s.field f).bellPattern 0, guard := true } (some code)
        else match s.choose f k c 4294967295 true ((s.candidates f k c).take 8) with
          | (s, some it) => put s it none
          | (s, none) => s
      | none =>
        match s.choose f k c 4294967295 true ((s.candidates f k c).take 8) with
        | (s, some it) => put s it none
        | (s, none) => s

/-- SPARE_SLICE_PLAN (R149, R150, R302, R396). -/
def execSpareSlicePlan (f k c : Nat) (s : State) : Host.Outcome State Fault Refusal :=
  actIf (fspExists f k && decide (c < Config.cores) && s.droverUp f) s fun s => s.planOwn f k c

/-- fsp_ts_saved: the guard step is written, or the pattern starts in the next cycle (R61, R145). -/
def State.saved (s : State) (f k c : Nat) : State :=
  match (s.core f k c).slice with
  | none => s
  | some sl =>
    if sl.phase != .entering then s
    else
      let u := (coreUid f k c).toNat
      let put := fun (s : State) (p : SlicePhase) => s.modCore f k c (fun x => { x with slice := some { sl with phase := p } })
      if sl.step = (s.core f k c).step then (put s .running).sig .fspTsGo u 1
      else (put s .stepping).sig .fspClkStep u (toTwos 3 sl.step)

/-- TS_SAVED (R61, R145). -/
def execTsSaved (f k c : Nat) (parityOk : Bool) (s : State) : Host.Outcome State Fault Refusal :=
  actIf (fspExists f k) s fun s => if parityOk then s.saved f k c else s.fspParity f k 5

/-- Event 0x7004 of a slice (R146, R148, Table 5.6). -/
def State.sliceProtocol (s : State) (f k c code pattern : Nat) : State :=
  s.reportPlane 0x7004 (coreUid f k c) ([BitVec.ofNat 8 code] ++ le 2 pattern)

/-- TS_SAVED_LATE (R148): fsp_ts_saved does not come by w + 96. -/
def execTsSavedLate (f k c : Nat) (s : State) : Host.Outcome State Fault Refusal :=
  actIf (fspExists f k) s fun s =>
    match (s.core f k c).slice with
    | none => s
    | some sl =>
      if sl.phase != .entering then s
      else
        let s := (s.exitSlice f k c).modCore f k c (fun x => { x with slice := x.slice.map (fun y => { y with late := true }) })
        (s.slotCount f k c 6 1).sliceProtocol f k c 0 sl.pattern

/-- GUARD_GO (R145): fsp_ts_go 8 cycles after the guard step was written. -/
def execGuardGo (f k c : Nat) (s : State) : Host.Outcome State Fault Refusal :=
  actIf (fspExists f k) s fun s =>
    match (s.core f k c).slice with
    | some sl =>
      if sl.phase == .stepping then
        (s.modCore f k c (fun x => { x with slice := some { sl with phase := .running } })).sig .fspTsGo (coreUid f k c).toNat 1
      else s
    | none => s

/-- The Bellwether sweep ends with a guard Vmin code: trim 0 again, the baseline on the first in FIELD, and the drift (R150). DESIGN
CHOICE: 0x7006 is recorded when the code comes to lie above the threshold, and again only after a sweep has ended below it. -/
def State.sweepEnd (s : State) (f : Nat) (v : Int) : State :=
  let s := s.modField f (fun fd => { fd with bellCode := none, bellPattern := 0, bellLow := v, vmin := some v })
  let s := s.writeTrim f (s.spareOf f) (s.trimOf f (s.spareOf f))
  let inField := s.lcs == 2
  let fd := s.field f
  match fd.baseline with
  | none => if inField then s.modField f (fun fd => { fd with baseline := some v }) else s
  | some b =>
    if b + s.policy.drift ≤ v then
      if fd.bellDrift then s
      else (s.modField f (fun fd => { fd with bellDrift := true })).note 0x7006 (fieldUid f)
        [BitVec.ofNat 8 (toTwos 8 b), BitVec.ofNat 8 (toTwos 8 v)]
    else s.modField f (fun fd => { fd with bellDrift := false })

/-- A slice of the Bellwether sweep has its verdict (R150). DESIGN CHOICE: when code 0 itself fails, no code has passed, and the code
recorded is +1. -/
def State.sweepVerdict (s : State) (f : Nat) (code : Int) (pass : Bool) : State :=
  let fd := s.field f
  if fd.bellCode != some code then s
  else if !pass then s.sweepEnd f (code + 1)
  else if fd.bellPattern + 1 < s.referenceSet.length then s.modField f (fun fd => { fd with bellPattern := fd.bellPattern + 1 })
  else if code ≤ -6 then s.sweepEnd f code
  else (s.modField f (fun fd => { fd with bellCode := some (code - 1), bellPattern := 0 })).writeTrim f (s.spareOf f) (code - 1)

/-- Event 0x7001 or 0x7002 (Table 5.6). -/
def State.notePattern (s : State) (f k c : Nat) (sl : Slice) : State :=
  let b := s.cyclePayload f (le 2 sl.pattern ++ [BitVec.ofNat 8 (toTwos 8 sl.step), BitVec.ofNat 8 sl.cls])
  if sl.guard then s.note 0x7002 (coreUid f k c) b else s.report 0x7001 (coreUid f k c) b

/-- A nominal item failed: its record, and the detection that counts for a core serving a slot (R229). -/
def State.patternDetected (s : State) (f k c : Nat) (sl : Slice) : State :=
  (s.notePattern f k c sl).countCoreDetection f k c ((s.flock f k).slotOf c).isSome

/-- A lane item failed whose nominal item passed: physical lane 8 becomes Retired, recorded as kind 8 (R397). -/
def State.laneItemFailed (s : State) (f k c pattern : Nat) : State :=
  if (s.core f k c).used.contains { pattern := pattern, lane := true } || (s.lane f k c 8).st.gone then s
  else (s.laneTo f k c 8 .retired 0x01).foldEntry 8 5 (((s.flock f k).slotOf c).getD 0xFF) 0 (laneUid f k c 8)

/-- An item of a self-test has its verdict (R302, R397). -/
def State.selfVerdict (s : State) (f k c : Nat) (sl : Slice) (pass : Bool) : State :=
  let s := s.modCore f k c (fun x => { x with selfItems := x.selfItems.drop 1 })
  if pass then s
  else if s.recovery.level1.isSome then
    let s := s.patternDetected f k c sl
    let s := s.modCore f k c (fun x => { x with selfItems := [] })
    if ((s.flock f k).slotOf c).isSome then s.coreFoldPending f k c 0x01 else s.finding f k c .detection 0x01 (some sl.pattern)
  else
    let s := s.modCore f k c (fun x => { x with selfTestFailed := true })
    if sl.lane then s.laneItemFailed f k c sl.pattern
    else if sl.guard then (s.notePattern f k c sl).finding f k c .guardFail 0x02 (some sl.pattern)
    else
      let s := s.patternDetected f k c sl
      let s := s.modCore f k c (fun x => { x with used := insertNew x.used { pattern := sl.pattern, lane := true } })
      if ((s.flock f k).slotOf c).isSome then s.coreFoldPending f k c 0x01
      else (s.coreTo f k c .retired 0x01).foldEntry 8 5 0xFF 0 (coreUid f k c)

/-- The verdict of a slice (R146, R241, R243, R246). Of the re-test items only a PASS uses up the matching rotation item (R246). -/
def State.verdict (s : State) (f k c : Nat) (sl : Slice) (pass : Bool) (misr : BitVec 64) : State :=
  let it : Item := { pattern := sl.pattern, guard := sl.guard }
  let s := if pass then s
    else s.traceDrover f 0x10 (le 4 (coreUid f k c).toNat ++ le 2 sl.pattern ++ le 1 (toTwos 8 sl.step) ++ zeros 1 ++ le 8 misr.toNat ++ le 8 (s.cycleCount f))
  match sl.bell with
  | some code => s.sweepVerdict f code pass
  | none =>
    if !(s.core f k c).selfItems.isEmpty && sl.own then s.selfVerdict f k c sl pass
    else if sl.packGen != s.screen.gen then
      if pass then s
      else if sl.guard then (s.notePattern f k c sl).finding f k c .guardFail 0x02 (some sl.pattern)
      else (s.patternDetected f k c sl).finding f k c .detection 0x01 (some sl.pattern)
    else if sl.retest && (s.core f k c).retest.isSome then
      if pass then
        let s := s.modCore f k c (fun x => { x with retest := x.retest.map (fun r => { r with items := without r.items sl.pattern }), retestCount := x.retestCount + 1 })
        let s := if (match (s.core f k c).retest with | some r => r.items.isEmpty | none => false) then s.retestPassed f k c else s
        s.useItem f k c it false
      else (s.patternDetected f k c sl).retestFailed f k c 0x01
    else if pass then s.useItem f k c it false
    else if sl.guard then ((s.notePattern f k c sl).finding f k c .guardFail 0x02 (some sl.pattern)).useItem f k c it false
    else ((s.patternDetected f k c sl).finding f k c .detection 0x01 (some sl.pattern)).useItem f k c it false

/-- fsp_ts_done: the verdict, the standing step, and fsp_ts_exit at once or 8 cycles later (R61, R145, R146). -/
def State.sliceDone (s : State) (f k c : Nat) (misr : BitVec 64) : State :=
  match (s.core f k c).slice with
  | none => s
  | some sl =>
    if sl.phase != .running then s
    else
      let away := sl.step != (s.core f k c).step
      let s := if away then (s.stepBack f k c).modCore f k c (fun x => { x with slice := some { sl with phase := .returning } }) else s.exitSlice f k c
      s.verdict f k c sl (misr == sl.expect) misr

/-- TS_DONE (R47, R146). -/
def execTsDone (f k c : Nat) (misr : BitVec 64) (s : State) (parityOk : Bool := true) : Host.Outcome State Fault Refusal :=
  actIf (fspExists f k) s fun s => if parityOk then s.sliceDone f k c misr else s.fspParity f k 5

/-- GUARD_EXIT (R145): fsp_ts_exit 8 cycles after fsp_ts_done. -/
def execGuardExit (f k c : Nat) (s : State) : Host.Outcome State Fault Refusal :=
  actIf (fspExists f k) s fun s =>
    match (s.core f k c).slice with
    | some sl => if sl.phase == .returning then s.exitSlice f k c else s
    | none => s

/-- DONE_MISSING (R146): no fsp_ts_done in time is a FAIL, with 0x7004 in addition. No MISR was observed: DESIGN CHOICE, the trace entry
of R153 carries 0. -/
def execDoneMissing (f k c : Nat) (s : State) : Host.Outcome State Fault Refusal :=
  actIf (fspExists f k) s fun s =>
    match (s.core f k c).slice with
    | none => s
    | some sl =>
      if sl.phase != .running then s
      else (((s.stepBack f k c).exitSlice f k c).verdict f k c sl false 0).sliceProtocol f k c 1 sl.pattern

/-- SLICE_LATEST_EXIT (R146): the latest exit comes first; no verdict, and the slice is interrupted. -/
def execSliceLatestExit (f k c : Nat) (s : State) : Host.Outcome State Fault Refusal :=
  actIf (fspExists f k) s fun s =>
    match (s.core f k c).slice with
    | some sl => if sl.phase == .running || sl.phase == .stepping then s.cutSlice f k c else s
    | none => s

/-- fsp_ts_need: the slice ends without a verdict; inside a declared window it is an overrun, and the run is not
timing-clean; an overrun is no stretch and no frequency change (R40, R62, Table 4.8). -/
def State.needed (s : State) (f k c : Nat) : State :=
  match (s.core f k c).slice with
  | none => s
  | some sl =>
    if sl.phase == .writing then s
    else
      let s := s.cutSlice f k c
      let now := s.cycleCount f
      let stop := sl.enterAt + sl.window
      if sl.own || stop ≤ now then s
      else
        (s.note 0x7003 (coreUid f k c) (s.cyclePayload f (le 2 sl.pattern ++ le 2 (sat 65535 (stop - now))))).notClean

/-- TS_NEED (R47, R62). -/
def execTsNeed (f k c : Nat) (s : State) (parityOk : Bool := true) : Host.Outcome State Fault Refusal :=
  actIf (fspExists f k) s fun s => if parityOk then s.needed f k c else s.fspParity f k 5

/-- fsp_ts_restored: fsp_ts_enter and fsp_ts_exit fall, and the slice's cycles are counted (R61, R149, R154). -/
def State.restored (s : State) (f k c : Nat) : State :=
  match (s.core f k c).slice with
  | none => s
  | some sl =>
    if !sl.exiting then s
    else
      let u := (coreUid f k c).toNat
      let n := s.cycleCount f - sl.enterAt
      let spare := (s.flock f k).spareCore == some c && (s.flock f k).logical.isSome
      let s := s.slotCount f k c 3 n
      let s := if spare then
          (s.slotCount f k c 9 n).modCore f k c (fun x =>
            { x with spareTests := x.spareTests.filter (fun p => decide (s.tbase < p.1 + 1000000000)) ++ [(s.tbase, s.cycleNs f n)] })
        else s
      let s := s.modCore f k c (fun x => { x with slice := none })
      let s := if sl.lane then
          (if (s.flock f k).quiet then (s.sig .fspLaneCore (flockUid f k).toNat c).sig .fspLaneSkip (flockUid f k).toNat (s.core f k c).laneSkip
           else s.modFlock f k (fun fl => { fl with laneReturn := insertNew fl.laneReturn c }))
        else s
      ((s.sig .fspTsEnter u 0).sig .fspTsExit u 0).beginWrite f k c

/-- TS_RESTORED (R47, R61). -/
def execTsRestored (f k c : Nat) (s : State) (parityOk : Bool := true) : Host.Outcome State Fault Refusal :=
  actIf (fspExists f k) s fun s => if parityOk then s.restored f k c else s.fspParity f k 5

/-- RESTORED_LATE (R148): fsp_ts_restored does not come by 96 cycles after fsp_ts_exit. -/
def execRestoredLate (f k c : Nat) (s : State) : Host.Outcome State Fault Refusal :=
  actIf (fspExists f k) s fun s =>
    match (s.core f k c).slice with
    | some sl =>
      if !sl.exiting then s
      else (s.modCore f k c (fun x => { x with slice := some { sl with late := true } })).sliceProtocol f k c 2 sl.pattern
    | none => s

/-- The cores of a field in service: flock and core. DESIGN CHOICE: Folded and Retired cores and flocks, which no slice can reach, are
in neither count of 0x7005 (R152). -/
def State.liveCores (s : State) (f : Nat) : List (Nat × Nat) :=
  ((List.range Config.flocks).flatMap (fun k => (List.range Config.cores).map (fun c => (k, c)))).filter
    (fun q => s.flockUp f q.1 && !(s.core f q.1 q.2).st.gone)
/-- The rotation period [ns] (R151). -/
def State.rotationNs (s : State) : Nat := s.policy.rotation * 1000000000
/-- Cores of a field still unscreened a rotation period after readiness (R152). -/
def State.lateCores (s : State) (f : Nat) : Nat :=
  if s.start.ready && decide (s.start.readyAt + s.rotationNs < s.tbase) then ((s.liveCores f).filter (fun q => !(s.core f q.1 q.2).screened)).length else 0
/-- Screened cores of a field whose last pass began more than two rotation periods ago (R152). -/
def State.oldCores (s : State) (f : Nat) : Nat :=
  ((s.liveCores f).filter (fun q => (s.core f q.1 q.2).screened && decide ((s.core f q.1 q.2).lastPassBegan + 2 * s.rotationNs < s.tbase))).length
/-- The rotation check of a field: cores unscreened beyond the period, and cores whose last pass began too long ago (R152). -/
def State.checkRotation (s : State) (f : Nat) : State :=
  let s := s.advanceTo ((s.field f).rotationAt + s.rotationNs)
  let late := s.lateCores f
  let old := s.oldCores f
  let s := s.modField f (fun fd => { fd with rotationAt := s.tbase })
  if late = 0 ∧ old = 0 then s else s.note 0x7005 (fieldUid f) (le 4 late ++ le 4 old)

/-- ROTATION_CHECK (R152). -/
def execRotationCheck (f : Nat) (s : State) : Host.Outcome State Fault Refusal := actIf (s.droverUp f) s fun s => s.checkRotation f

end Sys2Proof.Machine
end

