-- ==== Sys2Proof/Machine/Governor.lean ====
section
/-! DEFINITION. The coverage governor: coverage from the counters, the bound U, the scale x and the thresholds, the met state and
the bound report (R224 to R239). Real numbers are exact rationals; an infinite value is `none`. -/

namespace Sys2Proof.Machine

/-- Logical slots of a flock in service that a core serves (R225, R230). -/
def State.liveSlots (s : State) (f k : Nat) : List Nat :=
  if s.flockUp f k && (s.flock f k).logical.isSome then (List.range Config.slots).filter (fun j => !((s.flock f k).disabled.contains j)) else []
/-- Logical cores of a field in service. -/
def State.logicalCores (s : State) (f : Nat) : Nat := (List.range Config.flocks).foldl (fun n k => n + (s.liveSlots f k).length) 0
/-- The flocks that serve logical slots, in ascending UID (R225, R228). -/
def State.govKeys (s : State) : List (Nat × Nat) :=
  s.upFields.flatMap (fun f => ((List.range Config.flocks).filter (fun k => s.flockUp f k && (s.flock f k).logical.isSome)).map (fun k => (f, k)))
/-- Crooks of a field in service. -/
def State.liveCrooks (s : State) (f : Nat) : Nat :=
  ((List.range Config.crooks).filter (fun i => (s.crook f i).inService && !(s.crook f i).resetting)).length

/-- Replay cap r_f: four core-equivalents a Crook, over the field's logical cores in service (R234). -/
def State.replayCap (s : State) (f : Nat) : Rat := ((4 * s.liveCrooks f : Nat) : Rat) / ((s.logicalCores f : Nat) : Rat)
/-- Twin cap t_f: twin candidates of the flock over its logical slots (R234). -/
def State.twinCap (s : State) (f k : Nat) : Rat :=
  let n := b2n (s.usableSpare f k).isSome + ((s.donated f k).filter (fun j => !((s.flock f k).disabled.contains j))).length
  (n : Rat) / ((Config.slots : Nat) : Rat)
/-- A flock holds a Watched or Sheltered unit (R233). -/
def State.fullScale (s : State) (f k : Nat) : Bool :=
  let hit := fun (u : UnitState) => u == .watched || u == .sheltered
  hit (s.flock f k).st || (s.listedCores (flockUid f k)).any (fun p => hit (s.core p.1 p.2.1 p.2.2).st)
    || s.lanes.any (fun p => p.1 / 512 == flockKey f k && hit p.2.st)
/-- A selection probability as a threshold (R233). -/
def threshold (p : Rat) : Nat := min (2 ^ 32 - 1) (((min 1 p) * ((2 ^ 32 : Nat) : Rat)).floor.toNat)
/-- The thresholds of every flock from the scale x and the caps (R233, R235). -/
def State.setThresholds (s : State) (x : Rat) : State :=
  s.forEach (s.upFields.flatMap (fun f => (List.range Config.flocks).map (fun k => (f, k)))) (fun s q =>
    let xf := if s.fullScale q.1 q.2 then 1 else x
    s.modGflock q.1 q.2 (fun g => { g with loaded := true, pR := threshold (xf * s.replayCap q.1), pT := threshold (xf * s.twinCap q.1 q.2) }))

/-- Pack coverage W_pack (R227). -/
def State.packCoverage (s : State) : Rat := 1 - s.patterns.foldl (fun p q => p * (1 - (ratOf32 q.weight).getD 0)) 1
/-- Screened share s_f of a flock at an instant (R227). -/
def State.screenedShare (s : State) (f k : Nat) : Rat :=
  let l := s.liveSlots f k
  let good := l.filter (fun j =>
    let x := s.core f k ((s.flock f k).coreOf j)
    x.screened && decide (s.tbase ≤ x.lastPassEnd + s.policy.rotation * 1000000000))
  if l.isEmpty then 0 else ((good.length : Nat) : Rat) / ((l.length : Nat) : Rat)

/-- What a flock's counters gained since the last epoch end (R225, Table 7.8). -/
def State.gained (s : State) (f k i : Nat) : Nat := (s.flock f k).counters.getD i 0 - (s.gflock f k).snap.getD i 0
/-- Replays achieved of those wanted, every void verdict subtracted (R225). -/
def State.replaysAchieved (s : State) (f k : Nat) : Nat :=
  s.gained f k 1 - (s.gained f k 2 + ([13, 14, 15, 16, 17, 18, 19].map (s.gained f k)).foldl (· + ·) 0)
/-- Twins achieved of those wanted (R225). -/
def State.twinsAchieved (s : State) (f k : Nat) : Nat := s.gained f k 4 - s.gained f k 5
/-- A ratio of counts, or `dflt` over nothing. -/
def ratio (n d : Nat) (dflt : Rat) : Rat := if d = 0 then dflt else (n : Rat) / (d : Rat)
/-- A flock's values for the epoch that ends now, with its counters kept as the next snapshot (R225, R227, R233). -/
def State.measureFlock (s : State) (f k : Nat) : State :=
  let n := s.gained f k 0
  let good := s.replaysAchieved f k
  let twins := s.twinsAchieved f k
  let want := s.gained f k 1
  let wantT := s.gained f k 4
  let cS := s.policy.credit * s.packCoverage * s.screenedShare f k
  s.modGflock f k (fun g => { g with
    snap := (s.flock f k).counters, a := n, cR := ratio good n 0, cT := ratio twins n 0
    aR := ratio good want 1, aT := ratio twins wantT 1, cS := cS })

/-- Operation check fraction c_f (R225). -/
def GovFlock.check (g : GovFlock) : Rat := 1 - (1 - g.cR) * (1 - g.cT)
/-- Checking coverage C_X,f (R226). -/
def GovFlock.cX (g : GovFlock) (k : Nat) : Rat := 1 - (1 - g.check) ^ k
/-- Coverage C_f (R228). -/
def GovFlock.cover (g : GovFlock) (k : Nat) : Rat := 1 - (1 - g.cX k) * (1 - g.cS)
/-- A mean over flocks weighted by their announces; none when there were none (R228). -/
def weighted (l : List GovFlock) (v : GovFlock → Rat) : Option Rat :=
  let n := l.foldl (fun n g => n + g.a) 0
  if n = 0 then none else some (l.foldl (fun (x : Rat) g => x + ((g.a : Nat) : Rat) * v g) 0 / ((n : Nat) : Rat))
/-- Die coverage C_e, at most 0.999 (R228). -/
def dieCover (l : List GovFlock) (k : Nat) : Option Rat := (weighted l (fun g => g.cover k)).map (min (999 / 1000))

/-- A flock with the fractions predicted for a scale x (R234). -/
def State.predict (s : State) (f k : Nat) (x : Rat) : GovFlock :=
  let g := s.gflock f k
  { g with cR := x * s.replayCap f * g.aR, cT := x * s.twinCap f k * g.aT }
/-- Predicted U at a scale x; none is infinite (R234). -/
def State.predictU (s : State) (keys : List (Nat × Nat)) (x : Rat) : Option Rat :=
  let ce := (dieCover (keys.map (fun q => s.predict q.1 q.2 x)) s.policy.multiplicity).getD s.gov.ce
  s.gov.lambda.map (fun r => r * (1 - ce))
/-- A value does not exceed a limit; an infinite one does. -/
def within (u : Option Rat) (lim : Rat) : Bool := match u with | some v => decide (v ≤ lim) | none => false
/-- Bisection of the smallest x that reaches the aim (R234). -/
def bisect (good : Rat → Bool) : Nat → Rat → Rat → Rat
  | 0, _, hi => hi
  | n + 1, lo, hi => if good ((lo + hi) / 2) then bisect good n lo ((lo + hi) / 2) else bisect good n ((lo + hi) / 2) hi
/-- solve(aim) (R234). -/
def State.solve (s : State) (keys : List (Nat × Nat)) (aim : Rat) : Rat :=
  let good := fun x => within (s.predictU keys x) aim
  max s.policy.xMin (if good 1 then bisect good 24 0 1 else 1)

/-- Pseudo-exposure E0 of the prior (R230). -/
def State.priorExposure (s : State) (keys : List (Nat × Nat)) : Rat :=
  let n := keys.foldl (fun n q => n + (s.liveSlots q.1 q.2).length) 0
  let l0 := ((n : Nat) : Rat) * s.patterns.foldl (fun (x : Rat) p => x + (ratOf32 p.rate).getD 0) 0
  if s.policy.prior = 0 ∨ l0 = 0 then 0 else ((s.policy.prior : Nat) : Rat) / l0
/-- The operating hour (R231). -/
def State.opHour (s : State) : Nat := s.opSeconds / 3600
/-- The bins of the window, the current hour included (R231). -/
def State.windowBins (s : State) : List GovBin :=
  (s.gov.bins.filter (fun b => decide (s.opHour < b.hour + s.policy.windowW))) ++ [s.gov.open_]

/-- A value as binary64, infinity for none. -/
def bits64 (r : Option Rat) : Nat := match r with | some v => (encodeRat v).toNat | none => 0x7FF0000000000000
/-- A value as binary32, infinity for none. -/
def bits32 (r : Option Rat) : Nat := match r with | some v => (encode32 v).toNat | none => 0x7F800000
/-- The bound report without its flock entries (Table 9.2). -/
def State.boundHead (s : State) : List Byte :=
  let g := s.gov
  let p := s.policy
  le 1 (b2n g.met + 2 * b2n (g.x == 1) + 4 * b2n g.noExposure) ++ zeros 3 ++ le 4 g.epochs ++ le 8 g.endAt ++ le 8 (bits64 (some p.uwrTarget))
  ++ le 8 (bits64 g.u) ++ le 8 (bits64 g.lambda) ++ le 8 (bits64 (some g.ce)) ++ le 8 (bits64 (some g.cx)) ++ le 8 (bits64 (some g.cs))
  ++ le 8 (bits64 (some g.x)) ++ le 8 (bits64 (some g.e0)) ++ le 8 (bits64 (some g.ct)) ++ le 4 g.det ++ le 4 p.prior ++ le 4 p.windowW
  ++ le 4 p.multiplicity ++ le 4 g.lowFlock.toNat ++ zeros 4 ++ le 8 (bits64 (some g.lowC)) ++ le 8 g.metAt
/-- The flock's spare core is consumed: the core that serves no slot is one that a fold took out of its slot (R250). A spare core that was
Retired unused is not consumed (R251). -/
def State.spareConsumed (s : State) (f k : Nat) : Bool :=
  match (s.flock f k).spareCore with
  | some c => (s.core f k c).foldedOut
  | none => true
/-- One flock entry of the report (Table 9.3): UID, thresholds in force, check fraction and flags. -/
def State.flockEntry (s : State) (f k : Nat) : BitVec 32 × Nat × Nat × Nat × Nat :=
  let g := s.gflock f k
  let (pR, pT) := (s.flock f k).latched.getD (0, 0)
  (flockUid f k, pR, pT, min 65535 ((g.check * 65536).floor.toNat),
    b2n (s.fullScale f k) + 2 * b2n (s.spareConsumed f k) + 4 * b2n (s.liveCrooks f == 0))
/-- Bytes of a flock entry (Table 9.3). -/
def entryBytes (e : BitVec 32 × Nat × Nat × Nat × Nat) : List Byte :=
  le 4 e.1.toNat ++ le 4 e.2.1 ++ le 4 e.2.2.1 ++ le 2 e.2.2.2.1 ++ le 1 e.2.2.2.2 ++ zeros 1
/-- The report of the last completed epoch with at most `n` flock entries (R238). -/
def State.boundBytes (s : State) (n : Nat) : List Byte :=
  let es := s.gov.report.take n
  let h := if s.gov.last.isEmpty then s.boundHead else s.gov.last
  h.take 2 ++ le 2 es.length ++ h.drop 4 ++ es.flatMap entryBytes

/-- Change the governor. -/
def State.modGov (s : State) (g : Gov → Gov) : State := { s with gov := g s.gov }

/-- Sum of Poisson terms below the one of index `i`, in units of 2^-96 of the term at the start of the sum: term i-1 is term i times i/y, with
y = Y / 2^60. -/
def poissonDown (y : Nat) : Nat → Nat → Nat → Nat
  | 0, _, acc => acc
  | i + 1, t, acc => poissonDown y i (t * (i + 1) * 2 ^ 60 / y) (acc + t * (i + 1) * 2 ^ 60 / y)
/-- Sum of the Poisson terms above index `i`: term i+1 is term i times y/(i+1); ends when the terms have gone to zero. -/
def poissonUp (y : Nat) : Nat → Nat → Nat → Nat → Nat
  | 0, _, _, acc => acc
  | fuel + 1, i, t, acc => if t = 0 then acc else poissonUp y fuel (i + 1) (t * y / (2 ^ 60 * (i + 1))) (acc + t * y / (2 ^ 60 * (i + 1)))
/-- Fewer than n events of a Poisson count of mean y = Y / 2^60 have a probability above 0.05. -/
def poissonLikely (n y : Nat) : Bool :=
  decide (poissonUp y (4 * n + 400) (n - 1) (2 ^ 96) 0 < 19 * poissonDown y (n - 1) (2 ^ 96) (2 ^ 96))
/-- Bisection of the mean at which the probability is 0.05, in units of 2^-60. -/
def poissonMean (n : Nat) : Nat → Nat → Nat → Nat
  | 0, _, hi => hi
  | fuel + 1, lo, hi =>
    let m := (lo + hi) / 2
    if m = lo then hi else if poissonLikely n m then poissonMean n fuel m hi else poissonMean n fuel lo m
/-- The 0.95 quantile of the chi-square distribution with an even number ν = 2n of degrees of freedom (R232): twice the mean of a Poisson
count that stays below n with probability 0.05. DESIGN CHOICE: of the numbers within R232's relative error of 1e-9, the one that a
bisection to 2^-60 finds (log 96). -/
def q95 (nu : Nat) : Rat :=
  let n := nu / 2
  ((poissonMean n (64 + Nat.log2 (2 * n + 10)) 1 ((2 * n + 10) * 2 ^ 60) : Nat) : Rat) * 2 / ((2 ^ 60 : Nat) : Rat)

/-- A flock that the governor takes no values of keeps its counters as the next snapshot too (R233). -/
def State.snapRest (s : State) (keys : List (Nat × Nat)) : State :=
  s.forEach ((s.listedFlocks dieUid).filter (fun q => !keys.contains q)) (fun s q =>
    s.modGflock q.1 q.2 (fun g => { g with snap := (s.flock q.1 q.2).counters }))

/-- Coverage, exposure and the bound U of the epoch that ends (R225 to R232). -/
def State.estimate (s : State) (keys : List (Nat × Nat)) : State :=
  let s := s.forEach keys (fun s q => s.measureFlock q.1 q.2)
  let gs := keys.map (fun q => s.gflock q.1 q.2)
  let k := s.policy.multiplicity
  let ce := dieCover gs k
  let ns := s.job.activeNs + (if s.job.active then s.tbase - s.job.began else 0)
  let gain := match ce with | some c => c * (((ns : Nat) : Rat) / 3600000000000) | none => 0
  let low := keys.foldl (fun (o : Option (Nat × Nat)) q => match o with
    | none => some q
    | some p => if (s.gflock q.1 q.2).cover k < (s.gflock p.1 p.2).cover k then some q else some p) none
  let s : State := { s with job := { s.job with activeNs := 0, began := if s.job.active then s.tbase else s.job.began } }
  let s := s.modGov (fun g => { g with
    ce := ce.getD g.ce, cx := (weighted gs (fun g => g.cX k)).getD g.cx, cs := (weighted gs (·.cS)).getD g.cs
    open_ := { g.open_ with exposure := g.open_.exposure + gain }, noExposure := g.noExposure && gain == 0
    lowFlock := match low with | some q => flockUid q.1 q.2 | none => 0
    lowC := match low with | some q => (s.gflock q.1 q.2).cover k | none => 0
    epochs := g.epochs + 1, endAt := g.boundary, epochDet := 0, ownNamed := false })
  let bins := s.windowBins
  let det := bins.foldl (fun n b => n + b.det) 0
  let ct := bins.foldl (fun (x : Rat) b => x + b.exposure) 0
  let e0 := s.priorExposure keys
  let lam := if e0 + ct = 0 then none else some (q95 (2 * (det + s.policy.prior) + 2) / (2 * (e0 + ct)))
  s.modGov (fun g => { g with e0 := e0, ct := ct, det := det, lambda := lam, u := lam.map (fun r => r * (1 - g.ce)) })

/-- The scale moves, and with it the thresholds; 0x7023 records a change (R233, R239). -/
def State.moveScale (s : State) (keys : List (Nat × Nat)) : State :=
  let target := s.policy.uwrTarget
  let old := s.gov.x
  let low := match s.gov.u with | some u => decide (u < target / 2) | none => false
  let x := if !within s.gov.u target || low then s.solve keys (3 / 4 * target) else old
  let s := (s.modGov (fun g => { g with x := x })).setThresholds x
  if x = old then s else s.note 0x7023 dieUid (le 4 (bits32 (some old)) ++ le 4 (bits32 (some x)) ++ le 4 (bits32 s.gov.u))

/-- The met state (R236). -/
def State.updateMet (s : State) : State :=
  let target := s.policy.uwrTarget
  let g := s.gov
  let meets := within g.u target
  let streak := if meets then 0 else g.streak + 1
  let s := s.modGov (fun g => { g with streak := streak })
  if meets then
    if g.met then s
    else (s.modGov (fun g => { g with met := true, metAt := s.tbase })).note 0x7021 dieUid
      (zeros 4 ++ le 4 (bits32 g.u) ++ le 4 (sat (2 ^ 32 - 1) ((s.tbase - g.metAt) / 1000000000)))
  else
    let cause := if g.x = 1 then some 0 else if 6 ≤ streak then some 1 else none
    let tell := fun (s : State) (c : Nat) => (s.modGov (fun g => { g with unmetHour := s.opHour })).note 0x7020 dieUid
      ([BitVec.ofNat 8 c, 0, 0, 0] ++ le 4 (bits32 g.u) ++ le 4 (bits32 (some target)))
    if g.met then (match cause with
      | some c => tell (s.modGov (fun g => { g with met := false, metAt := s.tbase })) c
      | none => s)
    else if s.opHour = g.unmetHour then s
    else tell s (cause.getD 1)

/-- EPOCH_END (R233): the decision at a TBASE multiple of 10^10 ns, the first that no EPOCH_END has ended. The lane counts of the links are
read then as well (DESIGN CHOICE: the spec gives the word and no time). While no firmware runs the Drovers take their snapshots and no
decision is made; in a gap the row has no effect, since the snapshots wait for the new active Shepherd (R354; log 97). -/
def execEpochEnd (s : State) : Host.Outcome State Fault Refusal :=
  actIf (s.pwrGood && (s.firmware || !s.emulated)) s fun s =>
    let next := s.gov.boundary + 10000000000
    let s := (s.advanceTo next).modGov (fun g => { g with boundary := next })
    if !s.firmware then s.snapRest []
    else
      let keys := s.govKeys
      let s := (((s.estimate keys).snapRest keys).moveScale keys).updateMet
      let s := s.modGov (fun g => { g with last := s.boundHead, report := keys.map (fun q => s.flockEntry q.1 q.2) })
      (s.traceShc 3 s.gov.last).forEach s.upTaps State.readLanes

/-- HOUR_BIN (R231): at the end of an operating hour the bin is written, and the next one opens. -/
def execHourBin (s : State) : Host.Outcome State Fault Refusal :=
  actIf (s.firmware && s.pwrGood) s fun s =>
    let h := s.opHour + 1
    let s := s.advanceTo (s.tally.opSecAt + (3600 * h - s.tally.opSec) * 1000000000)
    s.modGov (fun g => { g with bins := (g.bins ++ [g.open_]).drop (g.bins.length + 1 - 90112), open_ := { hour := h } })

/-- QUERY_BOUND (R238). -/
def execQueryBound (d : Desc) (s : State) : Host.Outcome State Fault Refusal :=
  act s fun s => s.takeCmd d 0x40 [] 4294967295 (decide (d.len < 128)) fun s =>
    s.complete d.ring stOk (le 8 (bits64 s.gov.u)) (s.boundBytes ((d.len - 128) / 16))

end Sys2Proof.Machine
end

