-- ==== Sys2Proof/Machine/Hif.lean ====
section
/-! DEFINITION. The host interface: the rows of the set-up window, doorbells, interrupts, host loss, rings and
negotiation (R99 to R130, R424 to R431). -/

namespace Sys2Proof.Machine

/-- The hardware registers answer: PWR_GOOD is high, no cold reset, and not both Shepherds lost (R424). -/
def State.windowUp (s : State) : Bool := s.pwrGood && !s.start.coldLow && !s.pair.bothLost
/-- An access of a hardware offset. -/
def State.hardware (s : State) (g : State → State) : State :=
  if s.windowUp then (g s).drive (.window false) else s.drive (.window true)

/-- HIF_START (R103): a START write before readiness is held (R393). -/
def execHifStart (s : State) : Host.Outcome State Fault Refusal :=
  act s fun s => s.emulate (.start false)

/-- HIF_RESUME (R103, R129): ignored in any state other than HOST_LOST. -/
def execHifResume (s : State) : Host.Outcome State Fault Refusal :=
  act s fun s => s.emulate (.start true)

/-- WINDOW_LOCK (R428). -/
def execWindowLock (s : State) : Host.Outcome State Fault Refusal :=
  act s fun s => s.hardware fun s => s.modHif (fun h => { h with lock := true })

/-- FERR_CLEAR (R283, R426). -/
def execFerrClear (s : State) : Host.Outcome State Fault Refusal :=
  act s fun s => s.hardware fun s => if s.ferr.handling then s else { s with ferr := { overflow := s.ferr.overflow } }

/-- FERR_OVERFLOW_CLEAR (R283). -/
def execFerrOverflowClear (s : State) : Host.Outcome State Fault Refusal :=
  act s fun s => s.hardware fun s => { s with ferr := { s.ferr with overflow := false } }

/-- A pin rises: in release mode it stays high for 1 us (R95). -/
def State.raisePin (s : State) (fatal release : Bool) : State :=
  (s.modPin fatal (fun p => { p with low := false, held := false, clear := false, lowEnd := none
                                     highEnd := if release then some (s.tbase + 1000) else none })).drivePin fatal 1

/-- The host clears a held pin: at once, or when its low time ends; the Warden's hold of FATAL_N ends once a Shepherd has
returned (R284). -/
def State.clearPin (s : State) (fatal : Bool) : State :=
  let s := if fatal && s.pins.wardenFatal then ({ s with pins := { s.pins with wardenFatal := false } } : State).sig .fatalN 0 (b2n (!s.pins.fatal.low)) else s
  let p := s.pin fatal
  if !p.held then s
  else if p.lowEnd.isSome then s.modPin fatal (fun p => { p with clear := true })
  else s.raisePin fatal false

/-- PIN_HELD_CLEAR (R284). -/
def execPinHeldClear (err fatal : Bool) (s : State) : Host.Outcome State Fault Refusal :=
  act s fun s => s.hardware fun s =>
    let s := if err then s.clearPin false else s
    if fatal then s.clearPin true else s

/-- A pin's mode is written: it takes effect at the next assertion, but a held pin switched to release mode rises once its
low time has ended (R427). -/
def State.pinMode (s : State) (fatal hold : Bool) : State :=
  let s := s.modPin fatal (fun p => { p with modeReg := hold })
  let p := s.pin fatal
  if hold || !p.held then s
  else if p.lowEnd.isSome then s.modPin fatal (fun p => { p with mode := false, held := false })
  else s.raisePin fatal true

/-- PIN_MODE_WRITE (R427): ignored once the window is locked (R428). -/
def execPinModeWrite (err fatal : Bool) (s : State) : Host.Outcome State Fault Refusal :=
  act s fun s => s.hardware fun s => if s.hif.lock then s else (s.pinMode false err).pinMode true fatal

/-- PIN_LOW_TIME_END (R95, R284): the 1 us low time ends. -/
def execPinLowTimeEnd (fatal : Bool) (s : State) : Host.Outcome State Fault Refusal :=
  act s fun s =>
    match (s.pin fatal).lowEnd with
    | none => s
    | some t =>
      let s := s.advanceTo t
      let p := s.pin fatal
      if !p.low then s
      else if p.mode then (if p.clear then s.raisePin fatal false else s.modPin fatal (fun p => { p with lowEnd := none }))
      else s.raisePin fatal true

/-- PIN_HIGH_TIME_END (R95): an event held during the high time asserts the pin. -/
def execPinHighTimeEnd (fatal : Bool) (s : State) : Host.Outcome State Fault Refusal :=
  act s fun s =>
    match (s.pin fatal).highEnd with
    | none => s
    | some t =>
      let s := s.advanceTo t
      let w := (s.pin fatal).waiting
      let s := s.modPin fatal (fun p => { p with highEnd := none, waiting := false })
      if w then s.assertPin fatal else s

/-- The size and alignment that the window accepts (R76). -/
def windowOk (off size : Nat) : Bool := (size == 4 || size == 8) && off % size == 0

/-- APERTURE_WRITE (R102, R430). -/
def execApertureWrite (off size : Nat) (value : BitVec 64) (s : State) : Host.Outcome State Fault Refusal :=
  actIf (windowOk off size) s fun s => s.emulate (.aperture off size value)

/-- WINDOW_WRITE (R100, R101). -/
def execWindowWrite (off size : Nat) (value : BitVec 64) (s : State) : Host.Outcome State Fault Refusal :=
  actIf (windowOk off size) s fun s =>
    if off < 0x100 then s.hardware (fun s => s) else s.emulate (.boot off size value)

/-- WINDOW_ERROR (R76, R100): ERROR, and event 0x5007. -/
def execWindowError (off size : Nat) (_write : Bool) (s : State) : Host.Outcome State Fault Refusal :=
  actIf (!windowOk off size && s.pwrGood) s fun s =>
    (s.drive (.window true)).note 0x5007 dieUid ([0, 0, 0, 0] ++ le 4 off ++ [BitVec.ofNat 8 size])

/-- A tail count read for a command ring (R108). -/
def State.pollCmd (s : State) (i tail : Nat) : State :=
  match s.hif.cmd i with
  | none => s
  | some r =>
    if r.stopped then s
    else if (tail + 2 ^ 32 - r.head) % 2 ^ 32 ≤ 2 ^ r.log2 then s.modHif (·.modCmd i (fun r => { r with tail := tail, dbErr := false }))
    else if r.dbErr then s
    else (s.modHif (·.modCmd i (fun r => { r with dbErr := true }))).note 0x5001 dieUid ([0, BitVec.ofNat 8 i, 0, 0] ++ le 4 tail)

/-- A slot of an event ring has freed after a loss: 0x5002 is recorded and posted there first, then to the other rings as
their filters decide (R112). -/
def State.postLoss (s : State) (j : Nat) : State :=
  match s.hif.ev j with
  | none => s
  | some q =>
    if q.lost = 0 ∨ 2 ^ q.log2 ≤ q.used then s
    else
      let e : Ev := { code := 0x5002, cls := clsEV, sev := 2, uid := dieUid, tbase := s.tbase,
                      payload := [BitVec.ofNat 8 j, 0] ++ le 6 q.firstLost ++ le 4 (sat 4294967295 q.lost) }
      match s.formOne e false with
      | (s, none) => s
      | (s, some r) =>
        let s := (s.modHif (·.modEv j (fun q => { q with lost := 0, firstLost := 0 }))).placeRec j r
        if bit (s.mask 0x5002 clsEV) 0 then s.forEach ((s.hif.evs.map (·.num)).filter (fun i => i != j)) (fun s i => s.offerRec r i) else s

/-- A head count read for an event ring (R108). -/
def State.pollEv (s : State) (j head : Nat) : State :=
  match s.hif.ev j with
  | none => s
  | some q =>
    if q.stopped then s
    else if (head + 2 ^ 32 - q.head) % 2 ^ 32 ≤ q.used then (s.modHif (·.modEv j (fun q => { q with head := head, dbErr := false }))).postLoss j
    else if q.dbErr then s
    else (s.modHif (·.modEv j (fun q => { q with dbErr := true }))).note 0x5001 dieUid ([1, BitVec.ofNat 8 j, 0, 0] ++ le 4 head)

/-- DOORBELL_POLL (R108): words 0 to 71 of the doorbell block. -/
def execDoorbellPoll (words : List Nat) (s : State) : Host.Outcome State Fault Refusal :=
  actIf (s.firmware && s.hif.st == .running) s fun s =>
    if !s.hif.inside s.hif.dbCur 1024 then s.accessFailed .doorbell s.hif.dbCur
    else
      let w := fun i => words.getD i 0 % 2 ^ 32
      let s := s.modHif (fun h => { h with dbFailed := false })
      let s := s.forEach (s.hif.cmds.map (·.num)) (fun s i => s.pollCmd i (w i))
      s.forEach (s.hif.evs.map (·.num)) (fun s j => s.pollEv j (w (64 + j)))

/-- MODERATION_END (R113): at its end the collected signal is sent and begins a new interval. -/
def execModerationEnd (ring : Nat) (s : State) : Host.Outcome State Fault Refusal :=
  actIf s.firmware s fun s =>
    match s.hif.ev ring with
    | none => s
    | some q =>
      match q.intervalEnd with
      | none => s
      | some t =>
        let s := s.advanceTo t
        if q.signal then s.sendVector ring else s.modHif (·.modEv ring (fun q => { q with intervalEnd := none }))

/-- INTERRUPT_ACK (R77). -/
def execInterruptAck (s : State) : Host.Outcome State Fault Refusal :=
  actIf s.hif.impVld.isSome s fun s => ((s.modHif (fun h => { h with impVld := none })).driveImp none).nextVector

/-- A failed write of an output buffer completes the command in progress on the ring with BAD_DESCRIPTOR (R117). An input buffer is read as
the descriptor is taken, and fails there. -/
def State.bufferFailed (s : State) (i : Nat) : State :=
  match s.hif.cmd i with
  | none => s
  | some r =>
    match r.stage with
    | some (0, c) =>
      (s.modHif (·.modCmd i (fun r => { r with stage := none }))).writeResult r { c with status := stBad, result := [], returned := 0, buffer := [], neg := none }
    | _ => s

/-- DMA_ERROR (R117): answered with ERROR, or not within 100 us. -/
def execDmaError (access : HostAccess) (addr : BitVec 64) (late : Bool) (s : State) : Host.Outcome State Fault Refusal :=
  actIf (s.firmware && s.hif.st == .running) s fun s =>
    let s := if late then s.advanceTo (s.tbase + 100000) else s
    match access with
    | .fetch i | .completion i => if (s.hif.cmd i).isSome then s.accessFailed access addr.toNat else s
    | .event j => if (s.hif.ev j).isSome then s.accessFailed access addr.toNat else s
    | .buffer i => if (match s.hif.cmd i with | some r => (match r.stage with | some (0, _) => true | _ => false) | none => false) then (s.accessFailed access addr.toNat).bufferFailed i else s
    | .doorbell | .status => s.accessFailed access addr.toNat

/-- HEARTBEAT_LATE (R127): 1 s has passed since the timer's latest start or restart. -/
def execHeartbeatLate (s : State) : Host.Outcome State Fault Refusal :=
  actIf (s.firmware && s.hif.hbOn && !s.hif.hbLate && s.hif.st == .running) s fun s =>
    let s := s.advanceTo (s.hif.hbLast + 1000000000)
    (s.modHif (fun h => { h with hbLate := true })).note 0x5003 dieUid ([0, 0, 0, 0] ++ le 8 s.hif.hbLast)

/-- HOST_LOST (R127, R128): 5 s have passed. -/
def execHostLost (s : State) : Host.Outcome State Fault Refusal :=
  actIf (s.firmware && s.hif.hbOn && s.hif.st == .running) s fun s =>
    let s := s.advanceTo (s.hif.hbLast + 5000000000)
    let s := s.modHif (fun h => { h with st := .hostLost, hbOn := false, impQueue := h.impQueue.filter (· == 8) })
    let s := s.report 0x5004 dieUid ([0, 0, 0, 0] ++ le 8 s.hif.hbLast)
    (s.modHif (fun h => { h with lostSeq := some s.tally.next })).platformEvent 2

/-- The versions chosen for the five interfaces, 0 where the ranges do not meet (R122). -/
def chooseVersions (own host : List Byte) : List Byte :=
  (List.range 5).map (fun i =>
    let lo := max (own.getD (2 * i) 0).toNat (host.getD (2 * i) 0).toNat
    let hi := min (own.getD (2 * i + 1) 0).toNat (host.getD (2 * i + 1) 0).toNat
    if lo ≤ hi then BitVec.ofNat 8 hi else 0)

/-- Beyja's own version ranges: those of the running image (R121, R361). -/
def State.ownRanges (s : State) : List Byte := match s.fw.running with | some i => fit 10 i.sup | none => zeros 10

/-- NEGOTIATE (R121 to R123): the chosen set takes effect when it completes. -/
def execNegotiate (d : Desc) (s : State) : Host.Outcome State Fault Refusal :=
  act s fun s => s.takeCmd d 0x01 [(8, 10)] 64 false fun s =>
    let c := chooseVersions s.ownRanges ((d.bytes.drop 8).take 10)
    let meet := c.all (· != 0) && (!s.job.active || s.job.ver == some c)
    let out := if d.len = 0 then [] else fit (min 64 d.len) s.ownRanges
    s.complete d.ring (if meet then stOk else stVersion) c out (if meet then some c else none)

/-- The lowest free ring number (R119). -/
def freeNum (limit : Nat) (used : List Nat) : Option Nat := (List.range limit).find? (fun i => !(used.contains i))

/-- A RING_CREATE names a parameter outside its range (R119, Table 4.8). -/
def State.badCreate (s : State) (d : Desc) : Bool :=
  let ty := d.arg 8 1
  let lg := d.arg 9 1
  decide (1 < ty) || decide (lg < 4) || decide (12 < lg) || d.arg 16 8 % 4096 != 0 || !s.hif.inside (d.arg 16 8) (64 * 2 ^ lg)
    || (ty == 0 && ((s.hif.ev (d.arg 10 1)).isNone || d.arg 12 4 != 0)) || (ty == 1 && (decide (3 < d.arg 10 1) || decide (1000 < d.arg 14 2)))

/-- RING_CREATE (R119). -/
def execRingCreate (d : Desc) (s : State) : Host.Outcome State Fault Refusal :=
  act s fun s => s.takeCmd d 0x02 [(8, 1), (9, 1), (10, 1), (12, 2), (14, 2), (16, 8)] 0 (s.badCreate d) fun s =>
    if d.arg 8 1 = 0 then
      match freeNum 64 (s.hif.cmds.map (·.num)) with
      | none => s.complete d.ring stNoResource
      | some i =>
        let r : CmdRing := { num := i, base := d.arg 16 8, log2 := d.arg 9 1, paired := d.arg 10 1 }
        (s.modHif (fun h => { h with cmds := sortOn (fun q => (q.num : Int)) (h.cmds ++ [r]) })).complete d.ring stOk (le 1 i)
    else
      match freeNum 8 (s.hif.evs.map (·.num)) with
      | none => s.complete d.ring stNoResource
      | some j =>
        let r : EvRing := { num := j, base := d.arg 16 8, log2 := d.arg 9 1, minSev := d.arg 10 1, mask := BitVec.ofNat 16 (d.arg 12 2), moderation := d.arg 14 2 }
        (s.modHif (fun h => { h with evs := sortOn (fun q => (q.num : Int)) (h.evs ++ [r]) })).complete d.ring stOk (le 1 j)

/-- A RING_DESTROY that R119 refuses. DESIGN CHOICE: a command ring whose RING_DESTROY already waits is refused as well; R119 does not
name it (log 84). -/
def State.badDestroy (s : State) (d : Desc) : Bool :=
  let n := d.arg 9 1
  match d.arg 8 1 with
  | 0 => n == 0 || n == d.ring || (match s.hif.cmd n with | some r => r.dying.isSome | none => true)
  | 1 => n == 0 || (s.hif.ev n).isNone || s.hif.cmds.any (fun r => r.paired == n)
  | _ => true

/-- RING_DESTROY (R119): a command in progress on the ring completes first. -/
def execRingDestroy (d : Desc) (s : State) : Host.Outcome State Fault Refusal :=
  act s fun s => s.takeCmd d 0x03 [(8, 1), (9, 1)] 0 (s.badDestroy d) fun s =>
    let n := d.arg 9 1
    if d.arg 8 1 = 1 then (s.modHif (fun h => { h with evs := h.evs.filter (fun r => r.num != n) })).complete d.ring stOk
    else if (match s.hif.cmd n with | some r => r.busy.isSome && !r.stopped | none => false) then
      s.modHif (·.modCmd n (fun r => { r with dying := some d.ring, tail := r.head }))
    else (s.modHif (fun h => { h with cmds := h.cmds.filter (fun r => r.num != n) })).complete d.ring stOk

/-- HEARTBEAT (R120). -/
def execHeartbeat (d : Desc) (s : State) : Host.Outcome State Fault Refusal :=
  act s fun s => s.takeCmd d 0x04 [] 0 false fun s =>
    (s.modHif (fun h => { h with hbLast := s.tbase, hbLate := false })).complete d.ring stOk (le 8 s.tbase)

/-- A descriptor is complete: the head count, the interrupt, and a ring that was to be destroyed (R109, R113, R119). -/
def State.finish (s : State) (r : CmdRing) (c : Completion) : State :=
  let head := (r.head + 1) % 2 ^ 32
  let s := s.modHif (·.modCmd r.num (fun r => { r with head := head, busy := none, stage := none, notify := false, bufAddr := 0 }))
  let s := s.statusWord r.num head
  let s := if c.notify then s.signalRing r.paired else s
  match r.dying with
  | some carrier => (s.modHif (fun h => { h with cmds := h.cmds.filter (fun q => q.num != r.num) })).complete carrier stOk
  | none => s

/-- WRITE_RESPONSE (R109): of an output buffer or of byte 57 for a ring; of the status block for a number from 64 upward. -/
def execWriteResponse (ring : Nat) (s : State) : Host.Outcome State Fault Refusal :=
  actIf s.firmware s fun s =>
    if 64 ≤ ring then s.modHif (fun h => { h with stFailed := false, evs := h.evs.map (fun q => { q with unconf := [] }) })
    else match s.hif.cmd ring with
    | none => s
    | some r => match r.stage with
      | some (0, c) => s.writeResult r c
      | some (_, c) => s.finish r c
      | none => s

end Sys2Proof.Machine
end

