-- ==== Sys2Proof/Machine/TallyRows.lean ====
section
/-! DEFINITION. The Tally: commits, sector reclaims, reads and clears, the start scan, the token buckets and the operating
seconds (R376 to R391). -/

namespace Sys2Proof.Machine

/-- Change the Tally. -/
def State.modTally (s : State) (g : Tally → Tally) : State := { s with tally := g s.tally }

/-- Sectors of a region (Table 16.5). -/
def regionSectors (fatal : Bool) : Nat := if fatal then 383 else 2688
/-- First flash address of a region (Table 16.5). -/
def regionBase (fatal : Bool) : Nat := if fatal then 0x03001000 else 0x03180000

/-- The sector that takes the next record of a region: the last one begun while it has a free slot, else the lowest one not yet
begun; never the reserve and never a retired one (R379, R380). -/
def Region.openSector (r : Region) (fatal : Bool) : Option Nat :=
  let ok := fun (n : Nat) => n != r.reserve && !(r.bad.contains n)
  match r.sectors.find? (fun p => ok p.1 && decide (p.2.length < 64)) with
  | some p => some p.1
  | none => (List.range (regionSectors fatal)).find? (fun n => ok n && !((r.sectors.map (·.1)).contains n))
/-- The records of a sector. -/
def Region.sector (r : Region) (n : Nat) : List Rec := (assoc r.sectors n).getD []

/-- A record lies in the Fatal sub-region (Table 16.5). -/
def Rec.fatal (r : Rec) : Bool := r.cls == clsFE
/-- A record is a clear record, which lies in the clear area. -/
def Rec.isClear (r : Rec) : Bool := r.code == 0x0110

/-- The run of waiting records at the front that go into the same region. -/
def sameRun (r : Rec) : List Rec → List Rec
  | [] => []
  | q :: t => if q.isClear == r.isClear && (r.isClear || q.fatal == r.fatal) then q :: sameRun r t else []

/-- The next batch: at most four records of one page, in sequence order, with its sector and the place of its first slot (R376);
none when the region has no free slot outside its reserve. -/
def Tally.batch (t : Tally) : Option (List Rec × Nat × Nat) :=
  match t.waiting with
  | [] => none
  | r :: _ =>
    let run := sameRun r t.waiting
    if r.isClear then (if t.clears.length < 64 then some (run.take (min (64 - t.clears.length) (4 - t.clears.length % 4)), 0, t.clears.length) else none)
    else match (t.region r.fatal).openSector r.fatal with
      | none => none
      | some n =>
        let used := ((t.region r.fatal).sector n).length
        some (run.take (4 - used % 4), n, used)

/-- The clear that a committed clear record makes (R387). -/
def clearOf (r : Rec) : Clear := { scope := rd r.payload 0 1, bound := rd r.payload 2 6 }

/-- A batch is in flash (R376): byte 63 of every record of it is written, and the clears among it take effect (R387). -/
def Tally.store (t : Tally) (l : List Rec) (n : Nat) : Tally :=
  let left := t.waiting.drop l.length
  let t := { t with waiting := left, recent := (l.reverse ++ t.recent).take (32768 - left.length) }
  match l with
  | [] => t
  | r :: _ =>
    if r.isClear then { t with clears := t.clears ++ l, named := t.named ++ l.map clearOf }
    else
      let g := t.region r.fatal
      t.setRegion r.fatal { g with sectors := assocSet g.sectors n (g.sector n ++ l) }

/-- The oldest eligible record of a region, a record named by a clear first (R380). -/
def Tally.victim (t : Tally) (fatal : Bool) (sev : Nat) : Option Rec :=
  let g := t.region fatal
  let held := (g.sectors.filter (fun p => !(g.bad.contains p.1))).flatMap (·.2)
  match minOn (fun r => (r.sequence : Int)) (held.filter t.isNamed) with
  | some r => some r
  | none => minOn (fun r => (r.sequence : Int)) (held.filter (t.eligible sev))

/-- The ineligible records of a sector under reclaim, as they are programmed again, with flag bit 1 (R380). -/
def Tally.carried (t : Tally) (c : Reclaim) : List Rec :=
  (((t.region c.fatal).sector c.sector).filter (fun r => !(t.eligible c.sev r))).map (fun r => { r with flags := Nat.lor r.flags 2 })
/-- The flash writes of a reclaim (R380): the ineligible records into the reserve, then the erase of the chosen sector. -/
def State.programReclaim (s : State) (c : Reclaim) : State :=
  let l := (s.tally.carried c).flatMap (fun r => recBytes r r.fmt 0)
  s.flashWrites (s.qspi.pages (regionBase c.fatal + 4096 * (s.tally.region c.fatal).reserve) l ++ [s.qspi.eraseSector (regionBase c.fatal + 4096 * c.sector)])
/-- A reclaim begins for the record at the front of the queue, which finds no free slot (R380). -/
def State.startReclaim (s : State) : State :=
  match s.tally.waiting with
  | [] => s
  | r :: _ =>
    match s.tally.victim r.fatal r.sev with
    | none => s
    | some v =>
      match ((s.tally.region r.fatal).sectors.find? (fun p => p.2.contains v)).map (·.1) with
      | some n =>
        let c : Reclaim := { fatal := r.fatal, sector := n, sev := r.sev }
        (s.modTally (fun t => { t with reclaim := some c })).programReclaim c
      | none => s

/-- TALLY_CLEAR commands whose record is committed complete (R387). -/
def State.finishClears (s : State) (l : List Rec) (status : Nat) : State :=
  let done := s.tally.pendingClear.filter (fun p => l.any (fun r => r.sequence == p.2))
  let s := s.modTally (fun t => { t with pendingClear := t.pendingClear.filter (fun p => !(l.any (fun r => r.sequence == p.2))) })
  s.forEach done (fun s p => s.complete p.1 status)

/-- Flash address of a slot of a region (Table 16.5). -/
def slotAddr (clear fatal : Bool) (n used : Nat) : Nat := (if clear then 0x03000000 else regionBase fatal) + 4096 * n + 64 * used
/-- A page program fails: 0x4005 with partition 4; the sector is retired from its region until the next start, and the records
wait for another slot. The clear area has one sector: a clear whose record it cannot take has not taken place. -/
def State.programFailed (s : State) (l : List Rec) (n used : Nat) : State :=
  match l with
  | [] => s
  | r :: _ =>
    let s := if r.isClear then
        (s.modTally (fun t => { t with waiting := t.waiting.filter (fun q => !(l.contains q)), clearBad := true })).finishClears l stNoResource
      else s.modTally (fun t => t.setRegion r.fatal { t.region r.fatal with bad := insertNew (t.region r.fatal).bad n })
    s.report 0x4005 dieUid ([4, 0, 0, 0] ++ le 4 (slotAddr r.isClear r.fatal n used))

/-- The two page programs of a batch (R376): bytes 0 to 62 of every record, then byte 63 of every record; an erased byte stays 0xFF. -/
def State.programBatch (s : State) (l : List Rec) (n used : Nat) : State :=
  match l with
  | [] => s
  | r :: _ =>
    let a := slotAddr r.isClear r.fatal n used
    let op := s.qspi.op 0x12 0x02
    let blank : List Byte := List.replicate 63 0xFF
    (s.flashWrites [(op, a, l.flatMap (fun q => (recBytes q q.fmt 0).take 63 ++ [0xFF])), (op, a, l.flatMap (fun _ => blank ++ [0xA5]))]).flashEnded
/-- TALLY_COMMIT (R376): a batch is committed; with no free slot a reclaim begins instead (R380). Nothing is programmed before
the start scan has ended (R384), during a reclaim, or once PWR_GOOD has fallen (R97). -/
def execTallyCommit (failed : Bool) (s : State) : Host.Outcome State Fault Refusal :=
  actIf (s.firmware && s.pwrGood && s.tally.scanned && s.tally.reclaim.isNone) s fun s =>
    match s.tally.batch with
    | none => s.startReclaim
    | some (l, n, used) =>
      let s := s.programBatch l n used
      if failed then s.programFailed l n used else (s.modTally (fun t => t.store l n)).finishClears l stOk

/-- TALLY_RECLAIM_DONE (R380): the ineligible records of the chosen sector stand in the reserve with flag bit 1 set, and the
erased sector is the reserve. -/
def execTallyReclaimDone (s : State) : Host.Outcome State Fault Refusal :=
  actIf (s.firmware && s.pwrGood) s fun s =>
    match s.tally.reclaim with
    | none => s
    | some c =>
      let g := s.tally.region c.fatal
      let kept := s.tally.carried c
      let sectors := assocDel g.sectors c.sector
      let sectors := if kept.isEmpty then sectors else assocSet sectors g.reserve kept
      (s.modTally (fun t => { t.setRegion c.fatal { g with sectors := sectors, reserve := c.sector } with reclaim := none })).flashEnded

/-- Records held, with their number up to `top`, from number `first` on, in ascending order; uncommitted ones with flag bit 3 (R385). -/
def State.heldRecords (s : State) (first top : Nat) : List (Rec × Nat) :=
  let t := s.tally
  let flash := (t.general.all ++ t.fatal.all ++ t.clears).filter (fun r => !(t.isNamed r))
  let l := flash.map (fun r => (r, 0)) ++ (t.waiting.filter (fun r => !(t.isNamed r))).map (fun r => (r, 8))
  sortOn (fun p => (p.1.sequence : Int)) (l.filter (fun p => decide (first ≤ p.1.sequence) && decide (p.1.sequence < top)))

/-- What a read of at most `n` records returns: the number after the last one, their count, and their bytes (R385, R386). -/
def State.readTally (s : State) (first n top : Nat) : Nat × Nat × List Byte :=
  let l := (s.heldRecords first top).take n
  let next := match l.getLast? with | some p => p.1.sequence + 1 | none => first
  (next, l.length, l.flatMap (fun p => recBytes p.1 s.trfOut p.2))

/-- A TALLY_READ completes (R385). -/
def State.serveRead (s : State) (ring first n len top : Nat) : State :=
  let (next, count, bytes) := s.readTally first (min n (len / 64)) top
  s.complete ring stOk (le 6 next ++ le 2 count) bytes

/-- A TALLY_READ is in progress on another ring: it waits for the start scan, or its output buffer is being written (R115). -/
def State.readInProgress (s : State) (ring : Nat) : Bool :=
  !s.tally.pendingRead.isEmpty || s.hif.cmds.any (fun r => r.num != ring && r.busy == some 0x70 && (match r.stage with | some (1, _) => false | _ => true))
/-- TALLY_READ (R115, R384, R385): during the start scan it waits for the scan's end. -/
def execTallyRead (d : Desc) (s : State) : Host.Outcome State Fault Refusal :=
  act s fun s =>
    let n := d.arg 16 4
    s.takeCmd d 0x70 [(8, 6), (16, 4)] 4294967295 (n == 0 || decide (d.len < 64) || d.len % 64 != 0) fun s =>
      if s.readInProgress d.ring then s.complete d.ring stNoResource
      else if s.tally.scanned then s.serveRead d.ring (d.arg 8 6) n d.len s.tally.next
      else s.modTally (fun t => { t with pendingRead := t.pendingRead ++ [(d.ring, d.arg 8 6, n, d.len, t.next)] })

/-- A clear's parameters outside their ranges (R387). -/
def badClear (b : List Byte) : Bool := decide (b.length < 64) || decide (1 < rd b 0 1) || !(isZero b 1 7 && isZero b 14 50)
/-- The clear area takes no further record (R387). -/
def Tally.clearFull (t : Tally) : Bool := t.clearBad || decide (64 ≤ t.clears.length + (t.waiting.filter Rec.isClear).length)
/-- Records that a clear names and none before it has named (R387). -/
def Tally.newlyNamed (t : Tally) (c : Clear) : Nat :=
  let one := { t with named := [c] }
  ((t.general.all ++ t.fatal.all ++ t.waiting).filter (fun r => one.isNamed r && !(t.isNamed r))).length
/-- The clear that has been authorised is recorded; its command waits for the record's commit (R387). -/
def State.recordClear (s : State) (ring : Nat) (c : Clear) (authority : Nat) : State :=
  let n := s.tally.newlyNamed c
  let sq := s.tally.next
  let s := s.note 0x0110 dieUid ([BitVec.ofNat 8 c.scope, BitVec.ofNat 8 authority] ++ le 6 c.bound ++ le 4 n)
  if s.tally.waiting.any (fun r => r.sequence == sq && r.isClear) then
    s.modTally (fun t => { t with pendingClear := t.pendingClear ++ [(ring, sq)] })
  else s.complete ring stNoResource
/-- TALLY_CLEAR (R387). -/
def execTallyClear (d : Desc) (s : State) : Host.Outcome State Fault Refusal :=
  act s fun s => s.takeCmd d 0x71 [] 368 (badClear d.buf) fun s =>
    s.authorised d 64 0x71 0 fun s a =>
      if s.tally.clearFull then s.complete d.ring stNoResource
      else s.recordClear d.ring { scope := rd d.buf 0 1, bound := rd d.buf 8 6 } a

/-- The previous stop was graceful: the newest 0x6004 is newer than the newest 0x6006 (R391). -/
def Tally.stopGraceful (t : Tally) : Bool :=
  let newest := fun (code : Nat) => (t.general.all.filter (fun r => r.code == code)).foldl (fun a r => max a (r.sequence + 1)) 0
  decide (newest 0x6006 < newest 0x6004)
/-- The newest record of a code in flash. -/
def Tally.newest (t : Tally) (code : Nat) : Option Rec := maxOn (fun r => (r.sequence : Int)) (t.general.all.filter (fun r => r.code == code))

/-- A core that produces no results: an unconsumed spare core, or a core of the unconsumed spare flock (R229, R243). -/
def State.idleCore (s : State) (u : Uid) : Bool :=
  let f := uidField u
  let k := uidFlock u
  let c := uidCore u
  !(s.core f k c).foldedOut && (s.flock f k).st != .folded && (s.flock f k).st != .retired
    && ((s.flock f k).spareCore == some c || (s.flock f k).logical.isNone)
/-- The open bin's detections are rebuilt from the Tally records of R229 whose hour no written bin holds: one per core and epoch, without
the records of cores that produce no results (R229, R231). Ranks are not kept over a start, so every result and fleece record that names a
rank counts. -/
def State.rebuildBin (s : State) : State :=
  let from_ := match s.gov.bins.getLast? with | some b => b.hour + 1 | none => 0
  let counts := fun (r : Rec) =>
    ((r.code == 0x7010 || r.code == 0x7001) && !s.idleCore r.uid) || r.code == 0x7011
      || ((r.code == 0x0504 || r.code == 0x0505) && rd r.payload 0 4 != 0xFFFFFFFF)
  let l := s.tally.general.all.filter (fun r => decide (from_ ≤ r.opSec / 3600) && counts r)
  let keys := l.map (fun r => (r.pcc, r.tbase / 10000000000, if r.code = 0x0504 ∨ r.code = 0x0505 then 0 else r.uid.toNat))
  { s with gov := { s.gov with open_ := { s.gov.open_ with det := s.gov.open_.det + keys.eraseDups.length } } }

/-- TALLY_SCAN (R384, R391): the start scan ends; invalid slots and duplicate pairs found are recorded once, the previous stop is
classified, and waiting reads are served. -/
def execTallyScan (invalid pairs : Nat) (s : State) : Host.Outcome State Fault Refusal :=
  actIf (s.firmware && !s.tally.scanned) s fun s =>
    let reads := s.tally.pendingRead
    let s := s.modTally (fun t => { t with scanned := true, pendingRead := [] })
    let s := ({ s with start := { s.start with graceful := s.tally.stopGraceful } } : State).rebuildBin
    let s := if invalid = 0 ∧ pairs = 0 then s else s.note 0x0112 dieUid (zeros 4 ++ le 4 invalid ++ le 4 pairs)
    s.forEach reads (fun s q => s.serveRead q.1 q.2.1 q.2.2.1 q.2.2.2.1 q.2.2.2.2)

/-- TOKEN_REFILL (R383): at each TBASE multiple of 10^9 ns every bucket that is not full gains one token. -/
def execTokenRefill (s : State) : Host.Outcome State Fault Refusal :=
  actIf (s.firmware && s.pwrGood) s fun s =>
    (s.advanceTo ((s.tbase / 1000000000 + 1) * 1000000000)).modTally (fun t =>
      { t with spent := (t.spent.filter (fun p => decide (1 < p.2))).map (fun p => (p.1, p.2 - 1)) })

/-- OPERATING_SECONDS (R378): every 60 s the count is written to the counters area. -/
def execOperatingSeconds (s : State) : Host.Outcome State Fault Refusal :=
  actIf (s.firmware && s.pwrGood) s fun s =>
    let s := s.advanceTo (s.tally.opSecAt + 60000000000)
    s.modTally (fun t => { t with opSec := s.opSeconds, opSecStored := s.opSeconds, opSecAt := t.opSecAt + (s.tbase - t.opSecAt) / 1000000000 * 1000000000 })

end Sys2Proof.Machine
end

