-- ==== Sys2Proof/Machine/Flags.lean ====
section
/-! DEFINITION. The registers of the set-up window as they read: identification, first-error latch, pin control, bootstrap,
aperture and interface state, each status bit computed from the state (R99, R100, R424 to R431). -/

namespace Sys2Proof.Machine

/-- A register of the window: offset, bytes, value. -/
structure WinReg where
  off : Nat
  bytes : Nat
  value : Nat
  deriving DecidableEq, Repr

/-- OTP is loaded: the start sequence has passed its first step (R425, Table 17.2). -/
def State.otpLoaded (s : State) : Bool := s.start.phase != .off && s.start.phase != .held

/-- BJ_STATE (R425). -/
def State.bjState (s : State) : Nat :=
  s.lcs + 16 * s.life.fuses + 256 * b2n (s.pair.active == some .b) + 512 * b2n s.pair.bothLost + 1024 * b2n s.follower.isSome
  + 2048 * b2n s.start.ready + 4096 * b2n s.emulated
/-- BJ_FWVER (R425): zero while no firmware runs. -/
def State.fwVersion (s : State) : Nat := if s.emulated then (match s.fw.running with | some i => i.version.toNat | none => 0) else 0
/-- BJ_PARAM0, BJ_PARAM1 and BJ_PARAM2 of the integration (R425). -/
def param0 : Nat := Config.fields + 2 ^ 8 * Config.rows + 2 ^ 12 * Config.cols + 2 ^ 16 * Config.flocks + 2 ^ 24 * Config.cores
def param1 : Nat := Config.lanes + 2 ^ 8 * Config.crooks + 2 ^ 16 * Config.linkTaps + 2 ^ 24 * Config.memTaps
def param2 : Nat := Config.sensors + 2 ^ 8 * Config.gusts + 2 ^ 16 * Config.monitors
def param2Fixed : Nat := 2 ^ 24 * 13 + 2 ^ 28 * 2 + 2 ^ 30 * 3
/-- BJ_PLACE (R425). -/
def place : Nat :=
  Config.shcField false + 2 ^ 8 * Config.shcField true + 2 ^ 16 * Config.voterField 0 + 2 ^ 24 * Config.voterField 1 + 2 ^ 32 * Config.voterField 2

/-- Identification registers (R425). -/
def State.identRegs (s : State) : List WinReg :=
  let otp := fun (v : Nat) => if s.otpLoaded then v else 0
  [⟨0x00, 4, Config.enterprise⟩, ⟨0x04, 4, Config.jep106⟩, ⟨0x08, 4, otp Config.partNumber.toNat⟩, ⟨0x0C, 4, 0x300 + otp Config.partRev.toNat⟩,
   ⟨0x10, 4, otp param0⟩, ⟨0x14, 4, otp param1⟩, ⟨0x18, 4, param2Fixed + otp param2⟩, ⟨0x20, 8, otp place⟩,
   ⟨0x28, 8, otp (Config.dieId.toNat % 2 ^ 64)⟩, ⟨0x30, 8, otp (Config.dieId.toNat / 2 ^ 64)⟩, ⟨0x38, 4, s.fwVersion⟩, ⟨0x3C, 4, s.bjState⟩]

/-- FERR_CTL (R426). -/
def Ferr.ctl (l : Ferr) : Nat :=
  b2n l.valid + 2 * b2n l.overflow + 4 * b2n l.feMerged + 16 * b2n l.fence + 32 * b2n l.nmi + 64 * b2n l.partrst + 128 * b2n l.reset
  + 256 * l.cls + 65536 * l.code
/-- First-error latch (R426). -/
def Ferr.regs (l : Ferr) : List WinReg :=
  [⟨0x40, 4, l.ctl⟩, ⟨0x44, 4, l.uid.toNat⟩, ⟨0x48, 8, l.tbase⟩, ⟨0x50, 8, l.sequence + 2 ^ 48 * l.merges⟩, ⟨0x58, 4, l.muids.length⟩]
  ++ (List.range 8).map (fun i => ⟨0x60 + 4 * i, 4, (l.muids.getD i 0).toNat⟩)

/-- PIN_CTL (R427). -/
def Pins.ctl (p : Pins) : Nat :=
  b2n p.err.modeReg + 2 * b2n p.fatal.modeReg + 2 ^ 8 * b2n p.err.held + 2 ^ 9 * b2n p.fatal.held + 2 ^ 16 * b2n p.err.low
  + 2 ^ 17 * b2n (p.fatal.low || p.wardenFatal) + 2 ^ 18 * b2n p.therm + 2 ^ 24 * b2n p.wardenFatal
/-- PIN_THERM (R427). -/
def Pins.thermReg (p : Pins) : Nat := p.thermField + 2 ^ 8 * b2n p.therm

/-- HIF_STATUS (R429). -/
def Hif.status (h : Hif) : Nat :=
  (match h.st with | .idle => 0 | .running => 1 | .hostLost => 2 | .bootFailed => 3) + 16 * b2n h.neg.isSome
  + 256 * (if h.st = .bootFailed then h.reason else 0)
/-- Bootstrap and aperture registers (R429, R430); HIF_CTRL reads as zero. -/
def Hif.regs (h : Hif) : List WinReg :=
  [⟨0x100, 8, h.cr0Base.toNat⟩, ⟨0x108, 4, h.cr0Size.toNat⟩, ⟨0x110, 8, h.er0Base.toNat⟩, ⟨0x118, 4, h.er0Size.toNat⟩,
   ⟨0x120, 8, h.dbAddr.toNat⟩, ⟨0x128, 8, h.stAddr.toNat⟩, ⟨0x138, 4, h.status⟩, ⟨0x180, 8, h.aptBase.toNat⟩, ⟨0x188, 8, h.aptLimit.toNat⟩]

/-- IFS_RINGS (R431). -/
def Hif.rings (h : Hif) : Nat :=
  h.cmds.length + 2 ^ 8 * h.evs.length + 2 ^ 16 * ((h.cmds.filter (·.stopped)).length + (h.evs.filter (·.stopped)).length)
/-- IFS_HB (R431): counted from the START of the bring-up until a first HEARTBEAT is taken. -/
def State.hbAge (s : State) : Nat :=
  if s.hif.st = .running ∨ s.hif.st = .hostLost then sat (2 ^ 32 - 1) ((s.tbase - s.hif.hbLast) / 1000000) else 0
/-- IFS_CAP0, IFS_CAP1 and IFS_STRC name the stack of the lowest memory tap in service (R297, R412). -/
def State.capTap (s : State) : Option Nat := s.upMems.head?
/-- IFS_FW (R431). -/
def Fw.ifs (w : Fw) : Nat :=
  (if w.step ≠ 0 then 3 else if w.deferred.isSome then 2 else if w.staged then 1 else 0) + 256 * w.deferred.getD 0
/-- The staged image: that of the slot which does not hold the running image (R364). -/
def Fw.stagedVersion (w : Fw) : Nat :=
  if w.staged then (match (if w.runningSlot = 0 then w.slotB else w.slotA) with | some i => i.version.toNat | none => 0) else 0

/-- Interface state (R431). -/
def State.ifsRegs (s : State) : List WinReg :=
  let sup := match s.fw.running with | some i => i.sup | none => []
  let low := match (s.heldRecords 0 (2 ^ 48)).head? with | some p => p.1.sequence | none => 0
  let cap := fun (i : Nat) => match s.capTap with | some t => (Config.captureAddr t i).toNat | none => 0
  [⟨0x1A0, 8, fromLe (s.hif.neg.getD []) + 2 ^ 48 * (match s.fw.running with | some i => i.contract | none => 0)⟩,
   ⟨0x1A8, 4, s.hif.rings⟩, ⟨0x1AC, 4, s.hbAge⟩, ⟨0x1B0, 8, s.life.challenge.toNat⟩, ⟨0x1B8, 8, low⟩, ⟨0x1C0, 8, s.tally.next - 1⟩,
   ⟨0x1C8, 8, s.tally.dropped⟩, ⟨0x1D0, 8, cap 0⟩, ⟨0x1D8, 8, cap 1⟩,
   ⟨0x1E0, 8, match s.trace.stack, s.capTap with | some _, some t => (Config.traceAddr t).toNat | _, _ => 0⟩,
   ⟨0x1E8, 4, match s.recovery.lastSlot, s.capTap with | some i, some _ => 2 + i | _, _ => 0⟩, ⟨0x1F0, 4, s.fw.ifs⟩, ⟨0x1F8, 4, s.fw.stagedVersion⟩,
   ⟨0x200, 8, fromLe (sup.take 8)⟩, ⟨0x208, 4, fromLe (sup.drop 8)⟩,
   ⟨0x210, 8, if s.job.active then fromLe (s.job.ver.getD []) + 2 ^ 40 else 0⟩]

/-- Every register of the window. -/
def State.windowRegs (s : State) : List WinReg :=
  s.identRegs ++ s.ferr.regs ++ [⟨0x80, 4, s.pins.ctl⟩, ⟨0x84, 4, s.pins.thermReg⟩, ⟨0xA0, 4, b2n s.hif.lock⟩] ++ s.hif.regs ++ s.ifsRegs

/-- The four bytes of the window at an aligned offset; a reserved offset reads as zero (R100). -/
def State.windowWord (s : State) (off : Nat) : Nat :=
  match s.windowRegs.find? (fun r => decide (r.off ≤ off) && decide (off < r.off + r.bytes)) with
  | some r => r.value / 2 ^ (8 * (off - r.off)) % 2 ^ 32
  | none => 0

/-- What a read of the window answers: none is ERROR, while no firmware runs at an emulated offset, or while both Shepherds are
lost (R100, R424). In a switch-over gap a read at an emulated offset is held, and answered so from the state when the gap ends. -/
def State.readWindow (s : State) (off size : Nat) : Option Nat :=
  if s.pair.bothLost || (decide (0x100 ≤ off) && !s.emulated) then none
  else if size = 8 then some (s.windowWord off + 2 ^ 32 * s.windowWord (off + 4))
  else some (s.windowWord off)

end Sys2Proof.Machine
end

