-- ==== Sys2Proof/Machine/Packs.lean ====
section
/-! DEFINITION. Packs: staging, activation, and the content pager's verified copy (R131 to R139); and the end of a flash slot's
programming, of packs and firmware alike (R135, R362). -/

namespace Sys2Proof.Machine

/-- A directory entry of a pack (Table 5.3), with its body. -/
def patternOf (b : List Byte) (dir i : Nat) : Pattern :=
  let o := dir + 64 * i
  { body := (b.drop (rd b o 4)).take (rd b (o + 4) 4), cls := rd b (o + 8) 1, guard := bit (rd b (o + 9) 1) 0, quiet := bit (rd b (o + 9) 1) 1
    runtime := rd b (o + 12) 4, footprint := rd b (o + 16) 2, misr := BitVec.ofNat 64 (rd b (o + 24) 8), weight := BitVec.ofNat 32 (rd b (o + 32) 4)
    rate := BitVec.ofNat 32 (rd b (o + 36) 4), id := rd b (o + 40) 4 }
/-- A directory entry breaks Table 5.3, or its body lies outside the pack (R135). -/
def badEntry (b : List Byte) (dir i : Nat) : Bool :=
  let o := dir + 64 * i
  let off := rd b o 4
  let len := rd b (o + 4) 4
  let fp := rd b (o + 16) 2
  let w := ratOf32 (BitVec.ofNat 32 (rd b (o + 32) 4))
  off % 64 != 0 || len % 64 != 0 || decide (fp < 65) || decide (512 < fp) || decide ((fp - 64) * 64 < len) || decide (5 < rd b (o + 8) 1)
  || decide (3 < rd b (o + 9) 1) || !(isZero b (o + 10) 2 && isZero b (o + 18) 6 && isZero b (o + 44) 20)
  || decide (rd b (o + 12) 4 < 500) || decide (50000 < rd b (o + 12) 4)
  || (match w with | some r => decide (r < 0) || decide (1 < r) | none => true) || decide (b.length < off + len)
/-- A pack breaks its format (R132, R135). -/
def badPack (d : Desc) : Bool :=
  let b := d.buf
  let n := rd b 20 4
  let dir := rd b 24 4
  rd b 28 4 != d.len || decide (16777216 < d.len) || b.length != d.len || b.take 4 != [0x47, 0x50, 0x4B, 0x32] || decide (1 < rd b 5 1)
  || rd b 6 2 != 256 || rd b 40 4 != Config.partNumber.toNat || !isZero b 44 212 || n == 0 || decide (4096 < n) || dir % 64 != 0
  || decide (b.length < dir + 64 * n + 96) || (List.range n).any (fun i => badEntry b dir i)
/-- The pack a buffer holds (Table 5.2). The last 96 bytes are r and s, big-endian; what their check finds is the operand's (log 17). -/
def packOf (d : Desc) : Pack :=
  let b := d.buf
  { ver := rd b 4 1, key := rd b 5 1, id := rd b 8 4, serial := rd b 12 4, floor := rd b 16 4, sigMaker := d.sigKey == some Config.makerHash, sigOwner := d.sigKey
    created := rd b 32 8, sig := b.drop (b.length - 96), patterns := (List.range (rd b 20 4)).map (fun i => patternOf b (rd b 24 4) i) }

/-- A pack slot of the flash. -/
def Screen.slot (c : Screen) (i : Nat) : Option Pack := if i = 0 then c.slot0 else c.slot1
/-- Write a pack slot. -/
def Screen.setSlot (c : Screen) (i : Nat) (p : Option Pack) : Screen := if i = 0 then { c with slot0 := p } else { c with slot1 := p }
/-- Change the packs. -/
def State.modScreen (s : State) (g : Screen → Screen) : State := { s with screen := g s.screen }

/-- A pack's signature verifies under the key it names (R135). -/
def State.packVerifies (s : State) (p : Pack) : Bool :=
  if p.key = 0 then p.sigMaker else s.life.packKeyHash.isSome && p.sigOwner == s.life.packKeyHash

/-- Flash address of a pack slot (Table 16.1). -/
def packBase (i : Nat) : Nat := 0x01000000 + 0x01000000 * i
/-- PACK_STAGE (R135): the slot's blocks are erased, its pages programmed, the first one last. -/
def execPackStage (d : Desc) (s : State) : Host.Outcome State Fault Refusal :=
  act s fun s =>
    let i := d.arg 8 1
    s.takeCmd d 0x20 [(8, 1)] 16777216 (decide (1 < i) || i == s.screen.active || badPack d) fun s =>
      let p := packOf d
      s.checked d.ring [(p.ver != (s.hif.neg.getD []).getD 1 0, stVersion), (!s.packVerifies p || decide (p.serial < s.screen.floor), stAuth),
          (s.screen.staging.isSome, stNoResource)] fun s =>
        let s := s.modScreen (fun c => { c.setSlot i none with staging := some (d.ring, i, p), blockFails := 0 })
        s.stageFile (packBase i) d.buf

/-- The pager reads a slot from the flash (R137, Table 3.2). -/
def State.copyFrom (s : State) (i : Nat) : State := (s.modScreen (fun c => { c with copying := some i })).flashRead (packBase i)
/-- PACK_ACTIVATE (R136). -/
def execPackActivate (d : Desc) (s : State) : Host.Outcome State Fault Refusal :=
  act s fun s =>
    let i := d.arg 8 1
    s.takeCmd d 0x21 [(8, 1)] 0 (decide (1 < i)) fun s =>
      match s.screen.slot i with
      | none => s.complete d.ring stNoResource
      | some p =>
        let s := (s.modScreen (fun c => { c with active := i, floor := max c.floor p.floor })).copyFrom i
        (s.note 0x7007 dieUid ([BitVec.ofNat 8 i, 0, 0, 0] ++ le 4 p.id ++ le 4 p.serial)).complete d.ring stOk

/-- Every core's pass progress restarts; its screened status is kept (R136). The restart counts for the cores that are not listed
as well. -/
def State.restartPasses (s : State) : State :=
  (s.modScreen (fun c => { c with since := s.tbase })).forEach (s.cores.map (fun p => (p.1 / 2048, p.1 / 32 % 64, p.1 % 32))) (fun s p =>
    s.modCore p.1 p.2.1 p.2.2 (fun x => { x with used := [], skipped := 0, passBegan := s.tbase, passNo := 0, passDirty := false, unfitRuns := []
                                                 guardFails := [] }))

/-- A slot cannot be run: 0x7008, and the other slot is tried when it is not empty and its serial not below the floor (R137). DESIGN
CHOICE: so it is as well when the copy of a newly activated pack does not verify (R136 does not say), and when neither slot qualifies
no pattern runs. -/
def State.packInvalid (s : State) (i reason : Nat) (other : Bool) : State :=
  let s := s.report 0x7008 dieUid [BitVec.ofNat 8 i, BitVec.ofNat 8 reason]
  let next := if other then (match s.screen.slot (1 - i) with | some p => if s.screen.floor ≤ p.serial then some (1 - i) else none | none => none) else none
  match next with
  | some n => s.copyFrom n
  | none => s.modScreen (fun c => { c with copying := none, running := none })

/-- The pager begins with the active slot (R137). -/
def State.startPager (s : State) : State :=
  match s.screen.slot s.screen.active with
  | some _ => s.copyFrom s.screen.active
  | none => s.packInvalid s.screen.active 0 true

/-- The patterns that the seventeen cores of a flock start with, at most eight (R139, R144). -/
def firstPatterns (n : Nat) : List Nat := ((((List.range Config.cores).map (fun c => c * 97 % n))).eraseDups).take 8

/-- PACK_COPY_VERIFIED (R132, R136, R137, R390): the Drovers switch to the pack, and screening starts. A pack whose serial lies below the
floor is not run: 0x7008 with reason 2. -/
def execPackCopyVerified (ok : Bool) (s : State) : Host.Outcome State Fault Refusal :=
  actIf s.firmware s fun s =>
    match s.screen.copying with
    | none => s
    | some i =>
      match s.screen.slot i with
      | none => s.packInvalid i 0 (i == s.screen.active)
      | some p =>
        if !(ok && s.packVerifies p) then s.packInvalid i 1 (i == s.screen.active)
        else if p.serial < s.screen.floor then s.packInvalid i 2 (i == s.screen.active)
        else
          let s := s.modScreen (fun c => { c with running := some p, runningSlot := i, gen := c.gen + 1, copying := none })
          let s := s.forEach s.upFields (fun s f => (s.modField f (fun fd => { fd with pack := s.screen.gen, store := [] })).refill f (firstPatterns p.patterns.length))
          let s := (s.restartPasses).placeCopies
          { s with start := { s.start with screening := true } }

/-- Failures so far of the block that fails now: each block has its own three (R135). -/
def blockTries (last fails block : Nat) : Nat := if last = block then fails else 0
/-- The firmware slot's programming has ended (R362). -/
def State.fwWritten (s : State) (ok : Bool) (block : Nat) : State :=
  match s.fw.staging with
  | none => s
  | some (ring, i) =>
    let n := 1 - s.fw.runningSlot
    if ok then
      let s := (s.stageEnded (fwBase n)).modFw (fun w => { w.setSlot n (some i) with staged := true, staging := none, blockFails := 0 })
      (s.noteUpdate 0 0 (some i)).complete ring stOk
    else if blockTries s.fw.failBlock s.fw.blockFails block < 2 then
      (s.modFw (fun w => { w with failBlock := block, blockFails := blockTries w.failBlock w.blockFails block + 1 })).blockAgain (fwBase n) block
    else
      let (s, v) := s.freeVal
      let s := (s.modFw (fun w => { w with staging := none, blockFails := 0 })).stageFailed (fwBase n)
      (s.report 0x4005 dieUid ([BitVec.ofNat 8 n, 0, 0, 0] ++ le 4 v.toNat)).complete ring stNoResource
/-- The pack slot's programming has ended (R135). -/
def State.packWritten (s : State) (ok : Bool) (block : Nat) : State :=
  match s.screen.staging with
  | none => s
  | some (ring, i, p) =>
    if ok then ((s.stageEnded (packBase i)).modScreen (fun c => { c.setSlot i (some p) with staging := none, blockFails := 0 })).complete ring stOk
    else if blockTries s.screen.failBlock s.screen.blockFails block < 2 then
      (s.modScreen (fun c => { c with failBlock := block, blockFails := blockTries c.failBlock c.blockFails block + 1 })).blockAgain (packBase i) block
    else (((s.modScreen (fun c => { c with staging := none, blockFails := 0 })).stageFailed (packBase i)).report 0x7008 dieUid [BitVec.ofNat 8 i, 3]).complete ring stNoResource

/-- FLASH_SLOT_WRITTEN (R135, R362): the slot is written and read back, or one of its 64 KiB blocks has failed, which is programmed
again; after a block's third failure the command ends. -/
def execFlashSlotWritten (pack ok : Bool) (s : State) (block : Nat := 0) : Host.Outcome State Fault Refusal :=
  actIf (s.firmware && s.pwrGood) s fun s => if pack then s.packWritten ok block else s.fwWritten ok block

end Sys2Proof.Machine
end

