-- ==== Sys2Proof/Machine/Observe.lean ====
section
/-! DEFINITION. Observation: counter snapshots (R417), the trace configuration, its blocks and the pacer (R410 to R416), the end of
a job, the idle-slot tables (R140, R141) and the health report (R267). -/

namespace Sys2Proof.Machine

/-- Body of a counter snapshot (R417). -/
def snapBody (group : Nat) (uid : Uid) (cycles : Nat) (l : List Nat) : List Byte :=
  le 1 group ++ zeros 1 ++ le 2 l.length ++ le 4 uid.toNat ++ le 8 cycles ++ l.flatMap (le 8)
/-- Group 0x03 of a flock (Table 18.5). -/
def Flock.group3 (fl : Flock) : List Nat := fl.issued ++ [fl.retired, fl.stalls, fl.kills, fl.timeouts]
/-- Group 0x04 of a flock. -/
def Flock.group4 (fl : Flock) : List Nat := [fl.energy, fl.fillerEnergy, fl.jobEnergy]
/-- Age of a tracker at a core-cycle count: every cycle in which it is held, the issue cycle included (R417). -/
def Tracker.ageAt (t : Tracker) (now : Nat) : Nat := if t.held then now - t.issueCycle + 1 else t.age
/-- Group 0x08 of a flock. -/
def Flock.group8 (fl : Flock) (now : Nat) : List Nat := (List.range 64).flatMap (fun i => [(fl.tracker i).ageAt now, (fl.tracker i).total])

/-- The entries that a Drover writes in a snapshot: its cores, flocks, field and Earmark engines. -/
def State.snapField (s : State) (f : Nat) : State :=
  let now := s.cycleCount f
  let one := fun (s : State) (g : Nat) (u : Uid) (l : List Nat) => s.traceDrover f 0x30 (snapBody g u now l)
  let s := s.forEach (List.range Config.flocks) (fun s k =>
    let s := s.forEach (List.range Config.cores) (fun s c => one s 1 (coreUid f k c) (s.core f k c).counters)
    let u := flockUid f k
    let fl := s.flock f k
    one (one (one (one s 2 u fl.counters) 3 u fl.group3) 4 u fl.group4) 8 u (fl.group8 now))
  let s := one s 5 (fieldUid f) (s.field f).counters
  s.forEach ((List.range Config.linkTaps).filter (fun t => Config.linkField t == f)) (fun s t => one s 6 (engineUid t) (s.tap t).counters)

/-- A snapshot of every counter group of every unit (R417). -/
def State.snapshot (s : State) : State :=
  let s := s.dieCount 4 1
  let s := s.forEach ((List.range Config.fields).filter s.droverUp) (fun s f => (s.syncField f).snapField f)
  s.traceShc 0x30 (snapBody 7 dieUid 0 s.trace.counters)

/-- SNAPSHOT (R417): at the snapshot period. -/
def execSnapshot (s : State) : Host.Outcome State Fault Refusal :=
  actIf (s.firmware && s.trace.snapMs != 0) s fun s =>
    let s := s.advanceTo (s.trace.snapAt + s.trace.snapMs * 1000000)
    ({ s with trace := { s.trace with snapAt := s.tbase } } : State).snapshot

/-- JOB_END (R39, R118, R417): the snapshot, then the job's end; the result says whether the job was timing-clean. -/
def execJobEnd (d : Desc) (s : State) : Host.Outcome State Fault Refusal :=
  act s fun s => s.takeCmd d 0x11 [] 0 (!s.job.active) fun s =>
    let clean := s.job.clean
    let changes := s.job.changes
    ((s.snapshot).endJob).complete d.ring stOk (le 1 (b2n clean) ++ zeros 3 ++ le 4 (sat (2 ^ 32 - 1) changes))

/-- A ring that TRACE_CONFIG defines, when its flag is set. -/
def newRing (on : Bool) (base blocks : Nat) : Option TraceRing := if on then some { base := base, blocks := blocks } else none

/-- A trace configuration outside its ranges (R412, Table 18.3), or a stack trace ring with no memory tap in service (R138). -/
def State.badTrace (s : State) (b : List Byte) : Bool :=
  let fl := rd b 0 1
  let ms := rd b 4 4
  let in_ := fun (lo hi v : Nat) => decide (lo ≤ v) && decide (v ≤ hi)
  let badRing := fun (on : Bool) (base n : Nat) => on && (base % 4096 != 0 || !s.hif.inside base (4096 * n))
  decide (b.length ≠ 64) || decide (15 < fl) || decide (1 < rd b 1 1) || decide (1 < rd b 2 1) || decide (3 < rd b 3 1)
  || !(ms == 0 || in_ 10 3600000 ms) || !in_ 16 65536 (rd b 16 4) || !in_ 16 2048 (rd b 20 4) || !in_ 1 4096 (rd b 32 4) || !in_ 1 30 (rd b 36 2)
  || !(isZero b 38 2 && isZero b 48 16) || badRing (bit fl 0) (rd b 8 8) (rd b 16 4) || badRing (bit fl 2) (rd b 24 8) (rd b 32 4)
  || (bit fl 1 && s.upMems.isEmpty)
/-- The trace settings that a configuration makes: its rings start anew, and the snapshot period from now (R412, Table 18.3). -/
def Trace.configured (t : Trace) (b : List Byte) (now : Nat) : Trace :=
  let fl := rd b 0 1
  { t with
    droverStop := rd b 1 1 == 1, shcStop := rd b 2 1 == 1, minLevel := rd b 3 1, snapMs := rd b 4 4, pacer := rd b 36 2, mask := BitVec.ofNat 64 (rd b 40 8)
    host := newRing (bit fl 0) (rd b 8 8) (rd b 16 4), stack := newRing (bit fl 1) 0 (rd b 20 4), log := newRing (bit fl 2) (rd b 24 8) (rd b 32 4)
    snapAt := now }
/-- TRACE_CONFIG (R412, Table 18.3). -/
def execTraceConfig (d : Desc) (s : State) : Host.Outcome State Fault Refusal :=
  act s fun s => s.takeCmd d 0x90 [] 64 (s.badTrace d.buf) fun s =>
    let s : State := { s with trace := s.trace.configured d.buf s.tbase }
    (if bit (rd d.buf 0 1) 3 then s.snapshot else s).complete d.ring stOk

/-- Bytes of a trace entry (Table 18.1). -/
def TraceEntry.bytes (e : TraceEntry) : List Byte :=
  let n := ceilDiv e.body.length 8
  le 1 e.typ ++ le 1 n ++ le 2 e.sn ++ le 4 e.uid.toNat ++ le 8 e.tbase ++ fit (8 * n) e.body
/-- The first entries that fit into a room. -/
def takeFit {α : Type} (size : α → Nat) : Nat → List α → List α
  | _, [] => []
  | room, e :: t => if size e ≤ room then e :: takeFit size (room - size e) t else []
/-- A 4 KiB block (R413, Table 18.4). -/
def blockBytes (sn tbase ring lost : Nat) (es : List TraceEntry) : List Byte :=
  let l := es.flatMap TraceEntry.bytes
  le 8 sn ++ le 8 tbase ++ le 2 l.length ++ le 1 ring ++ zeros 1 ++ le 4 (sat (2 ^ 32 - 1) lost) ++ zeros 39 ++ [0xA5] ++ fit 4032 l

/-- The free slots of the host trace ring, the stack trace ring and the host log ring, as their valid marks are read. -/
structure RingRoom where
  host : Nat := 0
  stack : Nat := 0
  log : Nat := 0
  deriving DecidableEq, Repr

/-- Observation bytes that the pacer allows in a window (R415). -/
def State.allowance (s : State) : Nat := s.trace.pacer * Config.attachBytes / 1000
/-- One more block fits into the present window. -/
def State.paced (s : State) : Bool := decide (s.trace.used + 4096 ≤ s.allowance)
/-- Change the trace configuration. -/
def State.modTrace (s : State) (g : Trace → Trace) : State := { s with trace := g s.trace }

/-- A host ring takes a block: bytes 64-4095, then 0-62, then byte 63 (R413). -/
def State.hostBlock (s : State) (r : TraceRing) (b : List Byte) : State :=
  let a := r.base + 4096 * (r.next % r.blocks)
  (((s.hostWrite (a + 64) (b.drop 64)).hostWrite a (b.take 63)).hostWrite (a + 63) [0xA5]).modTrace (fun t => { t with used := t.used + 4096 })
/-- A host ring exists and may be written now (R128, R414, R430). -/
def State.hostRing (s : State) (r : Option TraceRing) : Option TraceRing :=
  match r with
  | some r => if s.hif.st != .hostLost && s.hif.inside r.base (4096 * r.blocks) then some r else none
  | none => none

/-- The active Shepherd's trace buffer. -/
def State.shcTrace (s : State) : TraceBuf := match s.activeShc with | some b => (s.pair.shc b).trace | none => {}
/-- Change the active Shepherd's trace buffer. -/
def State.modShcTrace (s : State) (g : TraceBuf → TraceBuf) : State :=
  match s.activeShc with | some b => s.modShc b (fun x => { x with trace := g x.trace }) | none => s
/-- Entries that wait for a trace block: the Drovers' in ascending field, then the active Shepherd's; a log entry goes into the log
ring first. -/
def State.waitingEntries (s : State) : List TraceEntry :=
  ((List.range Config.fields).filter s.droverUp).flatMap (fun f => (s.field f).trace.entries)
    ++ s.shcTrace.entries.filter (fun e => e.typ != 1 || e.logged || s.trace.log.isNone)
/-- Entries that a written block holds are freed, and the loss counts start anew (R414, R416). -/
def State.freeEntries (s : State) (es : List TraceEntry) : State :=
  let cut := fun (b : TraceBuf) => { b with entries := b.entries.filter (fun e => !(es.contains e)), lost := 0 }
  let s := s.forEach ((List.range Config.fields).filter s.droverUp) (fun s f => s.modField f (fun fd => { fd with trace := cut fd.trace }))
  s.modShcTrace cut
/-- Entries lost since the last trace block. -/
def State.traceLost (s : State) : Nat :=
  ((List.range Config.fields).filter s.droverUp).foldl (fun n f => n + (s.field f).trace.lost) s.shcTrace.lost

/-- One block of the log ring (R413). -/
def State.logBlock (s : State) (r : RingRoom) : State × RingRoom :=
  match s.hostRing s.trace.log with
  | none => (s, r)
  | some g =>
    let es := takeFit TraceEntry.size 4032 (s.shcTrace.entries.filter (fun e => e.typ == 1 && !e.logged))
    if es.isEmpty || r.log == 0 || !s.paced then (s, r)
    else
      let s := s.hostBlock g (blockBytes g.next s.tbase 1 s.shcTrace.lostLog es)
      let s := s.modTrace (fun t => { t with log := some { g with next := g.next + 1 } })
      (s.modShcTrace (fun b => { b with lostLog := 0, entries := b.entries.map (fun e => if es.contains e then { e with logged := true } else e) }),
        { r with log := r.log - 1 })

/-- One block of the trace rings: each ring that has room takes it, and its entries are freed (R413, R414). -/
def State.traceBlock (s : State) (r : RingRoom) : State × RingRoom :=
  let es := takeFit TraceEntry.size 4032 s.waitingEntries
  if es.isEmpty then (s, r)
  else
    let lost := s.traceLost
    let (s, r, a) := match s.hostRing s.trace.host with
      | some g => if r.host = 0 ∨ !s.paced then (s, r, false)
        else ((s.hostBlock g (blockBytes g.next s.tbase 0 lost es)).modTrace (fun t => { t with host := some { g with next := g.next + 1 } }),
          { r with host := r.host - 1 }, true)
      | none => (s, r, false)
    let (s, r, b) := match s.trace.stack with
      | some g => if r.stack = 0 ∨ !s.paced ∨ s.homeMem.isNone then (s, r, false)
        else ((s.send (.stackBlock (g.next % g.blocks) (blockBytes g.next s.tbase 0 lost es))).modTrace
          (fun t => { t with used := t.used + 4096, stack := some { g with next := g.next + 1 } }), { r with stack := r.stack - 1 }, true)
      | none => (s, r, false)
    (if a || b then s.freeEntries es else s, r)

/-- Entries wait although a ring has room for them. -/
def State.heldByPacer (s : State) (r : RingRoom) : Bool :=
  !s.paced && !s.waitingEntries.isEmpty
    && (((s.hostRing s.trace.host).isSome && r.host != 0) || (s.trace.stack.isSome && s.homeMem.isSome && r.stack != 0))

/-- PACER_WINDOW (R415): a 10 us window of TBASE begins, and blocks go out up to its allowance; traffic beyond it waits. Wait-table
reads beyond the last window's allowance are traffic of this one. -/
def execPacerWindow (hostFree stackFree logFree : Nat) (s : State) : Host.Outcome State Fault Refusal :=
  actIf s.firmware s fun s =>
    let s := s.advanceTo ((s.tbase / 10000 + 1) * 10000)
    let s := s.modTrace (fun t => { t with windowAt := s.tbase, used := t.used - s.allowance })
    let (s, r) := (List.range (s.allowance / 4096)).foldl (fun (q : State × RingRoom) _ =>
      let (s, r) := q.1.logBlock q.2
      s.traceBlock r) (s, { host := hostFree, stack := stackFree, log := logFree })
    if s.heldByPacer r then s.dieCount 3 10 else s

/-- Entry `i` of an idle-slot table: field, and the entry (Table 5.4). -/
def idleEntry (b : List Byte) (i : Nat) : Nat × IdleEntry :=
  let o := 16 + 16 * i
  (rd b o 1, { flock := rd b (o + 1) 1, slot := rd b (o + 2) 1, quiet := bit (rd b (o + 3) 1) 0, w := rd b (o + 4) 6, len := rd b (o + 10) 4 })
/-- Windows of one logical slot in their order: ascending, without overlap. -/
def windowsOk : List IdleEntry → Bool
  | [] => true
  | [_] => true
  | a :: b :: t => decide (a.w + a.len ≤ b.w) && windowsOk (b :: t)
/-- An idle-slot table breaks R141. -/
def State.badIdle (s : State) (b : List Byte) (dom : Uid) : Bool :=
  let n := rd b 0 4
  let es := (List.range n).map (idleEntry b)
  let key := fun (p : Nat × IdleEntry) => (p.1, p.2.flock, p.2.slot)
  let lone := if uidLevel dom = 2 then (s.flock (uidField dom) (uidFlock dom)).logical else none
  !isDomain dom || decide (n = 0) || decide (131072 < n) || decide (b.length ≠ 16 + 16 * n) || !isZero b 4 12
  || (List.range n).any (fun i => decide (1 < rd b (16 + 16 * i + 3) 1) || !isZero b (16 + 16 * i + 14) 2)
  || es.any (fun p => decide (Config.fields ≤ p.1) || !domHasField dom p.1 || decide (Config.logicalFlocks ≤ p.2.flock)
      || decide (Config.slots ≤ p.2.slot) || decide (p.2.len < 1024) || (uidLevel dom == 2 && lone != some p.2.flock))
  || ((es.map key).eraseDups).any (fun q =>
      let l := (es.filter (fun p => key p == q)).map (·.2)
      decide (4096 < l.length) || !windowsOk l)

/-- The entries that a field's table of an identifier will hold after a load: those outside the domain stay (R141). -/
def State.idleAfter (s : State) (f runId : Nat) (dom : Uid) (new : List IdleEntry) : List IdleEntry :=
  let lone := if uidLevel dom = 2 then (s.flock (uidField dom) (uidFlock dom)).logical else none
  let old := match (s.field f).tables.find? (fun t => t.runId == runId) with | some t => t.entries | none => []
  (match lone with | some l => old.filter (fun e => e.flock != l) | none => []) ++ new
/-- Identifiers for which a field would hold a table. -/
def Field.identifiers (fd : Field) : List Nat := (fd.tables.filter (fun t => !t.entries.isEmpty)).map (·.runId)

/-- IDLE_TABLE_LOAD (R140, R141): the identifier's entries inside the domain are replaced from its next run start; a flock in the middle of a run
keeps the windows that its run start found. -/
def execIdleTableLoad (d : Desc) (s : State) : Host.Outcome State Fault Refusal :=
  let runId := d.arg 8 2
  let dom := d.uid 12
  act s fun s => s.takeCmd d 0x13 [(8, 2), (12, 4)] 2097168 (s.badIdle d.buf dom) fun s =>
    let es := (List.range (rd d.buf 0 4)).map (idleEntry d.buf)
    let plan := (domFields dom).map (fun f => (f, s.idleAfter f runId dom ((es.filter (fun p => p.1 == f)).map (·.2))))
    let full := plan.any (fun p => !p.2.isEmpty && decide (64 < (insertNew (s.field p.1).identifiers runId).length))
    s.checked d.ring [(full, stNoResource)] fun s =>
      let s := s.forEach plan (fun s p =>
        if p.2.isEmpty && !((s.field p.1).tables.any (fun t => t.runId == runId)) then s
        else s.modField p.1 (fun fd =>
          if fd.tables.any (fun t => t.runId == runId) then
            { fd with tables := fd.tables.map (fun t => if t.runId = runId then { t with entries := p.2 } else t) }
          else { fd with tables := fd.tables ++ [{ runId := runId, entries := p.2 }] }))
      s.complete d.ring stOk

/-- A field entry of the health report (Table 10.8). A field without a baseline reports a free value for it: the table gives
only the current code a value that says it is unavailable. -/
def State.healthField (s : State) (f : Nat) : List Byte :=
  let fd := s.field f
  let code := fun (o : Option Int) => match o with | some v => toTwos 8 v | none => 0x80
  let spare := if (s.flock f (s.spareOf f)).logical.isSome then 1 else if s.spareFlockEligible f then 0 else 2
  le 4 (fieldUid f).toNat ++ le 1 (match fd.pad with | .inService => 0 | .off => 1 | .lost => 2) ++ le 1 spare 
  ++ le 1 (match fd.baseline with | some v => toTwos 8 v | none => (Config.freeValue (s.free + f)).toNat % 256)
  ++ le 1 (code fd.vmin) ++ le 4 (if Config.memFields.contains f then fd.rowsRepaired else 0) ++ zeros 4
/-- A flock entry of the health report (Table 10.9). No core serves a disabled slot, so bits 4:0 of its byte are a free value. -/
def State.healthFlock (s : State) (f k : Nat) : List Byte :=
  let fl := s.flock f k
  let core := fun (j : Nat) => if fl.disabled.contains j then (Config.freeValue (s.free + 64 + 32 * (64 * f + k) + j)).toNat % 32 else fl.coreOf j
  let slot := fun (j : Nat) => core j + 64 * b2n (fl.disabled.contains j) + 128 * b2n (fl.thinPending.contains j || fl.wholeThin)
  le 4 (flockUid f k).toNat ++ le 1 (fl.logical.getD 0xFF) ++ le 1 (fl.st.code + 128 * b2n (fl.foldPending || fl.wholeThin)) ++ le 1 (toTwos 8 fl.trim)
  ++ le 1 ((s.unconsumedSpare f k).getD 0xFF) ++ fit 31 ((List.range Config.slots).flatMap (fun j => le 1 (slot j))) ++ zeros 9
/-- A core entry of the health report (Table 10.10). -/
def State.healthCore (s : State) (f k c : Nat) : List Byte :=
  let x := s.core f k c
  let open_ := match x.retest with | some r => r.open_ | none => false
  le 4 (coreUid f k c).toNat ++ le 1 (x.st.code + 128 * b2n x.foldPending) ++ le 1 (((s.flock f k).slotOf c).getD 0xFF) ++ le 1 (toTwos 8 x.step)
  ++ le 1 x.laneSkip ++ le 1 (b2n x.screened + 2 * b2n open_) ++ le 1 x.retestCount ++ le 2 x.lastSkipped ++ le 2 x.used.length
  ++ le 2 (s.rotation f k c).length ++ le 8 x.lastPassEnd ++ zeros 8

/-- The fold of a core is pending by itself: it is neither part of a pending fold of its flock nor a pending thin (R251, R254). -/
def State.ownFold (s : State) (f k c : Nat) : Bool :=
  let fl := s.flock f k
  (s.core f k c).foldPending && !(fl.foldPending && (s.usableSpare f k).isNone) && !fl.wholeThin
    && (match fl.slotOf c with | some j => !(fl.thinPending.contains j) | none => true)
/-- Folds pending, die-wide. -/
def State.foldsPending (s : State) : Nat :=
  (s.flocks.filter (fun p => p.2.foldPending)).length + ((s.listedCores dieUid).filter (fun p => s.ownFold p.1 p.2.1 p.2.2)).length + (s.lanes.filter (fun p => p.2.foldPending)).length
/-- The header of the health report (Table 10.7). -/
def State.healthHead (s : State) (scope : Uid) (truncated : Bool) (nf nk nc : Nat) : List Byte :=
  let thins := s.flocks.any (fun p => !p.2.thinPending.isEmpty || p.2.wholeThin)
  let cores := s.upFields.foldl (fun n f => n + s.logicalCores f) 0
  le 1 s.gradeNow ++ le 1 (b2n truncated + 2 * b2n thins) ++ le 2 nf ++ le 2 nk ++ le 2 nc ++ le 4 scope.toNat ++ zeros 4 ++ le 8 s.tbase
  ++ le 8 (s.mapDigest false).toNat ++ le 8 (s.mapDigest true).toNat ++ le 4 cores ++ le 4 s.foldsPending ++ zeros 16

/-- The health report of a scope in a buffer (R267): whole entries until it is full. -/
def State.healthBytes (s : State) (scope : Uid) (len : Nat) : List Byte :=
  let fs := if uidLevel scope = 2 then [] else domFields scope
  let ks := domFlocks scope
  let cs := ks.flatMap (fun p => (List.range Config.cores).map (fun c => (p.1, p.2, c)))
  let room := len - 64
  let fs' := fs.take (room / 16)
  let room := room - 16 * fs'.length
  let ks' := if fs'.length = fs.length then ks.take (room / 48) else []
  let room := room - 48 * ks'.length
  let cs' := if fs'.length = fs.length ∧ ks'.length = ks.length then cs.take (room / 32) else []
  s.healthHead scope (decide (cs'.length < cs.length)) fs'.length ks'.length cs'.length
  ++ fs'.flatMap s.healthField ++ ks'.flatMap (fun p => s.healthFlock p.1 p.2) ++ cs'.flatMap (fun p => s.healthCore p.1 p.2.1 p.2.2)

/-- QUERY_HEALTH (R267). -/
def execQueryHealth (d : Desc) (s : State) : Host.Outcome State Fault Refusal :=
  act s fun s => s.takeCmd d 0x41 [(12, 4)] 4294967295 (!isDomain (d.uid 12) || decide (d.len < 64)) fun s =>
    ({ s with free := s.free + 1048576 } : State).complete d.ring stOk [] (s.healthBytes (d.uid 12) d.len)

end Sys2Proof.Machine
end

