-- ==== Sys2Proof/Machine/Manage.lean ====
section
/-! DEFINITION. The I3C management target: common command codes, MCTP, PLDM and the vendor-defined messages (R79, R85 to R88). Where the
rules name a DMTF or I3C document and not its words, the body is opaque or marked. -/

namespace Sys2Proof.Machine

/-- Change the I3C target. -/
def State.modI3c (s : State) (g : I3c → I3c) : State := { s with i3c := g s.i3c }
/-- The target answers on I3C: the active Shepherd's gate is open (R79, R357). -/
def State.i3cUp (s : State) : Bool := s.pwrGood && !s.start.coldLow && s.activeShc.isSome
/-- An access to the target; it NACKs in a gap and while both Shepherds are lost (R79, R357), and where `ok` fails. -/
def i3cDo (ok : State → Bool) (s : State) (g : State → State) : Host.Outcome State Fault Refusal :=
  act s fun s => if s.i3cUp && ok s then g s else s.drive (.i3c none)
/-- The target answers with bytes. -/
def State.reply (s : State) (b : List Byte) : State := s.send (.i3c (some b))
/-- A dynamic address is assigned. -/
def State.addressed (s : State) : Bool := s.i3c.dyn.isSome

/-- I3C_CCC (R85, Table 3.3): of the codes not supported, broadcast ones are ignored and direct ones NACKed. -/
def execI3cCcc (_code : Nat) (direct : Bool) (s : State) : Host.Outcome State Fault Refusal :=
  act s fun s => if direct then s.drive (.i3c none) else s
/-- ENTDAA (R85): a target without a dynamic address gives its identifier and registers and takes one. -/
def execEntdaa (addr : Nat) (s : State) : Host.Outcome State Fault Refusal :=
  i3cDo (fun s => !s.addressed) s fun s =>
    (s.modI3c (fun i => { i with dyn := some (addr % 128) })).reply (be 6 Config.i3cPid.toNat ++ [Config.i3cBcr, Config.i3cDcr])
/-- SETDASA (R85): by the static address from OTP. -/
def execSetdasa (static addr : Nat) (s : State) : Host.Outcome State Fault Refusal :=
  i3cDo (fun s => static == Config.i3cStatic.toNat && !s.addressed) s fun s => (s.modI3c (fun i => { i with dyn := some (addr % 128) })).reply []
/-- SETNEWDA (R85). -/
def execSetnewda (addr : Nat) (s : State) : Host.Outcome State Fault Refusal :=
  i3cDo State.addressed s fun s => (s.modI3c (fun i => { i with dyn := some (addr % 128) })).reply []
/-- RSTDAA (R85). -/
def execRstdaa (s : State) : Host.Outcome State Fault Refusal :=
  i3cDo (fun _ => true) s fun s => (s.modI3c (fun i => { i with dyn := none })).reply []
/-- GETPID (R85). -/
def execGetpid (s : State) : Host.Outcome State Fault Refusal := i3cDo State.addressed s fun s => s.reply (be 6 Config.i3cPid.toNat)
/-- GETBCR (R85). -/
def execGetbcr (s : State) : Host.Outcome State Fault Refusal := i3cDo State.addressed s fun s => s.reply [Config.i3cBcr]
/-- GETDCR (R85). -/
def execGetdcr (s : State) : Host.Outcome State Fault Refusal := i3cDo State.addressed s fun s => s.reply [Config.i3cDcr]
/-- GETSTATUS (R85): the spec gives the status word no contents, so its two bytes are free. -/
def execGetstatus (s : State) : Host.Outcome State Fault Refusal :=
  i3cDo State.addressed s fun s => let (s, v) := s.freeVal; s.reply (le 2 v.toNat)
/-- ENEC (R85, Table 3.3): bit 0 enables the in-band interrupt. -/
def execEnec (events : BitVec 8) (s : State) : Host.Outcome State Fault Refusal :=
  i3cDo (fun _ => true) s fun s => (s.modI3c (fun i => { i with ibi := i.ibi || events.getLsbD 0 })).reply []
/-- DISEC (R85, Table 3.3): bit 0 disables the in-band interrupt. -/
def execDisec (events : BitVec 8) (s : State) : Host.Outcome State Fault Refusal :=
  i3cDo (fun _ => true) s fun s => (s.modI3c (fun i => { i with ibi := i.ibi && !events.getLsbD 0 })).reply []
/-- GETMWL (R85). -/
def execGetmwl (s : State) : Host.Outcome State Fault Refusal := i3cDo State.addressed s fun s => s.reply (be 2 s.i3c.mwl)
/-- SETMWL (R85): never below 69 bytes. -/
def execSetmwl (len : Nat) (s : State) : Host.Outcome State Fault Refusal :=
  i3cDo (fun _ => true) s fun s => (s.modI3c (fun i => { i with mwl := max 69 (sat 65535 len) })).reply []
/-- GETMRL (R85): the length, then the one data byte of an in-band interrupt. -/
def execGetmrl (s : State) : Host.Outcome State Fault Refusal := i3cDo State.addressed s fun s => s.reply (be 2 s.i3c.mrl ++ [1])
/-- SETMRL (R85): never below 69 bytes. -/
def execSetmrl (len : Nat) (s : State) : Host.Outcome State Fault Refusal :=
  i3cDo (fun _ => true) s fun s => (s.modI3c (fun i => { i with mrl := max 69 (sat 65535 len) })).reply []

/-- An MCTP message is taken: the target is addressed, NACKs otherwise, and is served by the firmware (R84, R86). -/
def mctp (s : State) (g : State → State) : Host.Outcome State Fault Refusal :=
  i3cDo State.addressed s fun s => if s.firmware then g s else s
/-- A PLDM response, whose layout DMTF documents give (R87). -/
def State.pldm (s : State) (cmd arg : Nat) : State := s.respondMctp (Config.dmtfBody cmd arg s.i3c.eid)
/-- A vendor-defined response by IANA number (R86, R88). -/
def State.vendor (s : State) (code : Byte) (b : List Byte) : State := s.respondMctp ([0x7F] ++ be 4 Config.enterprise ++ [code] ++ b)

/-- MCTP_CONTROL (R86): Set Endpoint ID, command code 1, operations 0 and 1, sets the endpoint's number. -/
def execMctpControl (msg : List Byte) (s : State) : Host.Outcome State Fault Refusal :=
  mctp s fun s =>
    let s := if rd msg 2 1 = 1 ∧ rd msg 3 1 ≤ 1 then s.modI3c (fun i => { i with eid := rd msg 4 1 }) else s
    s.pldm (rd msg 2 1) (fromLe msg)
/-- MCTP_OTHER_MESSAGE (R86): an MCTP error, or nothing where the binding requires the message to be discarded. -/
def execMctpOtherMessage (typ : Nat) (discard : Bool) (s : State) : Host.Outcome State Fault Refusal :=
  mctp s fun s => if discard || typ == 0 || typ == 1 || typ == 0x7F then s else s.pldm 0xFFFF typ

/-- GET_TID (R87). -/
def execGetTid (s : State) : Host.Outcome State Fault Refusal := mctp s fun s => s.pldm 0x0002 0
/-- GET_PLDM_VERSION (R87). -/
def execGetPldmVersion (typ : Nat) (s : State) : Host.Outcome State Fault Refusal := mctp s fun s => s.pldm 0x0003 typ
/-- GET_PLDM_TYPES (R87). -/
def execGetPldmTypes (s : State) : Host.Outcome State Fault Refusal := mctp s fun s => s.pldm 0x0004 0
/-- GET_PLDM_COMMANDS (R87). -/
def execGetPldmCommands (typ : Nat) (s : State) : Host.Outcome State Fault Refusal := mctp s fun s => s.pldm 0x0005 typ

/-- Power of a PMBus segment [mW]: from the last telemetry round, with the activity-count model for a regulator that R89 does not read; a
lost segment is the model's alone (R89, R91). -/
def State.segmentPower (s : State) (seg : Nat) : Nat :=
  let model := fun (l : List Nat) => (1000 * (l.map (fun f => (s.field f).calib * (s.field f).modelled)).foldl (· + ·) (0 : Rat)).floor.toNat
  let mine := (List.range Config.fields).filter (fun f => segmentOf f == seg)
  if s.power.segLost.contains seg then model mine
  else (assoc s.power.readings (0x200 + seg)).getD 0 + model (mine.filter (fun f => s.power.badRows.any (fun p => p.1 == f)))
/-- Reading of a numeric sensor (Table 3.4): temperatures in 0.125 C, power in W, and the binary64 of U. -/
def State.sensorReading (s : State) (id : Nat) : Option Nat :=
  if id = 1 then some (toTwos 16 s.dieTemp)
  else if id = 2 then some (((List.range (min 6 Config.rows)).map s.segmentPower).foldl (· + ·) 0 / 1000)
  else if id = 4 then some (bits64 s.gov.u)
  else if 0x100 ≤ id ∧ id < 0x100 + Config.fields then some (toTwos 16 (s.temp (id - 0x100)))
  else if 0x200 ≤ id ∧ id < 0x200 + min 6 Config.rows then some (s.segmentPower (id - 0x200) / 1000)
  else none
/-- GET_SENSOR_READING (R87). -/
def execGetSensorReading (id : Nat) (s : State) : Host.Outcome State Fault Refusal :=
  mctp s fun s =>
    match s.sensorReading id with
    | some v => s.pldm 0x0211 (id % 65536 + 65536 * v)
    | none => s.pldm 0x1211 id
/-- GET_STATE_SENSOR_READINGS (R87, R128): host lost is 2; which of normal, degraded and fatal holds else is free. -/
def execGetStateSensorReadings (id : Nat) (s : State) : Host.Outcome State Fault Refusal :=
  mctp s fun s =>
    if id ≠ 3 then s.pldm 0x1221 id
    else if s.hif.st = .hostLost then s.pldm 0x0221 (3 + 65536 * 2)
    else
      let (s, v) := s.freeVal
      s.pldm 0x0221 (3 + 65536 * ([0, 1, 3].getD (v.toNat % 3) 0))
/-- GET_PDR_REPOSITORY_INFO (R87). -/
def execGetPdrRepositoryInfo (s : State) : Host.Outcome State Fault Refusal := mctp s fun s => s.pldm 0x0250 0
/-- GET_PDR (R87). -/
def execGetPdr (handle : Nat) (s : State) : Host.Outcome State Fault Refusal := mctp s fun s => s.pldm 0x0251 handle

/-- GET_IDENT (R88): the identification registers. -/
def execGetIdent (s : State) : Host.Outcome State Fault Refusal :=
  mctp s fun s => s.vendor 1 ((List.range 16).flatMap (fun i => le 4 (s.windowWord (4 * i))))
/-- GET_HEALTH (R88): as QUERY_HEALTH for the die, without the per-flock maps. -/
def execGetHealth (s : State) : Host.Outcome State Fault Refusal :=
  mctp s fun s => s.vendor 2 (s.healthHead dieUid false Config.fields 0 0 ++ (List.range Config.fields).flatMap s.healthField)
/-- GET_BOUND (R88): as QUERY_BOUND. -/
def execGetBound (s : State) : Host.Outcome State Fault Refusal := mctp s fun s => s.vendor 3 (s.boundBytes s.gov.report.length)
/-- READ_TALLY (R88): up to 16 records from a number. -/
def execReadTally (first count : Nat) (s : State) : Host.Outcome State Fault Refusal :=
  mctp s fun s => s.vendor 4 (s.readTally first (min count 16) s.tally.next).2.2
/-- GET_PINS (R88): state and mode of the three pins, as PIN_CTL and PIN_THERM hold them. -/
def execGetPins (s : State) : Host.Outcome State Fault Refusal :=
  mctp s fun s => s.vendor 5 (le 4 s.pins.ctl ++ le 4 s.pins.thermReg)

end Sys2Proof.Machine
end

