-- ==== Sys2Proof/Machine/Memory.lean ====
section
/-! DEFINITION. Memory taps: error events and the row table (R69, R262, R305), row repair (R263, R265) and the retraining of the
stacks (R291, R304). -/

namespace Sys2Proof.Machine

/-- Events of a row over the last 24 h. -/
def Row.count (r : Row) (now : Nat) : Nat := (recentTimes now 86400000000000 r.times).length

/-- The row of a table of 256 that gives way to a new one: the one with the oldest last event among those not due (R262). -/
def rowVictim (l : List Row) : Option (BitVec 32) := (minOn (fun (r : Row) => (r.lastAt : Int)) (l.filter (fun r => !r.due))).map (·.loc)
/-- A row table with a row entered, when it has room or a row gives way (R262). -/
def enterRow (l : List Row) (loc : BitVec 32) (now : Nat) : List Row :=
  if l.any (fun r => r.loc == loc) then l
  else if l.length < 256 then l ++ [{ loc := loc, lastAt := now }]
  else match rowVictim l with
    | some v => l.filter (fun r => r.loc != v) ++ [{ loc := loc, lastAt := now }]
    | none => l

/-- A memory event counts in the row table: a class-0 event adds to its row, one of class 1 or 2 makes it due at once (R262). -/
def State.countRow (s : State) (t cls : Nat) (loc : BitVec 32) : State :=
  if 3 ≤ cls then s
  else s.modMem t (fun m => { m with rows := (enterRow m.rows loc s.tbase).map (fun r =>
    if r.loc != loc then r
    else
      let r := { r with lastAt := s.tbase, times := if cls = 0 then recentTimes s.tbase 86400000000000 r.times ++ [s.tbase] else r.times }
      { r with due := r.due || cls != 0 || decide (s.policy.rowThreshold ≤ r.count s.tbase) }) })

/-- The code of a memory event's class (Table 11.5). -/
def memCode (cls : Nat) : Nat := 0x2001 + cls

/-- The tap's stack reports to Beyja: it is in service and powered (R304). -/
def State.memUp (s : State) (t : Nat) : Bool :=
  decide (t < Config.memTaps) && (s.mem t).inService && (s.field (Config.memField t)).infraPg

/-- MEMORY_EVENT (R69, R262, R305): acknowledged, counted in the row table, and reported by its class. -/
def execMemoryEvent (t cls : Nat) (loc line : BitVec 32) (s : State) : Host.Outcome State Fault Refusal :=
  actIf (s.memUp t && decide (cls < 4) && s.droverUp (Config.memField t)) s fun s =>
    let s := (s.sig .mtpEvAck t 1).countRow t cls loc
    s.report (memCode cls) (memUid t) (le 4 loc.toNat ++ le 4 line.toNat)

/-- ROW_REPAIR_START (R263): a soft repair of a due row starts while no job is active. -/
def execRowRepairStart (t : Nat) (s : State) : Host.Outcome State Fault Refusal :=
  actIf (s.firmware && s.memUp t) s fun s => s.startRepair t

/-- ROW_REPAIR (R265): word 0x012 reads done, failed or no spare row; idle and busy say nothing yet. -/
def execRowRepair (t status : Nat) (s : State) : Host.Outcome State Fault Refusal :=
  actIf (s.firmware && decide (t < Config.memTaps) && decide (2 ≤ status) && decide (status ≤ 4)) s fun s => s.repairEnded t status

/-- ROW_REPAIR_LIMIT (R263): a repair whose status is not 2 within 5 ms is failed. -/
def execRowRepairLimit (t : Nat) (s : State) : Host.Outcome State Fault Refusal :=
  actIf (s.firmware && decide (t < Config.memTaps)) s fun s =>
    match (s.mem t).repair with
    | none => s
    | some r => (s.advanceTo (r.started + 5000000)).repairEnded t 3

/-- RETRAIN_DONE (R291, R302, R304): the retrain word reads done or failed; a stack that fails leaves service, and the pack copies
move. -/
def execRetrainDone (t : Nat) (ok : Bool) (attempts : Nat) (s : State) : Host.Outcome State Fault Refusal :=
  actIf (s.firmware && decide (t < Config.memTaps) && (s.mem t).retrain.isSome) s fun s =>
    let s := (s.modMem t (fun m => { m with retrain := none })).modL1 (fun l => { l with stackWait := without l.stackWait t })
    if ok then s
    else ((s.modMem t (fun m => { m with inService := false })).report 0x2006 (memUid t) [BitVec.ofNat 8 attempts]).placeCopies

end Sys2Proof.Machine
end

