-- ==== Sys2Proof/Machine/Mesh.lean ====
section
/-! DEFINITION. The reference clocks (R81, R82) and the Drove mesh (R25 to R28). -/

namespace Sys2Proof.Machine

/-- Change the reference clocks. -/
def State.modRef (s : State) (g : RefClk → RefClk) : State := { s with refclk := g s.refclk }

/-- A reference fails a check when it shows no edge in 1 us, or when its frequency is more than 1,000 ppm from 100 MHz (R81). -/
def refGood (v : RefView) : Bool := v.edges != 0 && decide (v.ppm.natAbs ≤ 1000)
/-- The voters in service that find reference `i` (0 A, 1 B) good or failed as asked. -/
def State.votersFind (s : State) (i : Nat) (good : Bool) (viewA viewB : List RefView) : List Nat :=
  (List.range 3).filter (fun v =>
    let x := s.pair.voters.getD v {}
    x.inService && !x.resetting && refGood ((if i = 0 then viewA else viewB).getD v {}) == good)

/-- The voters that agree send the switch order on both planes; every field then switches its multiplexer and re-locks its
PLLs, its compute clock stopped until then (R81). DESIGN CHOICE: the record
names the lowest-numbered of the voters that agree; R81 speaks of one sender (log 88). -/
def State.switchRef (s : State) (new : Nat) (voters : List Nat) : State :=
  let s := s.forEach voters (fun s v => s.broadcast (voterUid v) s.drovers .refSwitch new)
  let s := s.forEach (List.range Config.fields) (fun s f =>
    if (s.field f).infraPg then (s.syncField f).modField f (fun fd => { fd with relock := true }) else s)
  let s := (s.modRef (fun r => { r with sel := new, holdSince := none, relocking := true })).sig .refSelect dieUid.toNat new
  (s.notClean).report 0x0102 (voterUid (voters.headD 0)) [BitVec.ofNat 8 new]

/-- REFCLK_CHECK (R81, R82): what each voter finds of both references. Two voters that find the selected one failed and the other
good switch the die; two that find both failed put it in hold-over. -/
def execRefclkCheck (viewA viewB : List RefView) (s : State) : Host.Outcome State Fault Refusal :=
  actOutside s fun s =>
    if !s.pwrGood then s
    else
      let bad := fun (i : Nat) => s.votersFind i false viewA viewB
      let sel := s.refclk.sel
      let failed := (List.range 2).filter (fun i => decide (2 ≤ (bad i).length))
      let s := s.modRef (fun r => { r with failed := failed })
      let move := (bad sel).filter (fun v => !((bad (1 - sel)).contains v))
      let dark := (bad sel).filter (fun v => (bad (1 - sel)).contains v)
      if 2 ≤ move.length then s.switchRef (1 - sel) move
      else if 2 ≤ dark.length then
        if s.refclk.holdSince.isSome then s
        else (s.modRef (fun r => { r with holdSince := some s.tbase })).report 0x0103 dieUid (le 4 0)
      else if (bad sel).length < 2 then s.modRef (fun r => { r with holdSince := none })
      else s

/-- What is left of the error that TBASE gathered in a failover: it is slewed out by 1 ns per microsecond, and TBASE itself
never steps (R32). -/
def State.tbaseError (s : State) : Nat := s.refclk.slewErr - (s.tbase - s.refclk.slewAt) / 1000

/-- The new reference has locked everywhere: TBASE leaves the DCLK interpolators, and the error gathered on them, a value the
spec leaves open, is slewed out from here (R32). -/
def State.endFailover (s : State) : State :=
  match s.freeVal with
  | (s, v) => s.modRef (fun r => { r with relocking := false, slewErr := s.tbaseError + v.toNat, slewAt := s.tbase })

/-- PLL_LOCK (R32, R81): a field's PLL has re-locked, and its core clock runs again. -/
def execPllLock (f : Nat) (s : State) : Host.Outcome State Fault Refusal :=
  actIf (decide (f < Config.fields) && (s.field f).relock) s fun s =>
    let s := (s.syncField f).modField f (fun fd => { fd with relock := false })
    if s.refclk.relocking && (List.range Config.fields).all (fun f => !(s.field f).relock) then s.endFailover else s

/-- A message that is taken: a second copy of a dual message is discarded (R27), else it acts. DESIGN CHOICE: the first copy is remembered
until the second comes, for R27 does not say how long (log 81). -/
def State.takeMessage (s : State) (m : MeshMsg) : State :=
  let key : BitVec 32 × Nat := (m.src, m.sn)
  if m.dual && s.mesh.seen.contains key then s.modMesh (fun x => { x with seen := x.seen.erase key })
  else
    let s := if m.dual then s.modMesh (fun x => { x with seen := x.seen ++ [key] }) else s
    match m.body with
    | .other => s
    | .counts f => if s.firmware then s.sendCounts f else s

/-- MESH_MESSAGE (R26, R27, R28): what its flits show, then whether a router returns it, then its effect. -/
def execMeshMessage (m : MeshMsg) (s : State) : Host.Outcome State Fault Refusal :=
  actIf (meshOk m) s fun s =>
    match m.flits with
    | .uncorrectable f link =>
      (s.report 0x0202 (partUid f (1 + m.plane)) ([BitVec.ofNat 8 link, 0, 0, 0] ++ le 4 m.src.toNat)).resendOn m (1 - m.plane)
    | x =>
      let s := match x with | .corrected f link => s.report 0x0201 (partUid f (1 + m.plane)) [BitVec.ofNat 8 link] | _ => s
      if s.undeliverable m then s.modMesh (fun q => { q with resend := q.resend ++ [m] }) else s.takeMessage m

/-- MESH_LINK_DOWN (R28): a router marks a link down and reports it; detour tables are due; a plane that has failed as a whole is
reported once. -/
def execMeshLinkDown (p f link : Nat) (s : State) : Host.Outcome State Fault Refusal :=
  actIf (decide (p < 2) && decide (f < Config.fields) && decide (link < 4) && !(s.mesh.down.contains (p, f, link))) s fun s =>
    let s := (s.modMesh (fun m => { m with down := m.down ++ [(p, f, link)], detourDue := true })).report 0x0203 (partUid f (1 + p)) [BitVec.ofNat 8 link]
    if s.planeGone p && !(s.mesh.planeLost.contains p) then
      (s.modMesh (fun m => { m with planeLost := m.planeLost ++ [p] })).report 0x0204 dieUid [BitVec.ofNat 8 p]
    else s

/-- DETOUR_TABLES (R28, R31): the tables stand at the routers, the returned messages are sent again in their order, and the
Drovers measure their path delay again. -/
def execDetourTables (s : State) : Host.Outcome State Fault Refusal :=
  actIf (s.firmware && s.mesh.detourDue) s fun s =>
    let l := s.mesh.resend
    let s := s.modMesh (fun m => { m with detourDue := false, detoured := m.down, resend := [] })
    let s := s.forEach l (fun s m => s.resendOn m (if s.mesh.planeLost.contains m.plane then 1 - m.plane else m.plane))
    s.measureDelay ((List.range Config.fields).filter (fun f => (s.field f).tbaseSet))

end Sys2Proof.Machine
end

