-- ==== Sys2Proof/Machine/Policies.lean ====
section
/-! DEFINITION. POLICY_SET, the row of each chapter's items, and RAMP_SET (R151, R237, R266, R279, R307, R315, R337, R341, R408). -/

namespace Sys2Proof.Machine

/-- The policy rows: screening, governor, reactions, sparing, recovery, power, life cycle. -/
inductive PolicyRow where
  | screen | governor | reaction | defaults | sparing | recovery | power | life
  deriving DecidableEq, Repr

/-- The row that owns a policy item. -/
def policyRow (item : Nat) : Option PolicyRow :=
  if 0x0500 ≤ item ∧ item ≤ 0x0504 then some .screen
  else if 0x0900 ≤ item ∧ item ≤ 0x0905 then some .governor
  else if item = 0x0B00 then some .reaction
  else if item = 0x0B01 then some .defaults
  else if 0x0A00 ≤ item ∧ item ≤ 0x0A06 then some .sparing
  else if (0x0C00 ≤ item ∧ item ≤ 0x0C04) ∨ (0x0C10 ≤ item ∧ item ≤ 0x0C1F) then some .recovery
  else if 0x0D00 ≤ item ∧ item ≤ 0x0D06 then some .power
  else if 0x1100 ≤ item ∧ item ≤ 0x1102 then some .life
  else none

/-- POLICY_SET of an item of a row: an undefined item, or a value outside its range, is BAD_DESCRIPTOR; an item of another row is
that row's command (R118). -/
def State.policySet (s : State) (d : Desc) (row : PolicyRow) (bad : Nat → Nat → Bool) (k : State → Nat → Nat → State) : State :=
  let item := d.arg 8 2
  let v := d.arg 16 8
  match policyRow item with
  | none => s.takeCmd d 0x14 [(8, 2), (16, 8)] 304 true id
  | some r => if r ≠ row then s else s.takeCmd d 0x14 [(8, 2), (16, 8)] 304 (bad item v) fun s => k s item v

/-- A value lies outside a range. -/
def outside (lo hi v : Nat) : Bool := decide (v < lo) || decide (hi < v)

/-- Change the policy store. -/
def State.modPolicy (s : State) (g : Policy → Policy) : State := { s with policy := g s.policy }

/-- A policy change is recorded with its item in bytes 44-45 and the new value in bytes 48-55. -/
def State.notePolicy (s : State) (code item v : Nat) : State := s.note code dieUid (le 2 item ++ zeros 2 ++ le 8 v)

/-- Range of a screening item (Table 5.5). -/
def badScreen (item v : Nat) : Bool :=
  match item with
  | 0x0500 => outside 3600 604800 v
  | 0x0503 => outside 1 8 v
  | 0x0504 => outside 1 6 v
  | _ => decide (1 < v)
/-- A screening item takes its value. -/
def Policy.setScreen (p : Policy) (item v : Nat) : Policy :=
  match item with
  | 0x0500 => { p with rotation := v }
  | 0x0501 => { p with guard := v }
  | 0x0502 => { p with bell := v }
  | 0x0503 => { p with testLimit := v }
  | _ => { p with drift := v }
/-- SCREEN_POLICY (R151). -/
def execScreenPolicy (d : Desc) (s : State) : Host.Outcome State Fault Refusal :=
  act s fun s => s.policySet d .screen badScreen fun s item v =>
    ((s.modPolicy (·.setScreen item v)).notePolicy 0x7009 item v).complete d.ring stOk

/-- A rational as its nearest binary64 value, as the items of Table 9.1 are written. -/
def near64 (r : Rat) : Rat := (ratOf64 (encodeRat r)).getD 0
/-- The number that a binary64 item spells; none for a NaN or an infinity. -/
def ratArg (v : Nat) : Option Rat := ratOf64 (BitVec.ofNat 64 v)
/-- A binary64 value lies outside a range, or is no number. -/
def outsideRat (lo hi : Rat) (v : Nat) : Bool :=
  match ratArg v with | some r => decide (r < near64 lo) || decide (near64 hi < r) | none => true
/-- Range of a governor item (Table 9.1). -/
def badGovernor (item v : Nat) : Bool :=
  match item with
  | 0x0900 => outsideRat (1 / 1000000000) (1 / 100) v
  | 0x0901 => outside 1 64 v
  | 0x0902 => outsideRat 0 1 v
  | 0x0903 => decide (64 < v)
  | 0x0904 => outside 24 87600 v
  | _ => outsideRat (1 / 1024) 1 v
/-- A governor item loosens the bound: it is raised (Table 9.1). -/
def Policy.loosens (p : Policy) (item v : Nat) : Bool :=
  match item with
  | 0x0900 => decide (near64 p.uwrTarget < (ratArg v).getD 0)
  | 0x0901 => decide (p.multiplicity < v)
  | 0x0902 => decide (near64 p.credit < (ratArg v).getD 0)
  | 0x0903 => decide (p.prior < v)
  | _ => false
/-- A governor item takes its value. -/
def Policy.setGovernor (p : Policy) (item v : Nat) : Policy :=
  match item with
  | 0x0900 => { p with uwrTarget := (ratArg v).getD 0 }
  | 0x0901 => { p with multiplicity := v }
  | 0x0902 => { p with credit := (ratArg v).getD 0 }
  | 0x0903 => { p with prior := v }
  | 0x0904 => { p with windowW := v }
  | _ => { p with xMin := (ratArg v).getD 0 }
/-- GOVERNOR_POLICY (R237): a change that loosens the bound needs the owner authorisation. -/
def execGovernorPolicy (d : Desc) (s : State) : Host.Outcome State Fault Refusal :=
  act s fun s => s.policySet d .governor badGovernor fun s item v =>
    let go := fun (s : State) (auth : Nat) =>
      ((s.modPolicy (·.setGovernor item v)).note 0x7022 dieUid (le 2 item ++ [BitVec.ofNat 8 auth, 0] ++ le 8 v)).complete d.ring stOk
    if s.policy.loosens item v then s.authorised d 0 0x14 item fun s _ => go s 1 else go s 0

/-- The mask a reaction item names is an FE mask (R279). -/
def isFeMask (code cls : Nat) : Bool := if isDataPlane code then cls == clsFE else (match codeInfo code with | some i => i.cls == clsFE | none => false)
/-- Class of the mask a value of item 0x0B00 names: its bits 25:24 for a data-plane code. -/
def maskClass (code v : Nat) : Nat := if isDataPlane code then v / 2 ^ 24 % 4 else classOf code clsUC
/-- Breaches of item 0x0B00 (R279). -/
def badReaction (_item v : Nat) : Bool :=
  let code := v % 65536
  let m := v / 65536 % 256
  let c := v / 2 ^ 24 % 4
  let cls := maskClass code v
  !codeDefined code || decide (2 ^ 26 ≤ v) || c == 3 || (!isDataPlane code && c != 0) || decide (64 ≤ m)
  || ((isDataPlane code || isEvCode code) && m % 32 / 2 != 0)
  || (isDataPlane code && cls == clsCE && bit m 5) || (isFeMask code cls && !bit m 0)
/-- A change takes PIN, DIERST or RECOVER out of a mask. -/
def losesReaction (old new : Nat) : Bool := [3, 4, 5].any (fun i => bit old i && !bit new i)
/-- One mask of one code is set; a mask equal to the default is not held. Event 0x010D (R279). -/
def State.setMask (s : State) (code cls m auth : Nat) : State :=
  let old := s.mask code cls
  let key := maskKey code cls
  let s := s.modPolicy (fun p => { p with masks := if m = defaultMask code cls then assocDel p.masks key
                                                   else assocSet p.masks key (BitVec.ofNat 8 m) })
  s.note 0x010D dieUid (le 2 code ++ [BitVec.ofNat 8 old, BitVec.ofNat 8 m, BitVec.ofNat 8 auth, if isDataPlane code then BitVec.ofNat 8 cls else 0])
/-- REACTION_POLICY (R279). -/
def execReactionPolicy (d : Desc) (s : State) : Host.Outcome State Fault Refusal :=
  act s fun s => s.policySet d .reaction badReaction fun s item v =>
    let code := v % 65536
    let m := v / 65536 % 256
    let cls := maskClass code v
    let go := fun (s : State) (auth : Nat) => (s.setMask code cls m auth).complete d.ring stOk
    if isFeMask code cls && losesReaction (s.mask code cls) m then s.authorised d 0 0x14 item fun s _ => go s 1 else go s 0

/-- Code and class that a key of the mask store names. -/
def keyCode (key : Nat) : Nat := key / 4
/-- Class that a key of the mask store names. -/
def keyClass (key : Nat) : Nat := if isDataPlane (key / 4) then key % 4 else classOf (key / 4) clsUC
/-- REACTION_DEFAULTS (R279): one 0x010D for each mask that changes. -/
def execReactionDefaults (d : Desc) (s : State) : Host.Outcome State Fault Refusal :=
  act s fun s => s.policySet d .defaults (fun _ v => v != 1) fun s item _ =>
    let held := s.policy.masks
    let needs := held.any (fun p => isFeMask (keyCode p.1) (keyClass p.1) && losesReaction p.2.toNat (defaultMask (keyCode p.1) (keyClass p.1)))
    let go := fun (s : State) (auth : Nat) =>
      (s.forEach held (fun s p => s.setMask (keyCode p.1) (keyClass p.1) (defaultMask (keyCode p.1) (keyClass p.1)) auth)).complete d.ring stOk
    if needs then s.authorised d 0 0x14 item fun s _ => go s 1 else go s 0

/-- Range of a sparing item (Table 10.6). -/
def badSparing (item v : Nat) : Bool :=
  match item with
  | 0x0A01 => outside 4 1024 v
  | 0x0A02 => outside 600 86400 v
  | 0x0A03 => outside 1 8 v
  | 0x0A04 => outside 1 255 v
  | 0x0A06 => outside 1 15 v
  | _ => decide (2 < v)
/-- A sparing item takes its value. -/
def Policy.setSparing (p : Policy) (item v : Nat) : Policy :=
  match item with
  | 0x0A00 => { p with shelter := v }
  | 0x0A01 => { p with cluster := v }
  | 0x0A02 => { p with retest := v }
  | 0x0A03 => { p with leaveWatched := v }
  | 0x0A04 => { p with rowThreshold := v }
  | 0x0A05 => { p with repairMode := v }
  | _ => { p with thinLimit := v }
/-- SPARING_POLICY (R266). -/
def execSparingPolicy (d : Desc) (s : State) : Host.Outcome State Fault Refusal :=
  act s fun s => s.policySet d .sparing badSparing fun s item v =>
    ((s.modPolicy (·.setSparing item v)).notePolicy 0x7037 item v).complete d.ring stOk

/-- Range of a recovery item (Table 12.7, R307). -/
def badRecovery (item v : Nat) : Bool :=
  if 0x0C10 ≤ item then decide (2 ^ 49 ≤ v)
  else match item with
  | 0x0C03 => outside 10 10000 v
  | 0x0C04 => decide (1 < v)
  | _ => outside 1 10000 v
/-- A recovery item takes its value; regions go to the memory taps at the next JOB_BEGIN (R307). -/
def Policy.setRecovery (p : Policy) (item v : Nat) : Policy :=
  if 0x0C10 ≤ item then { p with regions := if v = 1 then assocDel p.regions (item - 0x0C10) else assocSet p.regions (item - 0x0C10) (BitVec.ofNat 64 v) }
  else match item with
  | 0x0C00 => { p with tmoCompute := v }
  | 0x0C01 => { p with tmoLocal := v }
  | 0x0C02 => { p with tmoRemote := v }
  | 0x0C03 => { p with drain := v }
  | _ => { p with sramDepth := v }
/-- RECOVERY_POLICY (R307, R315). -/
def execRecoveryPolicy (d : Desc) (s : State) : Host.Outcome State Fault Refusal :=
  act s fun s => s.policySet d .recovery badRecovery fun s item v =>
    ((s.modPolicy (·.setRecovery item v)).notePolicy 0x0318 item v).complete d.ring stOk

/-- Range of a power item (Table 13.6). -/
def badPower (item v : Nat) : Bool :=
  match item with
  | 0x0D00 => outside 800 Config.fusedMax v || v % 25 != 0
  | 0x0D01 => outside 60 100 v
  | 0x0D02 => outside 20 80 v || v % 5 != 0
  | 0x0D03 => decide (1 < v)
  | 0x0D04 => outside 1 256 v
  | 0x0D05 => outside 1 255 v
  | _ => decide (24000 < v)
/-- A power item takes its value: the trip threshold is clamped to the fused ceiling (Table 13.6). -/
def Policy.setPower (p : Policy) (item v : Nat) : Policy :=
  match item with
  | 0x0D00 => { p with freq := v }
  | 0x0D01 => { p with thermal := v }
  | 0x0D02 => { p with gustMv := v }
  | 0x0D03 => { p with gustMode := v }
  | 0x0D04 => { p with gustN := v }
  | 0x0D05 => { p with trip := min v Config.tripCeiling }
  | _ => { p with powerFloor := v }
/-- The items that take effect at once go to every field (Table 13.6). -/
def State.sendPower (s : State) (item : Nat) : State :=
  let all := fun (n : Sig) (v : Nat) => s.forEach (List.range Config.fields) (fun s f => s.send (.sig n f v))
  match item with
  | 0x0D02 => all .gustThreshold s.policy.gustMv
  | 0x0D03 => all .gustMode s.policy.gustMode
  | 0x0D04 => all .gustLength s.policy.gustN
  | 0x0D05 => all .pspTrip s.policy.trip
  | _ => s
/-- POWER_POLICY (R341). -/
def execPowerPolicy (d : Desc) (s : State) : Host.Outcome State Fault Refusal :=
  act s fun s => s.policySet d .power badPower fun s item v =>
    (((s.modPolicy (·.setPower item v)).sendPower item).notePolicy 0x3009 item v).complete d.ring stOk

/-- Range of a life-cycle item (Table 17.7). -/
def badLife (item v : Nat) : Bool :=
  match item with
  | 0x1100 => outside 10 1000 v
  | 0x1101 => decide (600 < v)
  | _ => outside 1 8 v
/-- A life-cycle item takes its value. -/
def Policy.setLife (p : Policy) (item v : Nat) : Policy :=
  match item with
  | 0x1100 => { p with sliceLen := v }
  | 0x1101 => { p with budget := v }
  | _ => { p with group := v }
/-- LIFECYCLE_POLICY (R408). -/
def execLifecyclePolicy (d : Desc) (s : State) : Host.Outcome State Fault Refusal :=
  act s fun s => s.policySet d .life badLife fun s item v =>
    let s := s.modPolicy (·.setLife item v)
    (s.note 0x6001 dieUid [BitVec.ofNat 8 s.lcs, BitVec.ofNat 8 s.lcs, 0, 0, BitVec.ofNat 8 s.life.fuses]).complete d.ring stOk

/-- A ramp limit is outside its range (R337). -/
def badRamp (v : Nat) : Bool := outside 10 1000000 v && v != 0xFFFFFFFF
/-- RAMP_SET (R337). -/
def execRampSet (d : Desc) (s : State) : Host.Outcome State Fault Refusal :=
  act s fun s => s.takeCmd d 0x15 [(8, 4), (12, 4)] 0 (badRamp (d.arg 8 4) || badRamp (d.arg 12 4)) fun s =>
    let s := s.modPolicy (fun p => { p with rampUp := d.arg 8 4, rampDown := d.arg 12 4 })
    (s.note 0x3009 dieUid (le 2 0x0D10 ++ zeros 2 ++ le 4 (d.arg 8 4) ++ le 4 (d.arg 12 4))).complete d.ring stOk

end Sys2Proof.Machine
end

