-- ==== Sys2Proof/Machine/Start.lean ====
section
/-! DEFINITION. Power-up, cold reset and the start sequence: self-tests, firmware, the fold list, the release of compute, and
readiness (R33, R73, R84, R97, R98, R260, R357, R363, R390 to R394). -/

namespace Sys2Proof.Machine

/-- What a field keeps over a reset: its settings, and over a cold reset the heat at its comparators. The switch macros have closed
the infrastructure rails and opened the compute rails (R73, R98); psp_infra_en is low until the partner's Drover starts (R45). -/
def freshField (old : Field) (heat : Bool) : Field :=
  let hot := if heat then (old.sensors.filter (fun p => p.2.at115)).map (fun p => (p.1, ({ at115 := true, reading := p.2.reading, changedAt := p.2.changedAt } : Sensor))) else []
  { infraPg := true, baseline := old.baseline, calib := old.calib, rowsRepaired := old.rowsRepaired, sensors := hot, thermOff := !hot.isEmpty }

/-- What the flash holds of a region survives; a retired sector comes back at the next start. -/
def Region.kept (r : Region) : Region := { r with bad := [] }

/-- The state at the begin of a start (R98, R377, R378, R390): what flash and OTP hold stays, everything else is at its reset
value; TBASE, power cycles and heat are the caller's. Over a cold reset the selected reference stays (R82). -/
def State.fresh (s : State) (heat : Bool) : State :=
  let t := s.tally
  let top := (t.general.all ++ t.fatal.all ++ t.clears).foldl (fun a r => max a (r.sequence + 1)) 0
  let hot := (List.range Config.fields).filter (fun f => heat && (s.field f).sensors.any (fun p => p.2.at115))
  let failed := s.cores.filter (fun p => p.2.selfTestFailed)
  let base : State :=
    { pending := s.pending, out := s.out, pwrGood := true, tbase := s.tbase, draws := s.draws, free := s.free
      life := { fuses := s.life.fuses, owners := s.life.owners, packKey := s.life.packKey, packKeyHash := s.life.packKeyHash, otpFault := s.life.otpFault, selfFailed := failed.map (·.1) }
      start := { settings := some (s.start.settings.getD s.policy), began := s.tbase }
      tally := { general := t.general.kept, fatal := t.fatal.kept, clears := t.clears, named := t.named, next := if top = 0 then 0 else top + 4096
                 opSec := t.opSecStored + 60, opSecStored := t.opSecStored, opSecAt := s.tbase, powerCycles := t.powerCycles }
      fw := { slotA := s.fw.slotA, slotB := s.fw.slotB, committed := s.fw.committed, floor := s.fw.floor, staged := s.fw.staged }
      screen := { slot0 := s.screen.slot0, slot1 := s.screen.slot1, active := s.screen.active, floor := s.screen.floor }
      folds := s.folds.found
      gov := { bins := s.gov.bins, noExposure := s.gov.noExposure, boundary := s.tbase / 10000000000 * 10000000000, open_ := { hour := (t.opSecStored + 60) / 3600 } }
      pins := { therm := !hot.isEmpty, thermField := hot.headD 0 }
      refclk := if heat then { sel := s.refclk.sel } else {} }
  let base := base.forEach (List.range Config.fields) (fun b f =>
    let fd := freshField (s.field f) heat
    let b := b.setField f fd
    if fd.thermOff = (s.field f).thermOff then b else b.sig .pspThermOff f (b2n fd.thermOff))
  let base := ((base.sig .errN 0 1).sig .fatalN 0 1).sig .thermTripN 0 (if hot.isEmpty then 1 else 0)
  base.sig .pspCompEn dieUid.toNat 0

/-- PWR_GOOD_RISE (R33, R97, R378, R390). The operand is the OTP item that is found uncorrectable. -/
def execPwrGoodRise (otpFault : Option Nat) (s : State) : Host.Outcome State Fault Refusal :=
  actOutside s fun s =>
    if s.pwrGood then s
    else
      let low := s.start.coldLow
      let s : State := { s with tbase := 0 }
      let s := s.fresh false
      { s with
        life := { s.life with otpFault := otpFault }
        tally := { s.tally with powerCycles := sat (2 ^ 24 - 1) (s.tally.powerCycles + 1) }
        start := { s.start with phase := if low then .held else .selfTest, coldLow := low } }

/-- PWR_GOOD_FALL (R96, R97, R404): no new flash program or erase starts, the latch of THERMTRIP_N is released and the opened
instruments close. -/
def execPwrGoodFall (s : State) : Host.Outcome State Fault Refusal :=
  actOutside s fun s =>
    let s := if s.pins.therm then s.sig .thermTripN 0 1 else s
    { s with pwrGood := false, life := { s.life with roOpen := false, wrOpen := false }, pins := { s.pins with therm := false, thermField := 0 } }

/-- COLD_RESET (R98): everything but TBASE and OTP is reset; before PWR_GOOD it only holds the start back. -/
def execColdReset (s : State) : Host.Outcome State Fault Refusal :=
  actOutside s fun s =>
    let s := if s.pwrGood then s.fresh true else s
    { s with start := { s.start with phase := if s.pwrGood then .held else s.start.phase, coldLow := true } }

/-- COLD_RESET_RELEASE (R93, R98): the start sequence runs again; TBASE goes on; a test instruction drives no pin any more. -/
def execColdResetRelease (s : State) : Host.Outcome State Fault Refusal :=
  actOutside s fun s =>
    if !s.start.coldLow then s
    else { s with
      jtag := if s.jtag.drivesPins then .bypass else s.jtag
      start := { s.start with coldLow := false, phase := if s.start.phase = .held then .selfTest else s.start.phase, began := s.tbase } }

/-- A report that the start makes before its firmware runs: it is formed in the Tally RAM at once (R84). -/
def State.earlyReport (s : State) (code : Nat) (payload : List Byte) : State :=
  let c := classOf code clsUC
  s.takeReport { code := code, cls := c, sev := severityOf code c, uid := dieUid, tbase := s.tbase, payload := payload } false false

/-- A Drover that has started drives the trip thresholds of its field (R72). -/
def State.driveTrips (s : State) (f : Nat) : State := (s.sig .pspTrip f s.policy.trip).sig .pspTripInfra f Config.infraTrip
/-- The Drovers start, on the OTP default policy (R390), and drive their Paddock Switch Ports: the partner's enable of the
infrastructure rail, and both trip thresholds (R45, R72). -/
def State.startDrovers (s : State) : State :=
  s.forEach ((List.range Config.fields).filter (fun f => (s.field f).infraPg)) (fun s f =>
    ((s.modField f (fun fd => { fd with drover := true, infraEn := true })).sig .pspInfraEn f 1).driveTrips f)

/-- Change the start sequence. -/
def State.modStart (s : State) (g : Start → Start) : State := { s with start := g s.start }

/-- A Shepherd's gate opens as the active one. -/
def State.makeActive (s : State) (b : Bool) : State :=
  let s := s.modShc b (fun x => { x with status := .active, gate := true, lost := false, lastHb := s.tbase })
  (s.modPair (fun p => { p with active := some (shcOf b) })).sig .shcGate (b2n b) 1

/-- The active Shepherd finds the flash (R83): it reads the firmware slots, or records 0x4001 with its cause where SFDP cannot be read or the
device is smaller than 64 MiB, and no firmware runs (R84). -/
def State.findFlash (s : State) (flash : Option FlashId) : State :=
  let s := s.flashStart flash
  match flash with
  | some i =>
    if 64 ≤ i.mib then ((s.flashRead (fwBase 0)).flashRead (fwBase 1)).modStart (fun x => { x with phase := .firmware })
    else (s.earlyReport 0x4001 ([1, 0, 0, 0] ++ fit 4 i.ident)).modStart (fun x => { x with phase := .noFirmware })
  | none =>
    let (s, v) := s.freeVal
    (s.earlyReport 0x4001 ([0, 0, 0, 0] ++ le 4 v.toNat)).modStart (fun x => { x with phase := .noFirmware })

/-- The self-tests of both Shepherds have ended (R390, Table 17.2): SHC-A is active unless it failed; with both failed R357
applies. The flash is identified then (R83, R84), and an OTP fault keeps compute closed (R389). -/
def State.afterSelfTests (s : State) (okA okB : Bool) (flash : Option FlashId) : State :=
  let s := s.startDrovers
  if !(okA || okB) then
    ((s.modShc false (fun x => { x with status := .off })).modShc true (fun x => { x with status := .off })).loseBoth 1
  else
    let act_ := !okA
    let s := s.makeActive act_
    let s := s.modShc (!act_) (fun x => { x with status := if okA && okB then .following else .outOfService, lastHb := s.tbase })
    match s.life.otpFault with
    | some i => (s.earlyReport 0x6009 [BitVec.ofNat 8 i]).modStart (fun x => { x with phase := .noFirmware })
    | none => s.findFlash flash

/-- SHEPHERD_SELFTEST_DONE (R357, R390). After the loss of both, the first Shepherd back is active, and it finds the flash where the start
had not yet done so. -/
def execShepherdSelftestDone (b pass : Bool) (flash : Option FlashId) (s : State) : Host.Outcome State Fault Refusal :=
  actOutside s fun s =>
    if s.life.scanOpen then s
    else if s.pair.bothLost then
      if pass && (s.pair.shc b).status == .resetting && s.pair.active.isNone then
        let s := s.makeActive b
        if s.start.phase = .selfTest then s.findFlash flash else s
      else if (s.pair.shc b).status == .resetting && s.pair.active != some (shcOf b) then
        s.modShc b (fun x => { x with status := if pass then .resetting else .outOfService })
      else s
    else if s.start.phase != .selfTest || (s.pair.shc b).status != .off then s
    else
      let s := s.modShc b (fun x => { x with status := if pass then .catchingUp else .outOfService })
      let a := s.pair.a.status
      let c := s.pair.b.status
      if a = .off ∨ c = .off then s else s.afterSelfTests (a == .catchingUp) (c == .catchingUp) flash

/-- Code of a unit state, read back (Table 10.1). -/
def unitStateOf (n : Nat) : UnitState :=
  match n with | 0 => .healthy | 1 => .watched | 2 => .suspect | 3 => .sheltered | 4 => .folded | _ => .retired

/-- The logical slot that a unit's last entry of a list names. -/
def lastSlotIn (l : List FoldEntry) (u : Uid) : Option Nat := (l.filter (fun e => e.uid == u && e.kind != 9)).getLast?.map (·.slot)

/-- An unfold entry is replayed (R260, R261); `before` are the entries ahead of it. -/
def State.replayUnfold (s : State) (before : List FoldEntry) (f k j : Nat) : State :=
  if j = 0xFF then
    s.modFlock f k (fun fl => { fl with st := .healthy, logical := none, disabled := [], hurdleHeld := false })
  else
    let cs := (List.range Config.cores).filter (fun c => (s.core f k c).st == .retired && lastSlotIn before (coreUid f k c) == some j)
    let s := s.forEach cs (fun s c => s.modCore f k c (fun x => { x with st := .watched, shelter := .none, step := 0, foldedOut := false }))
    let s := s.forEach (List.range Config.cores) (fun s c => s.forEach (List.range Config.lanes) (fun s l =>
      if (s.lane f k c l).st = .retired ∧ lastSlotIn before (laneUid f k c l) = some j then
        (s.modLane f k c l (fun y => { y with st := .watched })).modCore f k c (fun x => if x.laneSkip = l then { x with laneSkip := 8 } else x)
      else s))
    let c := (s.flock f k).coreOf j
    let s := if (s.core f k c).st = .sheltered then s.modCore f k c (fun x => { x with st := .watched, shelter := .none, step := 0 }) else s
    if cs.contains c then s.modFlock f k (fun fl => { fl with disabled := without fl.disabled j }) else s

/-- One fold-list entry is replayed (R258, R260). -/
def State.replayEntry (s : State) (before : List FoldEntry) (e : FoldEntry) : State :=
  let f := uidField e.uid
  let k := uidFlock e.uid
  let c := uidCore e.uid
  let l := uidLane e.uid
  match e.kind with
  | 1 => s.modCore f k c (fun x => { x with st := unitStateOf e.state, shelter := .trim })
  | 2 => s.modCore f k c (fun x => { x with st := unitStateOf e.state, shelter := .step, step := fromTwos 8 e.value })
  | 3 => (s.modLane f k c l (fun y => { y with st := unitStateOf e.state })).modCore f k c (fun x => { x with laneSkip := e.value })
  | 4 =>
    let s := s.modCore f k c (fun x => { x with st := unitStateOf e.state, shelter := .none, foldedOut := true })
    s.modFlock f k (fun fl => { fl with slots := setAt fl.slots e.slot e.value })
  | 5 =>
    let src := s.flock f k
    let sp := s.spareOf f
    let slots := (List.range Config.slots).map (fun j => if (s.core f sp j).st.fitSpare then j else Config.spareCore)
    let s := s.modFlock f sp (fun fl => { fl with logical := src.logical, disabled := src.disabled, slots := slots })
    s.modFlock f k (fun fl => { fl with logical := none, st := unitStateOf e.state, hurdleHeld := true })
  | 6 => (s.modCore f k c (fun x => { x with st := unitStateOf e.state, shelter := .none })).modFlock f k (fun fl => { fl with disabled := insertNew fl.disabled e.slot })
  | 7 => s.modFlock f k (fun fl => { fl with st := unitStateOf e.state, disabled := List.range Config.slots, hurdleHeld := true })
  | 8 =>
    if uidLevel e.uid = 0 then s.modLane f k c l (fun y => { y with st := unitStateOf e.state })
    else s.modCore f k c (fun x => { x with st := unitStateOf e.state })
  | 9 => s.replayUnfold before f k e.slot
  | _ =>
    s.forEach ((List.range Config.memTaps).filter (fun t => memUid t == e.uid)) (fun s t =>
      s.modMem t (fun m => { m with redoRows := if e.kind = 10 then insertNew m.redoRows e.row else without m.redoRows e.row }))

/-- The fold list is replayed in sequence order (R260): states, mappings, shelters and soft repairs. -/
def State.replayFolds (s : State) : State :=
  let l := s.folds.entries
  let s := s.forEach (List.range l.length) (fun s i => match l[i]? with | some e => s.replayEntry (l.take i) e | none => s)
  s.forEach ((s.cores.filter (fun p => p.2.shelter == .trim)).map (fun p => (p.1 / 2048, p.1 / 32 % 64))).eraseDups (fun s p =>
    s.modFlock p.1 p.2 (fun fl => { fl with trim := s.trimOf p.1 p.2 }))

/-- A part that stands in FIELD with a void owner slot enters RETURN (R399, R402). -/
def State.finishReturn (s : State) : State :=
  if s.lcs = 2 ∧ s.life.owners.getLast? = some (BitVec.allOnes 384) then
    let s := s.modLife (fun l => { l with fuses := l.fuses + 1 })
    s.note 0x6001 dieUid [2, 3, 0, 0, BitVec.ofNat 8 s.life.fuses]
  else s

/-- Why an image does not qualify (Table 15.7): 0 empty, 1 signature, 2 below floor, 3 header. -/
def badSlot (o : Option FwImage) (floor : Nat) : Option Nat :=
  match o with
  | none => some 0
  | some i => if !i.headerOk then some 3 else if !i.sigOk then some 1 else if i.serial < floor then some 2 else none

/-- The next group of fields has its compute rails closed (R390). -/
def State.startGroup (s : State) : State :=
  match s.start.groups with
  | [] => s
  | g :: gs =>
    let s := s.forEach g (fun s f => (s.modField f (fun fd => { fd with compEn := true, enAt := s.tbase })).sig .pspCompEn f 1)
    s.modStart (fun x => { x with groups := gs, pgWait := g })

/-- The compute part of the start goes on (R390): the next group, or its end with maps, lane skips, trims and steps written and
every hurdle closed. -/
def State.startMove (s : State) : State :=
  if s.start.phase != .release || s.start.shipped || !s.start.pgWait.isEmpty then s
  else if !s.start.groups.isEmpty then s.startGroup
  else if s.start.queue.isEmpty && s.start.waiting.isEmpty then
    let s := s.modStart (fun x => { x with shipped := true })
    let s := s.forEach (s.liveFlocks dieUid) (fun s p => s.rewriteMaps p.1 p.2)
    (s.sig .fspHdlClose dieUid.toNat 1).checkGrade
  else s

/-- Firmware runs for the first time in a start (R390): settings and fold list are read, clocks and voltages set, retrain words
written, waiting reports taken, and the release of compute begins. -/
def State.firstRun (s : State) : State :=
  let s := ((s.newChallenge).replayFolds).finishReturn
  let s : State := { s with power := { s.power with fset := s.policy.freq } }
  let s := s.sendAll ((List.range Config.fields).flatMap regulatorStart)
  let s := s.forEach (List.range Config.fields) (fun s f =>
    let s := s.modField f (fun fd => { fd with flim := s.power.fset, freq := s.power.fset, target := s.power.fset, tbaseSet := fd.drover })
    s.commandVolt f (voltOf s.power.fset))
  let s := s.measureDelay ((List.range Config.fields).filter (fun f => (s.field f).tbaseSet))
  let s := s.forEach (List.range Config.linkTaps) State.retrainLink
  let s := s.forEach (List.range Config.memTaps) State.retrainStack
  let s := s.setThresholds 1
  let s := s.forEach (List.range Config.fields) State.replayBuffer
  (s.modStart (fun x => { x with phase := .release, groups := chunks Config.fields 8 s.upFields })).startMove

/-- The first Shepherd back after the loss of both restarts the firmware (R357): entries are taken, 0x0108 is recorded with the
TBASE of the loss, an active job ends by a reset of die compute, the interface is IDLE. -/
def State.rerun (s : State) : State :=
  let lost := s.pair.lostAt
  let cause := s.pair.lostCause
  let s := s.newChallenge
  let s := s.forEach (List.range Config.fields) (fun s f => if (s.field f).tbaseSet then s.replayBuffer f else s)
  let n := s.pair.replayed
  let s := s.modPair (fun p => { p with replayed := 0 })
  let s := s.takeReport { code := 0x0108, cls := clsFE, sev := severityOf 0x0108 clsFE, uid := dieUid, tbase := lost, opId := s.job.opId
                          payload := [BitVec.ofNat 8 cause, 0, 0, 0] ++ le 4 ((s.tbase - lost) / 1000000) ++ le 4 n } false false
  let s := if s.job.active then s.startLevel0 dieUid 2 0x0108 none else s
  let s := s.orphan
  let s := s.modHif (fun h => { h with st := .idle, reason := 0, cmds := [], evs := [], neg := none, hbOn := false, lostSeq := none, startHeld := false })
  if s.fw.step = 0 then s else s.abortUpdate 3

/-- FIRMWARE_LOADED (R357, R363, R390): the committed slot's image runs, or the other slot's when it qualifies. The operands are
what the two slots hold as they are read and verified. -/
def execFirmwareLoaded (slotA slotB : Option FwImage) (s : State) : Host.Outcome State Fault Refusal :=
  actOutside s fun s =>
    if s.start.fwRun || s.activeShc.isNone || !(s.start.phase == .firmware || s.pair.bothLost) then s
    else
      let old := s.fw.committed
      let s := s.modFw (fun w => { w with slotA := slotA, slotB := slotB })
      let bad := badSlot (s.fw.slot old) s.fw.floor
      let s := match bad with
        | some r => s.earlyReport 0x4002 ([BitVec.ofNat 8 old, BitVec.ofNat 8 r, 0, 0] ++ le 4 (versionOf (s.fw.slot old)))
        | none => s
      let pick := if bad.isNone then some old else if (badSlot (s.fw.slot (1 - old)) s.fw.floor).isNone then some (1 - old) else none
      match pick with
      | none =>
        ((s.earlyReport 0x4002 ([BitVec.ofNat 8 old, 4, 0, 0] ++ le 4 (versionOf (s.fw.slot old)))).assertPin true).modStart (fun x => { x with phase := .noFirmware })
      | some n =>
        let img := s.fw.slot n
        let s := s.modFw (fun w => { w with committed := n, running := img, runningSlot := n, staged := w.staged && n == old && (w.slot (1 - n)).isSome })
        let s := s.modShc false (fun x => if x.status = .active ∨ x.status = .following then { x with image := img } else x)
        let s := s.modShc true (fun x => if x.status = .active ∨ x.status = .following then { x with image := img } else x)
        let again := s.pair.bothLost && s.start.phase != .firmware
        let s := s.modPair (fun p => { p with bothLost := false })
        let s : State := { s with policy := s.start.settings.getD s.policy, start := { s.start with fwRun := true, settings := none } }
        if again then s.rerun else s.firstRun

/-- A field fails the start (R390): its compute rail stays open, 0x0304 with cause 5, and the start goes on without it. -/
def State.startFailed (s : State) (f : Nat) : State :=
  let out := fun (l : List Nat) => l.filter (fun key => key / 64 != f)
  let s := s.modStart (fun x => { x with pgWait := without x.pgWait f, queue := out x.queue, waiting := out x.waiting })
  (s.loseField f 5).startMove

/-- A compute rail has reached regulation: the core clock runs. -/
def State.railUp (s : State) (f : Nat) : State :=
  let s := s.syncField f
  let s := s.modField f (fun fd => { fd with compPg := true, cycles := if fd.released then fd.cycles else 0, released := true, cyclesAt := s.tbase })
  s.forEach (s.listedFlocks (fieldUid f)) (fun s p => s.presentTracker p.1 p.2)

/-- Reset words of every flock of a field, eight at a time (R290, R298). -/
def State.queueResets (s : State) (f : Nat) : State :=
  let keys := (List.range Config.flocks).map (fun k => flockKey f k)
  let (q, w, new) := fillResets (s.start.queue ++ keys) s.start.waiting
  (s.modStart (fun x => { x with queue := q, waiting := w, retried := x.retried.filter (fun key => key / 64 != f) })).writeResets new

/-- PSP_POWER_GOOD (R72): psp_comp_pg or psp_infra_pg rises. -/
def execPspPowerGood (f : Nat) (infra : Bool) (s : State) : Host.Outcome State Fault Refusal :=
  let fd := s.field f
  actIf (decide (f < Config.fields) && (if infra then fd.infraEn && !fd.infraPg else fd.compEn && !fd.compPg)) s fun s =>
    if infra then
      let s := s.modField f (fun fd => { fd with infraPg := true, routers := true, drover := !fd.droverOut })
      let s := s.forEach ((List.range 3).filter (fun v => Config.voterField v == f)) (fun s v =>
        s.modPair (fun p => { p with voters := modifyAt p.voters v (fun x => { x with resetting := false }) }))
      let s := (((s.driveTherm f).linksBack f [0, 1]).driveTrips f).placeCopies
      if (s.field f).returning = some 0 then s.closeCompute f else s
    else
      let s := s.railUp f
      if (s.field f).returning = some 1 then (s.modField f (fun fd => { fd with returning := some 2 })).queueResets f
      else match s.recovery.level1 with
        | some l => if l.pgWait.contains f then s.l1Field f else s
        | none =>
          if s.start.pgWait.contains f then ((s.modStart (fun x => { x with pgWait := without x.pgWait f })).queueResets f).startMove else s

/-- COMP_PG_TIMEOUT (R303, R321, R390): regulation has not come within 1 ms of the enable. -/
def execCompPgTimeout (f : Nat) (infra : Bool) (s : State) : Host.Outcome State Fault Refusal :=
  let fd := s.field f
  actIf (decide (f < Config.fields) && (if infra then fd.infraEn && !fd.infraPg else fd.compEn && !fd.compPg)) s fun s =>
    let s := s.advanceTo ((s.field f).enAt + 1000000)
    if (s.field f).returning.isSome then s.returnFailed f
    else if infra then s
    else match s.recovery.level1 with
      | some l => if l.pgWait.contains f then s.loseField f 3 else s
      | none => if s.start.pgWait.contains f then s.startFailed f else s

/-- A reset status of the start or of a paddock return (R321, R390): a reset that fails is tried once more in a start. -/
def State.startReset (s : State) (f k : Nat) (ok : Bool) : State :=
  let key := flockKey f k
  let back := (s.field f).returning.isSome
  if ok then
    let s := (s.modFlock f k (fun fl => { fl with ready := true })).flockReset f k
    let (q, w, new) := fillResets s.start.queue (without s.start.waiting key)
    let s := (s.modStart (fun x => { x with queue := q, waiting := w })).writeResets new
    if back then (if (q ++ w).any (fun x => x / 64 == f) then s else s.returnDone f) else s.startMove
  else if back then s.returnFailed f
  else if s.start.retried.contains key then s.startFailed f
  else (s.modStart (fun x => { x with retried := x.retried ++ [key] })).writeResets [key]

/-- RESET_STATUS (R289, R298, R302, R321, R390): a reset word's status is read, done or failed. -/
def execResetStatus (f k : Nat) (ok : Bool) (s : State) : Host.Outcome State Fault Refusal :=
  let key := flockKey f k
  actIf (decide (f < Config.fields) && decide (k < Config.flocks) && s.firmware) s fun s =>
    if s.start.waiting.contains key then s.startReset f k ok else s.resetDone f k ok

/-- A part of Beyja has failed the start's self-test (R392): 0x6007, and it leaves service. -/
def State.partSelfTestFailed (s : State) (u : Uid) (kind link : Nat) : State :=
  let s := s.report 0x6007 u [BitVec.ofNat 8 kind]
  let f := uidField u
  match kind with
  | 2 => { s with mesh := { s.mesh with down := insertNew s.mesh.down (uidElem u - 1, f, link), detourDue := true } }
  | 4 => s.modField f (fun fd => fd.modSensor (uidElem u - 0x20) (fun x => { x with inService := false }))
  | _ => match partOf u with | some p => s.partOut p | none => s

/-- Fields whose cores the shut-down self-test has screened: those of the 0x6005 records newer than the last 0x6006 (R394). -/
def State.screenedFields (s : State) : List Nat :=
  let from_ := match s.tally.newest 0x6006 with | some r => r.sequence + 1 | none => 0
  let masks := (s.tally.general.all.filter (fun r => r.code == 0x6005 && decide (from_ ≤ r.sequence))).map (fun r => rd r.payload 4 8)
  (List.range Config.fields).filter (fun f => masks.any (fun m => bit m f))

/-- The cores that count as screened at this start (R394). -/
def State.carriedCores (s : State) : List (Nat × Nat × Nat) :=
  let same := match s.tally.newest 0x6004, s.screen.slot s.screen.active with
    | some r, some p => rd r.payload 4 4 == p.id && rd r.payload 8 4 == p.serial
    | _, _ => false
  if !(s.start.graceful && same) then []
  else s.screenedFields.flatMap (fun f => (List.range Config.flocks).flatMap (fun k => ((List.range Config.cores).filter (fun c =>
    !(s.life.selfFailed.contains (coreKey f k c)) && !(s.core f k c).st.gone && !(s.flock f k).st.gone)).map (fun c => (f, k, c))))

/-- START_READY (R391 to R394): Beyja is ready; a START that waited takes effect, and the content pager begins. The operand names
the parts that failed the self-test of R392: UID, part code, and for a mesh link its number. -/
def execStartReady (failed : List (Uid × Nat × Nat)) (s : State) : Host.Outcome State Fault Refusal :=
  actIf (s.firmware && s.start.phase == .release && s.start.shipped && s.tally.scanned && !s.start.ready) s fun s =>
    let bad := if s.start.graceful then [] else failed
    let s := s.forEach bad (fun s q => s.partSelfTestFailed q.1 q.2.1 q.2.2)
    let cs := s.carriedCores
    let s := s.forEach cs (fun s q => s.modCore q.1 q.2.1 q.2.2 (fun x => { x with screened := true, lastPassEnd := 0 }))
    let parts := bad.length + b2n (s.pair.a.status == .outOfService) + b2n (s.pair.b.status == .outOfService)
    let s := s.note 0x6006 dieUid ([BitVec.ofNat 8 (b2n (!s.start.graceful)), BitVec.ofNat 8 (b2n (s.activeShc == some true))] ++ le 2 (sat 65535 cs.length)
      ++ le 4 (s.tbase / 1000000) ++ le 4 parts)
    let s := s.modStart (fun x => { x with ready := true, readyAt := s.tbase, phase := .ready, outParts := parts })
    let s := s.startPager
    if s.hif.startHeld then s.bringUp else s

end Sys2Proof.Machine
end

