-- ==== Sys2Proof/Machine/Dispatch.lean ====
section
/-! DEFINITION. The dispatch of a command to its meaning, one arm per row of the opcode table. -/

namespace Sys2Proof.Machine

/-- The effect of one command on the state: one arm per row of the opcode table. -/
def exec (i : Instr) (s : State) : Host.Outcome State Fault Refusal :=
  match i with
  | .hifStart => Sys2Proof.Machine.execHifStart s
  | .hifResume => Sys2Proof.Machine.execHifResume s
  | .windowLock => Sys2Proof.Machine.execWindowLock s
  | .ferrClear => Sys2Proof.Machine.execFerrClear s
  | .ferrOverflowClear => Sys2Proof.Machine.execFerrOverflowClear s
  | .pinHeldClear err fatal => Sys2Proof.Machine.execPinHeldClear err fatal s
  | .pinModeWrite err fatal => Sys2Proof.Machine.execPinModeWrite err fatal s
  | .apertureWrite off size value => Sys2Proof.Machine.execApertureWrite off size value s
  | .windowWrite off size value => Sys2Proof.Machine.execWindowWrite off size value s
  | .windowError off size write => Sys2Proof.Machine.execWindowError off size write s
  | .doorbellPoll words => Sys2Proof.Machine.execDoorbellPoll words s
  | .moderationEnd ring => Sys2Proof.Machine.execModerationEnd ring s
  | .interruptAck => Sys2Proof.Machine.execInterruptAck s
  | .dmaError access addr late => Sys2Proof.Machine.execDmaError access addr late s
  | .heartbeatLate => Sys2Proof.Machine.execHeartbeatLate s
  | .hostLost => Sys2Proof.Machine.execHostLost s
  | .negotiate d => Sys2Proof.Machine.execNegotiate d s
  | .ringCreate d => Sys2Proof.Machine.execRingCreate d s
  | .ringDestroy d => Sys2Proof.Machine.execRingDestroy d s
  | .heartbeat d => Sys2Proof.Machine.execHeartbeat d s
  | .jobBegin d => Sys2Proof.Machine.execJobBegin d s
  | .mtpDrainDone tap => Sys2Proof.Machine.execMtpDrainDone tap s
  | .jobBeginDrainTimeout => Sys2Proof.Machine.execJobBeginDrainTimeout s
  | .jobEnd d => Sys2Proof.Machine.execJobEnd d s
  | .musterPoint d => Sys2Proof.Machine.execMusterPoint d s
  | .musterQuietTimeout dom => Sys2Proof.Machine.execMusterQuietTimeout dom s
  | .idleTableLoad d => Sys2Proof.Machine.execIdleTableLoad d s
  | .screenPolicy d => Sys2Proof.Machine.execScreenPolicy d s
  | .governorPolicy d => Sys2Proof.Machine.execGovernorPolicy d s
  | .reactionPolicy d => Sys2Proof.Machine.execReactionPolicy d s
  | .reactionDefaults d => Sys2Proof.Machine.execReactionDefaults d s
  | .sparingPolicy d => Sys2Proof.Machine.execSparingPolicy d s
  | .recoveryPolicy d => Sys2Proof.Machine.execRecoveryPolicy d s
  | .powerPolicy d => Sys2Proof.Machine.execPowerPolicy d s
  | .lifecyclePolicy d => Sys2Proof.Machine.execLifecyclePolicy d s
  | .rampSet d => Sys2Proof.Machine.execRampSet d s
  | .packStage d => Sys2Proof.Machine.execPackStage d s
  | .packActivate d => Sys2Proof.Machine.execPackActivate d s
  | .watchSet d => Sys2Proof.Machine.execWatchSet d s
  | .earmarkConfig d => Sys2Proof.Machine.execEarmarkConfig d s
  | .replicaDigest d => Sys2Proof.Machine.execReplicaDigest d s
  | .queryBound d => Sys2Proof.Machine.execQueryBound d s
  | .queryHealth d => Sys2Proof.Machine.execQueryHealth d s
  | .foldRequest d => Sys2Proof.Machine.execFoldRequest d s
  | .unfold d => Sys2Proof.Machine.execUnfold d s
  | .domainReset d => Sys2Proof.Machine.execDomainReset d s
  | .recover d => Sys2Proof.Machine.execRecover d s
  | .tallyRead d => Sys2Proof.Machine.execTallyRead d s
  | .tallyClear d => Sys2Proof.Machine.execTallyClear d s
  | .fwStage d => Sys2Proof.Machine.execFwStage d s
  | .fwActivate d => Sys2Proof.Machine.execFwActivate d s
  | .traceConfig d => Sys2Proof.Machine.execTraceConfig d s
  | .waitgraphReq d => Sys2Proof.Machine.execWaitgraphReq d s
  | .lifecycleProvisioned d => Sys2Proof.Machine.execLifecycleProvisioned d s
  | .lifecycleField d => Sys2Proof.Machine.execLifecycleField d s
  | .lifecycleReturn d => Sys2Proof.Machine.execLifecycleReturn d s
  | .shutDown d => Sys2Proof.Machine.execShutDown d s
  | .setOwnerPackKey d => Sys2Proof.Machine.execSetOwnerPackKey d s
  | .opAnnounce f k core n rep beats parityOk => Sys2Proof.Machine.execOpAnnounce f k core n rep beats parityOk s
  | .mirrorBeat f k kind last data badLane => Sys2Proof.Machine.execMirrorBeat f k kind last data badLane s
  | .digestArrival f k core tag dig parityOk => Sys2Proof.Machine.execDigestArrival f k core tag dig parityOk s
  | .digestWaitEnd f k tag ofTwin => Sys2Proof.Machine.execDigestWaitEnd f k tag ofTwin s
  | .crookComputeDone f c fk tag fault => Sys2Proof.Machine.execCrookComputeDone f c fk tag fault s
  | .crookConfirmDone f c fk tag fault => Sys2Proof.Machine.execCrookConfirmDone f c fk tag fault s
  | .crookSelftest f c fail => Sys2Proof.Machine.execCrookSelftest f c fail s
  | .crookBufferEcc f c unc line tags => Sys2Proof.Machine.execCrookBufferEcc f c unc line tags s
  | .commandIssue f k cls parityOk => Sys2Proof.Machine.execCommandIssue f k cls parityOk s
  | .commandRetire f k id parityOk => Sys2Proof.Machine.execCommandRetire f k id parityOk s
  | .killDone f k parityOk => Sys2Proof.Machine.execKillDone f k s parityOk
  | .killTimeout f k => Sys2Proof.Machine.execKillTimeout f k s
  | .hurdleClosed dom badAt => Sys2Proof.Machine.execHurdleClosed dom s badAt
  | .drainEnd dom badAt => Sys2Proof.Machine.execDrainEnd dom s badAt
  | .drainTimeout dom notIdle => Sys2Proof.Machine.execDrainTimeout dom notIdle s
  | .quietRise f k parityOk => Sys2Proof.Machine.execQuietRise f k s parityOk
  | .quietFall f k parityOk => Sys2Proof.Machine.execQuietFall f k s parityOk
  | .copyDone f k err parityOk => Sys2Proof.Machine.execCopyDone f k err s parityOk
  | .copyLimit f k => Sys2Proof.Machine.execCopyLimit f k s
  | .foldListCommit => Sys2Proof.Machine.execFoldListCommit s
  | .ldoOk f k parityOk => Sys2Proof.Machine.execLdoOk f k s parityOk
  | .ldoOkTimeout f k => Sys2Proof.Machine.execLdoOkTimeout f k s
  | .retestDeadline f k c => Sys2Proof.Machine.execRetestDeadline f k c s
  | .runStart f k runId parityOk => Sys2Proof.Machine.execRunStart f k runId s parityOk
  | .windowPlan f k slot w => Sys2Proof.Machine.execWindowPlan f k slot w s
  | .scratchWriteDone f k c => Sys2Proof.Machine.execScratchWriteDone f k c s
  | .windowOpen f k slot w => Sys2Proof.Machine.execWindowOpen f k slot w s
  | .spareSlicePlan f k c => Sys2Proof.Machine.execSpareSlicePlan f k c s
  | .tsSaved f k c parityOk => Sys2Proof.Machine.execTsSaved f k c parityOk s
  | .tsSavedLate f k c => Sys2Proof.Machine.execTsSavedLate f k c s
  | .guardGo f k c => Sys2Proof.Machine.execGuardGo f k c s
  | .tsDone f k c misr parityOk => Sys2Proof.Machine.execTsDone f k c misr s parityOk
  | .guardExit f k c => Sys2Proof.Machine.execGuardExit f k c s
  | .doneMissing f k c => Sys2Proof.Machine.execDoneMissing f k c s
  | .sliceLatestExit f k c => Sys2Proof.Machine.execSliceLatestExit f k c s
  | .tsNeed f k c parityOk => Sys2Proof.Machine.execTsNeed f k c s parityOk
  | .tsRestored f k c parityOk => Sys2Proof.Machine.execTsRestored f k c s parityOk
  | .restoredLate f k c => Sys2Proof.Machine.execRestoredLate f k c s
  | .rotationCheck f => Sys2Proof.Machine.execRotationCheck f s
  | .errorReport f k r => Sys2Proof.Machine.execErrorReport f k r s
  | .infrastructureError e => Sys2Proof.Machine.execInfrastructureError e s
  | .partResetDone uid pass => Sys2Proof.Machine.execPartResetDone uid pass s
  | .partResetLimit uid => Sys2Proof.Machine.execPartResetLimit uid s
  | .nmiReturn b => Sys2Proof.Machine.execNmiReturn b s
  | .nmiOverrun b core => Sys2Proof.Machine.execNmiOverrun b core s
  | .txFrameStart tap fd => Sys2Proof.Machine.execTxFrameStart tap fd s
  | .txFrameEnd tap data => Sys2Proof.Machine.execTxFrameEnd tap data s
  | .trackerIdle tap tracker => Sys2Proof.Machine.execTrackerIdle tap tracker s
  | .inboundFrame tap fd data trailer => Sys2Proof.Machine.execInboundFrame tap fd data trailer s
  | .serviceFrameGrant tap => Sys2Proof.Machine.execServiceFrameGrant tap s
  | .serviceFrameReceived tap bytes => Sys2Proof.Machine.execServiceFrameReceived tap bytes s
  | .linkDown tap => Sys2Proof.Machine.execLinkDown tap s
  | .linkUp tap => Sys2Proof.Machine.execLinkUp tap s
  | .serviceRegisterAck mtp tap data err => Sys2Proof.Machine.execServiceRegisterAck mtp tap data err s
  | .serviceRegisterLate mtp tap => Sys2Proof.Machine.execServiceRegisterLate mtp tap s
  | .memoryEvent tap cls loc line => Sys2Proof.Machine.execMemoryEvent tap cls loc line s
  | .rowRepairStart tap => Sys2Proof.Machine.execRowRepairStart tap s
  | .rowRepair tap status => Sys2Proof.Machine.execRowRepair tap status s
  | .rowRepairLimit tap => Sys2Proof.Machine.execRowRepairLimit tap s
  | .retrainDone tap ok attempts => Sys2Proof.Machine.execRetrainDone tap ok attempts s
  | .railTrip f infra => Sys2Proof.Machine.execRailTrip f infra s
  | .thermalOff f sensor reading => Sys2Proof.Machine.execThermalOff f sensor reading s
  | .hwThrottle f sensor reading => Sys2Proof.Machine.execHwThrottle f sensor reading s
  | .hwThrottleRelease f => Sys2Proof.Machine.execHwThrottleRelease f s
  | .paddockReturn f => Sys2Proof.Machine.execPaddockReturn f s
  | .pspPowerGood f infra => Sys2Proof.Machine.execPspPowerGood f infra s
  | .compPgTimeout f infra => Sys2Proof.Machine.execCompPgTimeout f infra s
  | .pwrGoodRise otpFault => Sys2Proof.Machine.execPwrGoodRise otpFault s
  | .pwrGoodFall => Sys2Proof.Machine.execPwrGoodFall s
  | .coldReset => Sys2Proof.Machine.execColdReset s
  | .coldResetRelease => Sys2Proof.Machine.execColdResetRelease s
  | .shepherdSelftestDone b pass flash => Sys2Proof.Machine.execShepherdSelftestDone b pass flash s
  | .firmwareLoaded slotA slotB => Sys2Proof.Machine.execFirmwareLoaded slotA slotB s
  | .startReady failed => Sys2Proof.Machine.execStartReady failed s
  | .tallyScan invalid pairs => Sys2Proof.Machine.execTallyScan invalid pairs s
  | .packCopyVerified ok => Sys2Proof.Machine.execPackCopyVerified ok s
  | .refclkCheck viewA viewB => Sys2Proof.Machine.execRefclkCheck viewA viewB s
  | .pllLock f => Sys2Proof.Machine.execPllLock f s
  | .tapInstruction ins => Sys2Proof.Machine.execTapInstruction ins s
  | .debugAuthorisation block fact => Sys2Proof.Machine.execDebugAuthorisation block fact s
  | .secretClear authorised => Sys2Proof.Machine.execSecretClear authorised s
  | .scanEnable allZero => Sys2Proof.Machine.execScanEnable allZero s
  | .i3cCcc code direct => Sys2Proof.Machine.execI3cCcc code direct s
  | .entdaa addr => Sys2Proof.Machine.execEntdaa addr s
  | .setdasa static addr => Sys2Proof.Machine.execSetdasa static addr s
  | .setnewda addr => Sys2Proof.Machine.execSetnewda addr s
  | .rstdaa => Sys2Proof.Machine.execRstdaa s
  | .getpid => Sys2Proof.Machine.execGetpid s
  | .getbcr => Sys2Proof.Machine.execGetbcr s
  | .getdcr => Sys2Proof.Machine.execGetdcr s
  | .getstatus => Sys2Proof.Machine.execGetstatus s
  | .enec events => Sys2Proof.Machine.execEnec events s
  | .disec events => Sys2Proof.Machine.execDisec events s
  | .getmwl => Sys2Proof.Machine.execGetmwl s
  | .setmwl len => Sys2Proof.Machine.execSetmwl len s
  | .getmrl => Sys2Proof.Machine.execGetmrl s
  | .setmrl len => Sys2Proof.Machine.execSetmrl len s
  | .mctpControl msg => Sys2Proof.Machine.execMctpControl msg s
  | .mctpOtherMessage typ discard => Sys2Proof.Machine.execMctpOtherMessage typ discard s
  | .getTid => Sys2Proof.Machine.execGetTid s
  | .getPldmVersion typ => Sys2Proof.Machine.execGetPldmVersion typ s
  | .getPldmTypes => Sys2Proof.Machine.execGetPldmTypes s
  | .getPldmCommands typ => Sys2Proof.Machine.execGetPldmCommands typ s
  | .getSensorReading id => Sys2Proof.Machine.execGetSensorReading id s
  | .getStateSensorReadings id => Sys2Proof.Machine.execGetStateSensorReadings id s
  | .getPdrRepositoryInfo => Sys2Proof.Machine.execGetPdrRepositoryInfo s
  | .getPdr handle => Sys2Proof.Machine.execGetPdr handle s
  | .getIdent => Sys2Proof.Machine.execGetIdent s
  | .getHealth => Sys2Proof.Machine.execGetHealth s
  | .getBound => Sys2Proof.Machine.execGetBound s
  | .readTally first count => Sys2Proof.Machine.execReadTally first count s
  | .getPins => Sys2Proof.Machine.execGetPins s
  | .telemetryRound seg rails fault => Sys2Proof.Machine.execTelemetryRound seg rails fault s
  | .busHeld seg cleared => Sys2Proof.Machine.execBusHeld seg cleared s
  | .calibration => Sys2Proof.Machine.execCalibration s
  | .meshMessage m => Sys2Proof.Machine.execMeshMessage m s
  | .meshLinkDown plane f link => Sys2Proof.Machine.execMeshLinkDown plane f link s
  | .detourTables => Sys2Proof.Machine.execDetourTables s
  | .tbaseSync diff => Sys2Proof.Machine.execTbaseSync diff s
  | .wardenEpoch digA digB late => Sys2Proof.Machine.execWardenEpoch digA digB late s
  | .digestLate => Sys2Proof.Machine.execDigestLate s
  | .shepherdHeartbeat b => Sys2Proof.Machine.execShepherdHeartbeat b s
  | .shepherdLost voter b reported => Sys2Proof.Machine.execShepherdLost voter b reported s
  | .vote voter round v => Sys2Proof.Machine.execVote voter round v s
  | .challengeResponse b right => Sys2Proof.Machine.execChallengeResponse b right s
  | .challengeTimeout => Sys2Proof.Machine.execChallengeTimeout s
  | .takeover f => Sys2Proof.Machine.execTakeover f s
  | .orderEntry assertion => Sys2Proof.Machine.execOrderEntry assertion s
  | .outputRelease => Sys2Proof.Machine.execOutputRelease s
  | .shepherdRejoin b selfTestOk => Sys2Proof.Machine.execShepherdRejoin b selfTestOk s
  | .rejoinTimeout b => Sys2Proof.Machine.execRejoinTimeout b s
  | .shepherdResetOrder => Sys2Proof.Machine.execShepherdResetOrder s
  | .fwWatchdog b core => Sys2Proof.Machine.execFwWatchdog b core s
  | .deferredActivationStart => Sys2Proof.Machine.execDeferredActivationStart s
  | .updateImageReceived sigOk headerOk => Sys2Proof.Machine.execUpdateImageReceived sigOk headerOk s
  | .updateSwap => Sys2Proof.Machine.execUpdateSwap s
  | .updateJoinTimeout => Sys2Proof.Machine.execUpdateJoinTimeout s
  | .trackerCheck f => Sys2Proof.Machine.execTrackerCheck f s
  | .waitGraphAssembled auto t0 t1 tables => Sys2Proof.Machine.execWaitGraphAssembled auto t0 t1 tables s
  | .captureDone entries => Sys2Proof.Machine.execCaptureDone entries s
  | .captureBudget entries => Sys2Proof.Machine.execCaptureBudget entries s
  | .resetStatus f k ok => Sys2Proof.Machine.execResetStatus f k ok s
  | .resetLimit dom => Sys2Proof.Machine.execResetLimit dom s
  | .railCycleHold => Sys2Proof.Machine.execRailCycleHold s
  | .level1Limit => Sys2Proof.Machine.execLevel1Limit s
  | .epochEnd => Sys2Proof.Machine.execEpochEnd s
  | .hourBin => Sys2Proof.Machine.execHourBin s
  | .sweepReport f target => Sys2Proof.Machine.execSweepReport f target s
  | .sweepWait target => Sys2Proof.Machine.execSweepWait target s
  | .exchangeWait target => Sys2Proof.Machine.execExchangeWait target s
  | .fleeceSend => Sys2Proof.Machine.execFleeceSend s
  | .leeRun => Sys2Proof.Machine.execLeeRun s
  | .frequencySlewStep f => Sys2Proof.Machine.execFrequencySlewStep f s
  | .voltageLower f => Sys2Proof.Machine.execVoltageLower f s
  | .gustRise f detector => Sys2Proof.Machine.execGustRise f detector s
  | .stretchEnd f => Sys2Proof.Machine.execStretchEnd f s
  | .stormHoldEnd f => Sys2Proof.Machine.execStormHoldEnd f s
  | .gustDetectorStuck f detector => Sys2Proof.Machine.execGustDetectorStuck f detector s
  | .thermalSensorUpdate f sensor reading => Sys2Proof.Machine.execThermalSensorUpdate f sensor reading s
  | .breezeRun acts => Sys2Proof.Machine.execBreezeRun acts s
  | .tallyCommit programFailed => Sys2Proof.Machine.execTallyCommit programFailed s
  | .tallyReclaimDone => Sys2Proof.Machine.execTallyReclaimDone s
  | .tokenRefill => Sys2Proof.Machine.execTokenRefill s
  | .operatingSeconds => Sys2Proof.Machine.execOperatingSeconds s
  | .selftestSliceBoundary => Sys2Proof.Machine.execSelftestSliceBoundary s
  | .pacerWindow hostFree stackFree logFree => Sys2Proof.Machine.execPacerWindow hostFree stackFree logFree s
  | .snapshot => Sys2Proof.Machine.execSnapshot s
  | .pinLowTimeEnd fatal => Sys2Proof.Machine.execPinLowTimeEnd fatal s
  | .pinHighTimeEnd fatal => Sys2Proof.Machine.execPinHighTimeEnd fatal s
  | .thermalReturnDeadline f => Sys2Proof.Machine.execThermalReturnDeadline f s
  | .linkRetrainFailed tap attempts => Sys2Proof.Machine.execLinkRetrainFailed tap attempts s
  | .voutReadBack f mv => Sys2Proof.Machine.execVoutReadBack f mv s
  | .writeResponse ring => Sys2Proof.Machine.execWriteResponse ring s
  | .flashSlotWritten pack ok block => Sys2Proof.Machine.execFlashSlotWritten pack ok s block
  | .instrumentAccess ins write addr value => Sys2Proof.Machine.execInstrumentAccess ins write addr value s

end Sys2Proof.Machine
end

