-- ==== Sys2Proof/Machine/Idle.lean ====
section
/-! DEFINITION. What the block does on an empty queue. -/

namespace Sys2Proof.Machine

/-- The idle tick: while the block is powered, one REFCLK cycle of 10 ns passes on TBASE and nothing else happens
(R31; DESIGN CHOICE, log 1). -/
def State.idle (s : State) : State := if s.pwrGood then { s with tbase := s.tbase + 10, out := [] } else { s with out := [] }

end Sys2Proof.Machine
end

