-- ==== Sys2Proof/Safety.lean ====
section
/-! DEFINITION. What counts as a well-kept state and as a settled one, which commands the command rings carry, and when one is taken, in the terms
the claims use. -/

namespace Sys2Proof.Machine

/-- Every sparse map of the state has its canonical form, so equal machines are equal data. -/
def State.canonical (s : State) : Bool :=
  mapWf (fun _ => {}) s.fields && mapWf flockDefault s.flocks && mapWf (fun _ => {}) s.cores && mapWf (fun _ => {}) s.lanes
  && mapWf (fun _ => {}) s.crooks && mapWf (fun _ => {}) s.taps && mapWf (fun _ => {}) s.mems
  && mapWf (fun _ => {}) s.govFlocks && mapWf (fun _ => {}) s.watches

/-- Nothing waits to be carried out after a command: no ordered reaction, no reset, no Muster point, no start or end of a job, no
update, no held access, no notice of a switch-over, no handling of the latch, and no flock whose fold is pending. -/
def State.calm (s : State) : Bool :=
  s.due.isEmpty && s.recovery.resets.isEmpty && s.recovery.level1.isNone && s.musters.isEmpty && s.job.starting.isNone
  && s.life.shut.isNone && s.fw.step == 0 && s.fw.deferred.isNone && s.hif.waiting.isEmpty && s.pair.swDue.isNone && !s.ferr.handling
  && s.flocks.all (fun p => !p.2.foldPending)

/-- Every handling flag of the latch that is set has its work under way (R281): FENCE a closed hurdle of a field that is not lost,
PARTRST a part being reset or about to be, NMI a handler that runs, RESET a reset or recovery under way or ordered. -/
def State.latchLive (s : State) : Bool :=
  (!s.ferr.fence || s.ferr.fences.any (fun d => s.hurdleOn d && (s.field (uidField d)).pad != .lost))
  && (!s.ferr.partrst || s.ferr.parts.any (fun u => match partOf u with
        | some p => s.partResetting p || s.due.any (fun d => d == .partrst u)
        | none => false))
  && (!s.ferr.nmi || s.pair.a.nmi.isSome || s.pair.b.nmi.isSome)
  && (!s.ferr.reset || s.recovery.level1.isSome || s.recovery.resets.any (fun r => r.dom == dieUid)
        || s.due.any (fun d => match d with | .dierst _ => true | .recover _ => true | _ => false))

/-- The state in which a command ends whose own effect leaves `t`: what it ordered is carried out, and the queue is as it was. -/
def State.ends (s t : State) : State := { t.settle with pending := s.pending }

/-- The state in which the effect of a command begins that is no input to the pair's order (R345, R347). -/
def State.outside (s : State) : State := { s with out := [] }

/-- So many steps from a state; a fault or a refusal ends them. -/
def steps : Nat → State → Host.Outcome State Fault Refusal
  | 0, s => .next s
  | n + 1, s => match step s with | .next t => steps n t | o => o

/-- Commands executed in their order, each on the state that the one before it left, with the commands after it and then `rest` as
the queue; a fault or a refusal ends them. -/
def runInOrder (rest : List Instr) : List Instr → State → Host.Outcome State Fault Refusal
  | [], s => .next { s with pending := rest }
  | c :: cs, s => match exec c { s with pending := cs ++ rest } with | .next t => runInOrder rest cs t | o => o

/-- The row of a policy command serves the item of the descriptor: the item is its own, or is defined in no row. -/
def servesItem (row : PolicyRow) (d : Desc) : Bool := match policyRow (d.arg 8 2) with | none => true | some r => r == row

/-- A command of the command rings as the common checks see it: its descriptor, the opcode, the inline parameters with offset and
length, and the longest buffer it takes (Table 4.6, R107); none for every other command, and for a row that another row's item or
life-cycle request belongs to. -/
def hostCommand : Instr → Option (Desc × Nat × List (Nat × Nat) × Nat)
  | .negotiate d => some (d, 0x01, [(8, 10)], 64)
  | .ringCreate d => some (d, 0x02, [(8, 1), (9, 1), (10, 1), (12, 2), (14, 2), (16, 8)], 0)
  | .ringDestroy d => some (d, 0x03, [(8, 1), (9, 1)], 0)
  | .heartbeat d => some (d, 0x04, [], 0)
  | .jobBegin d => some (d, 0x10, [(8, 1)], 576)
  | .jobEnd d => some (d, 0x11, [], 0)
  | .musterPoint d => some (d, 0x12, [(12, 4)], 0)
  | .idleTableLoad d => some (d, 0x13, [(8, 2), (12, 4)], 2097168)
  | .screenPolicy d => if servesItem .screen d then some (d, 0x14, [(8, 2), (16, 8)], 304) else none
  | .governorPolicy d => if servesItem .governor d then some (d, 0x14, [(8, 2), (16, 8)], 304) else none
  | .sparingPolicy d => if servesItem .sparing d then some (d, 0x14, [(8, 2), (16, 8)], 304) else none
  | .reactionPolicy d => if servesItem .reaction d then some (d, 0x14, [(8, 2), (16, 8)], 304) else none
  | .reactionDefaults d => if servesItem .defaults d then some (d, 0x14, [(8, 2), (16, 8)], 304) else none
  | .recoveryPolicy d => if servesItem .recovery d then some (d, 0x14, [(8, 2), (16, 8)], 304) else none
  | .powerPolicy d => if servesItem .power d then some (d, 0x14, [(8, 2), (16, 8)], 304) else none
  | .lifecyclePolicy d => if servesItem .life d then some (d, 0x14, [(8, 2), (16, 8)], 304) else none
  | .rampSet d => some (d, 0x15, [(8, 4), (12, 4)], 0)
  | .packStage d => some (d, 0x20, [(8, 1)], 16777216)
  | .packActivate d => some (d, 0x21, [(8, 1)], 0)
  | .watchSet d => some (d, 0x30, [(8, 1)], 64)
  | .earmarkConfig d => some (d, 0x31, [], 1040)
  | .replicaDigest d => some (d, 0x32, [], 1056)
  | .queryBound d => some (d, 0x40, [], 4294967295)
  | .queryHealth d => some (d, 0x41, [(12, 4)], 4294967295)
  | .foldRequest d => some (d, 0x50, [(12, 4), (16, 1)], 0)
  | .unfold d => some (d, 0x51, [(12, 4), (16, 1)], 304)
  | .domainReset d => some (d, 0x60, [(12, 4)], 0)
  | .recover d => some (d, 0x61, [], 0)
  | .tallyRead d => some (d, 0x70, [(8, 6), (16, 4)], 4294967295)
  | .tallyClear d => some (d, 0x71, [], 368)
  | .fwStage d => some (d, 0x80, [], 2097152)
  | .fwActivate d => some (d, 0x81, [], 0)
  | .traceConfig d => some (d, 0x90, [], 64)
  | .waitgraphReq d => some (d, 0x91, [(12, 4)], 4294967295)
  | .lifecycleProvisioned d => if lifeRow d 1 then some (d, 0xA0, [(8, 1)], 400) else none
  | .lifecycleField d => if lifeRow d 2 then some (d, 0xA0, [(8, 1)], 304) else none
  | .lifecycleReturn d => if lifeRow d 3 then some (d, 0xA0, [(8, 1)], 608) else none
  | .shutDown d => if lifeRow d 4 then some (d, 0xA0, [(8, 1)], 0) else none
  | .setOwnerPackKey d => if lifeRow d 5 then some (d, 0xA0, [(8, 1)], 400) else none
  | _ => none

/-- Beyja takes the descriptor now: it is the turn of its ring at a running interface that firmware serves, it is of the command's
opcode, and a command that programs the flash comes while PWR_GOOD is high (R97, R107, R114). -/
def State.takes (s : State) (d : Desc) (op : Nat) : Bool :=
  match s.hif.cmd d.ring with
  | none => false
  | some r =>
    s.firmware && s.hif.st == .running && s.hif.nextRing == some d.ring && decide (d.bytes.length = 64)
    && (s.pwrGood || !flashOps.contains op) && (d.bytes.getD 0 0).toNat == op && s.hif.inside r.base (64 * 2 ^ r.log2)

/-- Beyja takes the descriptor now, finds no breach of the common checks in it and reads its input buffer, and a negotiation stands
where the command needs one (R107, R114, R116, R117, R123). -/
def State.accepts (s : State) (d : Desc) (op : Nat) (used : List (Nat × Nat)) (maxLen : Nat) : Bool :=
  s.takes d op && !s.badDesc d used maxLen && !d.bufLost && (op == 0x01 || op == 0x04 || s.hif.neg.isSome)

/-- The descriptor's ring carries its command, and the turn goes to the next ring (R114). -/
def State.taken (s : State) (d : Desc) (op : Nat) : State :=
  (s.modHif (fun h => { h with turn := d.ring + 1 })).modHif (·.modCmd d.ring (fun r => { r with busy := some op, notify := bit (d.bytes.getD 1 0).toNat 0, bufAddr := d.addr }))

end Sys2Proof.Machine
end

