-- ==== Sys2Proof/Certificates/Slice0/Obligations.lean ====
section
/-! DEFINITION. The statements for the provers. -/

open Sys2Proof Sys2Proof.Machine

/-- For every command c and every state s, a step of s with c at the front of its queue is exec of c on s with the queue's rest.
With an empty queue a step answers a next state in which TBASE, while the block is powered, has moved on by one period of the
100 MHz reference clock and no output stands, and nothing else has changed. That time passes on an empty queue is the model's
choice (log entry 1). -/
def Obligations.StepTakesTheFrontCommand : Prop :=
  (∀ (c : Instr) (rest : List Instr) (s : State), step { s with pending := c :: rest } = exec c { s with pending := rest })
  ∧ (∀ s : State, s.pending = [] →
    ∃ t, step s = .next t ∧ t.tbase = (if s.pwrGood then s.tbase + 10 else s.tbase) ∧ t.out = []
      ∧ { t with tbase := s.tbase, out := s.out } = s)

/-- In a calm state, in which no reaction is ordered, no reset, Muster point, job start, shut-down or update is under way, no
access is held, no notice of a switch-over is due, the first-error latch handles nothing and no fold of a flock is pending, what
follows a command changes nothing. -/
def Obligations.CalmStateSettlesToItself : Prop :=
  ∀ t : State, t.calm = true → t.settle = t

/-- For every command and every state: exec answers a next state, unless the command is a COMMAND_ISSUE of good parity and of a
reserved class (3 or above), which ends in the fault of undefined results. No other fault and no refusal occurs. -/
def Obligations.EveryCommandAnswersOrStopsByName : Prop :=
  ∀ (c : Instr) (s : State),
    (∃ t, exec c s = .next t)
    ∨ (∃ f k cls, c = .commandIssue f k cls true ∧ 3 ≤ cls ∧ exec c s = .fault (.undefinedByR2 48))

/-- When exec of any command answers a next state, the queue of that state is the queue it was given; so a step of a state with
a command at the front of its queue, when it answers a next state, leaves exactly the rest of that queue. From a state whose
queue is a list of commands followed by another list, as many steps as there are commands answer what executing the commands in
their order answers, each on the state that the one before it left: the state after the last one with the other list as its
queue, or the fault or refusal of the first that ends in one. -/
def Obligations.QueuedCommandsRunFirstInFirstOut : Prop :=
  ((∀ (c : Instr) (s t : State), exec c s = .next t → t.pending = s.pending)
  ∧ (∀ (c : Instr) (rest : List Instr) (s t : State), s.pending = c :: rest → step s = .next t → t.pending = rest))
  ∧ (∀ (cs rest : List Instr) (s : State), steps cs.length { s with pending := cs ++ rest } = runInOrder rest cs s)

/-- From every state in which each handling flag that is set has its work under way (FENCE a closed hurdle, in a field that is
not lost, among those closed for the errors held; PARTRST a part among those held that is being reset or whose reset is ordered;
NMI a handler that runs in a Shepherd; RESET a level-1 recovery, a reset of the die or an order for one), a step that answers a
next state, whatever command it takes and whatever that command does, leaves a state of which the same holds. A command that
answers a next state leaves such a state from any state at all. -/
def Obligations.HandlingFlagsHaveTheirWork : Prop :=
  (∀ s t : State, s.latchLive = true → step s = .next t → t.latchLive = true)
  ∧ (∀ (c : Instr) (s t : State), exec c s = .next t → t.latchLive = true)

/-- At State.reset: the queue is empty, no ring exists and the interface is not running, the window is unlocked, the latch
captures nothing and handles nothing, no job is active, no reset or recovery is under way, no firmware runs and Beyja is not
ready, TBASE is 0, no alarm pin is low, every sparse map has its canonical form, and no handling flag lacks its work. That power
is not yet good is the model's choice (log entry 9). -/
def Obligations.ResetLeavesTheInterfaceDown : Prop :=
  State.reset.pending = [] ∧ State.reset.hif.cmds = [] ∧ State.reset.hif.evs = [] ∧ State.reset.hif.st ≠ .running ∧ State.reset.hif.lock = false
  ∧ State.reset.ferr.valid = false ∧ State.reset.ferr.overflow = false ∧ State.reset.ferr.handling = false ∧ State.reset.job.active = false
  ∧ State.reset.recovery.resets = [] ∧ State.reset.recovery.level1 = none ∧ State.reset.firmware = false ∧ State.reset.start.ready = false
  ∧ State.reset.tbase = 0 ∧ State.reset.pins.err.low = false ∧ State.reset.pins.fatal.low = false ∧ State.reset.canonical = true
  ∧ State.reset.latchLive = true

/-- From a state whose unit maps are canonical, writing a field, flock, core, lane, Crook, link tap, memory tap, governor flock
or watch point gives a state whose maps are canonical. The written field, flock or core reads as it was written, and every
field, flock and core of another key reads as before. -/
def Obligations.UnitMapsStayCanonical : Prop :=
  ∀ (s : State),
    (s.canonical = true → (∀ f v, (s.setField f v).canonical = true) ∧ (∀ f k v, (s.setFlock f k v).canonical = true)
      ∧ (∀ f k c v, (s.setCore f k c v).canonical = true) ∧ (∀ f k c l g, (s.modLane f k c l g).canonical = true)
      ∧ (∀ f i g, (s.modCrook f i g).canonical = true) ∧ (∀ t g, (s.modTap t g).canonical = true) ∧ (∀ t g, (s.modMem t g).canonical = true)
      ∧ (∀ f k g, (s.modGflock f k g).canonical = true) ∧ (∀ w g, (s.modWatch w g).canonical = true))
    ∧ (∀ f v, (s.setField f v).field f = v ∧ ∀ g, g ≠ f → (s.setField f v).field g = s.field g)
    ∧ (∀ f k v, (s.setFlock f k v).flock f k = v ∧ ∀ g j, flockKey g j ≠ flockKey f k → (s.setFlock f k v).flock g j = s.flock g j)
    ∧ (∀ f k c v, (s.setCore f k c v).core f k c = v ∧ ∀ g j d, coreKey g j d ≠ coreKey f k c → (s.setCore f k c v).core g j d = s.core g j d)

/-- While the hardware registers answer: WINDOW_LOCK sets the lock; FERR_OVERFLOW_CLEAR clears the latch's overflow bit at any
time; FERR_CLEAR clears the whole latch but its overflow bit when no handling flag is set, and changes nothing when one is;
PIN_MODE_WRITE with the window unlocked and no pin held writes both modes, and with the window locked writes nothing. Each
answers the access without error and changes nothing else. While both Shepherds are lost, a write of any register of the set-up
window answers ERROR and changes nothing else. While firmware runs and a Shepherd is active, APERTURE_WRITE of a well-aligned
access writes the aperture register's bits that its size covers, unless the window is locked, WINDOW_WRITE writes the bootstrap
register at its offset, and a write of an offset that holds neither changes nothing. In a switch-over gap the access waits for
its answer. While no firmware runs it answers ERROR and changes nothing. A WINDOW_WRITE below offset 0x100 reaches no bootstrap
register. An access of the powered window of a size other than 4 or 8 bytes, or misaligned, is answered with ERROR, and event
0x5007 of the die is recorded with the offset in bytes 48-51 and the size in byte 52. -/
def Obligations.WindowWritesTakeEffect : Prop :=
  (∀ s : State, s.windowUp = true →
    exec .windowLock s = .next (s.ends { s.begun with hif := { s.hif with lock := true }, out := [.window false] })
    ∧ exec .ferrOverflowClear s = .next (s.ends { s.begun with ferr := { s.ferr with overflow := false }, out := [.window false] })
    ∧ (s.ferr.handling = false → exec .ferrClear s =
        .next (s.ends { s.begun with ferr := { overflow := s.ferr.overflow }, out := [.window false] }))
    ∧ (s.ferr.handling = true → exec .ferrClear s = .next (s.ends { s.begun with out := [.window false] }))
    ∧ (∀ e f : Bool, s.hif.lock = false → s.pins.err.held = false → s.pins.fatal.held = false →
        exec (.pinModeWrite e f) s = .next (s.ends { s.begun with
          pins := { s.pins with err := { s.pins.err with modeReg := e }, fatal := { s.pins.fatal with modeReg := f } }
          out := [.window false] }))
    ∧ (∀ e f : Bool, s.hif.lock = true → exec (.pinModeWrite e f) s = .next (s.ends { s.begun with out := [.window false] })))
  ∧ (∀ s : State, s.pair.bothLost = true →
    (∀ c : Instr, c ∈ [Instr.hifStart, .hifResume, .windowLock, .ferrClear, .ferrOverflowClear] →
      exec c s = .next (s.ends { s.begun with out := [.window true] }))
    ∧ (∀ e f : Bool, exec (.pinHeldClear e f) s = .next (s.ends { s.begun with out := [.window true] })
      ∧ exec (.pinModeWrite e f) s = .next (s.ends { s.begun with out := [.window true] }))
    ∧ (∀ (off size : Nat) (v : BitVec 64), windowOk off size = true →
      exec (.apertureWrite off size v) s = .next (s.ends { s.begun with out := [.window true] })
      ∧ exec (.windowWrite off size v) s = .next (s.ends { s.begun with out := [.window true] })))
  ∧ (∀ (off size : Nat) (v : BitVec 64) (s : State), windowOk off size = true →
    (s.emulated = true → s.activeShc.isSome = true → exec (.apertureWrite off size v) s =
        .next (s.ends { s.begun with hif := s.hif.aperture off size v, out := [.window false] }))
    ∧ (s.emulated = true → s.activeShc.isSome = true → 0x100 ≤ off → exec (.windowWrite off size v) s =
        .next (s.ends { s.begun with hif := s.hif.bootWrite off size v, out := [.window false] }))
    ∧ (s.emulated = true → s.activeShc = none → exec (.apertureWrite off size v) s =
        .next (s.ends { s.begun with hif := { s.hif with waiting := s.hif.waiting ++ [.aperture off size v] } }))
    ∧ (s.emulated = true → s.activeShc = none → 0x100 ≤ off → exec (.windowWrite off size v) s =
        .next (s.ends { s.begun with hif := { s.hif with waiting := s.hif.waiting ++ [.boot off size v] } }))
    ∧ (s.emulated = false → exec (.apertureWrite off size v) s = .next (s.ends { s.begun with out := [.window true] }))
    ∧ (s.emulated = false → 0x100 ≤ off → exec (.windowWrite off size v) s = .next (s.ends { s.begun with out := [.window true] }))
    ∧ (off < 0x100 → s.windowUp = true → exec (.windowWrite off size v) s = .next (s.ends { s.begun with out := [.window false] })))
  ∧ (∀ (off size : Nat) (wr : Bool) (s : State), windowOk off size = false → s.pwrGood = true →
    exec (.windowError off size wr) s =
      .next (s.ends (({ s.begun with out := [.window true] } : State).note 0x5007 dieUid ([0, 0, 0, 0] ++ le 4 off ++ [BitVec.ofNat 8 size]))))

/-- While the hardware registers answer and the Warden does not hold FATAL_N, PIN_HELD_CLEAR of one pin that is held in hold
mode raises that pin and clears its held bit when its 1 us low time has ended; during that low time it only notes the clear; a
pin that is not held is left as it was. The other pin is unchanged. When the low time of a low pin ends, a pin in release mode
rises and stays high for another 1 us, and a pin in hold mode that nothing has cleared stays low. When the high time ends with
no event held, the pin may fall again and nothing else changes. TBASE reaches the end of the time. -/
def Obligations.AlarmPinsFollowTheirTimes : Prop :=
  (∀ s : State, s.windowUp = true → s.pins.wardenFatal = false →
    (∃ t, exec (.pinHeldClear true false) s = .next (s.ends t)
      ∧ t.pins = { s.pins with err :=
          if s.pins.err.held = false then s.pins.err
          else if s.pins.err.lowEnd.isSome then { s.pins.err with clear := true }
          else { s.pins.err with low := false, held := false, clear := false, lowEnd := none, highEnd := none } }
      ∧ { t with out := s.out, pins := s.pins, pair := s.pair } = s)
    ∧ (∃ t, exec (.pinHeldClear false true) s = .next (s.ends t)
      ∧ t.pins = { s.pins with fatal :=
          if s.pins.fatal.held = false then s.pins.fatal
          else if s.pins.fatal.lowEnd.isSome then { s.pins.fatal with clear := true }
          else { s.pins.fatal with low := false, held := false, clear := false, lowEnd := none, highEnd := none } }
      ∧ { t with out := s.out, pins := s.pins, pair := s.pair } = s))
  ∧ ((∀ (fatal : Bool) (s : State) (e : Nat), (s.pin fatal).lowEnd = some e → (s.pin fatal).low = true →
    ∃ t, exec (.pinLowTimeEnd fatal) s = .next (s.ends t) ∧ t.tbase = max s.tbase e
      ∧ t.pin fatal = (if (s.pin fatal).mode = false
          then { s.pin fatal with low := false, held := false, clear := false, lowEnd := none, highEnd := some (max s.tbase e + 1000) }
          else if (s.pin fatal).clear
          then { s.pin fatal with low := false, held := false, clear := false, lowEnd := none, highEnd := none }
          else { s.pin fatal with lowEnd := none })
      ∧ t.pin (!fatal) = s.pin (!fatal))
  ∧ (∀ (fatal : Bool) (s : State) (e : Nat), (s.pin fatal).highEnd = some e → (s.pin fatal).waiting = false →
    ∃ t, exec (.pinHighTimeEnd fatal) s = .next (s.ends t) ∧ t.tbase = max s.tbase e
      ∧ t.pin fatal = { s.pin fatal with highEnd := none, waiting := false } ∧ t.pin (!fatal) = s.pin (!fatal))
  ∧ (∀ (fatal : Bool) (s : State) (e : Nat), (s.pin fatal).highEnd = some e → (s.pin fatal).waiting = true →
    (s.pin fatal).low = false → s.pair.bothLost = false →
    ∃ t, exec (.pinHighTimeEnd fatal) s = .next (s.ends t) ∧ (t.pin fatal).low = true
      ∧ (t.pin fatal).lowEnd = some (max s.tbase e + 1000) ∧ (t.pin fatal).held = (s.pin fatal).modeReg))

/-- After readiness, with firmware running, a Shepherd active and no host loss, HIF_START with bootstrap registers that pass
their checks answers OK and leaves the interface RUNNING with command ring 0 and event ring 0 alone, of the bases and sizes that
the bootstrap registers give, the doorbell and status blocks at their addresses, no negotiation, and the heartbeat timer started
now. Before readiness the START write is held. In a switch-over gap it waits for its answer. After readiness, with firmware
running and a Shepherd active, HIF_START with bootstrap registers that fail a check reports error 0x5008 of the die with the
reason, from a state in which the interface is BOOT_FAILED with that reason and no ring exists, and answers OK. While firmware
runs and a Shepherd is active, HIF_RESUME in the state HOST_LOST resumes the interface with its rings, and in any other state
changes nothing; either way the access answers OK. In a switch-over gap it waits for its answer. While the interface runs and
firmware serves it, HEARTBEAT_LATE records event 0x5003 once per lapse at 1 s after the timer's latest start or restart, with
that instant in bytes 48-55, and HOST_LOST at 5 s after it declares host loss, reports 0x5004 with the same instant and sends
the platform event of the state host lost. The timer starts with the interface (HIF_START and HIF_RESUME) and restarts at every
HEARTBEAT taken. -/
def Obligations.InterfaceComesUpAndRecovers : Prop :=
  (∀ s : State, s.emulated = true →
    (s.activeShc.isSome = true → s.start.ready = true → s.hif.st ≠ .hostLost → s.hif.bootReason = 0 →
      ∃ t, exec .hifStart s = .next (s.ends t) ∧ t.out = [.window false] ∧ t.hif.st = .running ∧ t.hif.neg = none ∧ t.hif.reason = 0
        ∧ t.hif.cmds = [{ num := 0, base := s.hif.cr0Base.toNat, log2 := s.hif.cr0Size.toNat % 16, paired := 0 }]
        ∧ t.hif.evs = [{ num := 0, base := s.hif.er0Base.toNat, log2 := s.hif.er0Size.toNat % 16, minSev := 0, mask := 0xFFFF, moderation := 20 }]
        ∧ t.hif.dbCur = s.hif.dbAddr.toNat ∧ t.hif.stCur = s.hif.stAddr.toNat ∧ t.hif.hbOn = true ∧ t.hif.hbLast = s.tbase)
    ∧ (s.activeShc.isSome = true → s.start.ready = false → exec .hifStart s =
      .next (s.ends { s.begun with hif := { s.hif with startHeld := true }, out := [.window false] }))
    ∧ (s.activeShc = none → exec .hifStart s =
      .next (s.ends { s.begun with hif := { s.hif with waiting := s.hif.waiting ++ [.start false] } })))
  ∧ (∀ s : State, s.emulated = true → s.activeShc.isSome = true → s.start.ready = true → s.hif.bootReason ≠ 0 →
    ∃ u : State, u.hif.st = .bootFailed ∧ u.hif.reason = s.hif.bootReason ∧ u.hif.cmds = [] ∧ u.hif.evs = [] ∧ u.hif.neg = none ∧ u.hif.hbOn = false
      ∧ exec .hifStart s = .next (s.ends ((u.report 0x5008 dieUid [BitVec.ofNat 8 s.hif.bootReason]).drive (.window false))))
  ∧ (∀ s : State, s.emulated = true →
    (s.activeShc.isSome = true → s.hif.st = .hostLost → exec .hifResume s = .next (s.ends ((s.begun.resume).drive (.window false))))
    ∧ (s.activeShc.isSome = true → s.hif.st ≠ .hostLost → exec .hifResume s = .next (s.ends { s.begun with out := [.window false] }))
    ∧ (s.activeShc = none → exec .hifResume s =
      .next (s.ends { s.begun with hif := { s.hif with waiting := s.hif.waiting ++ [.start true] } })))
  ∧ ((∀ s : State, s.firmware = true → s.hif.hbOn = true → s.hif.st = .running →
    (s.hif.hbLate = false → exec .heartbeatLate s = .next (s.ends
        (({ s.begun with tbase := max s.tbase (s.hif.hbLast + 1000000000), hif := { s.hif with hbLate := true } } : State).note 0x5003 dieUid
          ([0, 0, 0, 0] ++ le 8 s.hif.hbLast))))
    ∧ (s.hif.hbLate = true → exec .heartbeatLate s = .next (s.ends s.begun))
    ∧ (∃ t u : State, exec .hostLost s = .next (s.ends t)
        ∧ u = { s.begun with tbase := max s.tbase (s.hif.hbLast + 5000000000),
                             hif := { s.hif with st := .hostLost, hbOn := false, impQueue := s.hif.impQueue.filter (· == 8) } }
        ∧ t = ((u.report 0x5004 dieUid ([0, 0, 0, 0] ++ le 8 s.hif.hbLast)).modHif
            (fun h => { h with lostSeq := some (u.report 0x5004 dieUid ([0, 0, 0, 0] ++ le 8 s.hif.hbLast)).tally.next })).platformEvent 2))
  ∧ (∀ s : State, s.hif.st = .hostLost → s.emulated = true → s.activeShc.isSome = true → s.hif.cmds = [] →
      ∃ t u : State, exec .hifResume s = .next (s.ends t) ∧ u.hif.hbOn = true ∧ u.hif.hbLast = s.tbase ∧ u.hif.hbLate = false
        ∧ t = ((u.note 0x5005 dieUid ([1, 0] ++ le 6 (s.hif.lostSeq.getD s.tally.next) ++ zeros 4)).hostBack).drive (.window false))
  ∧ (∀ (d : Desc) (s : State), s.accepts d 0x04 [] 0 = true →
      exec (.heartbeat d) s = .next (s.ends
        (((s.begun.taken d 0x04).modHif (fun h => { h with hbLast := s.tbase, hbLate := false })).complete d.ring 0x00 (le 8 s.tbase)))))

/-- When the interrupt message outstanding is acknowledged and none waits, the message ends on the port; when one waits, it
becomes the outstanding one. MODERATION_END of an event ring in its interval reaches the interval's end, ends the interval when
no signal was collected, and sends one collected signal, which begins the next interval. While firmware serves a running
interface of command ring 0 and event ring 0 whose doorbell block lies inside the aperture, and no record was lost from event
ring 0: DOORBELL_POLL takes word 0 as the tail count of the command ring when at most the ring's size of commands then wait, and
word 64 as the head count of the event ring when it frees no more than the unread entries; a tail count out of range changes no
count of its ring, nor does, beside a tail count in range, a head count out of range. While firmware serves a running interface,
DMA_ERROR reports 0x5006 with the kind of access, the ring and the address: of a descriptor fetch or completion of an existing
command ring with kind 0, and stops that ring; of a posting to an existing event ring with kind 1, and stops it; of the write of
an output buffer with kind 2, and fails the command; of the doorbell or the status block with kind 3 or 4, once for a run of
failures. One that is not answered comes 100 us later. -/
def Obligations.HostPortsHandOver : Prop :=
  ((∀ (s : State) (v : Nat), s.hif.impVld = some v → s.hif.impQueue = [] →
    exec .interruptAck s = .next (s.ends (({ s.begun with hif := { s.hif with impVld := none } } : State).driveImp none)))
  ∧ (∀ (s : State) (v w : Nat) (q : List Nat), s.hif.impVld = some v → s.hif.impQueue = w :: q → ∃ t, exec .interruptAck s = .next (s.ends t)
    ∧ t = (({ s.begun with hif := { s.hif with impVld := none } } : State).driveImp none).nextVector ∧ t.hif.impVld = some w ∧ t.hif.impQueue = q)
  ∧ (∀ (s : State) (j e : Nat) (q : EvRing), s.firmware = true → s.hif.ev j = some q → q.intervalEnd = some e →
    exec (.moderationEnd j) s = .next (s.ends
      (if q.signal then ({ s.begun with tbase := max s.tbase e } : State).sendVector j
       else ({ s.begun with tbase := max s.tbase e } : State).modHif (·.modEv j (fun q => { q with intervalEnd := none }))))))
  ∧ (∀ (ws : List Nat) (s : State) (r : CmdRing) (q : EvRing), s.firmware = true → s.hif.st = .running →
    s.hif.inside s.hif.dbCur 1024 = true → s.hif.cmds = [r] → s.hif.evs = [q] → r.num = 0 → q.num = 0 → r.stopped = false → q.stopped = false →
    q.lost = 0 →
    ∃ t, exec (.doorbellPoll ws) s = .next (s.ends t)
      ∧ ((ws.getD 0 0 % 2 ^ 32 + 2 ^ 32 - r.head) % 2 ^ 32 ≤ 2 ^ r.log2 →
          t.hif.cmds = [{ r with tail := ws.getD 0 0 % 2 ^ 32, dbErr := false }]
          ∧ ((ws.getD 64 0 % 2 ^ 32 + 2 ^ 32 - q.head) % 2 ^ 32 ≤ q.used →
              t.hif.evs = [{ q with head := ws.getD 64 0 % 2 ^ 32, dbErr := false }])
          ∧ (q.used < (ws.getD 64 0 % 2 ^ 32 + 2 ^ 32 - q.head) % 2 ^ 32 → (t.hif.ev 0).map (·.head) = some q.head))
      ∧ (2 ^ r.log2 < (ws.getD 0 0 % 2 ^ 32 + 2 ^ 32 - r.head) % 2 ^ 32 → t.hif.cmds = [{ r with dbErr := true }]))
  ∧ (∀ (a : BitVec 64) (late : Bool) (s u : State) (i : Nat), s.firmware = true → s.hif.st = .running →
    u = (if late then { s.begun with tbase := s.tbase + 100000 } else s.begun) →
    ((s.hif.cmd i).isSome = true → ∀ h : HostAccess, h = .fetch i ∨ h = .completion i →
      exec (.dmaError h a late) s = .next (s.ends ((u.report 0x5006 dieUid ([0, BitVec.ofNat 8 i, 0, 0] ++ le 8 a.toNat)).stopRing i)))
    ∧ ((s.hif.ev i).isSome = true →
      exec (.dmaError (.event i) a late) s = .next (s.ends ((u.report 0x5006 dieUid
        ([1, BitVec.ofNat 8 i, 0, 0] ++ le 8 a.toNat)).modHif (·.modEv i (fun r => { r with stopped := true })))))
    ∧ (∀ (r : CmdRing) (c : Completion), s.hif.cmd i = some r → r.stage = some (0, c) →
      exec (.dmaError (.buffer i) a late) s = .next (s.ends ((u.report 0x5006 dieUid
        ([2, BitVec.ofNat 8 i, 0, 0] ++ le 8 a.toNat)).bufferFailed i)))
    ∧ exec (.dmaError .doorbell a late) s = .next (s.ends (if s.hif.dbFailed then u else
        (u.modHif (fun h => { h with dbFailed := true })).report 0x5006 dieUid ([3, 0xFF, 0, 0] ++ le 8 a.toNat)))
    ∧ exec (.dmaError .status a late) s = .next (s.ends (if s.hif.stFailed then u else
        (u.modHif (fun h => { h with stFailed := true })).report 0x5006 dieUid ([4, 0xFF, 0, 0] ++ le 8 a.toNat))))

/-- A NEGOTIATE that Beyja takes, whose ranges meet Beyja's own in all five interfaces and, while a job is active, give the
versions of that job, completes with OK and the five chosen versions, which become the negotiated ones as the completion is
written. When the ranges do not meet, it completes with VERSION and the negotiation stays as it was. Beyja's own ranges go into
the buffer as far as it is long. For each of the five interfaces, the version that a negotiation chooses is the lower of the two
upper ends when it is at least both lower ends, and 0 otherwise; five versions are chosen. A RING_CREATE that Beyja takes with
parameters in range adds a ring of the given base, size and parameters at the lowest free number of its type and completes with
OK and that number, or with NO_RESOURCE when none is free. A RING_DESTROY in range of an event ring, or of a command ring
without a command in progress, removes that ring and completes with OK; a command in progress on the ring, which is not stopped,
completes first. -/
def Obligations.RingsAndVersionsAreNegotiated : Prop :=
  (∀ (d : Desc) (s : State) (c : List Byte) (meets : Bool), s.accepts d 0x01 [(8, 10)] 64 = true →
    c = chooseVersions s.ownRanges ((d.bytes.drop 8).take 10) →
    meets = (c.all (· != 0) && (!s.job.active || s.job.ver == some c)) →
    exec (.negotiate d) s = .next (s.ends
      ((s.begun.taken d 0x01).complete d.ring (if meets then 0x00 else 0x02) c (if d.len = 0 then [] else fit (min 64 d.len) s.ownRanges)
        (if meets then some c else none))))
  ∧ (∀ own host : List Byte, (chooseVersions own host).length = 5
    ∧ ∀ i < 5, ((chooseVersions own host).getD i 0).toNat =
        (if max (own.getD (2 * i) 0).toNat (host.getD (2 * i) 0).toNat ≤ min (own.getD (2 * i + 1) 0).toNat (host.getD (2 * i + 1) 0).toNat
         then min (own.getD (2 * i + 1) 0).toNat (host.getD (2 * i + 1) 0).toNat else 0))
  ∧ ((∀ (d : Desc) (s : State), s.accepts d 0x02 [(8, 1), (9, 1), (10, 1), (12, 2), (14, 2), (16, 8)] 0 = true → s.badCreate d = false →
    (d.arg 8 1 = 0 → exec (.ringCreate d) s = .next (s.ends
      (match freeNum 64 (s.hif.cmds.map (·.num)) with
       | none => (s.begun.taken d 0x02).complete d.ring 0x04
       | some i => ((s.begun.taken d 0x02).modHif (fun h => { h with cmds := sortOn (fun q => (q.num : Int)) (h.cmds ++
           [{ num := i, base := d.arg 16 8, log2 := d.arg 9 1, paired := d.arg 10 1 }]) })).complete d.ring 0x00 (le 1 i))))
    ∧ (d.arg 8 1 = 1 → exec (.ringCreate d) s = .next (s.ends
      (match freeNum 8 (s.hif.evs.map (·.num)) with
       | none => (s.begun.taken d 0x02).complete d.ring 0x04
       | some j => ((s.begun.taken d 0x02).modHif (fun h => { h with evs := sortOn (fun q => (q.num : Int)) (h.evs ++
           [{ num := j, base := d.arg 16 8, log2 := d.arg 9 1, minSev := d.arg 10 1, mask := BitVec.ofNat 16 (d.arg 12 2), moderation := d.arg 14 2 }]) })).complete
             d.ring 0x00 (le 1 j)))))
  ∧ (∀ (d : Desc) (s : State), s.accepts d 0x03 [(8, 1), (9, 1)] 0 = true → s.badDestroy d = false →
    (d.arg 8 1 = 1 → exec (.ringDestroy d) s = .next (s.ends
      (((s.begun.taken d 0x03).modHif (fun h => { h with evs := h.evs.filter (fun r => r.num != d.arg 9 1) })).complete d.ring 0x00)))
    ∧ (∀ r : CmdRing, d.arg 8 1 = 0 → s.hif.cmd (d.arg 9 1) = some r →
      exec (.ringDestroy d) s = .next (s.ends
        (if r.busy.isSome && !r.stopped then (s.begun.taken d 0x03).modHif (·.modCmd (d.arg 9 1) (fun r => { r with dying := some d.ring, tail := r.head }))
         else ((s.begun.taken d 0x03).modHif (fun h => { h with cmds := h.cmds.filter (fun r => r.num != d.arg 9 1) })).complete d.ring 0x00)))))

/-- When a command in progress completes with no output buffer, its ring neither stopped nor completing, the interface running,
the ring inside the aperture and no follower in service, bytes 48-63 of its slot are written with the result in bytes 48-55, the
status in byte 56, bytes 57-59 zero and the returned length 0, and then byte 57 is written as 1; the ring then waits for the
response to that write. With an output buffer inside the aperture, the buffer is written first, at most 256 bytes a write, and
nothing else yet. While firmware runs, the response to an output buffer's write makes Beyja write the result; the response to
the write of byte 57 of a ring that is not to be destroyed leaves the ring with no command in progress and its head count one
higher modulo 2^32. A number from 64 upward names the status block: its response ends a run of failed accesses and confirms the
event-ring entries written before it. -/
def Obligations.CompletionsAreWrittenInOrder : Prop :=
  (∀ (s : State) (i st : Nat) (res buf : List Byte) (r : CmdRing), s.hif.cmd i = some r → r.busy.isSome = true → r.stage = none →
    r.held = none → r.stopped = false → s.hif.st = .running → s.follower = none →
    (buf = [] → s.hif.inside r.base (64 * 2 ^ r.log2) = true →
      (s.complete i st res buf).out = s.out ++ [.host (r.slot + 48) (fit 8 res ++ le 1 st ++ zeros 3 ++ le 4 0) true, .host (r.slot + 57) [1] true]
      ∧ (s.complete i st res buf).hif = { s.hif.modCmd i (fun q => { q with
          stage := some (1, { ring := i, status := st, result := res, returned := 0, buffer := [], notify := r.notify }), issued := s.hif.issues })
          with issues := s.hif.issues + 1 }
      ∧ { s.complete i st res buf with out := s.out, hif := s.hif } = s)
    ∧ (buf ≠ [] → s.hif.inside r.bufAddr buf.length = true →
      (s.complete i st res buf).out = s.out ++ (chunks buf.length 256 buf).mapIdx (fun n l => .host (r.bufAddr + 256 * n) l true)
      ∧ (s.complete i st res buf).hif = { s.hif.modCmd i (fun q => { q with
          stage := some (0, { ring := i, status := st, result := res, returned := buf.length, buffer := buf, notify := r.notify }), issued := s.hif.issues })
          with issues := s.hif.issues + 1 }
      ∧ { s.complete i st res buf with out := s.out, hif := s.hif } = s))
  ∧ ((∀ (s : State) (i : Nat) (r : CmdRing) (c : Completion), s.firmware = true → i < 64 → s.hif.cmd i = some r → r.stage = some (0, c) →
    exec (.writeResponse i) s = .next (s.ends (s.begun.writeResult r c)))
  ∧ (∀ (s : State) (i : Nat) (r : CmdRing) (c : Completion), s.firmware = true → i < 64 → s.hif.cmd i = some r → r.stage = some (1, c) → r.dying = none →
    ∃ t, exec (.writeResponse i) s = .next (s.ends t) ∧
      t.hif.cmds = (s.hif.modCmd i (fun q => { q with head := (r.head + 1) % 2 ^ 32, busy := none, stage := none, notify := false, bufAddr := 0 })).cmds)
  ∧ (∀ (s : State) (i : Nat), s.firmware = true → 64 ≤ i →
    exec (.writeResponse i) s = .next (s.ends { s.begun with hif := { s.hif with stFailed := false, evs := s.hif.evs.map (fun q => { q with unconf := [] }) } })))

/-- For every command of the command rings: when Beyja takes its descriptor and the descriptor breaks the common checks, or
carries a reserved opcode, the command completes with status 0x05 and has no other effect; when its input buffer cannot be read
it completes with 0x05 and the failed access is reported; before a negotiation, a command other than NEGOTIATE and HEARTBEAT
whose buffer can be read completes with 0x05 or 0x02 and has no other effect; and while its ring does not exist, or no firmware
runs, it has no effect. -/
def Obligations.CommonChecksComeFirst : Prop :=
  ∀ (c : Instr) (d : Desc) (op : Nat) (used : List (Nat × Nat)) (maxLen : Nat) (s : State), hostCommand c = some (d, op, used, maxLen) →
    (s.takes d op = true → s.badDesc d used maxLen = true → exec c s = .next (s.ends ((s.begun.taken d op).complete d.ring 0x05)))
    ∧ (s.takes d op = true → s.badDesc d used maxLen = false → d.bufLost = true → exec c s =
        .next (s.ends (({ s.begun.taken d op with due := s.due ++ [.dmaError (.buffer d.ring) d.addr] } : State).complete d.ring 0x05)))
    ∧ (s.takes d op = true → d.bufLost = false → op ≠ 0x01 → op ≠ 0x04 → s.hif.neg = none →
      ∃ st : Nat, st ∈ [0x05, 0x02] ∧ exec c s = .next (s.ends ((s.begun.taken d op).complete d.ring st)))
    ∧ (∀ r : CmdRing, s.firmware = true → s.pwrGood = true → s.hif.st = .running → s.hif.nextRing = some d.ring → s.hif.cmd d.ring = some r →
        s.hif.inside r.base (64 * 2 ^ r.log2) = true → d.bytes.length = 64 → opcodes.contains (d.bytes.getD 0 0).toNat = false →
        exec c s = .next (s.ends ((s.begun.taken d op).complete d.ring 0x05)))
    ∧ (s.hif.cmd d.ring = none → exec c s = .next (s.ends s.begun))
    ∧ (s.firmware = false → exec c s = .next (s.ends s.begun))

/-- A JOB_BEGIN that Beyja takes with a job descriptor in range: with no job active or beginning, no shut-down and no hurdle
closed other than a held one, the beginning of the job is under way with the descriptor it carried; with a job active or
beginning or a shut-down under way it completes with NO_RESOURCE, and with a hurdle closed with HURDLE_CLOSED, and then nothing
begins. When every memory tap in service has drained, the beginning of a job goes on to its end: the job is active and no longer
beginning, its identifier, rank, rank count, donation, hop limit, lag and flags are those of the job descriptor, its key is the
next value of the entropy source, its step is 0, and the epoch is the one already moved to. The count of entropy values taken is
one higher. The job is not timing-clean when a clock is disturbed as it begins; it is, with no change counted, when none is and
every field already aims at the set frequency. MTP_DRAIN_DONE of a memory tap whose drain is asked for notes that the tap has
drained. JOB_BEGIN_DRAIN_TIMEOUT, 10 ms after the drains were asked for, takes the drain requests back, ends the beginning of
the job and completes JOB_BEGIN with TIMEOUT; the moved epoch stays. A JOB_END that Beyja takes while a job is active takes a
counter snapshot, ends the job, and completes with OK, byte 0 of the result being 1 for a timing-clean job and bytes 4-7 the
number of its stretch and frequency-change events. With no job active it completes with BAD_DESCRIPTOR. -/
def Obligations.JobsBeginAndEnd : Prop :=
  (∀ (d : Desc) (s : State), s.accepts d 0x10 [(8, 1)] 576 = true → d.arg 8 1 ≤ 1 → d.len = 576 → s.badJob d.buf = false →
    (s.job.active = false → s.shutting = false → s.job.starting = none → s.anyFence = false →
      exec (.jobBegin d) s = .next (s.ends { s.begun.taken d 0x10 with
        job := { s.job with starting := some (d.ring, d.buf, d.arg 8 1 == 1), startVer := s.hif.neg, startPhase := 1, startAt := s.tbase } }))
    ∧ (s.job.active = true ∨ s.shutting = true ∨ s.job.starting.isSome = true →
      exec (.jobBegin d) s = .next (s.ends ((s.begun.taken d 0x10).complete d.ring 0x04)))
    ∧ (s.job.active = false → s.shutting = false → s.job.starting = none → s.anyFence = true →
      exec (.jobBegin d) s = .next (s.ends ((s.begun.taken d 0x10).complete d.ring 0x06))))
  ∧ (∀ (s : State) (ring : Nat) (b : List Byte) (off : Bool), s.job.starting = some (ring, b, off) → s.job.startPhase = 2 →
    s.upMems.all (fun t => (s.mem t).drainDone) = true →
    s.jobMove.job.active = true ∧ s.jobMove.job.starting = none ∧ s.jobMove.job.startPhase = 0 ∧ s.jobMove.job.epoch = s.job.epoch
    ∧ s.jobMove.job.id = BitVec.ofNat 32 (rd b 0 4) ∧ s.jobMove.job.key = Config.entropy s.draws ∧ s.jobMove.draws = s.draws + 1
    ∧ s.jobMove.job.donation = rd b 6 1 ∧ s.jobMove.job.hops = rd b 7 1 ∧ s.jobMove.job.lag = rd b 8 1 ∧ s.jobMove.job.flags = rd b 9 1
    ∧ s.jobMove.job.rank = BitVec.ofNat 32 (rd b 12 4) ∧ s.jobMove.job.ranks = rd b 16 4 ∧ s.jobMove.job.step = 0
    ∧ (s.disturbed = true → s.jobMove.job.clean = false)
    ∧ (s.disturbed = false → (∀ f < Config.fields, (s.field f).target = min s.policy.freq (s.field f).flim) →
      s.jobMove.job.clean = true ∧ s.jobMove.job.changes = 0))
  ∧ ((∀ (t : Nat) (s : State), t < Config.memTaps → (s.mem t).drainReq = true →
    exec (.mtpDrainDone t) s = .next (s.ends (s.begun.modMem t (fun m => { m with drainDone := true }))))
  ∧ (∀ (s : State) (ring : Nat) (b : List Byte) (off : Bool), s.firmware = true → s.job.startPhase = 2 → s.job.starting = some (ring, b, off) →
    ∃ t, exec .jobBeginDrainTimeout s = .next (s.ends t) ∧ t.job = { s.job with starting := none, startPhase := 0 }
      ∧ t.tbase = max s.tbase (s.job.startAt + 10000000) ∧ ∀ i < Config.memTaps, (t.mem i).drainReq = false))
  ∧ (∀ (d : Desc) (s : State), s.accepts d 0x11 [] 0 = true →
    (s.job.active = true → ∃ t, exec (.jobEnd d) s = .next (s.ends t) ∧ t.job.active = false
      ∧ t = (((s.begun.taken d 0x11).snapshot).endJob).complete d.ring 0x00
          (le 1 (b2n s.job.clean) ++ zeros 3 ++ le 4 (sat (2 ^ 32 - 1) s.job.changes)))
    ∧ (s.job.active = false → exec (.jobEnd d) s = .next (s.ends ((s.begun.taken d 0x11).complete d.ring 0x05))))

/-- A MUSTER_POINT that Beyja takes for a domain begins a Muster point of that domain when no other one shares a flock with it
and no closed hurdle covers one of its serving flocks in service; else it completes with NO_RESOURCE or HURDLE_CLOSED.
MUSTER_QUIET_TIMEOUT, 10 ms after the point began, begins the folds of the flocks that are quiet. QUIET_RISE of an existing FSP
notes that the flock is quiet and, with firmware running, lets the Muster points that have become quiet begin their folds.
QUIET_FALL notes that it is not, and fails with cause 2 the copy under way that it belongs to, its own or the flock copy into
it. COPY_DONE of a copy under way completes it at the source flock, and with an error at either flock fails it with cause 0;
COPY_LIMIT fails it with cause 1 at 100 us for a core's and 1 ms for a flock's copy. With bad parity each answer counts a parity
error and reports 0x1230 with group 3 against the FSP instead. Without a copy COPY_DONE and COPY_LIMIT change nothing. -/
def Obligations.MusterPointsFoldQuietFlocks : Prop :=
  ((∀ (d : Desc) (s : State), s.accepts d 0x12 [(12, 4)] 0 = true → isDomain (d.uid 12) = true →
    (s.musters.any (fun m => domOverlap m.dom (d.uid 12)) = true →
      exec (.musterPoint d) s = .next (s.ends ((s.begun.taken d 0x12).complete d.ring 0x04)))
    ∧ (s.musters.any (fun m => domOverlap m.dom (d.uid 12)) = false →
      ((domFlocks (d.uid 12)).any (fun p =>
        s.fieldUp p.1 && (s.flock p.1 p.2).logical.isSome && !(s.flock p.1 p.2).st.gone && s.fenced p.1 p.2) = true →
        exec (.musterPoint d) s = .next (s.ends ((s.begun.taken d 0x12).complete d.ring 0x06)))
      ∧ ((domFlocks (d.uid 12)).any (fun p =>
        s.fieldUp p.1 && (s.flock p.1 p.2).logical.isSome && !(s.flock p.1 p.2).st.gone && s.fenced p.1 p.2) = false →
        exec (.musterPoint d) s = .next (s.ends ((s.begun.taken d 0x12).beginMuster d.ring (d.uid 12))))))
  ∧ (∀ (u : Uid) (s : State) (m : Muster), s.firmware = true → s.musters.find? (fun m => m.dom == u && !m.folding) = some m →
    exec (.musterQuietTimeout u) s = .next (s.ends (({ s.begun with tbase := max s.tbase (m.began + 10000000) } : State).beginFolds u))))
  ∧ (∀ (f k : Nat) (s : State), fspExists f k = true →
    (s.firmware = true → exec (.quietRise f k true) s = .next (s.ends ((s.begun.modFlock f k (fun fl => { fl with quiet := true })).quietMusters)))
    ∧ (s.firmware = false → exec (.quietRise f k true) s = .next (s.ends (s.begun.modFlock f k (fun fl => { fl with quiet := true }))))
    ∧ (∀ u : State, u = s.begun.modFlock f k (fun fl => { fl with quiet := false }) →
      (u.copyOwner f k = none → exec (.quietFall f k true) s = .next (s.ends u))
      ∧ (∀ (j : Nat) (c : CopySt), u.copyOwner f k = some (j, c) → exec (.quietFall f k true) s = .next (s.ends (u.copyFailed f j c 2))))
    ∧ (∀ (j : Nat) (c : CopySt), s.copyOwner f k = some (j, c) →
      exec (.copyDone f k true true) s = .next (s.ends (s.begun.copyFailed f j c 0))
      ∧ exec (.copyDone f k false true) s = .next (s.ends (if j = k then s.begun.copyClean f j c else s.begun)))
    ∧ (∀ c : CopySt, (s.flock f k).copy = some c → exec (.copyLimit f k) s = .next (s.ends
        (({ s.begun with tbase := max s.tbase (c.started + (if c.flockCopy then 1000000 else 100000)) } : State).copyFailed f k c 1)))
    ∧ (∀ c : Instr, c = .quietRise f k false ∨ c = .quietFall f k false ∨ c = .copyDone f k false false ∨ c = .copyDone f k true false →
      exec c s = .next (s.ends ((s.begun.modFlock f k (fun fl => { fl with parity := fl.parity + 1 })).reportPlane 0x1230 (mkUid 2 f k 0 0 3) [3])))
    ∧ (s.copyOwner f k = none → ∀ e : Bool, exec (.copyDone f k e true) s = .next (s.ends s.begun))
    ∧ ((s.flock f k).copy = none → exec (.copyLimit f k) s = .next (s.ends s.begun)))

/-- After an IDLE_TABLE_LOAD that Beyja takes with a sound table, and that leaves no field with more than 64 identifiers, every
field of the domain that has a table of the identifier, or gets entries, holds as the table that its next run starts take the
entries outside the domain that it had and its new entries. Nothing outside the fields, the interface, the outputs, the pair's
held outputs and the failed accesses changes. A WATCH_SET that Beyja takes in range replaces the watch point that it names, with
its accumulators cleared, and no operation under way is observed by it any more. An EARMARK_CONFIG in range with the negotiated
mark version sets the tracker idle time and the result targets, after closing the open sweeps of the targets below 32. A
REPLICA_DIGEST in range, whose routes begin at engines in service, sets the replica group after closing the open sweeps of the
targets from 32. Each completes with OK. -/
def Obligations.TablesAndMarksAreConfigured : Prop :=
  (∀ (d : Desc) (s : State), s.accepts d 0x13 [(8, 2), (12, 4)] 2097168 = true → s.badIdle d.buf (d.uid 12) = false →
    ((domFields (d.uid 12)).any (fun f =>
      let new := (((List.range (rd d.buf 0 4)).map (idleEntry d.buf)).filter (fun p => p.1 == f)).map (·.2)
      !(s.idleAfter f (d.arg 8 2) (d.uid 12) new).isEmpty && decide (64 < (insertNew (s.field f).identifiers (d.arg 8 2)).length)) = false) →
    ∃ t, exec (.idleTableLoad d) s = .next (s.ends t)
      ∧ (∀ f ∈ domFields (d.uid 12), (s.field f).tables.any (fun t => t.runId == d.arg 8 2) = true →
          let new := (((List.range (rd d.buf 0 4)).map (idleEntry d.buf)).filter (fun p => p.1 == f)).map (·.2)
          (t.field f).tables = (s.field f).tables.map (fun q => if q.runId = d.arg 8 2 then
            { q with entries := s.idleAfter f (d.arg 8 2) (d.uid 12) new } else q))
      ∧ (∀ f ∈ domFields (d.uid 12), (s.field f).tables.any (fun t => t.runId == d.arg 8 2) = false →
          let new := (((List.range (rd d.buf 0 4)).map (idleEntry d.buf)).filter (fun p => p.1 == f)).map (·.2)
          s.idleAfter f (d.arg 8 2) (d.uid 12) new ≠ [] →
          (t.field f).tables = (s.field f).tables ++ [{ runId := d.arg 8 2, entries := s.idleAfter f (d.arg 8 2) (d.uid 12) new }])
      ∧ { t with fields := s.fields, hif := s.hif, out := s.out, pair := s.pair, due := s.due } = s)
  ∧ (∀ (d : Desc) (s : State),
    (s.accepts d 0x30 [(8, 1)] 64 = true → badWatch d = false →
      exec (.watchSet d) s = .next (s.ends ((((s.begun.taken d 0x30).forEach (s.listedFlocks dieUid)
        (fun u p => u.modFlock p.1 p.2 (·.dropWatch (d.arg 8 1)))).modWatch (d.arg 8 1) (fun _ => watchOf d.buf)).complete d.ring 0x00)))
    ∧ (s.accepts d 0x31 [] 1040 = true → badEarmarks d.buf = false → (rd d.buf 0 1 != s.emfVersion) = false →
      exec (.earmarkConfig d) s = .next (s.ends ((((s.begun.taken d 0x31).redefine (fun t => decide (t < 32))).modEarmarks
        (fun e => { e with idleUs := rd d.buf 2 2, targets := targetsOf d.buf })).complete d.ring 0x00)))
    ∧ (s.accepts d 0x32 [] 1056 = true → s.badReplica d.buf = false → s.routeLost d.buf = false →
      exec (.replicaDigest d) s = .next (s.ends ((((s.begun.taken d 0x32).redefine (fun t => decide (32 ≤ t))).modEarmarks
        (fun e => { e with fleece := fleeceOf d.buf ((s.begun.taken d 0x32).redefine (fun t => decide (32 ≤ t))).job.step.toNat })).complete d.ring 0x00))))

/-- A TRACE_CONFIG that Beyja takes in range sets the trace configuration, takes a counter snapshot when bit 3 of its flags is
set, and completes with OK. A WAITGRAPH_REQ for a domain with a buffer of 64 bytes or more has the wait tables of the domain
read and waits for the assembly when none waits already, and completes with NO_RESOURCE when one does. With firmware running:
SNAPSHOT with a period set takes a counter snapshot at the end of the period and notes the time; with no period it has no
effect. PACER_WINDOW reaches the next multiple of 10 us of TBASE and lets blocks of 4 KB through to the rings, as the allowance
of the window and what the windows before have used of theirs allow; with no firmware it has no effect. -/
def Obligations.TracesAndSnapshotsAreTaken : Prop :=
  (∀ (d : Desc) (s : State),
    (s.accepts d 0x90 [] 64 = true → s.badTrace d.buf = false →
      exec (.traceConfig d) s = .next (s.ends
        ((if bit (rd d.buf 0 1) 3 then ({ s.begun.taken d 0x90 with trace := s.trace.configured d.buf s.tbase } : State).snapshot
          else { s.begun.taken d 0x90 with trace := s.trace.configured d.buf s.tbase }).complete d.ring 0x00)))
    ∧ (s.accepts d 0x91 [(12, 4)] 4294967295 = true → isDomain (d.uid 12) = true → 64 ≤ d.len →
      (s.recovery.waitReqs = [] → exec (.waitgraphReq d) s = .next (s.ends (({ s.begun.taken d 0x91 with
        recovery := { s.recovery with waitReqs := [{ ring := d.ring, dom := d.uid 12, len := d.len }] } } : State).readWaitTables (d.uid 12))))
      ∧ (s.recovery.waitReqs ≠ [] → exec (.waitgraphReq d) s = .next (s.ends ((s.begun.taken d 0x91).complete d.ring 0x04)))))
  ∧ (∀ s : State,
    (s.firmware = true → s.trace.snapMs ≠ 0 → ∀ u : State, u = { s.begun with tbase := max s.tbase (s.trace.snapAt + s.trace.snapMs * 1000000) } →
      exec .snapshot s = .next (s.ends (({ u with trace := { s.trace with snapAt := u.tbase } } : State).snapshot)))
    ∧ (s.trace.snapMs = 0 → exec .snapshot s = .next (s.ends s.begun))
    ∧ (∀ a b c : Nat, s.firmware = true → ∀ (u : State) (q : State × RingRoom),
      u = { s.begun with tbase := max s.tbase ((s.tbase / 10000 + 1) * 10000),
                         trace := { s.trace with windowAt := max s.tbase ((s.tbase / 10000 + 1) * 10000), used := s.trace.used - s.allowance } } →
      q = (List.range (u.allowance / 4096)).foldl (fun (q : State × RingRoom) _ => (q.1.logBlock q.2).1.traceBlock (q.1.logBlock q.2).2)
        (u, { host := a, stack := b, log := c }) →
      exec (.pacerWindow a b c) s = .next (s.ends (if q.1.heldByPacer q.2 then q.1.dieCount 3 10 else q.1)))
    ∧ (∀ a b c : Nat, s.firmware = false → exec (.pacerWindow a b c) s = .next (s.ends s.begun)))

/-- A POLICY_SET that Beyja takes, of a screening item (0x0500 to 0x0504), a sparing item (0x0A00 to 0x0A06), a recovery item
(0x0C00 to 0x0C04 and 0x0C10 to 0x0C1F) or a life-cycle item (0x1100 to 0x1102) with a value in its range, sets that item of the
policy store, records the change with code 0x7009, 0x7037, 0x0318 or 0x6001, and completes with OK. A POLICY_SET that Beyja
takes, of a power item (0x0D00 to 0x0D06) with a value in its range, sets that item, sends the items that act at once to every
field, records 0x3009 and completes with OK. A RAMP_SET with both limits in range sets both, records 0x3009 with item 0x0D10 and
completes with OK. From a policy whose frequency lies between 800 MHz and the fused maximum in steps of 25 MHz, whose thermal
target lies between 60 and 100 C and whose trip threshold is at most the fused ceiling, a power item whose value is in range
leads to a policy with the same bounds. -/
def Obligations.PolicyItemsAreTaken : Prop :=
  (∀ (d : Desc) (s : State), s.accepts d 0x14 [(8, 2), (16, 8)] 304 = true →
    (policyRow (d.arg 8 2) = some .screen → badScreen (d.arg 8 2) (d.arg 16 8) = false →
      exec (.screenPolicy d) s = .next (s.ends ((({ s.begun.taken d 0x14 with policy := s.policy.setScreen (d.arg 8 2) (d.arg 16 8) } : State).note
        0x7009 dieUid (le 2 (d.arg 8 2) ++ zeros 2 ++ le 8 (d.arg 16 8))).complete d.ring 0x00)))
    ∧ (policyRow (d.arg 8 2) = some .sparing → badSparing (d.arg 8 2) (d.arg 16 8) = false →
      exec (.sparingPolicy d) s = .next (s.ends ((({ s.begun.taken d 0x14 with policy := s.policy.setSparing (d.arg 8 2) (d.arg 16 8) } : State).note
        0x7037 dieUid (le 2 (d.arg 8 2) ++ zeros 2 ++ le 8 (d.arg 16 8))).complete d.ring 0x00)))
    ∧ (policyRow (d.arg 8 2) = some .recovery → badRecovery (d.arg 8 2) (d.arg 16 8) = false →
      exec (.recoveryPolicy d) s = .next (s.ends ((({ s.begun.taken d 0x14 with policy := s.policy.setRecovery (d.arg 8 2) (d.arg 16 8) } : State).note
        0x0318 dieUid (le 2 (d.arg 8 2) ++ zeros 2 ++ le 8 (d.arg 16 8))).complete d.ring 0x00)))
    ∧ (policyRow (d.arg 8 2) = some .life → badLife (d.arg 8 2) (d.arg 16 8) = false →
      exec (.lifecyclePolicy d) s = .next (s.ends ((({ s.begun.taken d 0x14 with policy := s.policy.setLife (d.arg 8 2) (d.arg 16 8) } : State).note
        0x6001 dieUid [BitVec.ofNat 8 s.lcs, BitVec.ofNat 8 s.lcs, 0, 0, BitVec.ofNat 8 s.life.fuses]).complete d.ring 0x00))))
  ∧ (∀ (d : Desc) (s : State),
    (s.accepts d 0x14 [(8, 2), (16, 8)] 304 = true → policyRow (d.arg 8 2) = some .power → badPower (d.arg 8 2) (d.arg 16 8) = false →
      exec (.powerPolicy d) s = .next (s.ends (((({ s.begun.taken d 0x14 with policy := s.policy.setPower (d.arg 8 2) (d.arg 16 8) } : State).sendPower
        (d.arg 8 2)).note 0x3009 dieUid (le 2 (d.arg 8 2) ++ zeros 2 ++ le 8 (d.arg 16 8))).complete d.ring 0x00)))
    ∧ (s.accepts d 0x15 [(8, 4), (12, 4)] 0 = true → badRamp (d.arg 8 4) = false → badRamp (d.arg 12 4) = false →
      exec (.rampSet d) s = .next (s.ends ((({ s.begun.taken d 0x15 with policy := { s.policy with rampUp := d.arg 8 4, rampDown := d.arg 12 4 } } : State).note
        0x3009 dieUid (le 2 0x0D10 ++ zeros 2 ++ le 4 (d.arg 8 4) ++ le 4 (d.arg 12 4))).complete d.ring 0x00))))
  ∧ (∀ (p : Policy) (item v : Nat), policyRow item = some .power → badPower item v = false →
    (800 ≤ p.freq ∧ p.freq ≤ Config.fusedMax ∧ p.freq % 25 = 0 ∧ 60 ≤ p.thermal ∧ p.thermal ≤ 100 ∧ p.trip ≤ Config.tripCeiling) →
    800 ≤ (p.setPower item v).freq ∧ (p.setPower item v).freq ≤ Config.fusedMax ∧ (p.setPower item v).freq % 25 = 0
    ∧ 60 ≤ (p.setPower item v).thermal ∧ (p.setPower item v).thermal ≤ 100 ∧ (p.setPower item v).trip ≤ Config.tripCeiling)

/-- A POLICY_SET that Beyja takes of a governor item (0x0900 to 0x0905) in range: when it does not loosen the bound it sets the
item, records 0x7022 with authority byte 0 and completes with OK. When it loosens the bound and the authorisation verifies, it
does the same with authority byte 1 after a new challenge is drawn; when the authorisation fails it completes with REFUSED_AUTH
and the item is not set. A POLICY_SET that Beyja takes of item 0x0B00 with a defined code and a mask in range, which takes
neither PIN, DIERST nor RECOVER out of an FE mask, sets that mask, records 0x010D and completes with OK. Of item 0x0B01 with
value 1, when no FE mask in force loses such a reaction, it returns every changed mask to its default, with one 0x010D each, and
completes with OK. Where an FE mask loses such a reaction, the change needs an owner authorisation: with one that verifies it is
made with authority byte 1, else the command completes with REFUSED_AUTH. A mask once set is the one in force. -/
def Obligations.GuardedPolicyItemsNeedAuthority : Prop :=
  (∀ (d : Desc) (s : State), s.accepts d 0x14 [(8, 2), (16, 8)] 304 = true → policyRow (d.arg 8 2) = some .governor →
    badGovernor (d.arg 8 2) (d.arg 16 8) = false →
    (s.policy.loosens (d.arg 8 2) (d.arg 16 8) = false →
      exec (.governorPolicy d) s = .next (s.ends ((({ s.begun.taken d 0x14 with policy := s.policy.setGovernor (d.arg 8 2) (d.arg 16 8) } : State).note
        0x7022 dieUid (le 2 (d.arg 8 2) ++ [0, 0] ++ le 8 (d.arg 16 8))).complete d.ring 0x00)))
    ∧ (∀ (u : State) (ok : Bool), s.policy.loosens (d.arg 8 2) (d.arg 16 8) = true →
      (s.begun.taken d 0x14).verify [(authBlock d.buf 0 0, d.auth.headD {}, (s.begun.taken d 0x14).ownerAllowed)] 0x14 (d.arg 8 2) = (u, ok) →
      exec (.governorPolicy d) s = .next (s.ends
        (if ok then (((u.modPolicy (·.setGovernor (d.arg 8 2) (d.arg 16 8))).note 0x7022 dieUid
            (le 2 (d.arg 8 2) ++ [1, 0] ++ le 8 (d.arg 16 8))).complete d.ring 0x00)
         else u.complete d.ring 0x03))))
  ∧ ((∀ (d : Desc) (s : State), s.accepts d 0x14 [(8, 2), (16, 8)] 304 = true →
    (d.arg 8 2 = 0x0B00 → badReaction 0x0B00 (d.arg 16 8) = false →
      (isFeMask (d.arg 16 8 % 65536) (maskClass (d.arg 16 8 % 65536) (d.arg 16 8)) = true →
        losesReaction (s.mask (d.arg 16 8 % 65536) (maskClass (d.arg 16 8 % 65536) (d.arg 16 8))) (d.arg 16 8 / 65536 % 256) = false) →
      exec (.reactionPolicy d) s = .next (s.ends (((s.begun.taken d 0x14).setMask (d.arg 16 8 % 65536)
        (maskClass (d.arg 16 8 % 65536) (d.arg 16 8)) (d.arg 16 8 / 65536 % 256) 0).complete d.ring 0x00)))
    ∧ (∀ (u : State) (ok : Bool), (s.begun.taken d 0x14).verify [(authBlock d.buf 0 0, d.auth.headD {}, (s.begun.taken d 0x14).ownerAllowed)] 0x14 (d.arg 8 2) = (u, ok) →
      (d.arg 8 2 = 0x0B00 → badReaction 0x0B00 (d.arg 16 8) = false → isFeMask (d.arg 16 8 % 65536) (maskClass (d.arg 16 8 % 65536) (d.arg 16 8)) = true →
        losesReaction (s.mask (d.arg 16 8 % 65536) (maskClass (d.arg 16 8 % 65536) (d.arg 16 8))) (d.arg 16 8 / 65536 % 256) = true →
        exec (.reactionPolicy d) s = .next (s.ends (if ok then (u.setMask (d.arg 16 8 % 65536) (maskClass (d.arg 16 8 % 65536) (d.arg 16 8))
          (d.arg 16 8 / 65536 % 256) 1).complete d.ring 0x00 else u.complete d.ring 0x03)))
      ∧ (d.arg 8 2 = 0x0B01 → d.arg 16 8 = 1 → (s.policy.masks.any (fun p => isFeMask (keyCode p.1) (keyClass p.1)
          && losesReaction p.2.toNat (defaultMask (keyCode p.1) (keyClass p.1))) = true) →
        exec (.reactionDefaults d) s = .next (s.ends (if ok then (u.forEach s.policy.masks (fun s p =>
          s.setMask (keyCode p.1) (keyClass p.1) (defaultMask (keyCode p.1) (keyClass p.1)) 1)).complete d.ring 0x00 else u.complete d.ring 0x03))))
    ∧ (d.arg 8 2 = 0x0B01 → d.arg 16 8 = 1 →
      (s.policy.masks.any (fun p => isFeMask (keyCode p.1) (keyClass p.1)
        && losesReaction p.2.toNat (defaultMask (keyCode p.1) (keyClass p.1))) = false) →
      exec (.reactionDefaults d) s = .next (s.ends (((s.begun.taken d 0x14).forEach s.policy.masks (fun s p =>
        s.setMask (keyCode p.1) (keyClass p.1) (defaultMask (keyCode p.1) (keyClass p.1)) 0)).complete d.ring 0x00))))
  ∧ (∀ (s : State) (code cls m auth : Nat), m < 64 → (s.setMask code cls m auth).mask code cls = m))

/-- A PACK_STAGE that Beyja takes, of a sound pack for a slot that is not active, of the negotiated version, verified under its
key and of a serial not below the floor, empties that slot and starts its programming when none is under way. A PACK_ACTIVATE of
a slot that holds a pack makes it the active slot, raises the floor to the pack's, starts the pager's copy, records 0x7007 and
completes with OK; of an empty slot it completes with NO_RESOURCE. With power good and firmware running: when a pack's
programming ends well the slot holds the pack and PACK_STAGE completes with OK; when a firmware image's programming ends well
the slot that is not running holds the image, it is staged, 0x4006 is recorded and FW_STAGE completes with OK. A block that
fails for the first or second time is programmed again; at a block's third failure the first page is erased, PACK_STAGE reports
0x7008 with reason 3, FW_STAGE reports 0x4005 with the partition and a free value as the flash address, and the command
completes with NO_RESOURCE. With firmware running and a copy under way of a slot that holds a pack: PACK_COPY_VERIFIED with a
good copy whose signature verifies and whose serial is not below the floor makes that pack the running one, under a new
generation, and starts screening; with a bad one reports 0x7008 with reason 1, and with a serial below the floor with reason 2,
and turns to the other slot when the failed one was the active slot. With no copy under way it has no effect. -/
def Obligations.PacksAreStagedAndRun : Prop :=
  (∀ (d : Desc) (s : State),
    (s.accepts d 0x20 [(8, 1)] 16777216 = true → d.arg 8 1 ≤ 1 → d.arg 8 1 ≠ s.screen.active → badPack d = false →
      ((packOf d).ver != (s.hif.neg.getD []).getD 1 0) = false → s.packVerifies (packOf d) = true → s.screen.floor ≤ (packOf d).serial → s.screen.staging = none →
      exec (.packStage d) s = .next (s.ends (((s.begun.taken d 0x20).modScreen
        (fun c => { c.setSlot (d.arg 8 1) none with staging := some (d.ring, d.arg 8 1, packOf d), blockFails := 0 })).stageFile
          (packBase (d.arg 8 1)) d.buf)))
    ∧ (s.accepts d 0x21 [(8, 1)] 0 = true → d.arg 8 1 ≤ 1 →
      (∀ p : Pack, s.screen.slot (d.arg 8 1) = some p →
        exec (.packActivate d) s = .next (s.ends (((((s.begun.taken d 0x21).modScreen
          (fun c => { c with active := d.arg 8 1, floor := max c.floor p.floor })).copyFrom (d.arg 8 1)).note 0x7007 dieUid
            ([BitVec.ofNat 8 (d.arg 8 1), 0, 0, 0] ++ le 4 p.id ++ le 4 p.serial)).complete d.ring 0x00)))
      ∧ (s.screen.slot (d.arg 8 1) = none →
        exec (.packActivate d) s = .next (s.ends ((s.begun.taken d 0x21).complete d.ring 0x04)))))
  ∧ (∀ (blk : Nat) (s : State), s.firmware = true → s.pwrGood = true →
    (∀ (ring i : Nat) (p : Pack), s.screen.staging = some (ring, i, p) →
      exec (.flashSlotWritten true true blk) s = .next (s.ends (((s.begun.stageEnded (packBase i)).modScreen
        (fun c => { c.setSlot i (some p) with staging := none, blockFails := 0 })).complete ring 0x00))
      ∧ (blockTries s.screen.failBlock s.screen.blockFails blk < 2 → exec (.flashSlotWritten true false blk) s =
        .next (s.ends ((s.begun.modScreen (fun c => { c with
          failBlock := blk, blockFails := blockTries s.screen.failBlock s.screen.blockFails blk + 1 })).blockAgain (packBase i) blk)))
      ∧ (2 ≤ blockTries s.screen.failBlock s.screen.blockFails blk → exec (.flashSlotWritten true false blk) s =
        .next (s.ends ((((s.begun.modScreen (fun c => { c with staging := none, blockFails := 0 })).stageFailed (packBase i)).report 0x7008 dieUid
          [BitVec.ofNat 8 i, 3]).complete ring 0x04))))
    ∧ (∀ (ring n : Nat) (i : FwImage), s.fw.staging = some (ring, i) → n = 1 - s.fw.runningSlot →
      exec (.flashSlotWritten false true blk) s = .next (s.ends ((((s.begun.stageEnded (fwBase n)).modFw
        (fun w => { w.setSlot n (some i) with staged := true, staging := none, blockFails := 0 })).noteUpdate 0 0 (some i)).complete ring 0x00))
      ∧ (blockTries s.fw.failBlock s.fw.blockFails blk < 2 → exec (.flashSlotWritten false false blk) s =
        .next (s.ends ((s.begun.modFw (fun w => { w with
          failBlock := blk, blockFails := blockTries s.fw.failBlock s.fw.blockFails blk + 1 })).blockAgain (fwBase n) blk)))
      ∧ (2 ≤ blockTries s.fw.failBlock s.fw.blockFails blk → exec (.flashSlotWritten false false blk) s =
        .next (s.ends (((((({ s.begun with free := s.free + 1 } : State).modFw (fun w => { w with staging := none, blockFails := 0 })).stageFailed
          (fwBase n)).report 0x4005 dieUid ([BitVec.ofNat 8 n, 0, 0, 0] ++ le 4 (Config.freeValue s.free).toNat))).complete ring 0x04)))))
  ∧ (∀ s : State, s.firmware = true →
    (s.screen.copying = none → ∀ b, exec (.packCopyVerified b) s = .next (s.ends s.begun))
    ∧ (∀ (i : Nat) (p : Pack), s.screen.copying = some i → s.screen.slot i = some p →
      (s.packVerifies p = true → s.screen.floor ≤ p.serial → ∃ t, exec (.packCopyVerified true) s = .next (s.ends t) ∧ t.screen.running = some p
        ∧ t.screen.runningSlot = i ∧ t.screen.gen = s.screen.gen + 1 ∧ t.screen.copying = none ∧ t.start.screening = true)
      ∧ (s.packVerifies p = true → p.serial < s.screen.floor → exec (.packCopyVerified true) s = .next (s.ends (s.begun.packInvalid i 2 (i == s.screen.active))))
      ∧ exec (.packCopyVerified false) s = .next (s.ends (s.begun.packInvalid i 1 (i == s.screen.active)))
      ∧ (s.packVerifies p = false → exec (.packCopyVerified true) s = .next (s.ends (s.begun.packInvalid i 1 (i == s.screen.active))))))

/-- An FW_STAGE that Beyja takes, of a sound image that supports the negotiated versions and the running state, signed by the
maker, of a serial not below the floor, with no activation or staging under way, empties the slot that is not running and starts
its programming. An FW_ACTIVATE with a staged image, a follower and three voters in service and no activation under way starts
the update when no emergency holds and no job runs under another contract version; else it is deferred with its cause, recorded
and completed with DEFERRED. Without one of those it completes with NO_RESOURCE. With firmware running: a deferred activation
with no emergency, no job in its way and a follower starts 1 s after the emergency ended. In step 1, an image that fails its
checks aborts the update with cause 0; one that passes sends the other Shepherd out of the order onto the staged image, in skew
mode, at step 3. In step 3, when that Shepherd follows and no emergency or level 1 holds, UPDATE_SWAP switches over to it and
resets the old one; UPDATE_JOIN_TIMEOUT of one that has not joined aborts with cause 2, 100 ms after it left. Out of their steps
they have no effect. -/
def Obligations.FirmwareIsUpdatedInSteps : Prop :=
  (∀ (d : Desc) (s : State),
    (s.accepts d 0x80 [] 2097152 = true → badImage d = false → (imageOf d.buf).supports (s.hif.neg.getD []) = true → s.schemaOk (imageOf d.buf) = true →
      d.sigKey = some Config.makerHash → s.fw.floor ≤ (imageOf d.buf).serial → s.activating = false → s.fw.staging = none →
      exec (.fwStage d) s = .next (s.ends (((s.begun.taken d 0x80).modFw
        (fun w => { w.setSlot (1 - w.runningSlot) none with staged := false, staging := some (d.ring, imageOf d.buf), blockFails := 0 })).stageFile
          (fwBase (1 - s.fw.runningSlot)) d.buf)))
    ∧ (s.accepts d 0x81 [] 0 = true →
      ((s.fw.stagedImage.isNone || s.follower.isNone || !(List.range 3).all (fun v => (s.pair.voters.getD v {}).inService) || s.activating) = true →
        exec (.fwActivate d) s = .next (s.ends ((s.begun.taken d 0x81).complete d.ring 0x04)))
      ∧ ((s.fw.stagedImage.isNone || s.follower.isNone || !(List.range 3).all (fun v => (s.pair.voters.getD v {}).inService) || s.activating) = false →
        s.emergency = 0 → (s.job.active = false ∨ contractOf s.fw.stagedImage = contractOf s.fw.running) →
        exec (.fwActivate d) s = .next (s.ends ((s.begun.taken d 0x81).startUpdate (some d.ring))))
      ∧ ((s.fw.stagedImage.isNone || s.follower.isNone || !(List.range 3).all (fun v => (s.pair.voters.getD v {}).inService) || s.activating) = false →
        (s.emergency ≠ 0 ∨ (s.job.active = true ∧ contractOf s.fw.stagedImage ≠ contractOf s.fw.running)) →
        exec (.fwActivate d) s = .next (s.ends ((((s.begun.taken d 0x81).modFw (fun w => { w with
          deferred := some (if s.emergency = 0 then 4 else s.emergency)
          deferJob := s.job.active && contractOf s.fw.stagedImage != contractOf s.fw.running
          calmSince := if s.emergency = 0 then some 0 else none })).noteUpdate 1 (if s.emergency = 0 then 4 else s.emergency)
            s.fw.stagedImage).complete d.ring 0x01)))))
  ∧ (∀ s : State, s.firmware = true →
    (∀ (c t : Nat), s.fw.deferred = some c → s.emergency = 0 → (s.fw.deferJob && s.job.active) = false → s.follower.isSome = true → s.fw.calmSince = some t →
      exec .deferredActivationStart s = .next (s.ends
        (({ s.begun with tbase := max s.tbase (if t = 0 then s.tbase else t + 1000000000) } : State).startUpdate none)))
    ∧ (s.fw.deferred = none → exec .deferredActivationStart s = .next (s.ends s.begun))
    ∧ (s.fw.step = 1 →
      (∀ a b : Bool, (a && b) = false → exec (.updateImageReceived a b) s = .next (s.ends (({ s.begun with fw := { s.fw with step := 2 } } : State).abortUpdate 0)))
      ∧ ∃ t, exec (.updateImageReceived true true) s = .next (s.ends t) ∧ t.fw.step = 3 ∧ t.fw.leftAt = s.tbase ∧ t.pair.skew = true ∧ t.pair.held = []
        ∧ (t.pair.shc s.newShc).status = .catchingUp ∧ (t.pair.shc s.newShc).image = s.fw.stagedImage
        ∧ t.pair.shc (!s.newShc) = s.pair.shc (!s.newShc) ∧ t.out = s.pair.held.map (·.2))
    ∧ (s.fw.step ≠ 1 → ∀ a b, exec (.updateImageReceived a b) s = .next (s.ends s.begun))
    ∧ (∀ t : Nat, s.fw.step = 3 → s.follower = some s.newShc → s.emergency = 0 → s.recovery.level1 = none → s.fw.calmSince = some t →
      ∃ u : State, u = { s.begun with tbase := max s.tbase (if t = 0 then s.tbase else t + 1000000000) }
        ∧ exec .updateSwap s = .next (s.ends (((u.modPair (fun p => { p with gapFrom := some u.tbase })).switchOver 3 false).modShc s.fw.s1.isB
          (fun x => { x with status := .resetting, resetAt := ((u.modPair (fun p => { p with gapFrom := some u.tbase })).switchOver 3 false).tbase }))))
    ∧ (s.fw.step ≠ 3 → exec .updateSwap s = .next (s.ends s.begun) ∧ exec .updateJoinTimeout s = .next (s.ends s.begun))
    ∧ (s.fw.step = 3 → (s.pair.shc s.newShc).status = .catchingUp → exec .updateJoinTimeout s = .next (s.ends
      (({ s.begun with tbase := max s.tbase (s.fw.leftAt + 100000000) } : State).abortUpdate 2))))

/-- A QUERY_BOUND that Beyja takes with a buffer of 128 bytes or more completes with OK, the bound as its result and the report
in the buffer; a QUERY_HEALTH of a domain with 64 bytes or more with the health report of that scope; a TALLY_READ of at least
one record into a buffer of whole records, after the start scan, with the records held from the given number on, before its end
it waits for it, and while another TALLY_READ is in progress it completes with NO_RESOURCE. None of the three changes anything
but the interface, the outputs, the pair's held outputs, the failed accesses and, for QUERY_HEALTH, the count of free values
taken. -/
def Obligations.QueriesAnswerAndChangeNothing : Prop :=
  ∀ (d : Desc) (s : State),
    (s.accepts d 0x40 [] 4294967295 = true → 128 ≤ d.len →
      ∃ t, exec (.queryBound d) s = .next (s.ends t)
        ∧ t = (s.begun.taken d 0x40).complete d.ring 0x00 (le 8 (bits64 s.gov.u)) ((s.begun.taken d 0x40).boundBytes ((d.len - 128) / 16))
        ∧ { t with hif := s.hif, out := s.out, pair := s.pair, due := s.due } = s)
    ∧ (s.accepts d 0x41 [(12, 4)] 4294967295 = true → isDomain (d.uid 12) = true → 64 ≤ d.len →
      ∃ t, exec (.queryHealth d) s = .next (s.ends t)
        ∧ t = ({ s.begun.taken d 0x41 with free := s.free + 1048576 } : State).complete d.ring 0x00 [] ((s.begun.taken d 0x41).healthBytes (d.uid 12) d.len)
        ∧ { t with hif := s.hif, out := s.out, pair := s.pair, due := s.due, free := s.free } = s)
    ∧ (s.accepts d 0x70 [(8, 6), (16, 4)] 4294967295 = true → d.arg 16 4 ≠ 0 → 64 ≤ d.len → d.len % 64 = 0 → s.readInProgress d.ring = false → s.tally.scanned = true →
      ∃ t, exec (.tallyRead d) s = .next (s.ends t)
        ∧ t = (s.begun.taken d 0x70).serveRead d.ring (d.arg 8 6) (d.arg 16 4) d.len s.tally.next
        ∧ { t with hif := s.hif, out := s.out, pair := s.pair, due := s.due } = s)
    ∧ (s.accepts d 0x70 [(8, 6), (16, 4)] 4294967295 = true → d.arg 16 4 ≠ 0 → 64 ≤ d.len → d.len % 64 = 0 → s.readInProgress d.ring = false → s.tally.scanned = false →
      exec (.tallyRead d) s = .next (s.ends ((s.begun.taken d 0x70).modTally
        (fun t => { t with pendingRead := t.pendingRead ++ [(d.ring, d.arg 8 6, d.arg 16 4, d.len, t.next)] }))))
    ∧ (s.accepts d 0x70 [(8, 6), (16, 4)] 4294967295 = true → d.arg 16 4 ≠ 0 → 64 ≤ d.len → d.len % 64 = 0 → s.readInProgress d.ring = true →
      exec (.tallyRead d) s = .next (s.ends ((s.begun.taken d 0x70).complete d.ring 0x04)))

/-- A FOLD_REQUEST that Beyja takes for a flock that serves a logical flock and is neither Folded nor Retired, with an eligible
spare, makes the flock's fold pending for slot 0xFF and the fold of the core that serves an enabled slot else, with a free value
as the cause of the state change, and completes with OK; without a spare it completes with NO_RESOURCE. An UNFOLD of a slot or
flock with something to return, whose authorisation verifies, returns it, records 0x7036 with the number of units, enters the
fold list and completes with OK; when the authorisation fails it completes with REFUSED_AUTH. FOLD_LIST_COMMIT with firmware
running, PWR_GOOD high and entries waiting programs the oldest waiting entry at the end of the area with the number of entries
as its sequence number, retires its unit when it is Folded, and leaves the others waiting; a full area is compacted first, and
its live entries come before the new one. With none waiting it changes nothing, and after the fall of PWR_GOOD nothing is
programmed. LDO_OK of an existing FSP notes the rail and, when a trim write waits for it, opens the re-tests of the cores that
wait, in ascending order; with bad parity it counts a parity error and reports 0x1230 with group 4 against the FSP instead.
LDO_OK_TIMEOUT while a trim write waits and the rail is not settled shelters those cores by their clock step instead and writes
the trim again; otherwise it changes nothing. RETEST_DEADLINE of an open re-test fails it at its deadline; of a core with none
open it changes nothing. -/
def Obligations.FoldsAreRequestedAndCommitted : Prop :=
  (∀ (d : Desc) (s : State),
    (s.accepts d 0x50 [(12, 4), (16, 1)] 0 = true → isFlock (d.uid 12) = true → (d.arg 16 1 < Config.slots ∨ d.arg 16 1 = 0xFF) →
      (s.flock (uidField (d.uid 12)) (uidFlock (d.uid 12))).logical.isSome = true → (s.flock (uidField (d.uid 12)) (uidFlock (d.uid 12))).st.gone = false →
      (d.arg 16 1 ≠ 0xFF → (s.flock (uidField (d.uid 12)) (uidFlock (d.uid 12))).disabled.contains (d.arg 16 1) = false) →
      (d.arg 16 1 = 0xFF → s.spareFlockEligible (uidField (d.uid 12)) = true →
        exec (.foldRequest d) s = .next (s.ends
          (((s.begun.taken d 0x50).freeVal.1.pendFlock (uidField (d.uid 12)) (uidFlock (d.uid 12)) (s.begun.taken d 0x50).freeVal.2.toNat none true).complete d.ring 0x00)))
      ∧ (d.arg 16 1 ≠ 0xFF → (s.spareFlockEligible (uidField (d.uid 12)) = true ∨ (s.usableSpare (uidField (d.uid 12)) (uidFlock (d.uid 12))).isSome = true) →
        exec (.foldRequest d) s = .next (s.ends
          (((s.begun.taken d 0x50).freeVal.1.coreFoldPending (uidField (d.uid 12)) (uidFlock (d.uid 12))
            ((s.flock (uidField (d.uid 12)) (uidFlock (d.uid 12))).coreOf (d.arg 16 1)) (s.begun.taken d 0x50).freeVal.2.toNat).complete d.ring 0x00)))
      ∧ (s.spareFlockEligible (uidField (d.uid 12)) = false →
          (d.arg 16 1 = 0xFF ∨ s.usableSpare (uidField (d.uid 12)) (uidFlock (d.uid 12)) = none) →
        exec (.foldRequest d) s = .next (s.ends ((s.begun.taken d 0x50).complete d.ring 0x04))))
    ∧ (∀ (u : State) (ok : Bool), s.accepts d 0x51 [(12, 4), (16, 1)] 304 = true → isFlock (d.uid 12) = true → (d.arg 16 1 < Config.slots ∨ d.arg 16 1 = 0xFF) →
      s.unfoldCount (uidField (d.uid 12)) (uidFlock (d.uid 12)) (d.arg 16 1) ≠ 0 →
      (s.begun.taken d 0x51).verify [(authBlock d.buf 0 0, d.auth.headD {}, (s.begun.taken d 0x51).ownerAllowed)] 0x51 0 = (u, ok) →
      ∀ a : Nat, a = rd ((authBlock d.buf 0 0).getD []) 0 1 → exec (.unfold d) s = .next (s.ends
        (if ok then
          (((((if d.arg 16 1 = 0xFF then u.unfoldFlock (uidField (d.uid 12)) (uidFlock (d.uid 12))
              else u.unfoldSlot (uidField (d.uid 12)) (uidFlock (d.uid 12)) (d.arg 16 1)).note 0x7036 (d.uid 12)
              ((if d.arg 16 1 = 0xFF then u.unfoldFlock (uidField (d.uid 12)) (uidFlock (d.uid 12))
                else u.unfoldSlot (uidField (d.uid 12)) (uidFlock (d.uid 12)) (d.arg 16 1)).cyclePayload (uidField (d.uid 12))
                [BitVec.ofNat 8 (d.arg 16 1), BitVec.ofNat 8 a, BitVec.ofNat 8 (u.unfoldCount (uidField (d.uid 12)) (uidFlock (d.uid 12)) (d.arg 16 1)), 0])).foldEntry
            9 (if d.arg 16 1 = 0xFF then 0 else 1) (d.arg 16 1) 0 (d.uid 12)).checkGrade).complete d.ring 0x00)
         else u.complete d.ring 0x03))))
  ∧ (∀ s : State, s.firmware = true → s.pwrGood = true →
    (∀ (e : FoldEntry) (rest old : List FoldEntry), s.folds.waiting = e :: rest →
      old = (if 2047 ≤ s.folds.entries.length then liveEntries s.folds.entries else s.folds.entries) → old.length < 2047 →
      ∃ t u : State, exec .foldListCommit s = .next (s.ends t) ∧ t = u.retireEntry { e with sequence := old.length }
        ∧ t.folds.entries = old ++ [{ e with sequence := old.length }] ∧ t.folds.waiting = rest)
    ∧ (s.folds.waiting = [] → exec .foldListCommit s = .next (s.ends s.begun))
    ∧ exec .foldListCommit { s with pwrGood := false } = .next (({ s with pwrGood := false } : State).ends ({ s with pwrGood := false } : State).begun))
  ∧ (∀ (f k : Nat) (s : State), fspExists f k = true →
    ((s.flock f k).ldoWait.isSome = true → ∃ u : State, u = s.begun.modFlock f k (fun fl => { fl with ldoOk := true })
        ∧ exec (.ldoOk f k true) s = .next (s.ends ((u.modFlock f k (fun fl => { fl with ldoWait := none })).forEach (u.trimWaiters f k)
            (fun s c => s.openRetest f k c))))
    ∧ ((s.flock f k).ldoWait = none → exec (.ldoOk f k true) s = .next (s.ends (s.begun.modFlock f k (fun fl => { fl with ldoOk := true }))))
    ∧ exec (.ldoOk f k false) s = .next (s.ends
        ((s.begun.modFlock f k (fun fl => { fl with parity := fl.parity + 1 })).reportPlane 0x1230 (mkUid 2 f k 0 0 3) [4]))
    ∧ ((s.flock f k).ldoWait.isSome = true → (s.flock f k).ldoOk = false →
      ∃ u : State, u = (s.begun.modFlock f k (fun fl => { fl with ldoWait := none })).forEach (s.trimWaiters f k) (fun s c => s.shelterStep f k c)
        ∧ exec (.ldoOkTimeout f k) s = .next (s.ends (u.writeTrim f k (u.trimOf f k))))
    ∧ (((s.flock f k).ldoWait = none ∨ (s.flock f k).ldoOk = true) → exec (.ldoOkTimeout f k) s = .next (s.ends s.begun))
    ∧ (∀ (c : Nat) (r : Retest), (s.core f k c).retest = some r → r.open_ = true →
      exec (.retestDeadline f k c) s = .next (s.ends (({ s.begun with tbase := max s.tbase r.deadline } : State).retestFailed f k c (s.core f k c).cause)))
    ∧ (∀ c : Nat, (match (s.core f k c).retest with | some r => r.open_ | none => false) = false →
      exec (.retestDeadline f k c) s = .next (s.ends s.begun)))

/-- A DOMAIN_RESET that Beyja takes for a domain, with no level 1 and no level-0 reset that shares a flock with it under way,
starts a level-0 reset of that domain for the host; it completes with ABORTED_BY_RESET when that escalates at once, and with
NO_RESOURCE when another reset is in the way. A RECOVER with no reset under way starts a level-1 recovery for the host; during a
level-0 reset it reports 0x0314 and escalates to level 1; during level 1 it completes with NO_RESOURCE. With firmware running:
RESET_LIMIT of a level-0 reset in its kill or reset step advances TBASE to the limit and escalates it with the first flock it
waits for; of one that is earlier it changes nothing. RAIL_CYCLE_HOLD in the rail-open step of level 1 reaches 10 ms after the
rails opened and begins to close them. LEVEL1_LIMIT, 30 s after level 1 began, gives up every unfinished field as lost with
cause 3. -/
def Obligations.ResetsStartAndEscalate : Prop :=
  (∀ (d : Desc) (s : State),
    (s.accepts d 0x60 [(12, 4)] 0 = true → isDomain (d.uid 12) = true →
      ((s.recovery.level1.isSome || s.recovery.resets.any (fun r => domOverlap r.dom (d.uid 12))) = false →
        exec (.domainReset d) s = .next (s.ends
          (if ((s.begun.taken d 0x60).startLevel0 (d.uid 12) 1 0 (some d.ring)).recovery.level1.isSome
           then ((s.begun.taken d 0x60).startLevel0 (d.uid 12) 1 0 (some d.ring)).complete d.ring 0x08
           else (s.begun.taken d 0x60).startLevel0 (d.uid 12) 1 0 (some d.ring))))
      ∧ ((s.recovery.level1.isSome || s.recovery.resets.any (fun r => domOverlap r.dom (d.uid 12))) = true →
        exec (.domainReset d) s = .next (s.ends ((s.begun.taken d 0x60).complete d.ring 0x04))))
    ∧ (s.accepts d 0x61 [] 0 = true →
      (s.recovery.level1 = none → s.recovery.resets = [] →
        exec (.recover d) s = .next (s.ends ((s.begun.taken d 0x61).startLevel1 2 0 (some d.ring) none)))
      ∧ (∀ (r : Level0) (rs : List Level0), s.recovery.level1 = none → s.recovery.resets = r :: rs →
        exec (.recover d) s = .next (s.ends (((s.begun.taken d 0x61).report 0x0314 dieUid
          (le 4 r.dom.toNat ++ [2, 0, 0, 0] ++ zeros 4) s.job.opId).startLevel1 4 0 (some d.ring) none)))
      ∧ (s.recovery.level1.isSome = true →
        exec (.recover d) s = .next (s.ends ((s.begun.taken d 0x61).complete d.ring 0x04)))))
  ∧ (∀ s : State, s.firmware = true →
    (∀ (d : Uid) (r : Level0), s.recovery.resets.find? (fun r => r.dom == d) = some r →
      ((r.step = .kill ∨ r.step = .reset) → exec (.resetLimit d) s = .next (s.ends
        (({ s.begun with tbase := max s.tbase (r.captureEnd + level0Limit d * 1000) } : State).escalate d 0 r.code
          (match (r.killWait ++ r.waiting ++ r.queue).head? with | some q => flockUid (q / 64) (q % 64) | none => 0) (some d))))
      ∧ (r.step ≠ .kill → r.step ≠ .reset → exec (.resetLimit d) s = .next (s.ends s.begun)))
    ∧ (∀ l : Level1, s.recovery.level1 = some l →
      (l.step = .railHold → exec .railCycleHold s = .next (s.ends
        ((({ s.begun with tbase := max s.tbase (l.openAt + 10000000) } : State).modL1 (fun l => { l with step := .railClose })).l1CloseGroup)))
      ∧ (l.step ≠ .railHold → exec .railCycleHold s = .next (s.ends s.begun))
      ∧ (∃ u : State, u = { s.begun with tbase := max s.tbase (l.began + 30000000000) }
        ∧ exec .level1Limit s = .next (s.ends (u.forEach (u.unfinished l) (fun s f => s.loseField f 3))))))

/-- A TALLY_CLEAR that Beyja takes with parameters in range: when its authorisation verifies and the clear area has room, the
clear is recorded with 0x0110, and the command waits for that record's commit; with no room it completes with NO_RESOURCE; when
the authorisation fails it completes with REFUSED_AUTH. With firmware, power and the start scan over and no reclaim under way:
TALLY_COMMIT programs the next batch in flash, stores it and completes the clears among it; a program that fails retires its
sector; with no batch that a free slot takes, a reclaim is sought. TALLY_RECLAIM_DONE ends the reclaim under way: the reclaimed
sector is the reserve of its region, the other region is unchanged. TALLY_SCAN ends the start scan, classifies the previous
stop, records 0x0112 when it found something, and serves the reads that waited. TALLY commits wait for the scan. With firmware
running and power good: TOKEN_REFILL reaches the next whole second of TBASE and gives every bucket that is not full one token.
OPERATING_SECONDS, 60 s after its last write, writes the operating seconds. HOUR_BIN, at the end of an operating hour, writes
the open bin to the bins, of which at most 90,112 are kept, and opens that of the next hour. With no firmware none has an
effect. -/
def Obligations.TallyIsCommittedClearedAndScanned : Prop :=
  (∀ (d : Desc) (s u : State) (ok : Bool), s.accepts d 0x71 [] 368 = true → badClear d.buf = false →
    (s.begun.taken d 0x71).verify [(authBlock d.buf 64 0, d.auth.headD {}, (s.begun.taken d 0x71).ownerAllowed)] 0x71 0 = (u, ok) →
    (∀ a : Nat, ok = true → a = rd ((authBlock d.buf 64 0).getD []) 0 1 → exec (.tallyClear d) s = .next (s.ends
      (if u.tally.clearFull then u.complete d.ring 0x04 else u.recordClear d.ring { scope := rd d.buf 0 1, bound := rd d.buf 8 6 } a)))
    ∧ (ok = false → exec (.tallyClear d) s = .next (s.ends (u.complete d.ring 0x03))))
  ∧ (∀ s : State, s.firmware = true →
    (s.pwrGood = true → s.tally.scanned = true → s.tally.reclaim = none →
      (∀ (l : List Rec) (n used : Nat), s.tally.batch = some (l, n, used) →
        exec (.tallyCommit false) s = .next (s.ends (((s.begun.programBatch l n used).modTally (fun t => t.store l n)).finishClears l 0x00))
        ∧ exec (.tallyCommit true) s = .next (s.ends ((s.begun.programBatch l n used).programFailed l n used)))
      ∧ (s.tally.batch = none → ∀ b, exec (.tallyCommit b) s = .next (s.ends s.begun.startReclaim)))
    ∧ (s.tally.scanned = false → ∀ b, exec (.tallyCommit b) s = .next (s.ends s.begun))
    ∧ (∀ c : Reclaim, s.pwrGood = true → s.tally.reclaim = some c →
      ∃ t, exec .tallyReclaimDone s = .next (s.ends t) ∧ t.tally.reclaim = none ∧ (t.tally.region c.fatal).reserve = c.sector
        ∧ t.tally.region (!c.fatal) = s.tally.region (!c.fatal) ∧ t.tally.waiting = s.tally.waiting)
    ∧ (s.tally.reclaim = none → exec .tallyReclaimDone s = .next (s.ends s.begun))
    ∧ (s.tally.scanned = true → ∀ i p, exec (.tallyScan i p) s = .next (s.ends s.begun))
    ∧ (∀ (i p : Nat) (u : State), s.tally.scanned = false →
      u = ({ s.begun with tally := { s.tally with scanned := true, pendingRead := [] },
                          start := { s.start with graceful := s.tally.stopGraceful } } : State).rebuildBin →
      exec (.tallyScan i p) s = .next (s.ends ((if i = 0 ∧ p = 0 then u else u.note 0x0112 dieUid (zeros 4 ++ le 4 i ++ le 4 p)).forEach
        s.tally.pendingRead (fun t q => t.serveRead q.1 q.2.1 q.2.2.1 q.2.2.2.1 q.2.2.2.2)))))
  ∧ (∀ s : State,
    (s.firmware = true → s.pwrGood = true →
      exec .tokenRefill s = .next (s.ends { s.begun with tbase := max s.tbase ((s.tbase / 1000000000 + 1) * 1000000000),
                                                         tally := { s.tally with spent := (s.tally.spent.filter (fun p => decide (1 < p.2))).map (fun p => (p.1, p.2 - 1)) } })
      ∧ (∃ t, exec .operatingSeconds s = .next (s.ends t) ∧ t.tbase = max s.tbase (s.tally.opSecAt + 60000000000)
          ∧ t.tally.opSecStored = s.tally.opSec + (t.tbase - s.tally.opSecAt) / 1000000000 ∧ t.tally.opSec = t.tally.opSecStored)
      ∧ (∃ t, exec .hourBin s = .next (s.ends t)
          ∧ t.tbase = max s.tbase (s.tally.opSecAt + (3600 * (s.opHour + 1) - s.tally.opSec) * 1000000000)
          ∧ t.gov = { s.gov with bins := (s.gov.bins ++ [s.gov.open_]).drop (s.gov.bins.length + 1 - 90112), open_ := { hour := s.opHour + 1 } }
          ∧ (s.gov.bins.length ≤ 90112 → t.gov.bins.length ≤ 90112)))
    ∧ (s.firmware = false → exec .tokenRefill s = .next (s.ends s.begun) ∧ exec .operatingSeconds s = .next (s.ends s.begun)
      ∧ exec .hourBin s = .next (s.ends s.begun)))

/-- A life-cycle request that Beyja takes with no job active and in the life-cycle state it may leave: PROVISIONED with the
maker's authorisation takes the hash of the owner key and burns one fuse; FIELD and RETURN burn one with the owner's, RETURN
voiding the owner's slot and pack key; SET_OWNER_PACK_KEY in PROVISIONED or FIELD sets the pack key, or removes it for an
all-zero key, and burns none. With an authorisation that fails each completes with REFUSED_AUTH and fuses, owners and pack key
stand. A SHUT_DOWN that Beyja takes with none under way begins the graceful stop; with a job active a level-0 reset of die
compute starts first. At a slice boundary of the self-test with firmware running, the self-test stops when its elapsed time and
one slice exceed the budget, and goes on else; TBASE reaches the boundary. -/
def Obligations.LifeCycleMovesUnderAuthority : Prop :=
  (∀ (d : Desc) (s u : State),
    (s.accepts d 0xA0 [(8, 1)] 400 = true → d.arg 8 1 = 1 → s.job.active = false → (s.lcs = 0 ∨ s.lcs = 3) → s.life.owners.length < 3 →
      ((s.begun.taken d 0xA0).verify [(authBlock d.buf 96 0, d.auth.headD {}, makerAllowed)] 0xA0 1 = (u, true) →
        ∃ t, exec (.lifecycleProvisioned d) s = .next (s.ends t) ∧ t.life.fuses = s.life.fuses + 1 ∧ t.life.owners = s.life.owners ++ [d.keyHash])
      ∧ ((s.begun.taken d 0xA0).verify [(authBlock d.buf 96 0, d.auth.headD {}, makerAllowed)] 0xA0 1 = (u, false) →
        exec (.lifecycleProvisioned d) s = .next (s.ends (u.complete d.ring 0x03)) ∧ u.life.fuses = s.life.fuses ∧ u.life.owners = s.life.owners
        ∧ u.life.packKey = s.life.packKey))
    ∧ (s.accepts d 0xA0 [(8, 1)] 304 = true → d.arg 8 1 = 2 → s.job.active = false → s.lcs = 1 →
      ((s.begun.taken d 0xA0).verify [(authBlock d.buf 0 0, d.auth.headD {}, (s.begun.taken d 0xA0).ownerAllowed)] 0xA0 2 = (u, true) →
        ∃ t, exec (.lifecycleField d) s = .next (s.ends t) ∧ t.life.fuses = s.life.fuses + 1 ∧ t.life.owners = s.life.owners
          ∧ t.gov.noExposure = true)
      ∧ ((s.begun.taken d 0xA0).verify [(authBlock d.buf 0 0, d.auth.headD {}, (s.begun.taken d 0xA0).ownerAllowed)] 0xA0 2 = (u, false) →
        exec (.lifecycleField d) s = .next (s.ends (u.complete d.ring 0x03)) ∧ u.life.fuses = s.life.fuses ∧ u.life.owners = s.life.owners
        ∧ u.life.packKey = s.life.packKey))
    ∧ (s.accepts d 0xA0 [(8, 1)] 608 = true → d.arg 8 1 = 3 → s.job.active = false → s.lcs = 2 → authBlock d.buf 0 1 = none →
      ((s.begun.taken d 0xA0).verify [(authBlock d.buf 0 0, d.auth.headD {}, (s.begun.taken d 0xA0).ownerAllowed)] 0xA0 3 = (u, true) →
        ∃ t, exec (.lifecycleReturn d) s = .next (s.ends t) ∧ t.life.fuses = s.life.fuses + 1 ∧ t.life.packKey = []
          ∧ t.life.packKeyHash = none ∧ t.life.owners = s.life.owners.dropLast ++ [BitVec.allOnes 384] ∧ t.recovery.slots = [{}, {}]
          ∧ t.folds = s.folds)
      ∧ ((s.begun.taken d 0xA0).verify [(authBlock d.buf 0 0, d.auth.headD {}, (s.begun.taken d 0xA0).ownerAllowed)] 0xA0 3 = (u, false) →
        exec (.lifecycleReturn d) s = .next (s.ends (u.complete d.ring 0x03)) ∧ u.life.fuses = s.life.fuses ∧ u.life.owners = s.life.owners
        ∧ u.life.packKey = s.life.packKey))
    ∧ (s.accepts d 0xA0 [(8, 1)] 400 = true → d.arg 8 1 = 5 → (s.lcs = 1 ∨ s.lcs = 2) →
      ((s.begun.taken d 0xA0).verify [(authBlock d.buf 96 0, d.auth.headD {}, (s.begun.taken d 0xA0).ownerAllowed)] 0xA0 5 = (u, true) →
        exec (.setOwnerPackKey d) s = .next (s.ends ((u.modLife (fun l => { l with
          packKey := if isZero d.buf 0 96 then [] else d.buf.take 96
          packKeyHash := if isZero d.buf 0 96 then none else some d.keyHash })).complete d.ring 0x00)))
      ∧ ((s.begun.taken d 0xA0).verify [(authBlock d.buf 96 0, d.auth.headD {}, (s.begun.taken d 0xA0).ownerAllowed)] 0xA0 5 = (u, false) →
        exec (.setOwnerPackKey d) s = .next (s.ends (u.complete d.ring 0x03)) ∧ u.life.fuses = s.life.fuses ∧ u.life.owners = s.life.owners
        ∧ u.life.packKey = s.life.packKey)))
  ∧ ((∀ (d : Desc) (s : State), s.accepts d 0xA0 [(8, 1)] 0 = true → d.arg 8 1 = 4 → s.shutting = false →
    (s.job.active = false → exec (.shutDown d) s = .next (s.ends { s.begun.taken d 0xA0 with life := { s.life with shut := some { ring := d.ring } } }))
    ∧ (s.job.active = true → exec (.shutDown d) s = .next (s.ends
        (({ s.begun.taken d 0xA0 with life := { s.life with shut := some { ring := d.ring } } } : State).startLevel0 dieUid 1 0 none))))
  ∧ (∀ (s : State) (sh : ShutDown) (x : SelfTest) (n : Nat), s.firmware = true → s.life.shut = some sh → sh.test = some x → x.cur ≠ [] → x.stopping = false →
    n = x.groupAt + max 1 (ceilDiv (s.tbase - x.groupAt) (s.policy.sliceLen * 1000000)) * (s.policy.sliceLen * 1000000) →
    ((max s.tbase n - x.began) + s.policy.sliceLen * 1000000 ≤ s.policy.budget * 1000000000 →
      exec .selftestSliceBoundary s = .next (s.ends { s.begun with tbase := max s.tbase n }))
    ∧ (s.policy.budget * 1000000000 < (max s.tbase n - x.began) + s.policy.sliceLen * 1000000 →
      ∃ t y, exec .selftestSliceBoundary s = .next (s.ends t) ∧ t.life.shut = some y ∧ y.test = some { x with stopping := true })))

/-- For an owner-authorised command the authority of the owner is accepted exactly in PROVISIONED and FIELD and that of the
maker exactly in MANUFACTURE and RETURN; for a request that Table 17.5 assigns to the maker only that of the maker. An
authorisation that verifies carries such an authority; and each attempt, whether or not it verifies, draws the next challenge
and changes neither fuses nor owners nor the pack key. A verified one carried the challenge that stood, for this die, part,
opcode and qualifier, with a good digest and signature under the authority's key, outside any lock-out. (R407) -/
def Obligations.AuthoritiesFollowTheLifeCycle : Prop :=
  ∀ s : State,
    (∀ a : Nat, s.ownerAllowed a = true ↔ (a = 0 ∧ (s.lcs = 1 ∨ s.lcs = 2)) ∨ (a = 1 ∧ (s.lcs = 0 ∨ s.lcs = 3)))
    ∧ (∀ a : Nat, makerAllowed a = true ↔ a = 1)
    ∧ (∀ (b : List Byte) (x : AuthFact) (op q : Nat) (u : State), s.verify [(some b, x, s.ownerAllowed)] op q = (u, true) →
        (rd b 0 1 = 0 ∧ (s.lcs = 1 ∨ s.lcs = 2)) ∨ (rd b 0 1 = 1 ∧ (s.lcs = 0 ∨ s.lcs = 3)))
    ∧ (∀ (b : List Byte) (x : AuthFact) (op q : Nat) (u : State), s.verify [(some b, x, makerAllowed)] op q = (u, true) → rd b 0 1 = 1)
    ∧ (∀ (u : State) (b : List Byte) (x : AuthFact) (allowed : Nat → Bool) (op q : Nat) (ok : Bool), s.verify [(some b, x, allowed)] op q = (u, ok) →
      (ok = true → s.lockedOut = false ∧ allowed (rd b 0 1) = true ∧ rd b 24 8 = s.life.challenge.toNat ∧ rd b 4 4 = Config.partNumber.toNat
        ∧ fromBe ((b.drop 8).take 16) = Config.dieId.toNat ∧ rd b 32 1 = op ∧ rd b 34 2 = q ∧ x.digestOk = true ∧ x.sigOk = true
        ∧ (if rd b 0 1 = 0 then s.ownerSlot else some Config.makerHash) = some x.keyHash)
      ∧ u.life.challenge = Config.entropy s.draws ∧ u.draws = s.draws + 1
      ∧ u.life.fuses = s.life.fuses ∧ u.life.owners = s.life.owners ∧ u.life.packKey = s.life.packKey)

/-- TAP_INSTRUCTION selects the instruction, and IDCODE shifts the identification out; but a pin-driving one outside cold reset
selects BYPASS and is reported with 0x6002 when the block is powered. INSTRUMENT_ACCESS through a reachable network: a closed
instrument answers with zeros, the authorisation instrument with the challenge, any other open one with a free value; a write
through an open write, OTP or scan instrument is held under its address (the model's choice, log 89). With the network not
reached it has no effect. Through a reachable network with firmware: DEBUG_AUTHORISATION in FIELD that verifies under the owner
opens the read-only instruments, in RETURN under the maker the write instruments, and 0x6008 is recorded; one that fails does no
more than fail. SECRET_CLEAR, with no scan asked for or open, asks for it in MANUFACTURE, and in RETURN when the write
instruments are open or the maker's authorisation verifies; in PROVISIONED and FIELD it has no effect. -/
def Obligations.DebugAccessIsClosedByDefault : Prop :=
  (∀ s : State,
    (∀ i : JtagIns, (i.drivesPins && !s.start.coldLow) = false → exec (.tapInstruction i) s = .next (s.ends { s.begun with
        jtag := i, out := if i = .idcode then [.tdo idcode] else [] }))
    ∧ (∀ i : JtagIns, i.drivesPins = true → s.start.coldLow = false → s.pwrGood = true → exec (.tapInstruction i) s = .next (s.ends
      (({ s.begun with jtag := .bypass, free := s.free + 1 } : State).report 0x6002 dieUid [(Config.freeValue s.free).setWidth 8])))
    ∧ (∀ i : JtagIns, i.drivesPins = true → s.start.coldLow = false → s.pwrGood = false → exec (.tapInstruction i) s =
      .next (s.ends { s.begun with jtag := .bypass }))
    ∧ (∀ (i : Instrument) (w : Bool) (a : Nat) (v : BitVec 64) (u : State),
      (s.network = false → exec (.instrumentAccess i w a v) s = .next (s.ends s.begun))
      ∧ (s.network = true → s.instrumentOpen i = false → exec (.instrumentAccess i w a v) s = .next (s.ends { s.begun with out := [.instrument 0] }))
      ∧ (s.network = true → exec (.instrumentAccess .authorisation w a v) s = .next (s.ends { s.begun with out := [.instrument s.life.challenge] }))
      ∧ (s.network = true → s.instrumentOpen i = true → i ≠ .authorisation → exec (.instrumentAccess i false a v) s = .next (s.ends
        { s.begun with free := s.free + 1, out := [.instrument (Config.freeValue s.free)] }))
      ∧ (s.network = true → s.instrumentOpen .readOnly = true → exec (.instrumentAccess .readOnly true a v) s = .next (s.ends
        { s.begun with free := s.free + 1, out := [.instrument (Config.freeValue s.free)] }))
      ∧ (s.network = true → s.instrumentOpen i = true → i ≠ .authorisation → i ≠ .readOnly →
        u = { s.begun with free := s.free + 1, out := [.instrument (Config.freeValue s.free)] } →
        exec (.instrumentAccess i true a v) s = .next (s.ends { u with life := { s.life with
          instr := s.life.instr.filter (fun x => !(x.1 == instrumentNo i && x.2.1 == a)) ++ [(instrumentNo i, a, v)] } }))))
  ∧ (∀ s : State, s.network = true →
    (∀ (b : List Byte) (x : AuthFact) (u : State), s.firmware = true →
      (s.lcs = 2 → s.begun.verify [(wholeBlock b, x, s.begun.ownerAllowed)] 0 0 = (u, true) →
        exec (.debugAuthorisation b x) s = .next (s.ends ((u.modLife (fun l => { l with roOpen := true })).note 0x6008 dieUid [0, 0])))
      ∧ (s.lcs = 2 → s.begun.verify [(wholeBlock b, x, s.begun.ownerAllowed)] 0 0 = (u, false) → exec (.debugAuthorisation b x) s = .next (s.ends u))
      ∧ (s.lcs = 3 → s.begun.verify [(wholeBlock b, x, makerAllowed)] 0 0 = (u, true) →
        exec (.debugAuthorisation b x) s = .next (s.ends ((u.modLife (fun l => { l with wrOpen := true })).note 0x6008 dieUid [1, 1])))
      ∧ (s.lcs = 3 → s.begun.verify [(wholeBlock b, x, makerAllowed)] 0 0 = (u, false) → exec (.debugAuthorisation b x) s = .next (s.ends u)))
    ∧ (∀ a : Option (List Byte × AuthFact), s.life.scanReq = none → s.life.scanOpen = false →
      (s.lcs = 0 → exec (.secretClear a) s = .next (s.ends
        (({ s.begun with free := s.free + 1, life := { s.life with scanReq := some s.tbase } } : State).note 0x6008 dieUid [2, (Config.freeValue s.free).setWidth 8])))
      ∧ (s.lcs = 3 → s.life.wrOpen = true → exec (.secretClear a) s = .next (s.ends
        (({ s.begun with life := { s.life with scanReq := some s.tbase } } : State).note 0x6008 dieUid [2, 1])))
      ∧ ((s.lcs = 1 ∨ s.lcs = 2) → exec (.secretClear a) s = .next (s.ends s.begun))
      ∧ (∀ (b : List Byte) (x : AuthFact) (u : State), s.lcs = 3 → s.life.wrOpen = false → s.firmware = true →
        s.begun.verify [(wholeBlock b, x, makerAllowed)] 0 0 = (u, true) → exec (.secretClear (some (b, x))) s = .next (s.ends (u.requestScan 1)))
      ∧ (∀ (b : List Byte) (x : AuthFact) (u : State), s.lcs = 3 → s.life.wrOpen = false → s.firmware = true →
        s.begun.verify [(wholeBlock b, x, makerAllowed)] 0 0 = (u, false) → exec (.secretClear (some (b, x))) s = .next (s.ends u))
      ∧ (s.lcs = 3 → s.life.wrOpen = false → (a = none ∨ s.firmware = false) → exec (.secretClear a) s = .next (s.ends s.begun))))

/-- SCAN_ENABLE of a requested scan, 10 ms after the request, leaves the challenge and the job key zero, no waiting record and
no firmware running; with a read-back that is not all zero no scan path opens, and with one that is the scan paths open and no
Shepherd is active. With no scan requested it has no effect. -/
def Obligations.ScanOpensOnlyOverClearedStores : Prop :=
  ∀ s : State,
    (s.life.scanReq = none → ∀ z, exec (.scanEnable z) s = .next (s.ends s.outside))
    ∧ (∀ (t : Nat) (z : Bool), s.life.scanReq = some t → s.life.scanOpen = false →
      ∃ u : State, exec (.scanEnable z) s = .next (s.ends u) ∧ u.life.challenge = 0 ∧ u.job.key = 0 ∧ u.tally.waiting = [] ∧ u.start.fwRun = false
        ∧ u.tbase = max s.tbase (t + 10000000) ∧ u.life.scanOpen = z ∧ (z = true → u.pair.active = none))

/-- The hash words of an announce are the halves of mix64(mix64(key xor n) xor L), with L made of the field, the logical flock
and the logical slot. A selection counts a wanted replay exactly when the first word is below the latched replay threshold, and
a wanted twin exactly when the second is below the latched twin threshold, each without regard to the other; the physical core
and flock that announce take no part in the words. An OP_ANNOUNCE of a replayable operation in a job selects under the logical
flock and slot that the announcing core serves under the current map. (R178) -/
def Obligations.SamplerFollowsKeyInstanceAndSlot : Prop :=
  (∀ (key : BitVec 64) (n : BitVec 48) (f l j : Nat), l < 64 → j < 32 →
    samplerHash key n f l j = (mix64 (mix64 (key.toNat ^^^ n.toNat) ^^^ ((f <<< 11) ||| (l <<< 5) ||| j)) >>> 32,
      mix64 (mix64 (key.toNat ^^^ n.toNat) ^^^ ((f <<< 11) ||| (l <<< 5) ||| j)) % 2 ^ 32))
  ∧ (∀ (s : State) (f k c l j beats pr pt : Nat) (n : BitVec 48), (s.flock f k).latched = some (pr, pt) → 5 < (s.flock f k).counters.length →
    ((s.select f k c l j n beats).flock f k).counters.getD 1 0
        = (s.flock f k).counters.getD 1 0 + (if (samplerHash s.job.key n f l j).1 < pr then 1 else 0)
    ∧ ((s.select f k c l j n beats).flock f k).counters.getD 4 0
        = (s.flock f k).counters.getD 4 0 + (if (samplerHash s.job.key n f l j).2 < pt then 1 else 0))
  ∧ (∀ (s u : State) (f k c l j beats : Nat) (n : BitVec 48), fspExists f k = true → s.job.active = true →
    u = (s.begun.breach f k c n).modFlock f k (fun fl => fl.count 0) → (u.flock f k).logical = some l → (u.flock f k).slotOf c = some j →
    exec (.opAnnounce f k c n true beats true) s = .next (s.ends (u.select f k c l j n beats)))

/-- For an integer matrix multiply or sum-reduction the sum of an output element starts at the C element, clamped on entry, or
at 0, and adds the exact product of the A and B elements, or the A element for a sum-reduction, for each k from 0 upward,
clamping to plus or minus 2^31 - 1 after every addition; so the sum stays between those two. (R166) -/
def Obligations.IntegerSumsAreClampedInOrder : Prop :=
  ∀ (d : CraDesc) (a b c : List Byte) (i j : Nat),
    reduceInt d a b c i j = ((List.range d.k).map (fun k =>
        (operand a d.fa (d.m * d.k) (i * d.k + k) 0).1.int * (if d.op = 7 then 1 else (operand b d.fb (d.k * d.n) (k * d.n + j) 0).1.int))).foldl
      (fun acc t => max (-(2 ^ 31 - 1)) (min (2 ^ 31 - 1) (acc + t)))
      (if d.hasC then max (-(2 ^ 31 - 1)) (min (2 ^ 31 - 1) (fromTwos 32 (elemBits c 32 (i * d.n + j)))) else 0)
    ∧ -(2 ^ 31 - 1) ≤ reduceInt d a b c i j ∧ reduceInt d a b c i j ≤ 2 ^ 31 - 1

/-- An OP_ANNOUNCE of good parity on an existing FSP with no job active is answered with no mirror and no twin and changes
nothing else. With a job active, an announce that is not replayable, of a core that is not donated, is answered likewise. A
replayable one of a core that serves a slot of a serving flock and is not donated is counted and given to the selection of its
slot. Bad parity counts a parity error and reports 0x1230 with group 0 against the FSP. Donation code 0 and codes above 4 donate
no slot; code 1 donates slot 15 of every logical flock whose number is a multiple of 4, code 2 of every even one, code 3 of
every one; code 4 donates slots 14 and 15 of every one. A MIRROR_BEAT on an existing FSP with no open stream changes nothing.
With a stream bound to a Crook, an operand beat is counted, and its bytes join those of its operand in the entry of that stream;
a descriptor beat fills the entry's descriptor once. A beat with a lane of bad parity marks the entry with the lane, the kind
and the operand beats before it, unless an earlier beat has marked it. A beat that is the last then closes the stream. A
DIGEST_ARRIVAL on an existing FSP for a tag that its core announced, and whose digest has not come, is held by the tag and
compared; the digest of the tag's twin likewise, and the twin is free again; with a free tag it is a stray digest. A
DIGEST_WAIT_END reaches the end of the wait in core cycles: of a closed stream whose core's digest has not come it gives the
verdict that the stream fixed, or DIGEST_MISSING; of a twin pair with a digest outstanding it ends the comparison; of a tag not
in use it changes nothing. -/
def Obligations.AnnouncesMirrorsAndDigestsMeet : Prop :=
  (∀ (f k c : Nat) (n : BitVec 48) (rep : Bool) (beats : Nat) (s : State), fspExists f k = true →
    (s.job.active = false → exec (.opAnnounce f k c n rep beats true) s =
      .next (s.ends { s.begun with out := [.sig .fspOpSel (flockUid f k).toNat 0, .sig .fspTwinSel (flockUid f k).toNat 0] }))
    ∧ (∀ l j : Nat, s.job.active = true → (s.flock f k).logical = some l → (s.flock f k).slotOf c = some j →
      (donatedSlots s.job.donation l).contains j = false →
      (exec (.opAnnounce f k c n false beats true) s =
        .next (s.ends { s.begun with out := [.sig .fspOpSel (flockUid f k).toNat 0, .sig .fspTwinSel (flockUid f k).toNat 0] }))
      ∧ exec (.opAnnounce f k c n true beats true) s =
        .next (s.ends ((s.begun.modFlock f k (fun fl => fl.count 0)).select f k c l j n beats)))
    ∧ exec (.opAnnounce f k c n rep beats false) s = .next (s.ends
        ((s.begun.modFlock f k (fun fl => { fl with parity := fl.parity + 1 })).reportPlane 0x1230 (mkUid 2 f k 0 0 3) [0])))
  ∧ (∀ l : Nat, donatedSlots 0 l = [] ∧ (∀ c, 4 < c → donatedSlots c l = [])
    ∧ donatedSlots 1 l = (if l % 4 = 0 then [15] else []) ∧ donatedSlots 2 l = (if l % 2 = 0 then [15] else [])
    ∧ donatedSlots 3 l = [15] ∧ donatedSlots 4 l = [14, 15])
  ∧ ((∀ (f k kind : Nat) (last : Bool) (data : List Byte) (lane : Option Nat) (s : State), fspExists f k = true → (s.flock f k).stream = none →
    exec (.mirrorBeat f k kind last data lane) s = .next (s.ends s.begun))
  ∧ (∀ (f k : Nat) (last : Bool) (data : List Byte) (lane : Option Nat) (s : State) (tag i : Nat) (st : TagSt)
      (mark : CrookEntry → Nat → Option (Nat × Nat × Nat)) (shut : State → State),
    fspExists f k = true → (s.flock f k).stream = some tag → s.tagSt f k tag = some st → st.crook = some i →
    mark = (fun e kind => match e.parityAt with | some p => some p | none => lane.map (fun b => (b, kind, e.got + b2n e.desc.isSome))) →
    shut = (fun u => if last then u.closeStream f i k tag else u) →
    exec (.mirrorBeat f k 0 last data lane) s = .next (s.ends (shut (s.begun.modEntry f i k tag
        (fun e => { e with desc := some (e.desc.getD (fit 64 data)), parityAt := mark e 0 }))))
    ∧ exec (.mirrorBeat f k 1 last data lane) s = .next (s.ends (shut ((s.begun.modFlock f k (fun fl => fl.count 8)).modEntry f i k tag
        (fun e => { e with got := e.got + 1, a := e.a ++ fit 64 data, parityAt := mark e 1 }))))
    ∧ exec (.mirrorBeat f k 2 last data lane) s = .next (s.ends (shut ((s.begun.modFlock f k (fun fl => fl.count 8)).modEntry f i k tag
        (fun e => { e with got := e.got + 1, b := e.b ++ fit 64 data, parityAt := mark e 2 }))))
    ∧ exec (.mirrorBeat f k 3 last data lane) s = .next (s.ends (shut ((s.begun.modFlock f k (fun fl => fl.count 8)).modEntry f i k tag
        (fun e => { e with got := e.got + 1, c := e.c ++ fit 64 data, parityAt := mark e 3 }))))))
  ∧ (∀ (f k c tag : Nat) (dig : BitVec 64) (ok : Bool) (s : State), fspExists f k = true →
    (∀ t : TagSt, s.tagSt f k tag = some t → t.core = c → t.coreDig = none → t.coreBad = false →
      exec (.digestArrival f k c tag dig ok) s = .next (s.ends
        ((((s.begun.markFirst f k tag).modTag f k tag (fun t => if ok then { t with coreDig := some dig } else { t with coreBad := true })).compareRef
          f k tag).settleTwin f k tag)))
    ∧ (∀ t : TagSt, s.tagSt f k tag = some t → t.core ≠ c → t.twin = some c → t.twinDig = none → t.twinBad = false → t.twinDone = false →
      exec (.digestArrival f k c tag dig ok) s = .next (s.ends
        ((((s.begun.markFirst f k tag).modTag f k tag (fun t => if ok then { t with twinDig := some dig } else { t with twinBad := true })).freeTwin
          f k tag).settleTwin f k tag)))
    ∧ (s.tagSt f k tag = none → exec (.digestArrival f k c tag dig ok) s = .next (s.ends (s.begun.strayDigest f k c tag dig))
      ∧ ∀ b : Bool, exec (.digestWaitEnd f k tag b) s = .next (s.ends s.begun))
    ∧ (∀ (t : TagSt) (i : Nat) (e : CrookEntry) (u : State), s.tagSt f k tag = some t → t.crook = some i → (s.crook f i).entry k tag = some e →
      t.coreDig = none → t.coreBad = false → e.closed = true → s.begun.toCycle f (t.closedAt + 1048576) = some u →
      exec (.digestWaitEnd f k tag false) s = .next (s.ends (u.giveReplay f k tag (e.fixed.getD .digestMissing) 0)))
    ∧ (∀ (t : TagSt) (w : Nat) (u : State), s.tagSt f k tag = some t → t.twin = some w → t.twinDone = false → (t.coreDig = none ∨ t.twinDig = none) →
      t.coreBad = false → t.twinBad = false →
      s.begun.toCycle f (match t.firstAt with | some n => n + 1024 | none => t.selAt + 1048576) = some u →
      exec (.digestWaitEnd f k tag true) s = .next (s.ends (u.digestMissing f k tag true))))

/-- CROOK_COMPUTE_DONE of an entry being computed counts its multiply-accumulate operations and leaves in the entry the CRA-3
digest of its descriptor and operands (or what a faulty Crook forms instead), to be compared with the core's digest.
CROOK_CONFIRM_DONE of a Crook that may confirm gives MISMATCH when it confirms the reference, CROOK_DISAGREE with a report of
0x0401 when it agrees with the core instead, and INCONCLUSIVE else, with a self-test of both Crooks ordered. CROOK_SELFTEST of a
Crook in service that passes notes its time and lets the recomputations that waited for it go on; one that fails reports 0x0402
with the format and the opcode and takes the Crook out of service. CROOK_BUFFER_ECC of a corrected error reports 0x0403 as a CE
with the line; of an uncorrectable one as a UC, and the entries that use the words end with the verdict CROOK_DISAGREE. -/
def Obligations.CrookComputesReferenceDigest : Prop :=
  ((∀ (f c k tag : Nat) (fault : Option (BitVec 64)) (s : State) (e : CrookEntry) (t : TagSt), fspExists f k = true → (s.crook f c).entry k tag = some e →
    s.tagSt f k tag = some t → e.state = .computing →
    exec (.crookComputeDone f c k tag fault) s = .next (s.ends
      ((((s.begun.modFlock f k (fun fl => { fl with counters := bump fl.counters 9 (craMacs (e.desc.getD [])) })).modEntry f c k tag
        (fun q => { q with ref := some (fault.getD (craDigest (e.desc.getD []) e.a e.b e.c)), state := .awaitDigest })).modCrook f c Crook.kick).compareRef f k tag)))
  ∧ (∀ (f c k tag i : Nat) (fault : Option (BitVec 64)) (s u : State) (e : CrookEntry) (t : TagSt) (d : BitVec 64), fspExists f k = true →
    s.tagSt f k tag = some t → t.crook = some i → (s.crook f i).entry k tag = some e → e.state = .confirming → s.mayConfirm f i c e = true →
    d = fault.getD (craDigest (e.desc.getD []) e.a e.b e.c) →
    u = s.begun.modFlock f k (fun fl => { fl with counters := bump fl.counters 9 (craMacs (e.desc.getD [])) }) →
    exec (.crookConfirmDone f c k tag fault) s = .next (s.ends
      (if some d = e.ref then u.giveReplay f k tag .mismatch c
       else if some d = t.coreDig then ((u.report 0x0401 (crookUid f i) (le 4 t.inst.toNat ++ le 2 k ++ [BitVec.ofNat 8 tag]) t.opId).giveReplay
         f k tag .crookDisagree c).blameCrook f i
       else ((u.giveReplay f k tag .inconclusive c).orderTest f i).orderTest f c))))
  ∧ (∀ (f c : Nat) (s : State), crookExists f c = true →
    ((s.crook f c).inService = true → (s.crook f c).resetting = false →
      exec (.crookSelftest f c none) s = .next (s.ends ((s.begun.modCrook f c (fun x => { x with selfTestAt := s.tbase, testDue := false })).modCrook f c
        (fun x => ({ x with queue := x.queue.map (fun e => if e.confirmer = some c then { e with selfFirst := false } else e) } : Crook).kick)))
      ∧ ∀ fmt op : Nat, exec (.crookSelftest f c (some (fmt, op))) s = .next (s.ends
        (((s.begun.modCrook f c (fun x => { x with selfTestAt := s.tbase, testDue := false })).report 0x0402 (crookUid f c)
          [BitVec.ofNat 8 fmt, BitVec.ofNat 8 op] s.job.taintId).crookOut f c)))
    ∧ (∀ (line : Nat) (tags : List (Nat × Nat)),
      exec (.crookBufferEcc f c false line tags) s = .next (s.ends (s.begun.reportCls 0x0403 clsCE (crookUid f c) ([0, 0, 0, 0] ++ le 4 line) s.job.taintId))
      ∧ ∃ u : State, u = s.begun.reportCls 0x0403 clsUC (crookUid f c) ([1, 0, 0, 0] ++ le 4 line) s.job.taintId
        ∧ exec (.crookBufferEcc f c true line tags) s = .next (s.ends (u.forEach (tags.filter (fun p => ((u.crook f c).entry p.1 p.2).isSome))
            (fun s p => (s.modFlock f p.1 (fun fl => if fl.stream = some p.2 then { fl with stream := none } else fl)).giveReplay f p.1 p.2 .crookDisagree 0)))))

/-- COMMAND_ISSUE of good parity and of a class below 3 on an existing FSP that presents a tracker answers a state in which the
lowest free tracker is held with that class, its timeout and the present core-cycle count, and the issue is counted; with none
presented it counts a stall and asserts fsp_trk_stall. COMMAND_RETIRE of good parity of a held tracker frees it, its age being
the cycles it was held, and counts the retirement; of a tracker not held it reports 0x1231 against the flock and closes its
hurdle. With bad parity each counts a parity error and reports 0x1230 with group 1 against the FSP. On an FSP that does not
exist neither changes anything. KILL_DONE of good parity of an existing FSP whose kill is raised answers a state whose effect
left no tracker of the flock held and the kill lowered. KILL_TIMEOUT of one whose kill is raised reaches 100 us after the kill
was raised, lets the reset go on without it and leaves the kill raised. With bad parity KILL_DONE counts a parity error and
reports 0x1230 with group 1 against the FSP. Without a raised kill neither changes anything. COMMAND_ISSUE of good parity with
class 3 on an existing FSP, a class that rule R48 reserves and whose use the host die must refrain from, ends in the fault that
names undefined results. TRACKER_CHECK of a Drover that acts brings the field's counts up to now and checks every flock of it
that has used a tracker, in turn. When a flock has expired unreported trackers, the check marks all of them reported, counts
them, and reports 0x1240 as a data-plane UC with the number of the one that has run longest in the element, its class, the
number of the others and its age in ms. A flock none of whose trackers has ever been taken is left as it was. Without a Drover
that acts nothing changes. -/
def Obligations.TrackersAreTakenAndFreed : Prop :=
  (∀ (f k : Nat) (s : State),
    (fspExists f k = true →
      (∀ cls i : Nat, cls < 3 → s.trkAvail f k = true → (s.flock f k).freeTracker = some i →
        exec (.commandIssue f k cls true) s = .next (s.ends ((s.begun.modFlock f k (fun fl =>
          { fl.modTracker i (fun t => { t with held := true, cls := cls, run := 0, limit := s.trackerLimit cls, seen := s.tbase, reported := false,
                                               halfSeen := false, age := 0, issueCycle := s.cycleCount f, total := t.total + 1 })
            with issued := bump fl.issued cls 1 })).presentTracker f k)))
      ∧ (∀ cls : Nat, cls < 3 → s.trkAvail f k = false →
        exec (.commandIssue f k cls true) s = .next (s.ends
          ((s.begun.modFlock f k (fun fl => { fl with stalls := fl.stalls + 1 })).sig .fspTrkStall (flockUid f k).toNat 1)))
      ∧ (∀ i : Nat, ((s.flock f k).tracker i).held = true →
        exec (.commandRetire f k i true) s = .next (s.ends ((s.begun.modFlock f k (fun fl =>
          { fl.modTracker i (fun t => { t with held := false, run := 0, reported := false, halfSeen := false, age := s.cycleCount f - t.issueCycle + 1 })
            with retired := fl.retired + 1 })).presentTracker f k)))
      ∧ (∀ i : Nat, ((s.flock f k).tracker i).held = false →
        exec (.commandRetire f k i true) s = .next (s.ends (s.begun.reportPlane 0x1231 (flockUid f k) [BitVec.ofNat 8 i])))
      ∧ (∀ (x : Nat) (c : Instr), c = .commandIssue f k x false ∨ c = .commandRetire f k x false → exec c s = .next (s.ends
          ((s.begun.modFlock f k (fun fl => { fl with parity := fl.parity + 1 })).reportPlane 0x1230 (mkUid 2 f k 0 0 3) [1]))))
    ∧ (fspExists f k = false → ∀ (x : Nat) (ok : Bool),
        exec (.commandIssue f k x ok) s = .next (s.ends s.begun) ∧ exec (.commandRetire f k x ok) s = .next (s.ends s.begun)))
  ∧ (∀ (f k : Nat) (s : State), fspExists f k = true →
    ((s.flock f k).kill = true →
      (∃ u : State, (∀ i, ((u.flock f k).tracker i).held = false) ∧ (u.flock f k).kill = false
        ∧ exec (.killDone f k true) s = .next (s.ends (((u.sig .fspKill (flockUid f k).toNat 0).killOver f k false).presentTracker f k)))
      ∧ exec (.killTimeout f k) s = .next (s.ends
          (({ s.begun with tbase := max s.tbase ((s.flock f k).killAt + 100000) } : State).killOver f k true)))
    ∧ exec (.killDone f k false) s = .next (s.ends
          ((s.begun.modFlock f k (fun fl => { fl with parity := fl.parity + 1 })).reportPlane 0x1230 (mkUid 2 f k 0 0 3) [1]))
    ∧ ((s.flock f k).kill = false → exec (.killDone f k true) s = .next (s.ends s.begun) ∧ exec (.killTimeout f k) s = .next (s.ends s.begun)))
  ∧ (∀ (f k cls : Nat) (s : State), fspExists f k = true → 3 ≤ cls → exec (.commandIssue f k cls true) s = .fault (.undefinedByR2 48))
  ∧ ((∀ (f : Nat) (s : State), s.droverUp f = true →
    exec (.trackerCheck f) s = .next (s.ends ((s.begun.syncField f).forEach ((s.begun.syncField f).trackedFlocks f) (fun s k => s.checkFlock f k))))
  ∧ (∀ (f k i : Nat) (s : State) (t : Tracker) (rest : List (Nat × Tracker)), (s.flock f k).expired = (i, t) :: rest →
    ∃ u : State, s.checkFlock f k = u.reportPlane 0x1240 (mkUid 2 f k 0 0 (0x40 + i))
        ([BitVec.ofNat 8 t.cls, BitVec.ofNat 8 rest.length] ++ le 2 (sat 65535 (t.run / 1000000)))
      ∧ (u.flock f k).timeouts = (s.flock f k).timeouts + (rest.length + 1)
      ∧ ∀ p ∈ (i, t) :: rest, ((u.flock f k).tracker p.1).reported = true)
  ∧ (∀ (f k : Nat) (s : State), (s.flock f k).trackers = [] → s.checkFlock f k = s)
  ∧ (∀ (f : Nat) (s : State), s.droverUp f = false → exec (.trackerCheck f) s = .next (s.ends s.begun)))

/-- HURDLE_CLOSED of a domain whose hurdle is closing starts its drain and records 0x0310 with the domain, its cause and code
and the time since it began to close. DRAIN_END of a draining hurdle ends its drain. DRAIN_TIMEOUT of a draining hurdle reaches
the drain timeout, asserts fsp_hdl_flush on the named FSPs of the domain that are not idle, and reports 0x0311 with the domain,
their count and the time since the close, once per hurdle. An answer in which the hdl group of an FSP of the domain fails its
parity counts a parity error and reports 0x1230 with group 2 instead. A domain with no hurdle in that phase is left as it was.
With firmware running and a capture under way, CAPTURE_DONE ends it with its entries, and CAPTURE_BUDGET ends it truncated 1 ms
after it began. WAIT_GRAPH_ASSEMBLED for the oldest waiting request takes that request away, counts the assembly, completes the
request with OK, the number of cycles as its result and the report in its buffer, and reports 0x1241 against every flock of
every cycle with its length; an automatic one that is due and at least 10 ms after the one before it reads the wait tables of
the die, notes its time and writes the header into the trace instead. Without a request, or one due, it changes nothing. -/
def Obligations.HurdlesDrainAndCapturesEnd : Prop :=
  (∀ (d : Uid) (s : State),
    (∀ h : Hurdle, s.hurdleIn d .closing = some h →
      exec (.hurdleClosed d none) s = .next (s.ends ((s.begun.modHurdle d .closing (fun h => { h with phase := .draining, closedAt := s.tbase })).note
        0x0310 dieUid (le 4 d.toNat ++ [BitVec.ofNat 8 h.cause, 0] ++ le 2 h.code ++ le 4 (sat 4294967295 (s.tbase - h.began))) s.job.opId)))
    ∧ (s.hurdleIn d .closing = none → exec (.hurdleClosed d none) s = .next (s.ends s.begun))
    ∧ exec (.drainEnd d none) s = .next (s.ends (s.begun.modHurdle d .draining (fun h => { h with phase := .drained })))
    ∧ (∀ f k : Nat, domHasFlock d f k = true → fspExists f k = true → ∀ c : Instr, c = .hurdleClosed d (some (f, k)) ∨ c = .drainEnd d (some (f, k)) →
      exec c s = .next (s.ends ((s.begun.modFlock f k (fun fl => { fl with parity := fl.parity + 1 })).reportPlane 0x1230 (mkUid 2 f k 0 0 3) [2])))
    ∧ (∀ (h : Hurdle) (l : List (Nat × Nat)) (u : State), s.hurdleIn d .draining = some h → h.timedOut = false →
      u = ({ s.begun with tbase := max s.tbase (h.closedAt + s.policy.drain * 1000) } : State).modHurdle d .draining (fun h => { h with timedOut := true }) →
      exec (.drainTimeout d l) s = .next (s.ends ((u.forEach (l.filter (fun p => domHasFlock d p.1 p.2 && fspExists p.1 p.2)) (fun s p =>
          (s.modFlock p.1 p.2 (fun fl => { fl with flush := true })).sig .fspHdlFlush (flockUid p.1 p.2).toNat 1)).report
        0x0311 dieUid (le 4 d.toNat ++ le 2 (l.filter (fun p => domHasFlock d p.1 p.2 && fspExists p.1 p.2)).length ++ zeros 2
          ++ le 4 ((max s.tbase (h.closedAt + s.policy.drain * 1000) - h.closedAt) / 1000)) s.job.opId)))
    ∧ (∀ l : List (Nat × Nat), (match s.hurdleIn d .draining with | some h => h.timedOut | none => true) = true →
      exec (.drainTimeout d l) s = .next (s.ends s.begun)))
  ∧ (∀ s : State, s.firmware = true →
    (∀ (es : List CapEntry) (c : CaptureRun), s.recovery.capture = some c →
      exec (.captureDone es) s = .next (s.ends (s.begun.captureEnded c (s.begun.capEntries c es) false))
      ∧ exec (.captureBudget es) s = .next (s.ends (({ s.begun with tbase := max s.tbase (c.began + 1000000) } : State).captureEnded c
          (s.begun.capEntries c es) true)))
    ∧ (∀ (t0 t1 n : Nat) (ts : List WaitTable) (q : WaitReq) (rest : List WaitReq) (ns : List WaitNode) (cs : List (List Nat)),
      s.recovery.waitReqs = q :: rest → ns = s.waitNodes q.dom ts → cs = waitCycles ns.length (waitEdges ns) →
      n = (ts.filter (fun t => s.flockUp t.f t.k && domHasFlock q.dom t.f t.k)).length →
      exec (.waitGraphAssembled false t0 t1 ts) s = .next (s.ends
        ((({ s.begun with recovery := { s.recovery with waitReqs := rest, assembly := s.recovery.assembly + 1 } } : State).complete q.ring 0x00
            (le 4 cs.length) (graphReport q.dom ns (waitEdges ns) cs (s.recovery.assembly + 1) n t0 t1 q.len)).forEach cs (fun x c =>
          x.forEach (cycleFlocks ns c) (fun x u => x.reportPlane 0x1241 u
            ([BitVec.ofNat 8 (sat 255 c.length), BitVec.ofNat 8 (sat 255 (cycleFlocks ns c).length)] ++ le 2 (s.recovery.assembly + 1)))))))
    ∧ (∀ (t0 t1 : Nat) (ts : List WaitTable), s.autoReady = true → ∃ t, exec (.waitGraphAssembled true t0 t1 ts) s = .next (s.ends t)
      ∧ t = (({ s.begun with recovery := { s.recovery with autoDue := false, lastAuto := some s.tbase } } : State).readWaitTables dieUid).assembled
          true t0 t1 ts dieUid (fun s _ _ => s) 0)
    ∧ (∀ (t0 t1 : Nat) (ts : List WaitTable),
      (s.recovery.waitReqs = [] → exec (.waitGraphAssembled false t0 t1 ts) s = .next (s.ends s.begun))
      ∧ (s.autoReady = false → exec (.waitGraphAssembled true t0 t1 ts) s = .next (s.ends s.begun))))

/-- On an FSP whose Drover acts: RUN_START of good parity starts the run, and with bad parity counts a parity error and reports
0x1230 with group 5. WINDOW_PLAN of a window that the run's table does not name changes nothing; of one it names, for a core
that serves the slot and with a pack running, it plans the item chosen for the window and begins its scratch write, or counts a
window without an item. WINDOW_OPEN of a planned window marks it opened; when its scratch is written, the core free, the limits
of cores under test kept and its guard step within the fused maximum, the slice enters; over the maximum the guard item is
skipped; else a busy skip is counted. After a run start of an existing flock, the latched thresholds are the replay and twin
thresholds that firmware has loaded for that flock since the start, or the OTP defaults when it has loaded none; the run's
identifier, start and windows are set, and fsp_quiet is taken as low; the latched thresholds of every other existing flock are
unchanged. On an FSP whose Drover acts: SPARE_SLICE_PLAN of an existing core with no slice, a pack and an open self-test item
leaves a slice of that item's pattern that waits for its scratch; of a core with no self-test that may use such windows, outside
a Bellwether sweep, it does the same with the item chosen for it, when the core has room for it in the present second; of a core
with a slice it changes nothing. SCRATCH_WRITE_DONE of a slice that waits, with no self-test, no lane item and the limits of
cores under test kept and the guard step within the fused maximum, lets it enter; when the limits are not kept a busy skip is
counted. -/
def Obligations.RunsLatchPlanAndOpenSlices : Prop :=
  (∀ (f k : Nat) (s : State), fspExists f k = true → s.droverUp f = true →
    (∀ id : Nat, exec (.runStart f k id true) s = .next (s.ends (s.begun.runStart f k id)))
    ∧ (∀ id : Nat, exec (.runStart f k id false) s = .next (s.ends
        ((s.begun.modFlock f k (fun fl => { fl with parity := fl.parity + 1 })).reportPlane 0x1230 (mkUid 2 f k 0 0 3) [5])))
    ∧ (∀ j w : Nat, (s.flock f k).windows.find? (fun e => e.slot == j && e.w == w) = none →
      exec (.windowPlan f k j w) s = .next (s.ends s.begun))
    ∧ (∀ (j w c : Nat) (e : IdleEntry) (u : State) (o : Option Item), c = (s.flock f k).coreOf j →
      (s.flock f k).windows.find? (fun e => e.slot == j && e.w == w) = some e → s.patterns ≠ [] → (s.flock f k).slotOf c = some j →
      (s.core f k c).planned.any (fun p => p.w == w) = false → s.begun.choose f k c e.len e.quiet ((s.begun.candidates f k c).take 8) = (u, o) →
      exec (.windowPlan f k j w) s = .next (s.ends (match o with
        | none => u.slotCount f k c 5 1
        | some it => ((u.modCore f k c (fun x => { x with planned := x.planned ++
            [{ w := w, len := e.len, item := it, slice := u.sliceOf f k c it e.len false, pat := u.patternOf it.pattern }] })).refill f
              (it.pattern :: (u.modCore f k c (fun x => { x with planned := x.planned ++
                [{ w := w, len := e.len, item := it, slice := u.sliceOf f k c it e.len false, pat := u.patternOf it.pattern }] })).nextPatterns f k c)).beginWrite
            f k c)))
    ∧ (∀ (j w c : Nat) (pl : Planned) (u : State), c = (s.flock f k).coreOf j →
      (s.core f k c).planned.find? (fun p => p.w == w && !p.opened) = some pl →
      u = s.begun.modCore f k c (fun x => { x with planned := x.planned.map (fun p => if p.w = w then { p with opened := true } else p) }) →
      (pl.written = true → (u.core f k c).slice = none → u.windowBusy f k = false →
        ((pl.item.guard && u.overFused f (u.core f k c).step) = false →
          exec (.windowOpen f k j w) s = .next (s.ends (u.enterSlice f k c pl.slice)))
        ∧ ((pl.item.guard && u.overFused f (u.core f k c).step) = true →
          exec (.windowOpen f k j w) s = .next (s.ends ((u.guardSkip f k c pl.item).beginWrite f k c))))
      ∧ ((pl.written = false ∨ (u.core f k c).slice.isSome = true ∨ u.windowBusy f k = true) →
        exec (.windowOpen f k j w) s = .next (s.ends ((u.slotCount f k c 4 1).beginWrite f k c)))))
  ∧ (∀ (f k id : Nat) (s : State), fspExists f k = true →
    ((s.runStart f k id).flock f k).latched = some (if (s.gflock f k).loaded then ((s.gflock f k).pR, (s.gflock f k).pT)
      else (Config.otpReplay.toNat, Config.otpTwin.toNat))
    ∧ ((s.runStart f k id).flock f k).runId = some id ∧ ((s.runStart f k id).flock f k).quiet = false
    ∧ ((s.runStart f k id).flock f k).windows = (s.syncField f).runEntries f k id
    ∧ ∀ f' k', fspExists f' k' = true → (f', k') ≠ (f, k) → ((s.runStart f k id).flock f' k').latched = (s.flock f' k').latched)
  ∧ (∀ (f k c : Nat) (s : State), fspExists f k = true → s.droverUp f = true → c < Config.cores →
    ((s.core f k c).slice.isSome = true → exec (.spareSlicePlan f k c) s = .next (s.ends s.begun))
    ∧ ((s.core f k c).slice = none → s.patterns ≠ [] → (s.core f k c).st.gone = false → (s.flock f k).st.gone = false →
      (∀ (it : Item) (its : List Item), (s.core f k c).selfItems = it :: its →
        ∃ t sl, exec (.spareSlicePlan f k c) s = .next (s.ends t) ∧ (t.core f k c).slice = some sl ∧ sl.phase = .writing ∧ sl.own = true
          ∧ sl.pattern = it.pattern ∧ sl.guard = it.guard)
      ∧ (∀ (u : State) (o : Option Item), (s.core f k c).selfItems = [] → s.ownWindows f k c = true → (s.field f).bellCode = none →
        s.begun.choose f k c 4294967295 true ((s.begun.candidates f k c).take 8) = (u, o) →
        (o = none → exec (.spareSlicePlan f k c) s = .next (s.ends u))
        ∧ (∀ it : Item, o = some it → u.spareRoom f k c (u.sliceOf f k c it 0 true).need = true →
          ∃ t sl, exec (.spareSlicePlan f k c) s = .next (s.ends t) ∧ (t.core f k c).slice = some sl ∧ sl.phase = .writing ∧ sl.own = true
            ∧ sl.pattern = it.pattern ∧ sl.guard = it.guard)))
    ∧ (∀ (sl : Slice) (u : State), (s.core f k c).slice = some sl → sl.phase = .writing → (s.core f k c).selfItems = [] →
      u = s.begun.modCore f k c (fun x => { x with slice := none }) →
      (u.windowBusy f k = true → exec (.scratchWriteDone f k c) s = .next (s.ends (u.slotCount f k c 4 1)))
      ∧ (u.windowBusy f k = false → sl.lane = false → (sl.guard = true → u.overFused f (u.core f k c).step = false) →
        exec (.scratchWriteDone f k c) s = .next (s.ends (u.enterSlice f k c sl)))))

/-- TS_SAVED of good parity for a slice that is entering starts the pattern when its step is the core's standing step, and
writes the guard step otherwise; GUARD_GO then starts the pattern; GUARD_EXIT ends a slice that has gone back to the standing
step. TS_SAVED, TS_DONE, TS_NEED or TS_RESTORED with a parity error counts it and reports 0x1230 with group 5 instead. GUARD_GO
and GUARD_EXIT of a core whose slice is in no such phase change nothing. TS_DONE of a running slice at the standing step ends
the slice and gives the verdict PASS when the MISR equals the pattern's expected value and FAIL when not; at a guard step it
first goes back to the standing step. DONE_MISSING of a running slice is a FAIL, with 0x7004 in addition. SLICE_LATEST_EXIT cuts
a slice that runs or steps, without a verdict. TS_SAVED_LATE of a slice that is entering ends it, counts it as interrupted and
reports 0x7004 with code 0. TS_NEED cuts the slice; inside a declared window it records 0x7003 with the pattern and the cycles
left, and the run is no longer timing-clean. TS_RESTORED of an exiting slice frees the core; without a lane item on a core that
serves a slot it counts its cycles, lowers fsp_ts_enter and fsp_ts_exit and goes on with the next scratch write. RESTORED_LATE
of an exiting slice marks it late and reports 0x7004 with code 2. ROTATION_CHECK of a field whose Drover acts checks the field's
cores at the end of its rotation period: the check's time moves to then, and event 0x7005 of the field is recorded with the
count of unscreened cores and the count of cores whose last pass began too long ago when one of the two is not zero, and nothing
is recorded otherwise. -/
def Obligations.SlicesRunToTheirVerdict : Prop :=
  (∀ (f k c : Nat) (s : State), fspExists f k = true →
    (∀ sl : Slice, (s.core f k c).slice = some sl → sl.phase = .entering → sl.step = (s.core f k c).step →
      exec (.tsSaved f k c true) s = .next (s.ends
        ((s.begun.modCore f k c (fun x => { x with slice := some { sl with phase := .running } })).sig .fspTsGo (coreUid f k c).toNat 1)))
    ∧ (∀ sl : Slice, (s.core f k c).slice = some sl → sl.phase = .entering → sl.step ≠ (s.core f k c).step →
      exec (.tsSaved f k c true) s = .next (s.ends
        ((s.begun.modCore f k c (fun x => { x with slice := some { sl with phase := .stepping } })).sig .fspClkStep (coreUid f k c).toNat (toTwos 3 sl.step))))
    ∧ (∀ sl : Slice, (s.core f k c).slice = some sl → sl.phase = .stepping →
      exec (.guardGo f k c) s = .next (s.ends
        ((s.begun.modCore f k c (fun x => { x with slice := some { sl with phase := .running } })).sig .fspTsGo (coreUid f k c).toNat 1)))
    ∧ (∀ sl : Slice, (s.core f k c).slice = some sl → sl.phase = .returning →
      exec (.guardExit f k c) s = .next (s.ends (s.begun.exitSlice f k c)))
    ∧ (∀ (m : BitVec 64) (i : Instr), i = .tsSaved f k c false ∨ i = .tsDone f k c m false ∨ i = .tsNeed f k c false ∨ i = .tsRestored f k c false →
      exec i s = .next (s.ends ((s.begun.modFlock f k (fun fl => { fl with parity := fl.parity + 1 })).reportPlane 0x1230 (mkUid 2 f k 0 0 3) [5])))
    ∧ ((s.core f k c).slice = none → exec (.guardGo f k c) s = .next (s.ends s.begun) ∧ exec (.guardExit f k c) s = .next (s.ends s.begun)))
  ∧ (∀ (f k c : Nat) (s : State) (sl : Slice), fspExists f k = true → (s.core f k c).slice = some sl →
    (∀ m : BitVec 64, sl.phase = .running → sl.step = (s.core f k c).step →
      exec (.tsDone f k c m true) s = .next (s.ends ((s.begun.exitSlice f k c).verdict f k c sl (m == sl.expect) m)))
    ∧ (∀ m : BitVec 64, sl.phase = .running → sl.step ≠ (s.core f k c).step →
      exec (.tsDone f k c m true) s = .next (s.ends (((s.begun.stepBack f k c).modCore f k c
        (fun x => { x with slice := some { sl with phase := .returning } })).verdict f k c sl (m == sl.expect) m)))
    ∧ (sl.phase = .running → exec (.doneMissing f k c) s = .next (s.ends
        ((((s.begun.stepBack f k c).exitSlice f k c).verdict f k c sl false 0).sliceProtocol f k c 1 sl.pattern)))
    ∧ ((sl.phase = .running ∨ sl.phase = .stepping) → exec (.sliceLatestExit f k c) s = .next (s.ends (s.begun.cutSlice f k c))))
  ∧ (∀ (f k c : Nat) (s : State) (sl : Slice), fspExists f k = true → (s.core f k c).slice = some sl →
    (sl.phase = .entering → exec (.tsSavedLate f k c) s = .next (s.ends
      ((((s.begun.exitSlice f k c).modCore f k c (fun x => { x with slice := x.slice.map (fun y => { y with late := true }) })).slotCount f k c 6 1).sliceProtocol
        f k c 0 sl.pattern)))
    ∧ (∀ u : State, u = s.begun.cutSlice f k c → sl.phase ≠ .writing →
      ((sl.own = true ∨ sl.enterAt + sl.window ≤ u.cycleCount f) → exec (.tsNeed f k c true) s = .next (s.ends u))
      ∧ (sl.own = false → u.cycleCount f < sl.enterAt + sl.window → exec (.tsNeed f k c true) s = .next (s.ends
          (u.note 0x7003 (coreUid f k c) (u.cyclePayload f (le 2 sl.pattern ++ le 2 (sat 65535 (sl.enterAt + sl.window - u.cycleCount f))))).notClean)))
    ∧ (sl.exiting = true → sl.lane = false → (s.flock f k).spareCore ≠ some c →
      exec (.tsRestored f k c true) s = .next (s.ends (((((s.begun.slotCount f k c 3 (s.cycleCount f - sl.enterAt)).modCore f k c
        (fun x => { x with slice := none })).sig .fspTsEnter (coreUid f k c).toNat 0).sig .fspTsExit (coreUid f k c).toNat 0).beginWrite f k c)))
    ∧ (sl.exiting = true → ∃ t, exec (.tsRestored f k c true) s = .next (s.ends t) ∧ t = s.begun.restored f k c ∧ (t.core f k c).slice = none)
    ∧ (sl.exiting = true → exec (.restoredLate f k c) s = .next (s.ends
      ((s.begun.modCore f k c (fun x => { x with slice := some { sl with late := true } })).sliceProtocol f k c 2 sl.pattern))))
  ∧ (∀ (f : Nat) (s u : State), s.droverUp f = true →
    u = { s.begun with tbase := max s.tbase ((s.field f).rotationAt + s.policy.rotation * 1000000000) } →
    exec (.rotationCheck f) s = .next (s.ends
      (if u.lateCores f = 0 ∧ u.oldCores f = 0 then u.modField f (fun fd => { fd with rotationAt := u.tbase })
       else (u.modField f (fun fd => { fd with rotationAt := u.tbase })).note 0x7005 (fieldUid f) (le 4 (u.lateCores f) ++ le 4 (u.oldCores f)))))

/-- An ERROR_REPORT with a parity error, on an existing FSP, counts it and reports 0x1230 with group 6. One that is malformed is
acknowledged and reported as 0x1230 with group 6. Any other is acknowledged; a UC closes the hurdle of the flock and an FE that
of the field; then the error is reported with its code, class and source UID, and counts against the unit that it names. For
every FSP and every report that is not malformed, the UID of its source has the scope as its level, the field and flock of the
FSP, and the element of the report; at core and lane scope it has the report's core, at lane scope the report's lane, and zero
where the scope names none. An INFRASTRUCTURE_ERROR with a defined code outside the data plane and a UID with zeros below its
level is reported with the class of its code, or the class given where the code carries two, its UID and its payload; a
Shepherd's own fault (0x0105, 0x010B) reports that Shepherd lost first, and a current monitor that disagrees (0x0305) is noted
in its field first. Any other changes nothing. -/
def Obligations.ErrorReportsAreFencedAndTaken : Prop :=
  (∀ (f k : Nat) (r : FspErr) (s : State), fspExists f k = true →
    (r.parityOk = false → exec (.errorReport f k r) s = .next (s.ends
      (s.begun.fspParity f k 6)))
    ∧ (r.parityOk = true → r.malformed = true → exec (.errorReport f k r) s = .next (s.ends
      ((s.begun.sig .fspErrAck (flockUid f k).toNat 1).reportPlane 0x1230 (mkUid 2 f k 0 0 3) [6])))
    ∧ (∀ u : State, r.parityOk = true → r.malformed = false →
      u = (if r.cls = clsCE then s.begun.sig .fspErrAck (flockUid f k).toNat 1
           else (s.begun.sig .fspErrAck (flockUid f k).toNat 1).closeHurdle (if r.cls = clsFE then fieldUid (uidField (r.uid f k))
             else flockUid (uidField (r.uid f k)) (uidFlock (r.uid f k))) 0 r.code) →
      exec (.errorReport f k r) s = .next (s.ends ((u.reportCls r.code r.cls (r.uid f k)
        (u.cyclePayload f [BitVec.ofNat 8 r.elem, if r.scope = 0 then BitVec.ofNat 8 r.lane else 0xFF, BitVec.ofNat 8 r.scope, 0])).fspFinding f k r))))
  ∧ (∀ (f k : Nat) (r : FspErr), fspExists f k = true → r.malformed = false → r.scope ≤ 2 → r.core < 32 → r.lane < 16 → r.elem < 256 →
    uidLevel (r.uid f k) = r.scope ∧ uidField (r.uid f k) = f ∧ uidFlock (r.uid f k) = k ∧ uidElem (r.uid f k) = r.elem
    ∧ uidCore (r.uid f k) = (if r.scope ≤ 1 then r.core else 0) ∧ uidLane (r.uid f k) = (if r.scope = 0 then r.lane else 0))
  ∧ (∀ (e : InfraErr) (s : State),
    ((codeDefined e.code && !isDataPlane e.code && uidBelowZero e.uid) = true →
      (e.code ≠ 0x0105 → e.code ≠ 0x010B → (e.code ≠ 0x0305 ∨ uidLevel e.uid ≠ 5 ∨ uidElem e.uid < 0x18 ∨ 0x1F < uidElem e.uid) →
        exec (.infrastructureError e) s = .next (s.ends (s.begun.reportCls e.code (classOf e.code e.cls) e.uid e.payload)))
      ∧ ((e.code = 0x0105 ∨ e.code = 0x010B) →
        exec (.infrastructureError e) s = .next (s.ends
          ((s.begun.selfLost (uidField e.uid == Config.shcField true)).reportCls e.code (classOf e.code e.cls) e.uid e.payload)))
      ∧ (e.code = 0x0305 → uidLevel e.uid = 5 → 0x18 ≤ uidElem e.uid → uidElem e.uid ≤ 0x1F →
        exec (.infrastructureError e) s = .next (s.ends
          ((s.begun.modField (uidField e.uid) (fun fd => { fd with deadMonitors := insertNew fd.deadMonitors (uidElem e.uid - 0x18) })).reportCls
            0x0305 (classOf 0x0305 e.cls) e.uid e.payload))))
    ∧ ((codeDefined e.code && !isDataPlane e.code && uidBelowZero e.uid) = false → exec (.infrastructureError e) s = .next (s.ends s.begun)))

/-- The write-1 clear of the valid bit re-arms the latch and has no effect while a handling flag is set; the overflow bit clears
at any time; and while valid is set, taking a further error changes neither the captured code, class, UID, time nor sequence
number and leaves valid set. COLD_RESET clears the whole latch. For a UID that names a part under PARTRST: PART_RESET_DONE with
a self-test that fails takes the part out of service; with one that passes, a Crook ends its reset, notes its self-test and
starts its next entry, a router ends its reset and has its links back, an engine and a voter end theirs, and a Drover acts again
and goes through a level-0 reset of its field. PART_RESET_LIMIT takes the part out of service at its limit after the reset
began. A UID that names no part under reset changes nothing. -/
def Obligations.LatchTakesTheFirstError : Prop :=
  ((∀ s : State, s.windowUp = true →
    (s.ferr.handling = true → ∃ t, exec .ferrClear s = .next (s.ends t) ∧ t.ferr = s.ferr)
    ∧ (s.ferr.handling = false → ∃ t, exec .ferrClear s = .next (s.ends t) ∧ t.ferr.valid = false ∧ t.ferr.overflow = s.ferr.overflow)
    ∧ (∃ t, exec .ferrOverflowClear s = .next (s.ends t) ∧ t.ferr.overflow = false ∧ { t.ferr with overflow := s.ferr.overflow } = s.ferr))
  ∧ (∀ (l : Ferr) (e : Ev) (sq : Nat) (a b c d : Bool), l.valid = true →
    (l.take e sq a b c d).valid = true ∧ (l.take e sq a b c d).code = l.code ∧ (l.take e sq a b c d).cls = l.cls ∧ (l.take e sq a b c d).uid = l.uid
    ∧ (l.take e sq a b c d).tbase = l.tbase ∧ (l.take e sq a b c d).sequence = l.sequence)
  ∧ (∀ (l : Ferr) (e : Ev) (sq : Nat) (a b c d : Bool), l.valid = false →
    (l.take e sq a b c d).valid = true ∧ (l.take e sq a b c d).code = e.code ∧ (l.take e sq a b c d).cls = e.cls ∧ (l.take e sq a b c d).uid = e.uid
    ∧ (l.take e sq a b c d).tbase = e.tbase ∧ (l.take e sq a b c d).sequence = sq ∧ (l.take e sq a b c d).merges = 0)
  ∧ (∀ s : State, s.pwrGood = true → ∃ t, exec .coldReset s = .next (s.ends t) ∧ t.ferr = {}))
  ∧ (∀ (u : Uid) (s : State),
    (∀ p : Part, partOf u = some p → s.partResetting p = true →
      exec (.partResetDone u false) s = .next (s.ends (s.begun.partOut p))
      ∧ exec (.partResetLimit u) s = .next (s.ends (({ s.begun with tbase := max s.tbase ((s.partTimes p).getLastD s.tbase + partLimit p) } : State).partOut p)))
    ∧ (∀ f i : Nat, partOf u = some (.crook f i) → (s.crook f i).resetting = true →
      exec (.partResetDone u true) s = .next (s.ends (s.begun.modCrook f i (fun x => ({ x with resetting := false, selfTestAt := s.tbase } : Crook).kick))))
    ∧ (∀ t : Nat, partOf u = some (.engine t) → (s.tap t).resetting = true →
      exec (.partResetDone u true) s = .next (s.ends (s.begun.modTap t (fun x => { x with resetting := false }))))
    ∧ (∀ f n : Nat, partOf u = some (.router f n) → (s.field f).routerResetting.contains n = true →
      exec (.partResetDone u true) s = .next (s.ends ((s.begun.modField f (fun fd => { fd with routerResetting := without fd.routerResetting n })).linksBack f [n])))
    ∧ (∀ v : Nat, partOf u = some (.voter v) → (s.pair.voters.getD v {}).resetting = true →
      exec (.partResetDone u true) s = .next (s.ends (s.begun.modPair (fun q => { q with voters := modifyAt q.voters v (fun x => { x with resetting := false }) }))))
    ∧ (∀ (f : Nat) (t : State), partOf u = some (.drover f) → (s.field f).droverResetting = true →
      t = s.begun.modField f (fun fd => { fd with droverResetting := false, drover := true }) →
      exec (.partResetDone u true) s = .next (s.ends { t with due := t.due ++ [.level0 (fieldUid f) 3 0] }))
    ∧ ((∀ p : Part, partOf u = some p → s.partResetting p = false) →
      (∀ b, exec (.partResetDone u b) s = .next (s.ends s.begun)) ∧ exec (.partResetLimit u) s = .next (s.ends s.begun)))

/-- When the bucket of a code has a token, or needs none, and neither drop condition holds, forming one record appends to the
waiting records exactly one, with the next sequence number and the code, class, severity, UID, detection time, operation ID and
payload of the report, the count of records of that code withheld before, and the sequence number moves on by one. With sixteen
tokens spent nothing is formed and the withheld count grows by one. -/
def Obligations.RecordsCarryTheirReport : Prop :=
  (∀ (s : State) (e : Ev), (assoc s.tally.spent e.code).getD 0 < 16 → s.tally.waiting.length < 4096 → s.tally.regionFull (e.cls == clsFE) e.sev = false →
    ∃ r, (s.formOne e false).2 = some r ∧ (s.formOne e false).1.tally.waiting = s.tally.waiting ++ [r]
      ∧ (s.formOne e false).1.tally.next = s.tally.next + 1 ∧ r.sequence = s.tally.next ∧ r.code = e.code ∧ r.cls = e.cls ∧ r.sev = e.sev
      ∧ r.uid = e.uid ∧ r.tbase = e.tbase ∧ r.opId = e.opId ∧ r.payload = fit 12 e.payload
      ∧ r.supp = sat 65535 ((assoc s.tally.withheld e.code).getD 0))
  ∧ (∀ (s : State) (e : Ev), e.cls ≠ clsFE → bucketExempt e.code = false → 16 ≤ (assoc s.tally.spent e.code).getD 0 →
    (s.formOne e false).2 = none ∧ (s.formOne e false).1.tally.waiting = s.tally.waiting ∧ (s.formOne e false).1.tally.next = s.tally.next
    ∧ (assoc (s.formOne e false).1.tally.withheld e.code) = some ((assoc s.tally.withheld e.code).getD 0 + 1))

/-- SHEPHERD_HEARTBEAT of a Shepherd that beats goes to every voter in service and notes its time. ORDER_ENTRY makes the
follower process one more ordered input while it is behind, and reports 0x4003 for a firmware assertion in that step.
OUTPUT_RELEASE with a follower sends out, in their order, the held outputs of the inputs the follower has processed, and keeps
the others; without a follower it changes nothing. None of these takes an order number. A vote of a voter in service, of the
present round, acts exactly when it makes two voters whose last votes are that vote of that round; a voter out of service or
under reset casts nothing. VOTE casts a vote and carries out one that acts; SHEPHERD_LOST casts the loss of a Shepherd, on that
Shepherd's own report, which marks it lost, or 640 ns after its last heartbeat. -/
def Obligations.PairFollowsOrderAndVotes : Prop :=
  (∀ s : State,
    (∀ b : Bool, (s.pair.shc b).beats = true → exec (.shepherdHeartbeat b) s = .next (s.ends
      ((s.outside.broadcast (shcUid b) (s.pair.liveVoters.map voterUid) .heartbeat 0).modShc b (fun x => { x with lastHb := s.tbase }))))
    ∧ (∀ b : Bool, (s.pair.shc b).beats = false → exec (.shepherdHeartbeat b) s = .next (s.ends s.outside))
    ∧ (s.follower.isSome = true → s.pair.followed < s.pair.order →
      exec (.orderEntry none) s = .next (s.ends { s.outside with pair := { s.pair with followed := s.pair.followed + 1 } }))
    ∧ ((s.follower = none ∨ s.pair.order ≤ s.pair.followed) → exec (.orderEntry none) s = .next (s.ends s.outside))
    ∧ (∀ (core : Nat) (n arg : BitVec 32) (b : Bool), s.follower.isSome = true → s.pair.followed < s.pair.order → s.start.fwRun = true → s.activeShc = some b →
      exec (.orderEntry (some (core, n, arg))) s = .next (s.ends (({ s.outside with pair := { s.pair with followed := s.pair.followed + 1 } } : State).report
        0x4003 (shcUid b) ([BitVec.ofNat 8 core, 0, 0, 0] ++ le 4 n.toNat ++ le 4 arg.toNat))))
    ∧ (s.follower.isSome = true →
      exec .outputRelease s = .next (s.ends { s.outside with
        pair := { s.pair with processed := s.pair.followed, released := s.pair.followed
                              held := s.pair.held.filter (fun p => decide (s.pair.followed < p.1))
                              pairSeq := s.pair.pairSeq + (s.pair.held.filter (fun p => decide (p.1 ≤ s.pair.followed))).length }
        out := (s.pair.held.filter (fun p => decide (p.1 ≤ s.pair.followed))).map (·.2) }))
    ∧ (s.follower = none → exec .outputRelease s = .next (s.ends s.outside)))
  ∧ ((∀ (s : State) (i r : Nat) (v : Vote), i < 3 → (s.pair.voters.getD i {}).inService = true → (s.pair.voters.getD i {}).resetting = false →
    s.pair.voters.length = 3 →
    (s.castVote i r v).2 = (r == s.pair.round && decide (((List.range 3).filter (fun j => j == i || (s.pair.voters.getD j {}).vote == some (r, v))).length = 2)))
  ∧ (∀ (s : State) (i r : Nat) (v : Vote), ((s.pair.voters.getD i {}).inService = false ∨ (s.pair.voters.getD i {}).resetting = true) → exec (.vote i r v) s = .next (s.ends s.outside))
  ∧ (∀ (s : State) (i r : Nat) (v : Vote), (s.outside.castVote i r v).2 = false → exec (.vote i r v) s = .next (s.ends (s.outside.castVote i r v).1))
  ∧ (∀ (s : State) (i r : Nat) (v : Vote), (s.outside.castVote i r v).2 = true → exec (.vote i r v) s = .next (s.ends ((s.outside.castVote i r v).1.actVote v)))
  ∧ (∀ (s : State) (i : Nat) (b : Bool), exec (.shepherdLost i b true) s = .next (s.ends
      ((s.outside.modShc b (fun x => { x with lost := true })).voteAct i s.pair.round (.loss b))))
  ∧ (∀ (s : State) (i : Nat) (b : Bool), exec (.shepherdLost i b false) s = .next (s.ends
      (({ s.outside with tbase := max s.tbase ((s.pair.shc b).lastHb + 640) } : State).voteAct i s.pair.round (.loss b)))))

/-- WARDEN_EPOCH reaches the next multiple of 10 us of TBASE, numbers the epoch by it, compares the TBASE masters (0x0101 when
they differ by more than 10 ns) and has each Shepherd that beats send its digest. With an active and a following Shepherd, no
challenge, no skew and masters within 10 ns, equal digests end the wait and commit a live update that has swapped; unequal ones
begin a challenge with their difference; a late follower sends none, and the active one's digest is kept. Without such a pair
nothing is compared. DIGEST_LATE without a waiting digest changes nothing, and with one begins the challenge 20 us after it.
With a challenge under way, a response goes to the voters; the first only waits, and the one that completes the pair applies
outcome 2 when both are right, 0 when only the active Shepherd's is, 1 when only the follower's is, and 3 when none is.
CHALLENGE_TIMEOUT reaches 1,920 ns after the challenge began, counts a response that is not in as wrong, and applies the
outcome. With none under way neither changes anything. -/
def Obligations.WardenComparesAndChallenges : Prop :=
  ((∀ (a b : BitVec 64) (s v w : State),
    v = ({ s.begun with tbase := max s.tbase ((s.tbase / 10000 + 1) * 10000) } : State).modPair
      (fun p => { p with wEpoch := max s.tbase ((s.tbase / 10000 + 1) * 10000) / 10000, skew := p.skew && s.fw.step != 6 }) →
    w = (v.sendDigest false a).sendDigest true b →
    s.pair.masterDiff.natAbs ≤ 10 →
    (s.pair.active.isSome = true → s.follower.isSome = true → s.pair.challenge = none → (s.pair.skew = false ∨ s.fw.step = 6) →
      (a = b → s.fw.step ≠ 6 → exec (.wardenEpoch a b false) s = .next (s.ends (w.modPair (fun p => { p with digestWait := none }))))
      ∧ (a = b → s.fw.step = 6 → exec (.wardenEpoch a b false) s = .next (s.ends ((w.modPair (fun p => { p with digestWait := none })).commitUpdate)))
      ∧ (a ≠ b → exec (.wardenEpoch a b false) s = .next (s.ends ((w.modPair (fun p => { p with digestWait := none })).beginChallenge false (a ^^^ b))))
      ∧ (s.pair.digestWait = none → s.pair.active = some .a → exec (.wardenEpoch a b true) s = .next (s.ends ((v.sendDigest false a).modPair (fun p =>
          { p with digestWait := some (v.tbase / 10000, v.tbase, a) }))))
      ∧ (s.pair.digestWait = none → s.pair.active = some .b → exec (.wardenEpoch a b true) s = .next (s.ends ((v.sendDigest true b).modPair (fun p =>
          { p with digestWait := some (v.tbase / 10000, v.tbase, b) })))))
    ∧ ((s.follower = none ∨ s.pair.active = none ∨ s.pair.challenge.isSome = true ∨ (s.pair.skew = true ∧ s.fw.step ≠ 6)) → ∀ late,
      exec (.wardenEpoch a b late) s = .next (s.ends (w.modPair (fun p => { p with digestWait := none })))))
  ∧ (∀ (s : State) (b : Bool), 10 < s.pair.masterDiff.natAbs → s.activeShc = some b → s.follower.isSome = true →
      s.compareMasters = s.report 0x0101 (shcUid b) (le 4 (toTwos 32 s.pair.masterDiff)))
  ∧ (∀ s : State, (s.pair.digestWait = none → exec .digestLate s = .next (s.ends s.outside))
    ∧ (∀ (e t : Nat) (own : BitVec 64), s.pair.digestWait = some (e, t, own) → s.compares = true →
      exec .digestLate s = .next (s.ends (({ s.outside with free := s.free + 1, tbase := max s.tbase (t + 20000) } : State).beginChallenge true
        (own ^^^ Config.freeValue s.free))))))
  ∧ ((∀ s : State,
    (s.pair.challenge = none → (∀ b r, exec (.challengeResponse b r) s = .next (s.ends s.outside)) ∧ exec .challengeTimeout s = .next (s.ends s.outside))
    ∧ (∀ (c : Challenge) (r : Bool), s.pair.challenge = some c → c.respA = none → c.respB = none →
      exec (.challengeResponse false r) s = .next (s.ends ((s.outside.sendResponse false).modPair (fun p => { p with challenge := some { c with respA := some r } })))
      ∧ exec (.challengeResponse true r) s = .next (s.ends ((s.outside.sendResponse true).modPair (fun p => { p with challenge := some { c with respB := some r } }))))
    ∧ (∀ (c : Challenge) (ra rb : Bool), s.pair.challenge = some c → c.respA = some ra → c.respB = none →
      (s.pair.active = some .a → exec (.challengeResponse true rb) s = .next (s.ends
        (((s.outside.sendResponse true).modPair (fun p => { p with challenge := some { c with respB := some rb } })).applyOutcome (outcomeOf ra rb))))
      ∧ (s.pair.active = some .b → exec (.challengeResponse true rb) s = .next (s.ends
        (((s.outside.sendResponse true).modPair (fun p => { p with challenge := some { c with respB := some rb } })).applyOutcome (outcomeOf rb ra)))))
    ∧ (∀ (c : Challenge) (ra rb : Bool), s.pair.challenge = some c → c.respA = none → c.respB = some rb →
      (s.pair.active = some .a → exec (.challengeResponse false ra) s = .next (s.ends
        (((s.outside.sendResponse false).modPair (fun p => { p with challenge := some { c with respA := some ra } })).applyOutcome (outcomeOf ra rb))))
      ∧ (s.pair.active = some .b → exec (.challengeResponse false ra) s = .next (s.ends
        (((s.outside.sendResponse false).modPair (fun p => { p with challenge := some { c with respA := some ra } })).applyOutcome (outcomeOf rb ra)))))
    ∧ (∀ (c : Challenge) (t : State), s.pair.challenge = some c →
      t = { s.outside with tbase := max s.tbase (c.began + 1920)
                           pair := { s.pair with challenge := some { c with respA := some (c.respA.getD false), respB := some (c.respB.getD false) } } } →
      (s.pair.active = some .a → exec .challengeTimeout s = .next (s.ends (t.applyOutcome (outcomeOf (c.respA.getD false) (c.respB.getD false)))))
      ∧ (s.pair.active = some .b → exec .challengeTimeout s = .next (s.ends (t.applyOutcome (outcomeOf (c.respB.getD false) (c.respA.getD false)))))))
  ∧ outcomeOf true true = 2 ∧ outcomeOf true false = 0 ∧ outcomeOf false true = 1 ∧ outcomeOf false false = 3)

/-- For a Shepherd that is being reset, in a field whose infrastructure rail is closed, and not for an update's new image:
SHEPHERD_REJOIN with a passed self-test, while the other one is active with firmware, makes it the follower with the running
image, and the order starts level; with a failed one it is out of service. REJOIN_TIMEOUT takes it out of service 100 ms after
its reset. SHEPHERD_RESET_ORDER while a Shepherd is in service changes nothing. While both Shepherds are lost and no scan is
open, SHEPHERD_RESET_ORDER reaches the next whole second since the loss and resets every Shepherd that is not out of service and
whose field has its infrastructure rail closed: it is resetting, with its gate closed and no trap pending. A Shepherd out of
service stays so. -/
def Obligations.ShepherdsRejoinOrStayOut : Prop :=
  (∀ (b : Bool) (s : State),
    ((s.pair.shc b).status = .resetting → (s.field (Config.shcField b)).infraPg = true → (s.fw.step ≠ 3 ∨ s.newShc ≠ b) →
      (s.firmware = true → s.activeShc = some (!b) →
        ∃ t, exec (.shepherdRejoin b true) s = .next (s.ends t) ∧ (t.pair.shc b).status = .following ∧ (t.pair.shc b).lost = false
          ∧ (∀ img, s.fw.running = some img → (t.pair.shc b).image = some img)
          ∧ (t.pair.shc b).lastHb = s.tbase ∧ (t.pair.shc (!b)) = (s.pair.shc (!b)) ∧ t.pair.held = [] ∧ t.pair.followed = s.pair.order
          ∧ t.pair.released = s.pair.order)
      ∧ ((s.firmware = false ∨ s.activeShc ≠ some (!b)) → exec (.shepherdRejoin b true) s = .next (s.ends s.outside))
      ∧ exec (.shepherdRejoin b false) s = .next (s.ends (s.outside.modShc b (fun x => { x with status := .outOfService }))))
    ∧ ((s.pair.shc b).status ≠ .resetting → (s.pair.shc b).status ≠ .catchingUp →
      (∀ ok, exec (.shepherdRejoin b ok) s = .next (s.ends s.outside)) ∧ exec (.rejoinTimeout b) s = .next (s.ends s.outside))
    ∧ (((s.pair.shc b).status = .resetting ∨ (s.pair.shc b).status = .catchingUp) →
      exec (.rejoinTimeout b) s = .next (s.ends (({ s.outside with tbase := max s.tbase ((s.pair.shc b).resetAt + 100000000) } : State).modShc b
        (fun x => { x with status := .outOfService }))))
    ∧ (s.pair.bothLost = false → exec .shepherdResetOrder s = .next (s.ends s.outside)))
  ∧ (∀ (b : Bool) (s : State), s.pair.bothLost = true → s.life.scanOpen = false →
    ∃ t, exec .shepherdResetOrder s = .next (s.ends t)
      ∧ t.tbase = max s.tbase (s.pair.lostAt + ((s.tbase - s.pair.lostAt) / 1000000000 + 1) * 1000000000)
      ∧ ((s.pair.shc b).status ≠ .outOfService → (s.field (Config.shcField b)).infraPg = true →
          (t.pair.shc b).status = .resetting ∧ (t.pair.shc b).gate = false ∧ (t.pair.shc b).nmi = none ∧ (t.pair.shc b).resetAt = t.tbase)
      ∧ ((s.pair.shc b).status = .outOfService → t.pair.shc b = s.pair.shc b))

/-- FW_WATCHDOG of a Shepherd that beats while firmware runs reports that Shepherd lost and reports 0x4004 with the core and its
last trace point. NMI_RETURN of a Shepherd with a trap pending ends the trap, and with trace type 2 on writes the trap's state
to its trace buffer first. NMI_OVERRUN of one ends it 100 us after it was raised and reports 0x4004 with cause 1. Without a trap
pending neither of the two changes anything. TAKEOVER of an existing field with firmware running and TBASE set replays that
field's event buffer and then records a switch-over whose replay is complete; with an empty buffer and no such record due it
changes nothing. TBASE_SYNC with an active Shepherd sends its message to every acting Drover, gives every Drover on a closed
infrastructure rail that has none its TBASE and notes by how much the masters differ; without an active Shepherd it changes
nothing. -/
def Obligations.WatchdogsTrapsAndTakeovers : Prop :=
  (∀ (b : Bool) (core : Nat) (s : State),
    ((s.pair.shc b).beats = true → s.start.fwRun = true →
      exec (.fwWatchdog b core) s = .next (s.ends ((s.outside.selfLost b).report 0x4004 (shcUid b)
        ([BitVec.ofNat 8 core, 0, 0, 0] ++ le 4 (s.pair.shc b).tracePoint))))
    ∧ ((s.pair.shc b).nmi.isSome = true → s.trace.mask.getLsbD 2 = false →
      exec (.nmiReturn b) s = .next (s.ends (s.outside.modShc b (fun x => { x with nmi := none }))))
    ∧ ((s.pair.shc b).nmi.isSome = true → s.trace.mask.getLsbD 2 = true →
      exec (.nmiReturn b) s = .next (s.ends ((({ s.outside with free := s.free + 1 } : State).traceOne b 2 ((Config.nmiState s.free).take 2040)).modShc b
        (fun x => { x with nmi := none }))))
    ∧ (∀ t : Nat, (s.pair.shc b).nmi = some t →
      exec (.nmiOverrun b core) s = .next (s.ends ((({ s.outside with tbase := max s.tbase (t + 100000) } : State).modShc b
        (fun x => { x with nmi := none })).report 0x4004 (shcUid b) ([BitVec.ofNat 8 core, 1, 0, 0] ++ le 4 (s.pair.shc b).tracePoint))))
    ∧ ((s.pair.shc b).nmi = none → exec (.nmiReturn b) s = .next (s.ends s.outside) ∧ exec (.nmiOverrun b core) s = .next (s.ends s.outside)))
  ∧ ((∀ (f : Nat) (s : State), f < Config.fields → s.firmware = true → (s.field f).tbaseSet = true → (s.field f).buffer = [] → s.pair.swDue = none →
    exec (.takeover f) s = .next (s.ends s.begun))
  ∧ (∀ (f : Nat) (s : State), f < Config.fields → s.firmware = true → (s.field f).tbaseSet = true →
    exec (.takeover f) s = .next (s.ends ((s.begun.replayBuffer f).noteSwitch)))
  ∧ (∀ (f : Nat) (s : State), (s.firmware = false ∨ (s.field f).tbaseSet = false) → exec (.takeover f) s = .next (s.ends s.begun))
  ∧ (∀ (diff : Int) (s : State), s.activeShc.isSome = true →
    ∃ t, exec (.tbaseSync diff) s = .next (s.ends t) ∧ t.pair.masterDiff = diff
      ∧ (∀ f < Config.fields, (s.field f).drover = true → (s.field f).infraPg = true → (t.field f).tbaseSet = true)
      ∧ t.out = (s.begun.toDrovers .tbaseSync s.tbase).out
      ∧ { t with fields := s.fields, mesh := s.mesh, pair := s.pair, out := s.out } = s)
  ∧ (∀ (diff : Int) (s : State), s.activeShc = none → exec (.tbaseSync diff) s = .next (s.ends s.begun)))

/-- On a powered link tap: TX_FRAME_START of a frame of another kind than contribution carries no trailer; of a contribution
frame while the engine does not work it is flagged unmarked by the bypass, and counted so; while the engine works, the step
rises to the frame's, the frame takes a tracker, and it is flagged marked when a job that asks for marks is active and it got
one, and unmarked otherwise. TRACKER_IDLE of a held tracker releases it at the tracker idle time after its last frame. When a
marked contribution frame ends on a tap whose engine works, its trailer carries the digest of its data in whole flits under its
descriptor, its tracker, flag 1 and the tracker's frame count, and the tracker counts the frame, its bytes and its digest. When
an unmarked one ends there, its trailer has earmark 0, the mark version, tracker 0xFF, flag 2, the data's length in whole flits
and frame count 0, and its tracker, if it has one, counts the frame and its bytes. A marked frame whose tracker was released
meanwhile has frame count 0. On a tap whose engine does not work the trailer is the bypass's. A trailer is 64 bytes long in
either case. With no contribution frame under way TX_FRAME_END changes nothing. -/
def Obligations.EngineMarksOutgoingFrames : Prop :=
  (∀ (t : Nat) (fd : BitVec 192) (s : State),
    (s.tapPowered t = true → fdKind fd ≠ 1 → exec (.txFrameStart t fd) s = .next (s.ends (s.begun.modTap t (fun x => { x with tx := none }))))
    ∧ (s.tapPowered t = true → fdKind fd = 1 → s.engineUp t = false → exec (.txFrameStart t fd) s = .next (s.ends
        (((s.begun.modTap t (fun x => { x with tx := some { fd := fd } })).tapCount t 1).sig .ltpTxFlag t 2)))
    ∧ (∀ (u : State) (tr : Option Nat) (m : Bool), s.engineUp t = true → fdKind fd = 1 →
      (s.begun.raiseStep (fdEpoch fd) (fdStep fd)).takeTracker t (fdColl fd) (fdEpoch fd) (fdStep fd) = (u, tr) →
      m = (u.job.active && bit u.job.flags 0 && tr.isSome) →
      exec (.txFrameStart t fd) s = .next (s.ends
        (((u.tapCount t (if m then 0 else 1)).modTap t (fun x => { x with tx := some { fd := fd, tracker := tr, marked := m } })).sig .ltpTxFlag t
          (if m then 1 else 2))))
    ∧ (∀ (i : Nat) (e : EmTracker), s.engineUp t = true → assoc (s.tap t).trackers i = some e →
      exec (.trackerIdle t i) s = .next (s.ends
        (({ s.begun with tbase := max s.tbase (e.lastAt + s.earmarks.idleUs * 1000) } : State).releaseTrackers t (fun j _ => j == i)))))
  ∧ ((∀ (t : Nat) (data : List Byte) (s : State), s.tapPowered t = true → (s.tap t).tx = none → exec (.txFrameEnd t data) s = .next (s.ends s.begun))
  ∧ (∀ (t : Nat) (data : List Byte) (s : State) (x : TxFrame), s.tapPowered t = true → (s.tap t).tx = some x → s.engineUp t = false →
    exec (.txFrameEnd t data) s = .next (s.ends ((s.begun.modTap t (fun y => { y with tx := none })).drive (.trailer t bypassTrailer))))
  ∧ (∀ (t : Nat) (data : List Byte) (s : State) (x : TxFrame), s.engineUp t = true → (s.tap t).tx = some x → x.marked = false → (x.tracker = none ∨ ∃ i, x.tracker = some i ∧ assoc (s.tap t).trackers i = none) →
    exec (.txFrameEnd t data) s = .next (s.ends ((s.begun.modTap t (fun y => { y with tx := none })).drive
      (.trailer t (trailerBytes 0 s.emfVersion 0xFF 2 (128 * ceilDiv data.length 128) 0)))))
  ∧ (∀ (t i : Nat) (data d : List Byte) (s : State) (x : TxFrame) (e e' : EmTracker) (m : BitVec 64), s.engineUp t = true → (s.tap t).tx = some x → x.marked = true →
    x.tracker = some i → assoc (s.tap t).trackers i = some e → d = fit (128 * ceilDiv data.length 128) data →
    m = segmentDigest (fdTensor x.fd) (fdEpoch x.fd) (fdStep x.fd) (fdOffset x.fd) d →
    e' = { e with frames := e.frames + 1, bytes := e.bytes + d.length, xor_ := e.xor_ ^^^ m, lastAt := s.tbase } →
    exec (.txFrameEnd t data) s = .next (s.ends (((s.begun.modTap t (fun y => { y with tx := none })).drive
      (.trailer t (trailerBytes m.toNat s.emfVersion i 1 d.length e.frames))).modTap t (fun y => { y with trackers := assocSet y.trackers i e' }))))
  ∧ (∀ (t i : Nat) (data : List Byte) (s : State) (x : TxFrame) (e : EmTracker), s.engineUp t = true → (s.tap t).tx = some x → x.marked = false →
    x.tracker = some i → assoc (s.tap t).trackers i = some e →
    exec (.txFrameEnd t data) s = .next (s.ends (((s.begun.modTap t (fun y => { y with tx := none })).drive
      (.trailer t (trailerBytes 0 s.emfVersion 0xFF 2 (128 * ceilDiv data.length 128) 0))).modTap t (fun y => { y with trackers := assocSet y.trackers i { e with frames := e.frames + 1, bytes := e.bytes + 128 * ceilDiv data.length 128, lastAt := s.tbase } }))))
  ∧ (∀ (t i : Nat) (data d : List Byte) (s : State) (x : TxFrame), s.engineUp t = true → (s.tap t).tx = some x → x.marked = true →
    x.tracker = some i → assoc (s.tap t).trackers i = none → d = fit (128 * ceilDiv data.length 128) data →
    exec (.txFrameEnd t data) s = .next (s.ends ((s.begun.modTap t (fun y => { y with tx := none })).drive (.trailer t
      (trailerBytes (segmentDigest (fdTensor x.fd) (fdEpoch x.fd) (fdStep x.fd) (fdOffset x.fd) d).toNat s.emfVersion i 1 d.length 0)))))
  ∧ bypassTrailer.length = 64 ∧ ∀ a b c d e g : Nat, (trailerBytes a b c d e g).length = 64)

/-- A frame whose epoch is one to 32,767 behind the chip's is STALE, and one further ahead is EARLY, whether or not the engine
works. Of the chip's epoch, a frame of kind 0 is OK and one of kind 3 BAD; a contribution frame is UNMARKED without the engine,
BAD when its trailer's flag is not its own, UNMARKED with flag 2, and with flag 1 and the right length OK exactly when the
trailer holds the data's digest. An INBOUND_FRAME on a powered tap, which is no service frame, drives its verdict; the bypass
counts an unmarked one, and the engine every verdict; OK and UNMARKED end the run of BAD frames on an equal descriptor, and no
verdict but BAD does more. On a tap whose engine works: SERVICE_FRAME_GRANT with the link up and nothing queued changes nothing,
and with frames queued sends the first, notices before others. SERVICE_FRAME_RECEIVED counts the frame; one whose check fails is
dropped for reason 0; one at the end of its route is delivered; one with route left is queued at the next tap of it when that
tap works, and else dropped for reason 2. -/
def Obligations.EngineJudgesInboundFrames : Prop :=
  ((∀ a b : Nat, a < 65536 → b < 65536 →
    (a = b → epochVerdict a b = none)
    ∧ (1 ≤ (a + 65536 - b) % 65536 → (a + 65536 - b) % 65536 ≤ 32767 → epochVerdict a b = some .stale)
    ∧ (32768 ≤ (a + 65536 - b) % 65536 → epochVerdict a b = some .early))
  ∧ (∀ (t : Nat) (fd : BitVec 192) (data tr : List Byte) (s : State), s.tapPowered t = true → fdKind fd ≠ 2 → s.engineUp t = false →
    exec (.inboundFrame t fd data tr) s = .next (s.ends (if s.rxVerdict t fd data tr = .unmarked then (s.begun.sig .ltpVerdict t 2).tapCount t 4
      else s.begun.sig .ltpVerdict t (s.rxVerdict t fd data tr).code)))
  ∧ (∀ (t : Nat) (fd : BitVec 192) (data tr : List Byte) (s : State) (v : RxVerdict), epochVerdict s.job.epoch.toNat (fdEpoch fd) = some v → s.rxVerdict t fd data tr = v)
  ∧ (∀ (t : Nat) (fd : BitVec 192) (data tr : List Byte) (s : State), fdEpoch fd = s.job.epoch.toNat →
    (fdKind fd = 0 → s.rxVerdict t fd data tr = .ok) ∧ (fdKind fd = 3 → s.rxVerdict t fd data tr = .bad)
    ∧ (fdKind fd = 1 → s.engineUp t = false → s.rxVerdict t fd data tr = .unmarked)
    ∧ (fdKind fd = 1 → s.engineUp t = true → rd tr 10 1 ≠ fdFlag fd → s.rxVerdict t fd data tr = .bad)
    ∧ (fdKind fd = 1 → s.engineUp t = true → fdFlag fd = 2 → rd tr 10 1 = 2 → s.rxVerdict t fd data tr = .unmarked)
    ∧ (fdKind fd = 1 → s.engineUp t = true → fdFlag fd = 1 → rd tr 10 1 = 1 → rd tr 12 4 = data.length →
      (s.rxVerdict t fd data tr = .ok ↔ (segmentDigest (fdTensor fd) (fdEpoch fd) (fdStep fd) (fdOffset fd) data).toNat = rd tr 0 8)))
  ∧ (∀ (t : Nat) (fd : BitVec 192) (data tr : List Byte) (s u : State) (v : RxVerdict), s.engineUp t = true → fdKind fd ≠ 2 → s.rxVerdict t fd data tr = v → v ≠ .bad →
    u = (s.begun.sig .ltpVerdict t v.code).tapCount t (2 + v.code) →
    exec (.inboundFrame t fd data tr) s = .next (s.ends (if (s.tap t).lastBad = some (fdKnown fd) ∧ v ≠ .stale ∧ v ≠ .early then u.modTap t (fun x => { x with badRun := 0 }) else u)))
  ∧ (∀ (t : Nat) (fd : BitVec 192) (data tr : List Byte) (s : State), s.engineUp t = true → fdKind fd ≠ 2 → s.rxVerdict t fd data tr = .bad →
    exec (.inboundFrame t fd data tr) s = .next (s.ends (((s.begun.sig .ltpVerdict t 1).tapCount t 3).badFrame t fd))))
  ∧ (∀ (t : Nat) (s : State), s.engineUp t = true →
    ((s.tap t).linkUp = true → (s.tap t).notices = [] → (s.tap t).queue = [] → exec (.serviceFrameGrant t) s = .next (s.ends s.begun))
    ∧ (∀ (fr : SvcFrame) (l : List SvcFrame) (u : State), (s.tap t).linkUp = true → (s.tap t).notices ++ (s.tap t).queue = fr :: l →
      u = (((s.begun.modTap t (fun x => if x.notices.isEmpty then { x with queue := x.queue.drop 1 } else { x with notices := x.notices.drop 1 })).drive (.frame t fr.bytes)).tapCount t 7) →
      exec (.serviceFrameGrant t) s = .next (s.ends (((if (u.tap t).queued = 0 then u.sig .ltpSvcTxReq t 0 else u).noteSent fr).retrainIfFree t)))
    ∧ (∀ (b : List Byte) (fr : SvcFrame) (good : Bool), parseFrame b = (fr, good) →
      (good = false → exec (.serviceFrameReceived t b) s = .next (s.ends ((s.begun.tapCount t 8).dropFrame t 0 fr.typ fr.src)))
      ∧ (good = true → fr.routeLen ≤ fr.routeIdx → exec (.serviceFrameReceived t b) s = .next (s.ends ((s.begun.tapCount t 8).deliver t fr)))
      ∧ (∀ q : Nat, good = true → fr.routeIdx < fr.routeLen → fr.routeIdx < 16 → q = (fr.route.getD fr.routeIdx 0xFF).toNat →
        exec (.serviceFrameReceived t b) s = .next (s.ends (if s.engineUp q = true ∧ (s.tap q).linkUp = true
          then (s.begun.tapCount t 8).queueAny q { fr with routeIdx := fr.routeIdx + 1 } else (s.begun.tapCount t 8).dropFrame t 2 fr.typ fr.src)))
      ∧ (good = true → fr.routeIdx < fr.routeLen → 16 ≤ fr.routeIdx →
        exec (.serviceFrameReceived t b) s = .next (s.ends ((s.begun.tapCount t 8).dropFrame t 2 fr.typ fr.src)))))

/-- On a powered tap: LINK_DOWN of a link that is up takes it down and reports 0x2103 with the rank of the tap's peer in the
running job, or all ones when there is none; a retraining that waited begins then. LINK_UP takes it up, asks its link tap for
the numbers of its data and spare lanes, and ends its retraining. LINK_RETRAIN_FAILED of a link being retrained leaves it down,
ends its retraining and reports 0x2105 with the attempts. With an access of a tap on its channel, SERVICE_REGISTER_ACK ends it,
sr_req falls, the next access takes the channel, and the data of a read without an error goes to what asked for it;
SERVICE_REGISTER_LATE leaves it there and reports, once for the access, 0x2005 for a memory tap and 0x2104 for a link tap with
the access's address. With none awaited both change nothing. SWEEP_REPORT of a field whose Drover acts sends the batch it has
gathered of the target, 10 us after its last segment. With firmware running, SWEEP_WAIT of an open sweep closes it incomplete at
the sweep wait after its first segment, EXCHANGE_WAIT closes the oldest open exchange of the target at its wait, and FLEECE_SEND
sends the frame of the oldest closed sweep that no frame has carried, one sweep wait after it closed. Where there is no such
batch, sweep or exchange nothing changes. -/
def Obligations.LinksAccessesAndSweepsEnd : Prop :=
  (∀ (t : Nat) (s : State), s.tapPowered t = true →
    ((s.tap t).linkUp = true →
      (∀ (rank : Nat) (u : State), rank = (match s.job.peers.find? (fun p => p.1 == t) with
            | some p => if s.job.active then p.2.1.toNat else 0xFFFFFFFF | none => 0xFFFFFFFF) →
          u = (s.begun.modTap t (fun x => { x with linkUp := false })).report 0x2103 (engineUid t) (le 4 rank) →
          exec (.linkDown t) s = .next (s.ends (if (u.tap t).retrainWait then u.retrainLink t else u))))
    ∧ exec (.linkUp t) s = .next (s.ends ((((s.begun.modTap t (fun x => { x with linkUp := true })).access false t 0x000 none).access false t 0x001 none).linkEnded t))
    ∧ ((s.tap t).linkUp = false → exec (.linkDown t) s = .next (s.ends s.begun))
    ∧ (∀ n : Nat, (s.tap t).retrain.isSome = true → exec (.linkRetrainFailed t n) s = .next (s.ends
        (((s.begun.modTap t (fun x => { x with linkUp := false })).linkEnded t).report 0x2105 (engineUid t) [BitVec.ofNat 8 n]))))
  ∧ (∀ (t : Nat) (s : State),
    (∀ (addr : Nat) (w : Option (BitVec 32)) (l : List (Nat × Option (BitVec 32))) (u : State) (d : BitVec 32) (err : Bool), s.srOf true t = (addr, w) :: l →
      u = ((s.begun.modMem t (fun m => { m with sr := l, srLate := false })).sig .mtpSrReq t 0).srDrive true t →
      exec (.serviceRegisterAck true t d err) s = .next (s.ends (if err ∨ w.isSome then u else u.srTake true t addr d.toNat)))
    ∧ (∀ (addr : Nat) (w : Option (BitVec 32)) (l : List (Nat × Option (BitVec 32))) (u : State) (d : BitVec 32) (err : Bool), s.srOf false t = (addr, w) :: l →
      u = ((s.begun.modTap t (fun x => { x with sr := l, srLate := false })).sig .ltpSrReq t 0).srDrive false t →
      exec (.serviceRegisterAck false t d err) s = .next (s.ends (if err ∨ w.isSome then u else u.srTake false t addr d.toNat)))
    ∧ (∀ (a : Nat × Option (BitVec 32)) (l : List (Nat × Option (BitVec 32))), s.srOf true t = a :: l →
      ((s.mem t).srLate = false → exec (.serviceRegisterLate true t) s = .next (s.ends ((s.begun.modMem t (fun m => { m with srLate := true })).report 0x2005 (memUid t) (le 2 a.1))))
      ∧ ((s.mem t).srLate = true → exec (.serviceRegisterLate true t) s = .next (s.ends s.begun)))
    ∧ (∀ (a : Nat × Option (BitVec 32)) (l : List (Nat × Option (BitVec 32))), s.srOf false t = a :: l →
      ((s.tap t).srLate = false → exec (.serviceRegisterLate false t) s = .next (s.ends ((s.begun.modTap t (fun x => { x with srLate := true })).report 0x2104 (engineUid t) (le 2 a.1))))
      ∧ ((s.tap t).srLate = true → exec (.serviceRegisterLate false t) s = .next (s.ends s.begun)))
    ∧ (∀ mtp : Bool, s.srOf mtp t = [] → (∀ (d : BitVec 32) (e : Bool), exec (.serviceRegisterAck mtp t d e) s = .next (s.ends s.begun))
      ∧ exec (.serviceRegisterLate mtp t) s = .next (s.ends s.begun)))
  ∧ ((∀ (s : State) (f i : Nat) (b : SweepBatch), s.droverUp f = true → (s.field f).sweeps.find? (fun b => b.target == i) = some b →
    exec (.sweepReport f i) s = .next (s.ends (({ s.begun with tbase := max s.tbase (b.lastAt + 10000) } : State).sendBatch f b)))
  ∧ (∀ (s : State) (f i : Nat), (s.field f).sweeps.find? (fun b => b.target == i) = none → exec (.sweepReport f i) s = .next (s.ends s.begun))
  ∧ (∀ s : State, s.firmware = true →
    (∀ (i : Nat) (a : SweepAcc), s.earmarks.sweep i = some a → a.closed = false → exec (.sweepWait i) s = .next (s.ends
        (({ s.begun with tbase := max s.tbase (a.firstAt + s.earmarks.sweepWait i * 1000000) } : State).closeSweep a (some 0) true)))
    ∧ (∀ (i : Nat) (a : SweepAcc), s.earmarks.sweep i = some a → a.closed = true → exec (.sweepWait i) s = .next (s.ends s.begun))
    ∧ (∀ i : Nat, s.earmarks.sweep i = none → exec (.sweepWait i) s = .next (s.ends s.begun))
    ∧ (∀ (i : Nat) (x : Exchange), s.earmarks.exchanges.find? (fun x => x.target == i) = some x → exec (.exchangeWait i) s = .next (s.ends
        (({ s.begun with tbase := max s.tbase (x.closedAt + x.wait * 1000) } : State).closeExchange x)))
    ∧ (∀ i : Nat, s.earmarks.exchanges.find? (fun x => x.target == i) = none → exec (.exchangeWait i) s = .next (s.ends s.begun))
    ∧ (∀ c : FleeceClose, s.earmarks.fleece.closes.find? (fun c => !c.sent) = some c → exec .fleeceSend s = .next (s.ends
        (({ s.begun with tbase := max s.tbase (c.closedAt + s.earmarks.fleece.swWait * 1000000) } : State).fleeceSend c.number)))
    ∧ ((∀ c ∈ s.earmarks.fleece.closes, c.sent = true) → exec .fleeceSend s = .next (s.ends s.begun))))

/-- A MEMORY_EVENT of class 0 to 3 on a stack in service, whose field's Drover acts, is acknowledged, counted in the row table
under its location (class 3 is not; class 1 or 2 makes its row due at once), and reported with code 0x2001 plus its class and
with its location and line. Entering a row keeps the table at 256 rows or fewer and its locations distinct, and every row that
is due stays in it; a row that the table already holds changes nothing. With firmware running: ROW_REPAIR_START of a stack in
service starts a repair of its due row, if it may start one; ROW_REPAIR with status 2, 3 or 4 of an existing tap ends the repair
with that status; ROW_REPAIR_LIMIT of a tap under repair ends it as failed 5 ms after it started, and of one with no repair
changes nothing. RETRAIN_DONE of a stack being retrained, with firmware running, ends the retraining; when it failed the stack
leaves service, 0x2006 is reported with the attempts, and the pack copies move. -/
def Obligations.MemoryStacksAreCountedAndRepaired : Prop :=
  (∀ (t cls : Nat) (loc line : BitVec 32) (s : State), s.memUp t = true → cls < 4 → s.droverUp (Config.memField t) = true →
    exec (.memoryEvent t cls loc line) s = .next (s.ends
      (((s.begun.sig .mtpEvAck t 1).countRow t cls loc).report (0x2001 + cls) (memUid t) (le 4 loc.toNat ++ le 4 line.toNat)))
    ∧ (cls = 3 → s.countRow t cls loc = s)
    ∧ (cls < 3 → ((s.countRow t cls loc).mem t).rows.map (·.loc) = (enterRow (s.mem t).rows loc s.tbase).map (·.loc)
        ∧ ∀ r ∈ ((s.countRow t cls loc).mem t).rows, r.loc = loc → cls ≠ 0 → r.due = true))
  ∧ (∀ (l : List Row) (loc : BitVec 32) (now : Nat), l.length ≤ 256 → (l.map (·.loc)).Nodup →
    (enterRow l loc now).length ≤ 256 ∧ ((enterRow l loc now).map (·.loc)).Nodup ∧ (∀ r ∈ l, r.due = true → r ∈ enterRow l loc now)
    ∧ ((l.any (fun r => r.loc == loc)) = true → enterRow l loc now = l))
  ∧ (∀ (t : Nat) (s : State), s.firmware = true → t < Config.memTaps →
    (s.memUp t = true → exec (.rowRepairStart t) s = .next (s.ends (s.begun.startRepair t)))
    ∧ (∀ st : Nat, 2 ≤ st → st ≤ 4 → exec (.rowRepair t st) s = .next (s.ends (s.begun.repairEnded t st)))
    ∧ (∀ r : Repair, (s.mem t).repair = some r → exec (.rowRepairLimit t) s = .next (s.ends
        (({ s.begun with tbase := max s.tbase (r.started + 5000000) } : State).repairEnded t 3)))
    ∧ ((s.mem t).repair = none → exec (.rowRepairLimit t) s = .next (s.ends s.begun)))
  ∧ (∀ (t n : Nat) (s u : State), s.firmware = true → t < Config.memTaps → (s.mem t).retrain.isSome = true →
    u = (s.begun.modMem t (fun m => { m with retrain := none })).modL1 (fun l => { l with stackWait := without l.stackWait t }) →
    exec (.retrainDone t true n) s = .next (s.ends u)
    ∧ exec (.retrainDone t false n) s = .next (s.ends
        (((u.modMem t (fun m => { m with inService := false })).report 0x2006 (memUid t) [BitVec.ofNat 8 n]).placeCopies)))

/-- ROW_REPAIR with status 2, 3 or 4 for the repair under way on a memory tap, with firmware running, ends the repair and
records event 0x2020 of the stack with the row, the kind of repair and the status. With status 2 a kind-10 entry, or kind-11 for
a hard repair, of that row waits for the fold list. With status 3 or 4 the row stays in service: the rows of the table, the fold
list and the count of repaired rows are as before. With no repair under way it has no effect. (R265) -/
def Obligations.RowRepairStatusDecides : Prop :=
  ∀ (t st : Nat) (s : State), s.firmware = true → t < Config.memTaps → 2 ≤ st → st ≤ 4 →
    ((s.mem t).repair = none → exec (.rowRepair t st) s = .next (s.ends s.begun))
    ∧ (∀ r : Repair, (s.mem t).repair = some r →
      ∃ u : State, exec (.rowRepair t st) s = .next (s.ends (u.note 0x2020 (memUid t) (le 4 r.loc.toNat ++ [if r.hard then 2 else 1, BitVec.ofNat 8 st])))
        ∧ (u.mem t).repair = none ∧ (u.mem t).inService = (s.mem t).inService
        ∧ (st = 2 → ∃ e : FoldEntry, u.folds.waiting = s.folds.waiting ++ [e] ∧ e.kind = (if r.hard then 11 else 10) ∧ e.uid = memUid t ∧ e.row = r.loc)
        ∧ (st ≠ 2 → u.folds = s.folds ∧ (u.mem t).rows = (s.mem t).rows ∧ (u.mem t).softRows = (s.mem t).softRows ∧ u.fields = s.fields))

/-- RAIL_TRIP of a compute rail that is driven or closed, and of an infrastructure rail that is closed, trips that rail.
THERMAL_OFF of a field neither in service nor returning, by a reading of 115 C or more, marks it hot; with THERMTRIP_N high it
drives THERMTRIP_N low and latches the field, and with THERMTRIP_N low already it leaves the pins. A thermal opening's return
deadline gives the field up with cause 2, 3,600 s after its latest opening, when it has not been cool for 1 s since. THERMAL_OFF
of a field in service or returning, by a sensor of it with its infrastructure rail closed and a reading of 115 C or more, drives
THERMTRIP_N low before what follows; the latched field is the one whose comparator fired first, so a later opening of another
field leaves it. PADDOCK_RETURN of a paddocked field with no attempt under way, with firmware running, no job active or
beginning, no level 1, fewer than eight returns under way and an attempt due, counts an attempt and closes the compute rail when
the field's infrastructure rail is closed, and the infrastructure rail, through the partner, when it is open. Every field of the
die has a partner that is another field of the die in the same row, and is itself that partner's partner. -/
def Obligations.HeatAndTripsPaddockAField : Prop :=
  (∀ (f : Nat) (s : State), f < Config.fields →
    (((s.field f).compEn = true ∨ (s.field f).compPg = true) → exec (.railTrip f false) s = .next (s.ends (s.begun.computeTrip f)))
    ∧ ((s.field f).infraPg = true → exec (.railTrip f true) s = .next (s.ends (s.begun.infraTrip f)))
    ∧ (∀ (i : Nat) (r : Int), i < Config.sensors → (s.field f).infraPg = true → 920 ≤ r → (s.field f).pad ≠ .inService → (s.field f).returning = none → s.pins.therm = false →
      ∃ t, exec (.thermalOff f i r) s = .next (s.ends t) ∧ t.pins = { s.pins with therm := true, thermField := f } ∧ (t.field f).thermOff = true)
    ∧ (∀ (i : Nat) (r : Int), i < Config.sensors → (s.field f).infraPg = true → 920 ≤ r → (s.field f).pad ≠ .inService → (s.field f).returning = none → s.pins.therm = true →
      ∃ t, exec (.thermalOff f i r) s = .next (s.ends t) ∧ t.pins = s.pins ∧ (t.field f).thermOff = true)
    ∧ ((s.field f).pad = .off → (s.field f).padCause = 2 → (s.field f).returning = none → (s.field f).openings ≠ [] → (s.field f).coolMet = false →
      (∀ t, (s.field f).coolSince = some t → (s.field f).openings.getLastD 0 + 3600000000000 < t + 1000000000) →
      exec (.thermalReturnDeadline f) s = .next (s.ends
        (({ s.begun with tbase := max s.tbase ((s.field f).openings.getLastD 0 + 3600000000000) } : State).loseField f 2))))
  ∧ (∀ (f i : Nat) (r : Int) (s : State), f < Config.fields → i < Config.sensors → (s.field f).infraPg = true → ((s.field f).pad = .inService ∨ (s.field f).returning.isSome = true) → 920 ≤ r →
    ∃ t, exec (.thermalOff f i r) s = .next (s.ends t) ∧ t.pins.therm = true
      ∧ t.pins.thermField = (if s.pins.therm then s.pins.thermField else f))
  ∧ (∀ (f d : Nat) (s u : State), f < Config.fields → s.firmware = true → (s.field f).pad = .off → (s.field f).returning = none → s.job.active = false →
    s.job.starting = none → s.recovery.level1 = none → (s.fields.filter (fun p => p.2.returning.isSome)).length < 8 → (s.field f).returnDue = some d →
    u = ({ s.begun with tbase := max s.tbase d } : State).modField f (fun fd => { fd with attempts := fd.attempts + 1, infraReturn := false }) →
    ((s.field f).infraPg = true → exec (.paddockReturn f) s = .next (s.ends (u.closeCompute f)))
    ∧ ((s.field f).infraPg = false → (s.field (partner f)).infraPg = true → exec (.paddockReturn f) s = .next (s.ends (u.closeInfra f))))
  ∧ (∀ f < Config.fields, partner f < Config.fields ∧ partner f ≠ f ∧ partner (partner f) = f ∧ partner f / Config.cols = f / Config.cols)

/-- HW_THROTTLE of a field that is not throttled, by a reading of 105 C or more, inserts the divider and counts a frequency
change, makes the run of an active job not timing-clean, and reports 0x3102; of one throttled already it takes the reading and
ends a release under way. HW_THROTTLE_RELEASE of a throttled field whose sensors have been below 100 C releases the throttle
when its frequency is 800 MHz and slews it there otherwise, 10 ms after they fell below. THERMAL_SENSOR_UPDATE of a powered
field's sensor takes the reading; of a sensor already out of service it does nothing more. One in service leaves service with
0x0305 when the reading lies below -40 C or above 150 C, or when it has not changed for 10 s while the median of the field's
sensors has moved by more than 2 C; one more than 8 C off the median reports 0x3104 with both; every other reading is only
taken. FREQUENCY_SLEW_STEP of a field with a slew open makes the next step, 1 us after its last and 2 us after the latest gust
at the earliest, and releases the hardware throttle when that reaches 800 MHz at its end. VOLTAGE_LOWER 10 ms after a lowering
slew commands the voltage of the field's frequency unless a raise is pending. VOUT_READ_BACK within 15 mV of the commanded
voltage ends the wait, and with a raise pending starts its slew; outside 15 mV it reports 0x3005 with both voltages. -/
def Obligations.ClocksSensorsAndVoltagesMove : Prop :=
  (∀ (f : Nat) (s : State), f < Config.fields →
    (∀ (i : Nat) (r : Int), i < Config.sensors → (s.field f).infraPg = true → 840 ≤ r → (s.field f).divider = false →
      ∃ u : State, exec (.hwThrottle f i r) s = .next (s.ends ((u.report 0x3102 (fieldUid f) ([0, BitVec.ofNat 8 i] ++ le 2 (toTwos 16 r))).exempt))
        ∧ (u.field f).divider = true ∧ (s.job.active = true → u.job.clean = false ∧ u.job.changes = s.job.changes + 1))
    ∧ (∀ (i : Nat) (r : Int), i < Config.sensors → (s.field f).infraPg = true → 840 ≤ r → (s.field f).divider = true →
      exec (.hwThrottle f i r) s = .next (s.ends ((s.begun.takeReading f i r).modField f (fun fd => { fd with throttleEnd := false, slewing := fd.slewing && !fd.throttleEnd }))))
    ∧ (∀ (t : Nat) (u : State), (s.field f).divider = true → (s.field f).throttleEnd = false → (s.field f).below100Since = some t →
      u = { s.begun with tbase := max s.tbase (t + 10000000) } →
      ((s.field f).freq = 800 → exec (.hwThrottleRelease f) s = .next (s.ends (u.throttleReleased f)))
      ∧ ((s.field f).freq ≠ 800 → exec (.hwThrottleRelease f) s = .next (s.ends (u.unclean.modField f (fun fd =>
          { fd with target := 800, slewCause := 2, slewing := true, raisePending := false, lowerDue := none, throttleEnd := true
                    counters := bump fd.counters 3 1 }))))))
  ∧ (∀ (f i : Nat) (r m : Int) (s u : State) (stuck : Bool), f < Config.fields → i < Config.sensors → (s.field f).infraPg = true → u = s.begun.takeReading f i r →
    m = medianInt ((u.field f).liveSensors.map (·.reading)) →
    stuck = (decide (((u.field f).sensor i).changedAt + 10000000000 ≤ s.tbase) && decide (16 < (m - ((u.field f).sensor i).medianThen).natAbs)) →
    (((u.field f).sensor i).inService = false → exec (.thermalSensorUpdate f i r) s = .next (s.ends u))
    ∧ (((u.field f).sensor i).inService = true → (r < -320 ∨ 1200 < r) →
      exec (.thermalSensorUpdate f i r) s = .next (s.ends ((u.modField f
        (fun fd => fd.modSensor i (fun y => { y with inService := false }))).report 0x0305 (partUid f (0x20 + i)) [1])))
    ∧ (((u.field f).sensor i).inService = true → -320 ≤ r → r ≤ 1200 →
      (stuck = true → exec (.thermalSensorUpdate f i r) s = .next (s.ends ((u.modField f
        (fun fd => fd.modSensor i (fun y => { y with inService := false }))).report 0x0305 (partUid f (0x20 + i)) [0])))
      ∧ (stuck = false → 64 < (r - m).natAbs → exec (.thermalSensorUpdate f i r) s = .next (s.ends (u.report 0x3104 (partUid f (0x20 + i)) (le 2 (toTwos 16 r) ++ le 2 (toTwos 16 m)))))
      ∧ (stuck = false → (r - m).natAbs ≤ 64 → exec (.thermalSensorUpdate f i r) s = .next (s.ends u))))
  ∧ (∀ (f : Nat) (s : State), f < Config.fields →
    (∀ u v : State, s.slewOpen f = true →
      u = { s.begun with tbase := max s.tbase (max ((s.field f).slewAt + 1000) (match (s.field f).lastRise with | some t => t + 2000 | none => 0)) } →
      v = u.slewStep f →
      exec (.frequencySlewStep f) s = .next (s.ends (if (v.field f).throttleEnd && (v.field f).freq == 800 then v.throttleReleased f else v)))
    ∧ (∀ (d : Nat) (u : State), (s.field f).lowerDue = some d →
      u = ({ s.begun with tbase := max s.tbase d } : State).modField f (fun fd => { fd with lowerDue := none }) →
      exec (.voltageLower f) s = .next (s.ends (if (s.field f).raisePending then u else u.commandVolt f (voltOf (s.field f).freq))))
    ∧ (∀ mv : Nat, (s.field f).voutWait = true → mv ≤ (s.field f).volt + 15 → (s.field f).volt ≤ mv + 15 →
      ((s.field f).raisePending = false → exec (.voutReadBack f mv) s = .next (s.ends (s.begun.modField f (fun fd => { fd with voutWait := false }))))
      ∧ ((s.field f).raisePending = true → exec (.voutReadBack f mv) s = .next (s.ends ((s.begun.modField f (fun fd => { fd with voutWait := false })).modField f
          (fun fd => { fd with raisePending := false, slewing := (s.field f).freq != (s.field f).target })))))
    ∧ (∀ mv : Nat, (s.field f).voutWait = true → ((s.field f).volt + 15 < mv ∨ mv + 15 < (s.field f).volt) →
      exec (.voutReadBack f mv) s = .next (s.ends ((s.begun.modField f (fun fd => { fd with voutWait := false })).report 0x3005 (mkUid 3 f 0 0 0 3)
        ([BitVec.ofNat 8 (f / Config.cols), 0, 0, 0] ++ le 2 (s.field f).volt ++ le 2 mv)))))

/-- GUST_RISE of a live detector of a field with its compute rail closed is traced, skips one clock edge in mode 0 and stretches
the clock in mode 1 or during a storm, counts as a rise and may begin a storm. STRETCH_END ends the stretch and, outside a
storm, lowers cclk_stretch. STORM_HOLD_END ends a storm hold, 10 ms after the last millisecond of it that held more than 100
rises, and reports 0x3003 with 1. GUST_DETECTOR_STUCK takes a live detector out and reports 0x0305. With firmware running:
LEE_RUN runs the Lee sequencer 1 ms after its last run, BREEZE_RUN the Breeze governor on the activity it is given 100 us after
its last, and CALIBRATION calibrates every field in ascending order 1 s after the last; each notes the time. With no firmware
running none of them has an effect. With firmware running, of a live segment: a TELEMETRY_ROUND that reads each rail of the
segment once, or stops at a fault, starts at its period after the last, reports the fault with 0x3004, reads its rails, updates
each field's power, and notes the segment's power and, without a fault in normal service, the measured mode; one that is not
whole changes nothing. BUS_HELD clears the bus and reports 0x3004 with kind 2; a clear that works ends the run of failed ones,
another counts, and at the third in a row the segment is lost with 0x3007. A lost segment is read no more. The calibration of a
field, whatever its telemetry and its model say, leaves a calibration factor that lay between 4/5 and 5/4 between them, zeroes
the field's sums of the second, leaves the factors of the other fields, and does nothing else but, when the factor reaches a
limit, report 0x300A with the ratio. -/
def Obligations.GustsAndGovernorsShapePower : Prop :=
  (∀ (f i : Nat) (s : State), f < Config.fields → i < Config.gusts →
    ((s.field f).compPg = true → (s.field f).deadDetectors.contains i = false →
      ∃ (u : State) (m : Nat), m = (if ((s.begun.syncField f).field f).storm then 1 else s.policy.gustMode)
        ∧ u = (s.begun.syncField f).traceDrover f 0x13 (le 8 ((s.begun.syncField f).cycleCount f) ++ le 1 i ++ le 1 m ++ zeros 6)
        ∧ exec (.gustRise f i) s = .next (s.ends (((if m = 0 then u.skipEdge f else u.stretchClock f).addRise f).stormBegin f)))
    ∧ (0 < (s.field f).stretch → (s.field f).storm = false → ∃ t, exec (.stretchEnd f) s = .next (s.ends t) ∧ (t.field f).stretch = 0
        ∧ t.out = [.sig .cclkStretch f 0])
    ∧ (0 < (s.field f).stretch → (s.field f).storm = true → ∃ t, exec (.stretchEnd f) s = .next (s.ends t) ∧ (t.field f).stretch = 0 ∧ t.out = [])
    ∧ ((s.field f).storm = true →
      ∃ u : State, (u.field f).storm = false ∧ u.tbase = max s.tbase ((s.field f).calmFrom + 10000000)
        ∧ exec (.stormHoldEnd f) s = .next (s.ends ((u.report 0x3003 (fieldUid f) ([1, 0, 0, 0] ++ le 4 (s.field f).worstMs
          ++ le 4 ((u.tbase - (s.field f).stormStart) / 1000000))).exempt)))
    ∧ ((s.field f).deadDetectors.contains i = false → exec (.gustDetectorStuck f i) s = .next (s.ends
        ((s.begun.modField f (fun fd => { fd with deadDetectors := insertNew fd.deadDetectors i })).report 0x0305 (partUid f (0x40 + i)) [0]))))
  ∧ (∀ s : State,
    (s.firmware = true →
      (∃ u : State, u = { s.begun with tbase := max s.tbase (s.power.leeRuns + 1000000) }
        ∧ exec .leeRun s = .next (s.ends (({ u with power := { s.power with leeRuns := u.tbase } } : State).leeRun)))
      ∧ (∀ l : List Activity, ∃ u : State, u = { s.begun with tbase := max s.tbase (s.power.breezeRuns + 100000) }
        ∧ exec (.breezeRun l) s = .next (s.ends (({ u with power := { s.power with breezeRuns := u.tbase } } : State).breezeRun l)))
      ∧ (∃ u : State, u = { s.begun with tbase := max s.tbase (s.power.calibrated + 1000000000) }
        ∧ exec .calibration s = .next (s.ends (({ u with power := { s.power with calibrated := u.tbase } } : State).forEach (List.range Config.fields) State.calibrate))))
    ∧ (s.firmware = false → exec .leeRun s = .next (s.ends s.begun) ∧ (∀ l, exec (.breezeRun l) s = .next (s.ends s.begun))
      ∧ exec .calibration s = .next (s.ends s.begun)))
  ∧ (∀ (g : Nat) (s : State), s.firmware = true → g < Config.rows →
    (s.power.segLost.contains g = false →
      (∀ (rails : List RailReading) (fault : Option (Nat × Nat × Nat)) (v w x y : State), wholeRound g rails fault.isSome = true →
        v = { s.begun with tbase := match assoc s.power.rounds g with | some t => max s.tbase (t + 1000000 * roundMs g) | none => s.tbase } →
        w = { v with power := { v.power with rounds := assocSet v.power.rounds g v.tbase } } →
        x = (match fault with | some (a, c, k) => w.report 0x3004 dieUid [BitVec.ofNat 8 g, BitVec.ofNat 8 a, BitVec.ofNat 8 c, BitVec.ofNat 8 k] | none => w) →
        y = (x.forEach rails (fun t r => t.railRead g r)).forEach ((List.range Config.fields).filter (fun f => segmentOf f == g)) (fun t f => t.fieldRead rails f) →
        exec (.telemetryRound g rails fault) s = .next (s.ends { y with power := { y.power with
          measuredMode := y.power.measuredMode || (y.normalService && fault.isNone)
          readings := assocSet y.power.readings (0x200 + g) (((rails.filter (fun r => !(y.power.badRows.any (fun p => p.1 == r.field)))).map
            (fun r => r.milliVolt * r.milliAmp / 1000)).foldl (· + ·) 0) } }))
      ∧ (∀ (rails : List RailReading) (fault : Option (Nat × Nat × Nat)), wholeRound g rails fault.isSome = false →
        exec (.telemetryRound g rails fault) s = .next (s.ends s.begun))
      ∧ (∃ u : State, u = (s.begun.send (.busClear g)).report 0x3004 dieUid [BitVec.ofNat 8 g, 0, 0, 2]
        ∧ exec (.busHeld g true) s = .next (s.ends { u with power := { u.power with segHeld := assocSet u.power.segHeld g 0 } })
        ∧ ((assoc s.power.segHeld g).getD 0 < 2 → exec (.busHeld g false) s =
          .next (s.ends { u with power := { u.power with segHeld := assocSet u.power.segHeld g ((assoc s.power.segHeld g).getD 0 + 1) } }))
        ∧ (2 ≤ (assoc s.power.segHeld g).getD 0 → exec (.busHeld g false) s =
          .next (s.ends (({ u with power := { u.power with segHeld := assocSet u.power.segHeld g ((assoc s.power.segHeld g).getD 0 + 1)
                                                           segLost := insertNew u.power.segLost g } } : State).report 0x3007 dieUid [BitVec.ofNat 8 g])))))
    ∧ (s.power.segLost.contains g = true → (∀ l o, exec (.telemetryRound g l o) s = .next (s.ends s.begun))
      ∧ ∀ b, exec (.busHeld g b) s = .next (s.ends s.begun)))
  ∧ (∀ (f : Nat) (s : State), f < Config.fields → 4 / 5 ≤ (s.field f).calib → (s.field f).calib ≤ 5 / 4 →
    ∃ (c : Rat) (u : State), 4 / 5 ≤ c ∧ c ≤ 5 / 4 ∧ u = s.modField f (fun fd => { fd with calib := c, measSum := 0, modSum := 0 })
      ∧ (∀ g : Nat, g ≠ f → u.field g = s.field g) ∧ (u.field f).calib = c
      ∧ (s.calibrate f = u ∨ (s.calibrate f = u.report 0x300A (fieldUid f) (zeros 4 ++ le 4 (encode32 ((s.field f).measSum / (s.field f).modSum)).toNat)
        ∧ (c = 4 / 5 ∨ c = 5 / 4) ∧ (s.field f).calib ≠ c)))

/-- PWR_GOOD_RISE of an unpowered block leaves TBASE 0, one power cycle more, the fuses, owners, flash slots and the fold list's
two areas as they were, with its entries read anew from them, the host interface, the first-error latch, job, pair, recovery,
earmarks, flocks, cores and Crooks at reset, and the start at its self-tests, or held while COLD_RESET_N is low. PWR_GOOD_FALL
takes power away, closes the opened instruments and releases THERMTRIP_N. COLD_RESET of a powered block keeps TBASE, the
selected reference clock, fuses, owners, flash slots and the fold list's areas, whose entries it reads anew, puts the same at
reset and holds the start; COLD_RESET_RELEASE begins its self-tests and takes a pin-driving test instruction off. A rise, or a
release, that is none has no effect. -/
def Obligations.PowerAndColdResetBeginAStart : Prop :=
  ∀ s : State,
    (∀ o : Option Nat, s.pwrGood = false → ∃ t, exec (.pwrGoodRise o) s = .next (s.ends t) ∧ t.pwrGood = true ∧ t.tbase = 0
      ∧ t.start.phase = (if s.start.coldLow then .held else .selfTest) ∧ t.tally.powerCycles = sat (2 ^ 24 - 1) (s.tally.powerCycles + 1)
      ∧ t.life.fuses = s.life.fuses ∧ t.life.owners = s.life.owners ∧ t.life.otpFault = o ∧ t.fw.slotA = s.fw.slotA ∧ t.fw.slotB = s.fw.slotB
      ∧ t.fw.committed = s.fw.committed ∧ t.screen.slot0 = s.screen.slot0 ∧ t.screen.slot1 = s.screen.slot1 ∧ t.folds = s.folds.found
      ∧ t.folds.areaA = s.folds.areaA ∧ t.folds.areaB = s.folds.areaB
      ∧ t.hif = {} ∧ t.ferr = {} ∧ t.job = {} ∧ t.pair = {} ∧ t.recovery = {} ∧ t.earmarks = {} ∧ t.flocks = [] ∧ t.cores = [] ∧ t.crooks = [])
    ∧ (∀ o : Option Nat, s.pwrGood = true → exec (.pwrGoodRise o) s = .next (s.ends s.outside))
    ∧ exec .pwrGoodFall s = .next (s.ends { (if s.pins.therm then s.outside.sig .thermTripN 0 1 else s.outside) with
        pwrGood := false, life := { s.life with roOpen := false, wrOpen := false }, pins := { s.pins with therm := false, thermField := 0 } })
    ∧ (s.pwrGood = true → ∃ t, exec .coldReset s = .next (s.ends t) ∧ t.pwrGood = true ∧ t.tbase = s.tbase ∧ t.refclk.sel = s.refclk.sel ∧ t.start.phase = .held ∧ t.start.coldLow = true
      ∧ t.tally.powerCycles = s.tally.powerCycles ∧ t.life.fuses = s.life.fuses ∧ t.life.owners = s.life.owners ∧ t.fw.slotA = s.fw.slotA
      ∧ t.fw.slotB = s.fw.slotB ∧ t.screen.slot0 = s.screen.slot0 ∧ t.screen.slot1 = s.screen.slot1 ∧ t.folds = s.folds.found
      ∧ t.folds.areaA = s.folds.areaA ∧ t.folds.areaB = s.folds.areaB
      ∧ t.hif = {} ∧ t.ferr = {} ∧ t.job = {} ∧ t.pair = {} ∧ t.recovery = {} ∧ t.earmarks = {} ∧ t.flocks = [] ∧ t.cores = [] ∧ t.crooks = [])
    ∧ (s.pwrGood = false → exec .coldReset s = .next (s.ends { s.outside with start := { s.start with coldLow := true } }))
    ∧ (s.start.coldLow = true → exec .coldResetRelease s = .next (s.ends { s.outside with
        jtag := if s.jtag.drivesPins then .bypass else s.jtag
        start := { s.start with coldLow := false, phase := if s.start.phase = .held then .selfTest else s.start.phase, began := s.tbase } }))
    ∧ (s.start.coldLow = false → exec .coldResetRelease s = .next (s.ends s.outside))

/-- In the start's self-test phase, with no scan open and not both Shepherds lost: the first SHEPHERD_SELFTEST_DONE is noted;
the second makes SHC-A active when its self-test passed, else SHC-B, and loses both when none passed. With no OTP fault and a
flash of 64 MiB or more firmware is then awaited; else none will run. While both are lost, the first reset Shepherd that passes
is active, and finds the flash if the start has not; one that fails leaves service. FIRMWARE_LOADED runs the committed slot's
image, or the other slot's when only that qualifies, under the stored settings, as a first run or as one after the loss of both;
with no qualifying slot no firmware runs and FATAL_N is asserted. -/
def Obligations.ShepherdsAndFirmwareStart : Prop :=
  (∀ (b pass : Bool) (flash : Option FlashId) (s : State), s.life.scanOpen = false → s.pair.bothLost = false → s.start.phase = .selfTest → (s.pair.shc b).status = .off →
    ((s.pair.shc (!b)).status = .off → exec (.shepherdSelftestDone b pass flash) s = .next (s.ends
      (s.outside.modShc b (fun x => { x with status := if pass then .catchingUp else .outOfService }))))
    ∧ (((s.pair.shc (!b)).status = .catchingUp ∨ ((s.pair.shc (!b)).status = .outOfService ∧ pass = true)) →
      ∃ t, exec (.shepherdSelftestDone b pass flash) s = .next (s.ends t)
        ∧ t.start.phase = (if s.life.otpFault = none ∧ (match flash with | some i => decide (64 ≤ i.mib) | none => false) = true then .firmware else .noFirmware)
        ∧ t.pair.active = some (if (if b then s.pair.a.status = .catchingUp else pass = true) then .a else .b))
    ∧ ((s.pair.shc (!b)).status = .outOfService → pass = false →
      ∃ t, exec (.shepherdSelftestDone b pass flash) s = .next (s.ends t) ∧ t.pair.bothLost = true ∧ t.pair.active = none))
  ∧ (∀ (b : Bool) (flash : Option FlashId) (s : State), s.life.scanOpen = false → s.pair.bothLost = true → (s.pair.shc b).status = .resetting →
    (s.pair.active = none → exec (.shepherdSelftestDone b true flash) s = .next (s.ends
      (if s.start.phase = .selfTest then (s.outside.makeActive b).findFlash flash else s.outside.makeActive b)))
    ∧ (s.pair.active ≠ some (shcOf b) → exec (.shepherdSelftestDone b false flash) s = .next (s.ends (s.outside.modShc b (fun x => { x with status := .outOfService })))))
  ∧ (∀ (x y : Option FwImage) (s : State) (n : Nat), s.start.fwRun = false → s.activeShc.isSome = true → (s.start.phase = .firmware ∨ s.pair.bothLost = true) → s.fw.committed ≤ 1 →
    ((n = s.fw.committed ∨ (n = 1 - s.fw.committed ∧ badSlot (if s.fw.committed = 0 then x else y) s.fw.floor ≠ none)) → badSlot (if n = 0 then x else y) s.fw.floor = none →
      ∃ u : State, exec (.firmwareLoaded x y) s = .next (s.ends (if s.pair.bothLost ∧ s.start.phase ≠ .firmware then u.rerun else u.firstRun))
        ∧ u.start.fwRun = true ∧ u.fw.running = (if n = 0 then x else y) ∧ u.fw.runningSlot = n ∧ u.fw.committed = n ∧ u.pair.bothLost = false
        ∧ u.policy = s.start.settings.getD s.policy)
    ∧ (badSlot x s.fw.floor ≠ none → badSlot y s.fw.floor ≠ none →
      ∃ u : State, exec (.firmwareLoaded x y) s = .next (s.ends ((u.assertPin true).modStart (fun z => { z with phase := .noFirmware })))
        ∧ u.start.fwRun = false))
  ∧ (∀ (x y : Option FwImage) (s : State), s.start.fwRun = true → exec (.firmwareLoaded x y) s = .next (s.ends s.outside))

/-- PSP_POWER_GOOD of a field whose enabled compute rail the start waits for queues its flock resets; of an infrastructure rail
it starts the field's routers and its Drover, unless that is out of service. COMP_PG_TIMEOUT of a rail that the start waits for
fails the field. RESET_STATUS failed in the start writes the reset once more, and the second failure fails the field; done, it
goes on. In a level 1 or a return attempt the same signals move that on. START_READY after the shipment of the maps and the
Tally scan reports the failed parts, unless the stop before was graceful, when the cores screened then count so, records 0x6006,
makes Beyja ready and begins the content pager, and a START that waited takes effect; without firmware, before the shipment or
the scan, and once ready, it has no effect. -/
def Obligations.ComputeIsReleasedAndReadinessReached : Prop :=
  ∀ (f : Nat) (s : State), f < Config.fields →
    ((s.field f).compEn = true → (s.field f).compPg = false → (s.field f).returning = none → s.recovery.level1 = none → s.start.pgWait.contains f = true →
      exec (.pspPowerGood f false) s = .next (s.ends
        ((((s.begun.railUp f).modStart (fun x => { x with pgWait := without x.pgWait f })).queueResets f).startMove))
      ∧ exec (.compPgTimeout f false) s = .next (s.ends (({ s.begun with tbase := max s.tbase ((s.field f).enAt + 1000000) } : State).startFailed f)))
    ∧ ((s.field f).compEn = true → (s.field f).compPg = false → (s.field f).returning = some 1 → exec (.pspPowerGood f false) s = .next (s.ends
        (((s.begun.railUp f).modField f (fun fd => { fd with returning := some 2 })).queueResets f)))
    ∧ ((s.field f).compEn = true → (s.field f).compPg = false → (s.field f).returning.isSome = true → exec (.compPgTimeout f false) s = .next (s.ends
        (({ s.begun with tbase := max s.tbase ((s.field f).enAt + 1000000) } : State).returnFailed f)))
    ∧ (∀ l : Level1, (s.field f).compEn = true → (s.field f).compPg = false → (s.field f).returning = none → s.recovery.level1 = some l → l.pgWait.contains f = true →
      exec (.compPgTimeout f false) s = .next (s.ends (({ s.begun with tbase := max s.tbase ((s.field f).enAt + 1000000) } : State).loseField f 3)))
    ∧ ((s.field f).infraEn = true → (s.field f).infraPg = false → (s.field f).returning.isSome = true → exec (.compPgTimeout f true) s = .next (s.ends
        (({ s.begun with tbase := max s.tbase ((s.field f).enAt + 1000000) } : State).returnFailed f)))
    ∧ ((s.field f).infraEn = true → (s.field f).infraPg = false → (s.field f).returning = some 0 →
      ∃ t : State, exec (.pspPowerGood f true) s = .next (s.ends (t.closeCompute f)) ∧ (t.field f).infraPg = true ∧ (t.field f).routers = true)
    ∧ ((s.field f).infraEn = true → (s.field f).infraPg = false → (s.field f).returning ≠ some 0 →
      ∃ t, exec (.pspPowerGood f true) s = .next (s.ends t) ∧ (t.field f).infraPg = true ∧ (t.field f).routers = true
        ∧ (t.field f).drover = !(s.field f).droverOut)
    ∧ ((s.field f).compPg = true → exec (.pspPowerGood f false) s = .next (s.ends s.begun) ∧ exec (.compPgTimeout f false) s = .next (s.ends s.begun))
    ∧ (∀ k : Nat, k < Config.flocks → s.firmware = true → s.start.waiting.contains (flockKey f k) = true →
      exec (.resetStatus f k true) s = .next (s.ends (s.begun.startReset f k true))
      ∧ ((s.field f).returning = none → s.start.retried.contains (flockKey f k) = false → exec (.resetStatus f k false) s = .next (s.ends
          ((s.begun.modStart (fun x => { x with retried := x.retried ++ [flockKey f k] })).writeResets [flockKey f k])))
      ∧ ((s.field f).returning = none → s.start.retried.contains (flockKey f k) = true → exec (.resetStatus f k false) s =
          .next (s.ends (s.begun.startFailed f)))
      ∧ ((s.field f).returning.isSome = true → exec (.resetStatus f k false) s = .next (s.ends (s.begun.returnFailed f))))
    ∧ (∀ (k : Nat) (ok : Bool), k < Config.flocks → s.firmware = true → s.start.waiting.contains (flockKey f k) = false →
      exec (.resetStatus f k ok) s = .next (s.ends (s.begun.resetDone f k ok)))
    ∧ (∀ (l : List (Uid × Nat × Nat)) (p q r : State) (parts : Nat), s.firmware = true → s.start.phase = .release → s.start.shipped = true → s.tally.scanned = true →
      s.start.ready = false → p = s.begun.forEach (if s.start.graceful then [] else l) (fun t x => t.partSelfTestFailed x.1 x.2.1 x.2.2) →
      q = p.forEach p.carriedCores (fun t x => t.modCore x.1 x.2.1 x.2.2 (fun y => { y with screened := true, lastPassEnd := 0 })) →
      parts = (if s.start.graceful then [] else l).length + b2n (q.pair.a.status == .outOfService) + b2n (q.pair.b.status == .outOfService) →
      r = (q.note 0x6006 dieUid ([BitVec.ofNat 8 (b2n (!q.start.graceful)), BitVec.ofNat 8 (b2n (q.activeShc == some true))]
        ++ le 2 (sat 65535 p.carriedCores.length) ++ le 4 (q.tbase / 1000000) ++ le 4 parts)) →
      ∃ t : State, t = r.modStart (fun x => { x with ready := true, readyAt := r.tbase, phase := .ready, outParts := parts })
        ∧ exec (.startReady l) s = .next (s.ends (if t.startPager.hif.startHeld then t.startPager.bringUp else t.startPager)))
    ∧ ((s.firmware && s.start.phase == .release && s.start.shipped && s.tally.scanned && !s.start.ready) = false → ∀ l, exec (.startReady l) s = .next (s.ends s.begun))

/-- The checking coverage of a flock is C_X = 1 - (1 - c)^k of its check fraction c and the multiplicity k; for replay and twin
fractions between 0 and 1 it lies between 0 and 1, is the check fraction itself at a multiplicity of 1, and is nowhere lower
than at 1. (R226) -/
def Obligations.CheckingCoverageGrowsWithMultiplicity : Prop :=
  ∀ (g : GovFlock) (k : Nat), g.cX k = 1 - (1 - g.check) ^ k ∧ g.cX 1 = g.check
    ∧ (0 ≤ g.cR → g.cR ≤ 1 → 0 ≤ g.cT → g.cT ≤ 1 → 0 ≤ g.cX k ∧ g.cX k ≤ 1 ∧ (1 ≤ k → g.cX 1 ≤ g.cX k))

/-- With power and firmware EPOCH_END reaches the next 10 s boundary; the governor estimates coverage and the bound, takes its
counter snapshots, moves the scale and the thresholds, updates the met state, keeps the report of the epoch with one entry for
each flock that serves logical slots, traces it, and the link lanes' error counts are asked for (the time of that is the model's
choice, log 55). The number of completed epochs is one higher and the end time is that instant. While no firmware runs only the
snapshots are taken. Without power, or in a switch-over gap, it has no effect. After the estimate of an epoch: with no exposure
and no prior both the rate and the bound are infinite; otherwise the rate is the 95 percent quantile of chi-square of twice the
detections and prior plus two degrees of freedom over twice the exposure and pseudo-exposure, and the bound is that rate times
one minus the coverage. An infinite bound is never within a target. A bisection that starts from a low end and a high end, of
which the high end reaches the aim, gives a scale between the two that reaches the aim; a selection probability of one or more
gives the highest threshold, and of zero or less the threshold zero. -/
def Obligations.EpochsEstimateTheBound : Prop :=
  (∀ (s u v w : State), ((s.pwrGood && (s.firmware || !s.emulated)) = false → exec .epochEnd s = .next (s.ends s.begun))
    ∧ (u = ({ s.begun with tbase := max s.tbase (s.gov.boundary + 10000000000) } : State).modGov (fun g => { g with boundary := s.gov.boundary + 10000000000 }) →
      (s.pwrGood = true → s.firmware = false → s.emulated = false → exec .epochEnd s = .next (s.ends (u.snapRest [])))
      ∧ (s.pwrGood = true → s.firmware = true → v = (((u.estimate u.govKeys).snapRest u.govKeys).moveScale u.govKeys).updateMet →
        w = v.modGov (fun g => { g with last := v.boundHead, report := u.govKeys.map (fun q => v.flockEntry q.1 q.2) }) →
        exec .epochEnd s = .next (s.ends ((w.traceShc 3 w.gov.last).forEach (w.traceShc 3 w.gov.last).upTaps State.readLanes)))
      ∧ (u.estimate u.govKeys).gov.epochs = s.gov.epochs + 1 ∧ (u.estimate u.govKeys).gov.endAt = s.gov.boundary + 10000000000))
  ∧ ((∀ (s : State) (keys : List (Nat × Nat)),
    ((s.estimate keys).gov.e0 + (s.estimate keys).gov.ct = 0 → (s.estimate keys).gov.lambda = none ∧ (s.estimate keys).gov.u = none)
    ∧ ((s.estimate keys).gov.e0 + (s.estimate keys).gov.ct ≠ 0 →
      (s.estimate keys).gov.lambda = some (q95 (2 * ((s.estimate keys).gov.det + s.policy.prior) + 2)
        / (2 * ((s.estimate keys).gov.e0 + (s.estimate keys).gov.ct)))
      ∧ (s.estimate keys).gov.u = (s.estimate keys).gov.lambda.map (fun r => r * (1 - (s.estimate keys).gov.ce))))
  ∧ ∀ lim : Rat, within none lim = false)
  ∧ ((∀ (good : Rat → Bool) (n : Nat) (lo hi : Rat), lo ≤ hi → good hi = true →
    lo ≤ bisect good n lo hi ∧ bisect good n lo hi ≤ hi ∧ good (bisect good n lo hi) = true)
  ∧ (∀ p : Rat, 1 ≤ p → threshold p = 4294967295) ∧ (∀ p : Rat, p ≤ 0 → threshold p = 0)
  ∧ (∀ p q : Rat, p ≤ q → threshold p ≤ threshold q))

/-- A reference is good to a voter that sees an edge in 1 us and a frequency within 1,000 ppm. REFCLK_CHECK of a powered block:
when fewer than two voters in service find the selected reference failed, no hold-over stands; when two find it failed and the
other good, they switch the die to the other; else, when two find both failed, hold-over begins with 0x0103 unless it stands
already. PLL_LOCK of a field that re-locks lets its clock run again, and the last one of a failover begins to slew out the error
gathered. MESH_MESSAGE that the mesh can carry, with an uncorrectable flit, reports 0x0202 of the router that sees it and sends
the message again on the other plane; with a corrected one it reports 0x0201 and goes on; one whose way leads over a link that
is down, with no detour tables round it yet, waits to be sent again; the first copy of a dual message is noted and acts, and the
second is discarded. A message the mesh cannot carry has no effect. MESH_LINK_DOWN of a link not down marks it down, makes
detour tables due and reports 0x0203, and 0x0204 once when its plane has failed as a whole; of one down already it has no
effect. DETOUR_TABLES sends the returned messages again, on the other plane when theirs is lost, and the Drovers measure their
delay again. -/
def Obligations.ClocksAndMeshFollowTheirRules : Prop :=
  ((∀ v : RefView, refGood v = true ↔ v.edges ≠ 0 ∧ v.ppm.natAbs ≤ 1000)
  ∧ ∀ (A B : List RefView) (s u : State),
    (s.pwrGood = false → exec (.refclkCheck A B) s = .next (s.ends s.outside))
    ∧ (s.pwrGood = true →
      u = s.outside.modRef (fun r => { r with failed := (List.range 2).filter (fun i => decide (2 ≤ (s.votersFind i false A B).length)) }) →
      ((s.votersFind s.refclk.sel false A B).length < 2 → exec (.refclkCheck A B) s = .next (s.ends (u.modRef (fun r => { r with holdSince := none }))))
      ∧ (∀ l m : List Nat, l = (s.votersFind s.refclk.sel false A B).filter (fun v => !((s.votersFind (1 - s.refclk.sel) false A B).contains v)) →
        m = (s.votersFind s.refclk.sel false A B).filter (fun v => (s.votersFind (1 - s.refclk.sel) false A B).contains v) →
        (2 ≤ l.length → exec (.refclkCheck A B) s = .next (s.ends (u.switchRef (1 - s.refclk.sel) l)))
        ∧ (l.length < 2 → 2 ≤ m.length → s.refclk.holdSince = none → exec (.refclkCheck A B) s = .next (s.ends
          ((u.modRef (fun r => { r with holdSince := some s.tbase })).report 0x0103 dieUid (le 4 0))))
        ∧ (l.length < 2 → 2 ≤ m.length → s.refclk.holdSince.isSome = true → exec (.refclkCheck A B) s = .next (s.ends u))
        ∧ (l.length < 2 → m.length < 2 → 2 ≤ (s.votersFind s.refclk.sel false A B).length → exec (.refclkCheck A B) s = .next (s.ends u))))
    ∧ (∀ (f : Nat) (v : State), f < Config.fields →
      ((s.field f).relock = true → v = (s.begun.syncField f).modField f (fun fd => { fd with relock := false }) →
        exec (.pllLock f) s = .next (s.ends (if s.refclk.relocking && (List.range Config.fields).all (fun g => !(v.field g).relock) then v.endFailover else v))
        ∧ (v.field f).relock = false)
      ∧ ((s.field f).relock = false → exec (.pllLock f) s = .next (s.ends s.begun))))
  ∧ (∀ s : State,
    (∀ m : MeshMsg, meshOk m = false → exec (.meshMessage m) s = .next (s.ends s.begun))
    ∧ (∀ (m : MeshMsg) (f l : Nat), meshOk m = true → m.flits = .uncorrectable f l → exec (.meshMessage m) s = .next (s.ends
      ((s.begun.report 0x0202 (partUid f (1 + m.plane)) ([BitVec.ofNat 8 l, 0, 0, 0] ++ le 4 m.src.toNat)).drive (.mesh (1 - m.plane) m.head m.rest))))
    ∧ (∀ m : MeshMsg, meshOk m = true → m.flits = .clean → s.undeliverable m = true → exec (.meshMessage m) s = .next (s.ends
      { s.begun with mesh := { s.mesh with resend := s.mesh.resend ++ [m] } }))
    ∧ (∀ (m : MeshMsg) (f l : Nat) (u : State), meshOk m = true → m.flits = .corrected f l → u = s.begun.report 0x0201 (partUid f (1 + m.plane)) [BitVec.ofNat 8 l] →
      exec (.meshMessage m) s = .next (s.ends (if u.undeliverable m then u.modMesh (fun q => { q with resend := q.resend ++ [m] }) else u.takeMessage m)))
    ∧ (∀ m : MeshMsg, meshOk m = true → m.flits = .clean → s.undeliverable m = false → m.body = .other →
      (m.dual = false → exec (.meshMessage m) s = .next (s.ends s.begun))
      ∧ (m.dual = true → s.mesh.seen.contains (m.src, m.sn) = false → exec (.meshMessage m) s = .next (s.ends
        { s.begun with mesh := { s.mesh with seen := s.mesh.seen ++ [(m.src, m.sn)] } }))
      ∧ (m.dual = true → s.mesh.seen.contains (m.src, m.sn) = true → exec (.meshMessage m) s = .next (s.ends
        { s.begun with mesh := { s.mesh with seen := s.mesh.seen.erase (m.src, m.sn) } })))
    ∧ (∀ (m : MeshMsg) (f : Nat), meshOk m = true → m.flits = .clean → s.undeliverable m = false → m.body = .counts f → s.firmware = true →
      (m.dual = false → exec (.meshMessage m) s = .next (s.ends (s.begun.sendCounts f)))
      ∧ (m.dual = true → s.mesh.seen.contains (m.src, m.sn) = false → exec (.meshMessage m) s = .next (s.ends
        (({ s.begun with mesh := { s.mesh with seen := s.mesh.seen ++ [(m.src, m.sn)] } } : State).sendCounts f)))
      ∧ (m.dual = true → s.mesh.seen.contains (m.src, m.sn) = true → exec (.meshMessage m) s = .next (s.ends
        { s.begun with mesh := { s.mesh with seen := s.mesh.seen.erase (m.src, m.sn) } })))
    ∧ (∀ p f l : Nat, p < 2 → f < Config.fields → l < 4 →
      (s.mesh.down.contains (p, f, l) = true → exec (.meshLinkDown p f l) s = .next (s.ends s.begun))
      ∧ (∀ u : State, s.mesh.down.contains (p, f, l) = false →
        u = ({ s.begun with mesh := { s.mesh with down := s.mesh.down ++ [(p, f, l)], detourDue := true } } : State).report 0x0203 (partUid f (1 + p)) [BitVec.ofNat 8 l] →
        ((u.planeGone p = false ∨ u.mesh.planeLost.contains p = true) → exec (.meshLinkDown p f l) s = .next (s.ends u))
        ∧ (u.planeGone p = true → u.mesh.planeLost.contains p = false → exec (.meshLinkDown p f l) s = .next (s.ends
          ((u.modMesh (fun m => { m with planeLost := m.planeLost ++ [p] })).report 0x0204 dieUid [BitVec.ofNat 8 p])))))
    ∧ (s.firmware = true → s.mesh.detourDue = true → exec .detourTables s = .next (s.ends
      (({ s.begun with mesh := { s.mesh with detourDue := false, detoured := s.mesh.down, resend := [] },
                       out := s.mesh.resend.map (fun m => .mesh (if s.mesh.planeLost.contains m.plane then 1 - m.plane else m.plane) m.head m.rest) } : State).measureDelay
        ((List.range Config.fields).filter (fun f => (s.field f).tbaseSet)))))
    ∧ (s.mesh.detourDue = false → exec .detourTables s = .next (s.ends s.begun)))

/-- While the target answers: ENTDAA without a dynamic address gives the identifier and registers and takes the address; SETDASA
of its static address takes it; SETNEWDA with one changes it; RSTDAA gives it up; where an address stands already, is missing,
or is not the target's, they are not acknowledged. A common command code that the target does not support is not acknowledged
when direct and ignored when broadcast. While no Shepherd answers, every request and message of the target is not acknowledged.
While the target answers with a dynamic address: GETPID, GETBCR and GETDCR give the identifier and registers, GETSTATUS two
bytes whose value is free, GETMWL and GETMRL the maximum lengths, most significant byte first. SETMWL and SETMRL set them, to 69
bytes at least. ENEC with bit 0 enables the in-band interrupt and DISEC with it disables it; without bit 0 neither changes it.
For an addressed target served by firmware: MCTP_CONTROL sets the endpoint identifier when it asks so and is answered;
MCTP_OTHER_MESSAGE of a type that is not supported is answered with an error unless it is to be discarded; each PLDM request is
answered with its DMTF body, a numeric sensor with its reading, the state sensor with 2 while the host is lost, and an unknown
sensor with its error; each vendor-defined request with its code and data. With no firmware none is answered. -/
def Obligations.ManagementTargetAnswers : Prop :=
  (∀ s : State,
    (∀ c : Nat, exec (.i3cCcc c true) s = .next (s.ends { s.begun with out := [.i3c none] }) ∧ exec (.i3cCcc c false) s = .next (s.ends s.begun))
    ∧ (∀ a : Nat, s.i3cUp = true → s.i3c.dyn = none →
      exec (.entdaa a) s = .next (s.ends (({ s.begun with i3c := { s.i3c with dyn := some (a % 128) } } : State).send
        (.i3c (some (be 6 Config.i3cPid.toNat ++ [Config.i3cBcr, Config.i3cDcr])))))
      ∧ exec (.setdasa Config.i3cStatic.toNat a) s = .next (s.ends (({ s.begun with i3c := { s.i3c with dyn := some (a % 128) } } : State).send (.i3c (some []))))
      ∧ exec (.setnewda a) s = .next (s.ends { s.begun with out := [.i3c none] }))
    ∧ (∀ a : Nat, s.i3cUp = true → s.i3c.dyn.isSome = true →
      exec (.setnewda a) s = .next (s.ends (({ s.begun with i3c := { s.i3c with dyn := some (a % 128) } } : State).send (.i3c (some []))))
      ∧ exec (.entdaa a) s = .next (s.ends { s.begun with out := [.i3c none] }) ∧ ∀ b, exec (.setdasa b a) s = .next (s.ends { s.begun with out := [.i3c none] }))
    ∧ (∀ a b : Nat, b ≠ Config.i3cStatic.toNat → exec (.setdasa b a) s = .next (s.ends { s.begun with out := [.i3c none] }))
    ∧ (s.i3cUp = true → exec .rstdaa s = .next (s.ends (({ s.begun with i3c := { s.i3c with dyn := none } } : State).send (.i3c (some [])))))
    ∧ (∀ c : Instr, s.i3cUp = false → ((∃ n : Nat, c ∈ [Instr.entdaa n, .setnewda n, .setmwl n, .setmrl n, .getPldmVersion n, .getPldmCommands n, .getPdr n, .getSensorReading n, .getStateSensorReadings n])
        ∨ (∃ n m : Nat, c ∈ [Instr.setdasa n m, .readTally n m]) ∨ (∃ e : BitVec 8, c ∈ [Instr.enec e, .disec e]) ∨ (∃ m, c = .mctpControl m) ∨ (∃ n b, c = .mctpOtherMessage n b)
        ∨ c ∈ [Instr.rstdaa, .getpid, .getbcr, .getdcr, .getstatus, .getmwl, .getmrl, .getTid, .getPins, .getIdent, .getHealth, .getBound,
          .getPldmTypes, .getPdrRepositoryInfo]) →
      exec c s = .next (s.ends { s.begun with out := [.i3c none] })))
  ∧ (∀ s : State, s.i3cUp = true →
    (s.i3c.dyn.isSome = true →
      exec .getpid s = .next (s.ends (s.begun.send (.i3c (some (be 6 Config.i3cPid.toNat)))))
      ∧ exec .getbcr s = .next (s.ends (s.begun.send (.i3c (some [Config.i3cBcr]))))
      ∧ exec .getdcr s = .next (s.ends (s.begun.send (.i3c (some [Config.i3cDcr]))))
      ∧ exec .getstatus s = .next (s.ends (({ s.begun with free := s.free + 1 } : State).send (.i3c (some (le 2 (Config.freeValue s.free).toNat)))))
      ∧ exec .getmwl s = .next (s.ends (s.begun.send (.i3c (some (be 2 s.i3c.mwl)))))
      ∧ exec .getmrl s = .next (s.ends (s.begun.send (.i3c (some (be 2 s.i3c.mrl ++ [1]))))))
    ∧ (∀ n : Nat, n ≤ 65535 →
      exec (.setmwl n) s = .next (s.ends (({ s.begun with i3c := { s.i3c with mwl := max 69 n } } : State).send (.i3c (some []))))
      ∧ exec (.setmrl n) s = .next (s.ends (({ s.begun with i3c := { s.i3c with mrl := max 69 n } } : State).send (.i3c (some [])))))
    ∧ (∀ e : BitVec 8,
      exec (.enec e) s = .next (s.ends (({ s.begun with i3c := { s.i3c with ibi := s.i3c.ibi || e.getLsbD 0 } } : State).send (.i3c (some []))))
      ∧ exec (.disec e) s = .next (s.ends (({ s.begun with i3c := { s.i3c with ibi := s.i3c.ibi && !e.getLsbD 0 } } : State).send (.i3c (some []))))))
  ∧ (∀ s : State, s.i3cUp = true → s.i3c.dyn.isSome = true →
    (s.firmware = false → ∀ c : Instr, ((∃ m, c = .mctpControl m) ∨ (∃ n b, c = .mctpOtherMessage n b) ∨ (∃ a n, c = .readTally a n)
      ∨ (∃ n, c ∈ [Instr.getPldmVersion n, .getPldmCommands n, .getPdr n, .getSensorReading n, .getStateSensorReadings n])
      ∨ c ∈ [Instr.getTid, .getPldmTypes, .getPdrRepositoryInfo, .getIdent, .getHealth, .getBound, .getPins]) → exec c s = .next (s.ends s.begun))
    ∧ (s.firmware = true → (∀ m : List Byte, exec (.mctpControl m) s = .next (s.ends ((if rd m 2 1 = 1 ∧ rd m 3 1 ≤ 1 then ({ s.begun with i3c := { s.i3c with eid := rd m 4 1 } } : State)
        else s.begun).pldm (rd m 2 1) (fromLe m))))
    ∧ (∀ n : Nat, n ≠ 0 → n ≠ 1 → n ≠ 0x7F → exec (.mctpOtherMessage n false) s = .next (s.ends (s.begun.pldm 0xFFFF n)))
    ∧ (∀ n : Nat, exec (.mctpOtherMessage n true) s = .next (s.ends s.begun))
    ∧ exec .getTid s = .next (s.ends (s.begun.pldm 0x0002 0)) ∧ (∀ n, exec (.getPldmVersion n) s = .next (s.ends (s.begun.pldm 0x0003 n)))
    ∧ exec .getPldmTypes s = .next (s.ends (s.begun.pldm 0x0004 0)) ∧ (∀ n, exec (.getPldmCommands n) s = .next (s.ends (s.begun.pldm 0x0005 n)))
    ∧ exec .getPdrRepositoryInfo s = .next (s.ends (s.begun.pldm 0x0250 0)) ∧ (∀ h, exec (.getPdr h) s = .next (s.ends (s.begun.pldm 0x0251 h)))
    ∧ (∀ n v : Nat, s.sensorReading n = some v → exec (.getSensorReading n) s = .next (s.ends (s.begun.pldm 0x0211 (n % 65536 + 65536 * v))))
    ∧ (∀ n : Nat, s.sensorReading n = none → exec (.getSensorReading n) s = .next (s.ends (s.begun.pldm 0x1211 n)))
    ∧ (∀ n : Nat, n ≠ 3 → exec (.getStateSensorReadings n) s = .next (s.ends (s.begun.pldm 0x1221 n)))
    ∧ (s.hif.st = .hostLost → exec (.getStateSensorReadings 3) s = .next (s.ends (s.begun.pldm 0x0221 (3 + 65536 * 2))))
    ∧ (s.hif.st ≠ .hostLost → ∃ x ∈ [0, 1, 3], exec (.getStateSensorReadings 3) s = .next (s.ends (({ s.begun with free := s.free + 1 } : State).pldm 0x0221
        (3 + 65536 * x))))
    ∧ exec .getIdent s = .next (s.ends (s.begun.vendor 1 ((List.range 16).flatMap (fun i => le 4 (s.windowWord (4 * i))))))
    ∧ exec .getHealth s = .next (s.ends (s.begun.vendor 2 (s.healthHead dieUid false Config.fields 0 0 ++ (List.range Config.fields).flatMap s.healthField)))
    ∧ exec .getBound s = .next (s.ends (s.begun.vendor 3 (s.boundBytes s.gov.report.length)))
    ∧ (∀ a n : Nat, exec (.readTally a n) s = .next (s.ends (s.begun.vendor 4 (s.readTally a (min n 16) s.tally.next).2.2)))
    ∧ exec .getPins s = .next (s.ends (s.begun.vendor 5 (le 4 s.pins.ctl ++ le 4 s.pins.thermReg)))))
end

