-- ==== Sys2Proof/Laws/Bytes.lean ====
section
/-! SUPPORT. Fields of little-endian and big-endian numbers: what is written is what is read. -/

namespace Sys2Proof.Machine

@[simp] theorem le_length (n v : Nat) : (le n v).length = n := by
  induction n generalizing v with
  | zero => rfl
  | succ n ih => simp [le, ih]

@[simp] theorem be_length (n v : Nat) : (be n v).length = n := by simp [be]
@[simp] theorem zeros_length (n : Nat) : (zeros n).length = n := by simp [zeros]
@[simp] theorem fit_length (n : Nat) (l : List Byte) : (fit n l).length = n := by
  simp [fit]; omega

/-- The number that the low bytes of a number spell is that number modulo their range. -/
theorem fromLe_le (n v : Nat) : fromLe (le n v) = v % 256 ^ n := by
  induction n generalizing v with
  | zero => simp [le, fromLe, Nat.mod_one]
  | succ n ih =>
    have hb : (BitVec.ofNat 8 v).toNat = v % 256 := BitVec.toNat_ofNat v 8
    rw [le, fromLe, ih, hb, Nat.pow_succ, Nat.mul_comm (256 ^ n) 256, Nat.mod_mul]

theorem fromBe_be (n v : Nat) : fromBe (be n v) = v % 256 ^ n := by simp [fromBe, be, fromLe_le]

/-- Bytes that stand behind a prefix are what is taken at the prefix's length. -/
theorem drop_take_append (pre mid post : List Byte) : ((pre ++ (mid ++ post)).drop pre.length).take mid.length = mid := by simp

/-- A field written behind a prefix is read back. -/
theorem rd_le (pre post : List Byte) (n v : Nat) : rd (pre ++ (le n v ++ post)) pre.length n = v % 256 ^ n := by
  have h := drop_take_append pre (le n v) post
  rw [le_length] at h
  simp only [rd, h, fromLe_le]

/-- A field that is read is below the range of its bytes. -/
theorem fromLe_lt (l : List Byte) : fromLe l < 256 ^ l.length := by
  induction l with
  | nil => simp [fromLe]
  | cons b t ih =>
    simp only [fromLe, List.length_cons, Nat.pow_succ]
    have := b.isLt
    omega

theorem rd_lt (l : List Byte) (off n : Nat) : rd l off n < 256 ^ n := by
  refine Nat.lt_of_lt_of_le (fromLe_lt _) (Nat.pow_le_pow_right (by decide) ?_)
  simp only [List.length_take]; omega

end Sys2Proof.Machine
end

