-- ==== Sys2Proof/Laws/SMap.lean ====
section
/-! SUPPORT. Laws of the sparse maps: a read after a write, and the canonical form that every write keeps. -/

namespace Sys2Proof.Machine

variable {α : Type}

theorem mapGet_erase (d : Nat → α) (m : List (Nat × α)) (k j : Nat) :
    mapGet d (mapErase m k) j = if j = k then d j else mapGet d m j := by
  induction m with
  | nil => simp [mapErase, mapGet]
  | cons p t ih =>
    obtain ⟨k', v⟩ := p
    by_cases h : k = k'
    · subst h
      simp only [mapErase, if_true, ih]
      by_cases hj : j = k <;> simp [mapGet, hj]
    · by_cases hj : j = k
      · subst hj; simp [mapErase, mapGet, h, ih]
      · simp [mapErase, mapGet, h, ih, hj]

theorem mapGet_put (d : Nat → α) (m : List (Nat × α)) (k j : Nat) (v : α) :
    mapGet d (mapPut m k v) j = if j = k then v else mapGet d m j := by
  induction m with
  | nil => simp [mapPut, mapGet]
  | cons p t ih =>
    obtain ⟨k', v'⟩ := p
    unfold mapPut
    split
    · simp [mapGet]
    · split
      · next h => subst h; by_cases hj : j = k <;> simp [mapGet, hj]
      · next h => by_cases hj : j = k
                  · subst hj; simp [mapGet, h, ih]
                  · simp [mapGet, ih, hj]

/-- A read after a write. -/
theorem mapGet_set [DecidableEq α] (d : Nat → α) (m : List (Nat × α)) (k j : Nat) (v : α) :
    mapGet d (mapSet d m k v) j = if j = k then v else mapGet d m j := by
  unfold mapSet
  split
  · next h => rw [mapGet_erase]; split <;> simp_all
  · exact mapGet_put d m k j v

/-- A key that is written reads as it was written. -/
@[simp] theorem mapGet_set_self [DecidableEq α] (d : Nat → α) (m : List (Nat × α)) (k : Nat) (v : α) :
    mapGet d (mapSet d m k v) k = v := by simp [mapGet_set]

/-- Another key reads as before. -/
theorem mapGet_set_other [DecidableEq α] (d : Nat → α) (m : List (Nat × α)) (k j : Nat) (v : α) (h : j ≠ k) :
    mapGet d (mapSet d m k v) j = mapGet d m j := by simp [mapGet_set, h]

theorem mapWfFrom_weaken [DecidableEq α] (d : Nat → α) (b c : Option Nat) (m : List (Nat × α))
    (h : mapWfFrom d c m = true) (hb : ∀ x, b = some x → ∃ y, c = some y ∧ x ≤ y) : mapWfFrom d b m = true := by
  cases m with
  | nil => rfl
  | cons p t =>
    obtain ⟨k, v⟩ := p
    cases b with
    | none => cases c <;> simp_all [mapWfFrom]
    | some x =>
      obtain ⟨y, rfl, hy⟩ := hb x rfl
      simp only [mapWfFrom, Bool.and_eq_true, decide_eq_true_eq] at h ⊢
      exact ⟨⟨by omega, h.1.2⟩, h.2⟩

theorem mapWfFrom_erase [DecidableEq α] (d : Nat → α) (b : Option Nat) (m : List (Nat × α)) (k : Nat)
    (h : mapWfFrom d b m = true) : mapWfFrom d b (mapErase m k) = true := by
  induction m generalizing b with
  | nil => rfl
  | cons p t ih =>
    obtain ⟨k', v⟩ := p
    simp only [mapWfFrom, Bool.and_eq_true, decide_eq_true_eq] at h
    unfold mapErase
    split
    · refine ih b (mapWfFrom_weaken d b (some k') t h.2 ?_)
      intro x hx
      subst hx
      have := h.1.1
      simp at this
      exact ⟨k', rfl, by omega⟩
    · simp only [mapWfFrom, Bool.and_eq_true, decide_eq_true_eq]
      exact ⟨h.1, ih _ h.2⟩

theorem mapWfFrom_put [DecidableEq α] (d : Nat → α) (b : Option Nat) (m : List (Nat × α)) (k : Nat) (v : α) (hv : v ≠ d k)
    (h : mapWfFrom d b m = true) (hb : ∀ x, b = some x → x < k) : mapWfFrom d b (mapPut m k v) = true := by
  induction m generalizing b with
  | nil => cases b <;> simp_all [mapPut, mapWfFrom]
  | cons p t ih =>
    obtain ⟨k', v'⟩ := p
    have h0 := h
    simp only [mapWfFrom, Bool.and_eq_true, decide_eq_true_eq] at h
    unfold mapPut
    split
    · next hk =>
      simp only [mapWfFrom, Bool.and_eq_true, decide_eq_true_eq]
      exact ⟨⟨by cases b <;> simp_all, hv⟩, ⟨by simpa using hk, h.1.2⟩, h.2⟩
    · split
      · next hk => subst hk; simp only [mapWfFrom, Bool.and_eq_true, decide_eq_true_eq]; exact ⟨⟨h.1.1, hv⟩, h.2⟩
      · next h1 h2 =>
        simp only [mapWfFrom, Bool.and_eq_true, decide_eq_true_eq]
        exact ⟨h.1, ih _ h.2 (by intro x hx; cases hx; omega)⟩

/-- A write keeps the canonical form. -/
theorem mapWf_set [DecidableEq α] (d : Nat → α) (m : List (Nat × α)) (k : Nat) (v : α) (h : mapWf d m = true) :
    mapWf d (mapSet d m k v) = true := by
  unfold mapSet
  split
  · exact mapWfFrom_erase d none m k h
  · next hv => exact mapWfFrom_put d none m k v hv h (by intro x hx; cases hx)

end Sys2Proof.Machine
end

