-- ==== Sys2Proof/Laws/State.lean ====
section
/-! SUPPORT. What each update of the state leaves as it was and what it writes: one lemma per update and field, each true by
unfolding the update. The text of this file is made by a script from the list of the state's fields. -/

namespace Sys2Proof.Machine

variable (s : State)

/-! setField writes `fields`. -/
@[simp] theorem State.setField_pending (f : Nat) (v : Field) : (s.setField f v).pending = s.pending := rfl
@[simp] theorem State.setField_out (f : Nat) (v : Field) : (s.setField f v).out = s.out := rfl
@[simp] theorem State.setField_due (f : Nat) (v : Field) : (s.setField f v).due = s.due := rfl
@[simp] theorem State.setField_pwrGood (f : Nat) (v : Field) : (s.setField f v).pwrGood = s.pwrGood := rfl
@[simp] theorem State.setField_tbase (f : Nat) (v : Field) : (s.setField f v).tbase = s.tbase := rfl
@[simp] theorem State.setField_draws (f : Nat) (v : Field) : (s.setField f v).draws = s.draws := rfl
@[simp] theorem State.setField_free (f : Nat) (v : Field) : (s.setField f v).free = s.free := rfl
@[simp] theorem State.setField_start (f : Nat) (v : Field) : (s.setField f v).start = s.start := rfl
@[simp] theorem State.setField_life (f : Nat) (v : Field) : (s.setField f v).life = s.life := rfl
@[simp] theorem State.setField_refclk (f : Nat) (v : Field) : (s.setField f v).refclk = s.refclk := rfl
@[simp] theorem State.setField_qspi (f : Nat) (v : Field) : (s.setField f v).qspi = s.qspi := rfl
@[simp] theorem State.setField_pins (f : Nat) (v : Field) : (s.setField f v).pins = s.pins := rfl
@[simp] theorem State.setField_ferr (f : Nat) (v : Field) : (s.setField f v).ferr = s.ferr := rfl
@[simp] theorem State.setField_hif (f : Nat) (v : Field) : (s.setField f v).hif = s.hif := rfl
@[simp] theorem State.setField_tally (f : Nat) (v : Field) : (s.setField f v).tally = s.tally := rfl
@[simp] theorem State.setField_policy (f : Nat) (v : Field) : (s.setField f v).policy = s.policy := rfl
@[simp] theorem State.setField_flocks (f : Nat) (v : Field) : (s.setField f v).flocks = s.flocks := rfl
@[simp] theorem State.setField_cores (f : Nat) (v : Field) : (s.setField f v).cores = s.cores := rfl
@[simp] theorem State.setField_lanes (f : Nat) (v : Field) : (s.setField f v).lanes = s.lanes := rfl
@[simp] theorem State.setField_crooks (f : Nat) (v : Field) : (s.setField f v).crooks = s.crooks := rfl
@[simp] theorem State.setField_taps (f : Nat) (v : Field) : (s.setField f v).taps = s.taps := rfl
@[simp] theorem State.setField_mems (f : Nat) (v : Field) : (s.setField f v).mems = s.mems := rfl
@[simp] theorem State.setField_pair (f : Nat) (v : Field) : (s.setField f v).pair = s.pair := rfl
@[simp] theorem State.setField_fw (f : Nat) (v : Field) : (s.setField f v).fw = s.fw := rfl
@[simp] theorem State.setField_screen (f : Nat) (v : Field) : (s.setField f v).screen = s.screen := rfl
@[simp] theorem State.setField_job (f : Nat) (v : Field) : (s.setField f v).job = s.job := rfl
@[simp] theorem State.setField_recovery (f : Nat) (v : Field) : (s.setField f v).recovery = s.recovery := rfl
@[simp] theorem State.setField_musters (f : Nat) (v : Field) : (s.setField f v).musters = s.musters := rfl
@[simp] theorem State.setField_folds (f : Nat) (v : Field) : (s.setField f v).folds = s.folds := rfl
@[simp] theorem State.setField_gov (f : Nat) (v : Field) : (s.setField f v).gov = s.gov := rfl
@[simp] theorem State.setField_govFlocks (f : Nat) (v : Field) : (s.setField f v).govFlocks = s.govFlocks := rfl
@[simp] theorem State.setField_earmarks (f : Nat) (v : Field) : (s.setField f v).earmarks = s.earmarks := rfl
@[simp] theorem State.setField_watches (f : Nat) (v : Field) : (s.setField f v).watches = s.watches := rfl
@[simp] theorem State.setField_power (f : Nat) (v : Field) : (s.setField f v).power = s.power := rfl
@[simp] theorem State.setField_mesh (f : Nat) (v : Field) : (s.setField f v).mesh = s.mesh := rfl
@[simp] theorem State.setField_i3c (f : Nat) (v : Field) : (s.setField f v).i3c = s.i3c := rfl
@[simp] theorem State.setField_trace (f : Nat) (v : Field) : (s.setField f v).trace = s.trace := rfl
@[simp] theorem State.setField_jtag (f : Nat) (v : Field) : (s.setField f v).jtag = s.jtag := rfl
@[simp] theorem State.setField_taints (f : Nat) (v : Field) : (s.setField f v).taints = s.taints := rfl
@[simp] theorem State.setField_musterOrders (f : Nat) (v : Field) : (s.setField f v).musterOrders = s.musterOrders := rfl
@[simp] theorem State.setField_flock (f : Nat) (v : Field) (x y : Nat) : (s.setField f v).flock x y = s.flock x y := rfl
@[simp] theorem State.setField_core (f : Nat) (v : Field) (x y z : Nat) : (s.setField f v).core x y z = s.core x y z := rfl
@[simp] theorem State.setField_lane (f : Nat) (v : Field) (x y z u : Nat) : (s.setField f v).lane x y z u = s.lane x y z u := rfl
@[simp] theorem State.setField_crook (f : Nat) (v : Field) (x y : Nat) : (s.setField f v).crook x y = s.crook x y := rfl
@[simp] theorem State.setField_tap (f : Nat) (v : Field) (x : Nat) : (s.setField f v).tap x = s.tap x := rfl
@[simp] theorem State.setField_mem (f : Nat) (v : Field) (x : Nat) : (s.setField f v).mem x = s.mem x := rfl
@[simp] theorem State.setField_gflock (f : Nat) (v : Field) (x y : Nat) : (s.setField f v).gflock x y = s.gflock x y := rfl
@[simp] theorem State.setField_watch (f : Nat) (v : Field) (x : Nat) : (s.setField f v).watch x = s.watch x := rfl
@[simp] theorem State.setField_activeShc (f : Nat) (v : Field) : (s.setField f v).activeShc = s.activeShc := rfl
@[simp] theorem State.setField_follower (f : Nat) (v : Field) : (s.setField f v).follower = s.follower := rfl
@[simp] theorem State.setField_firmware (f : Nat) (v : Field) : (s.setField f v).firmware = s.firmware := rfl
@[simp] theorem State.setField_lcs (f : Nat) (v : Field) : (s.setField f v).lcs = s.lcs := rfl

/-! modField writes `fields`. -/
@[simp] theorem State.modField_pending (f : Nat) (g : Field → Field) : (s.modField f g).pending = s.pending := rfl
@[simp] theorem State.modField_out (f : Nat) (g : Field → Field) : (s.modField f g).out = s.out := rfl
@[simp] theorem State.modField_due (f : Nat) (g : Field → Field) : (s.modField f g).due = s.due := rfl
@[simp] theorem State.modField_pwrGood (f : Nat) (g : Field → Field) : (s.modField f g).pwrGood = s.pwrGood := rfl
@[simp] theorem State.modField_tbase (f : Nat) (g : Field → Field) : (s.modField f g).tbase = s.tbase := rfl
@[simp] theorem State.modField_draws (f : Nat) (g : Field → Field) : (s.modField f g).draws = s.draws := rfl
@[simp] theorem State.modField_free (f : Nat) (g : Field → Field) : (s.modField f g).free = s.free := rfl
@[simp] theorem State.modField_start (f : Nat) (g : Field → Field) : (s.modField f g).start = s.start := rfl
@[simp] theorem State.modField_life (f : Nat) (g : Field → Field) : (s.modField f g).life = s.life := rfl
@[simp] theorem State.modField_refclk (f : Nat) (g : Field → Field) : (s.modField f g).refclk = s.refclk := rfl
@[simp] theorem State.modField_qspi (f : Nat) (g : Field → Field) : (s.modField f g).qspi = s.qspi := rfl
@[simp] theorem State.modField_pins (f : Nat) (g : Field → Field) : (s.modField f g).pins = s.pins := rfl
@[simp] theorem State.modField_ferr (f : Nat) (g : Field → Field) : (s.modField f g).ferr = s.ferr := rfl
@[simp] theorem State.modField_hif (f : Nat) (g : Field → Field) : (s.modField f g).hif = s.hif := rfl
@[simp] theorem State.modField_tally (f : Nat) (g : Field → Field) : (s.modField f g).tally = s.tally := rfl
@[simp] theorem State.modField_policy (f : Nat) (g : Field → Field) : (s.modField f g).policy = s.policy := rfl
@[simp] theorem State.modField_flocks (f : Nat) (g : Field → Field) : (s.modField f g).flocks = s.flocks := rfl
@[simp] theorem State.modField_cores (f : Nat) (g : Field → Field) : (s.modField f g).cores = s.cores := rfl
@[simp] theorem State.modField_lanes (f : Nat) (g : Field → Field) : (s.modField f g).lanes = s.lanes := rfl
@[simp] theorem State.modField_crooks (f : Nat) (g : Field → Field) : (s.modField f g).crooks = s.crooks := rfl
@[simp] theorem State.modField_taps (f : Nat) (g : Field → Field) : (s.modField f g).taps = s.taps := rfl
@[simp] theorem State.modField_mems (f : Nat) (g : Field → Field) : (s.modField f g).mems = s.mems := rfl
@[simp] theorem State.modField_pair (f : Nat) (g : Field → Field) : (s.modField f g).pair = s.pair := rfl
@[simp] theorem State.modField_fw (f : Nat) (g : Field → Field) : (s.modField f g).fw = s.fw := rfl
@[simp] theorem State.modField_screen (f : Nat) (g : Field → Field) : (s.modField f g).screen = s.screen := rfl
@[simp] theorem State.modField_job (f : Nat) (g : Field → Field) : (s.modField f g).job = s.job := rfl
@[simp] theorem State.modField_recovery (f : Nat) (g : Field → Field) : (s.modField f g).recovery = s.recovery := rfl
@[simp] theorem State.modField_musters (f : Nat) (g : Field → Field) : (s.modField f g).musters = s.musters := rfl
@[simp] theorem State.modField_folds (f : Nat) (g : Field → Field) : (s.modField f g).folds = s.folds := rfl
@[simp] theorem State.modField_gov (f : Nat) (g : Field → Field) : (s.modField f g).gov = s.gov := rfl
@[simp] theorem State.modField_govFlocks (f : Nat) (g : Field → Field) : (s.modField f g).govFlocks = s.govFlocks := rfl
@[simp] theorem State.modField_earmarks (f : Nat) (g : Field → Field) : (s.modField f g).earmarks = s.earmarks := rfl
@[simp] theorem State.modField_watches (f : Nat) (g : Field → Field) : (s.modField f g).watches = s.watches := rfl
@[simp] theorem State.modField_power (f : Nat) (g : Field → Field) : (s.modField f g).power = s.power := rfl
@[simp] theorem State.modField_mesh (f : Nat) (g : Field → Field) : (s.modField f g).mesh = s.mesh := rfl
@[simp] theorem State.modField_i3c (f : Nat) (g : Field → Field) : (s.modField f g).i3c = s.i3c := rfl
@[simp] theorem State.modField_trace (f : Nat) (g : Field → Field) : (s.modField f g).trace = s.trace := rfl
@[simp] theorem State.modField_jtag (f : Nat) (g : Field → Field) : (s.modField f g).jtag = s.jtag := rfl
@[simp] theorem State.modField_taints (f : Nat) (g : Field → Field) : (s.modField f g).taints = s.taints := rfl
@[simp] theorem State.modField_musterOrders (f : Nat) (g : Field → Field) : (s.modField f g).musterOrders = s.musterOrders := rfl
@[simp] theorem State.modField_flock (f : Nat) (g : Field → Field) (x y : Nat) : (s.modField f g).flock x y = s.flock x y := rfl
@[simp] theorem State.modField_core (f : Nat) (g : Field → Field) (x y z : Nat) : (s.modField f g).core x y z = s.core x y z := rfl
@[simp] theorem State.modField_lane (f : Nat) (g : Field → Field) (x y z u : Nat) : (s.modField f g).lane x y z u = s.lane x y z u := rfl
@[simp] theorem State.modField_crook (f : Nat) (g : Field → Field) (x y : Nat) : (s.modField f g).crook x y = s.crook x y := rfl
@[simp] theorem State.modField_tap (f : Nat) (g : Field → Field) (x : Nat) : (s.modField f g).tap x = s.tap x := rfl
@[simp] theorem State.modField_mem (f : Nat) (g : Field → Field) (x : Nat) : (s.modField f g).mem x = s.mem x := rfl
@[simp] theorem State.modField_gflock (f : Nat) (g : Field → Field) (x y : Nat) : (s.modField f g).gflock x y = s.gflock x y := rfl
@[simp] theorem State.modField_watch (f : Nat) (g : Field → Field) (x : Nat) : (s.modField f g).watch x = s.watch x := rfl
@[simp] theorem State.modField_activeShc (f : Nat) (g : Field → Field) : (s.modField f g).activeShc = s.activeShc := rfl
@[simp] theorem State.modField_follower (f : Nat) (g : Field → Field) : (s.modField f g).follower = s.follower := rfl
@[simp] theorem State.modField_firmware (f : Nat) (g : Field → Field) : (s.modField f g).firmware = s.firmware := rfl
@[simp] theorem State.modField_lcs (f : Nat) (g : Field → Field) : (s.modField f g).lcs = s.lcs := rfl

/-! setFlock writes `flocks`. -/
@[simp] theorem State.setFlock_pending (f k : Nat) (v : Flock) : (s.setFlock f k v).pending = s.pending := rfl
@[simp] theorem State.setFlock_out (f k : Nat) (v : Flock) : (s.setFlock f k v).out = s.out := rfl
@[simp] theorem State.setFlock_due (f k : Nat) (v : Flock) : (s.setFlock f k v).due = s.due := rfl
@[simp] theorem State.setFlock_pwrGood (f k : Nat) (v : Flock) : (s.setFlock f k v).pwrGood = s.pwrGood := rfl
@[simp] theorem State.setFlock_tbase (f k : Nat) (v : Flock) : (s.setFlock f k v).tbase = s.tbase := rfl
@[simp] theorem State.setFlock_draws (f k : Nat) (v : Flock) : (s.setFlock f k v).draws = s.draws := rfl
@[simp] theorem State.setFlock_free (f k : Nat) (v : Flock) : (s.setFlock f k v).free = s.free := rfl
@[simp] theorem State.setFlock_start (f k : Nat) (v : Flock) : (s.setFlock f k v).start = s.start := rfl
@[simp] theorem State.setFlock_life (f k : Nat) (v : Flock) : (s.setFlock f k v).life = s.life := rfl
@[simp] theorem State.setFlock_refclk (f k : Nat) (v : Flock) : (s.setFlock f k v).refclk = s.refclk := rfl
@[simp] theorem State.setFlock_qspi (f k : Nat) (v : Flock) : (s.setFlock f k v).qspi = s.qspi := rfl
@[simp] theorem State.setFlock_pins (f k : Nat) (v : Flock) : (s.setFlock f k v).pins = s.pins := rfl
@[simp] theorem State.setFlock_ferr (f k : Nat) (v : Flock) : (s.setFlock f k v).ferr = s.ferr := rfl
@[simp] theorem State.setFlock_hif (f k : Nat) (v : Flock) : (s.setFlock f k v).hif = s.hif := rfl
@[simp] theorem State.setFlock_tally (f k : Nat) (v : Flock) : (s.setFlock f k v).tally = s.tally := rfl
@[simp] theorem State.setFlock_policy (f k : Nat) (v : Flock) : (s.setFlock f k v).policy = s.policy := rfl
@[simp] theorem State.setFlock_fields (f k : Nat) (v : Flock) : (s.setFlock f k v).fields = s.fields := rfl
@[simp] theorem State.setFlock_cores (f k : Nat) (v : Flock) : (s.setFlock f k v).cores = s.cores := rfl
@[simp] theorem State.setFlock_lanes (f k : Nat) (v : Flock) : (s.setFlock f k v).lanes = s.lanes := rfl
@[simp] theorem State.setFlock_crooks (f k : Nat) (v : Flock) : (s.setFlock f k v).crooks = s.crooks := rfl
@[simp] theorem State.setFlock_taps (f k : Nat) (v : Flock) : (s.setFlock f k v).taps = s.taps := rfl
@[simp] theorem State.setFlock_mems (f k : Nat) (v : Flock) : (s.setFlock f k v).mems = s.mems := rfl
@[simp] theorem State.setFlock_pair (f k : Nat) (v : Flock) : (s.setFlock f k v).pair = s.pair := rfl
@[simp] theorem State.setFlock_fw (f k : Nat) (v : Flock) : (s.setFlock f k v).fw = s.fw := rfl
@[simp] theorem State.setFlock_screen (f k : Nat) (v : Flock) : (s.setFlock f k v).screen = s.screen := rfl
@[simp] theorem State.setFlock_job (f k : Nat) (v : Flock) : (s.setFlock f k v).job = s.job := rfl
@[simp] theorem State.setFlock_recovery (f k : Nat) (v : Flock) : (s.setFlock f k v).recovery = s.recovery := rfl
@[simp] theorem State.setFlock_musters (f k : Nat) (v : Flock) : (s.setFlock f k v).musters = s.musters := rfl
@[simp] theorem State.setFlock_folds (f k : Nat) (v : Flock) : (s.setFlock f k v).folds = s.folds := rfl
@[simp] theorem State.setFlock_gov (f k : Nat) (v : Flock) : (s.setFlock f k v).gov = s.gov := rfl
@[simp] theorem State.setFlock_govFlocks (f k : Nat) (v : Flock) : (s.setFlock f k v).govFlocks = s.govFlocks := rfl
@[simp] theorem State.setFlock_earmarks (f k : Nat) (v : Flock) : (s.setFlock f k v).earmarks = s.earmarks := rfl
@[simp] theorem State.setFlock_watches (f k : Nat) (v : Flock) : (s.setFlock f k v).watches = s.watches := rfl
@[simp] theorem State.setFlock_power (f k : Nat) (v : Flock) : (s.setFlock f k v).power = s.power := rfl
@[simp] theorem State.setFlock_mesh (f k : Nat) (v : Flock) : (s.setFlock f k v).mesh = s.mesh := rfl
@[simp] theorem State.setFlock_i3c (f k : Nat) (v : Flock) : (s.setFlock f k v).i3c = s.i3c := rfl
@[simp] theorem State.setFlock_trace (f k : Nat) (v : Flock) : (s.setFlock f k v).trace = s.trace := rfl
@[simp] theorem State.setFlock_jtag (f k : Nat) (v : Flock) : (s.setFlock f k v).jtag = s.jtag := rfl
@[simp] theorem State.setFlock_taints (f k : Nat) (v : Flock) : (s.setFlock f k v).taints = s.taints := rfl
@[simp] theorem State.setFlock_musterOrders (f k : Nat) (v : Flock) : (s.setFlock f k v).musterOrders = s.musterOrders := rfl
@[simp] theorem State.setFlock_field (f k : Nat) (v : Flock) (x : Nat) : (s.setFlock f k v).field x = s.field x := rfl
@[simp] theorem State.setFlock_core (f k : Nat) (v : Flock) (x y z : Nat) : (s.setFlock f k v).core x y z = s.core x y z := rfl
@[simp] theorem State.setFlock_lane (f k : Nat) (v : Flock) (x y z u : Nat) : (s.setFlock f k v).lane x y z u = s.lane x y z u := rfl
@[simp] theorem State.setFlock_crook (f k : Nat) (v : Flock) (x y : Nat) : (s.setFlock f k v).crook x y = s.crook x y := rfl
@[simp] theorem State.setFlock_tap (f k : Nat) (v : Flock) (x : Nat) : (s.setFlock f k v).tap x = s.tap x := rfl
@[simp] theorem State.setFlock_mem (f k : Nat) (v : Flock) (x : Nat) : (s.setFlock f k v).mem x = s.mem x := rfl
@[simp] theorem State.setFlock_gflock (f k : Nat) (v : Flock) (x y : Nat) : (s.setFlock f k v).gflock x y = s.gflock x y := rfl
@[simp] theorem State.setFlock_watch (f k : Nat) (v : Flock) (x : Nat) : (s.setFlock f k v).watch x = s.watch x := rfl
@[simp] theorem State.setFlock_activeShc (f k : Nat) (v : Flock) : (s.setFlock f k v).activeShc = s.activeShc := rfl
@[simp] theorem State.setFlock_follower (f k : Nat) (v : Flock) : (s.setFlock f k v).follower = s.follower := rfl
@[simp] theorem State.setFlock_firmware (f k : Nat) (v : Flock) : (s.setFlock f k v).firmware = s.firmware := rfl
@[simp] theorem State.setFlock_lcs (f k : Nat) (v : Flock) : (s.setFlock f k v).lcs = s.lcs := rfl

/-! modFlock writes `flocks`. -/
@[simp] theorem State.modFlock_pending (f k : Nat) (g : Flock → Flock) : (s.modFlock f k g).pending = s.pending := rfl
@[simp] theorem State.modFlock_out (f k : Nat) (g : Flock → Flock) : (s.modFlock f k g).out = s.out := rfl
@[simp] theorem State.modFlock_due (f k : Nat) (g : Flock → Flock) : (s.modFlock f k g).due = s.due := rfl
@[simp] theorem State.modFlock_pwrGood (f k : Nat) (g : Flock → Flock) : (s.modFlock f k g).pwrGood = s.pwrGood := rfl
@[simp] theorem State.modFlock_tbase (f k : Nat) (g : Flock → Flock) : (s.modFlock f k g).tbase = s.tbase := rfl
@[simp] theorem State.modFlock_draws (f k : Nat) (g : Flock → Flock) : (s.modFlock f k g).draws = s.draws := rfl
@[simp] theorem State.modFlock_free (f k : Nat) (g : Flock → Flock) : (s.modFlock f k g).free = s.free := rfl
@[simp] theorem State.modFlock_start (f k : Nat) (g : Flock → Flock) : (s.modFlock f k g).start = s.start := rfl
@[simp] theorem State.modFlock_life (f k : Nat) (g : Flock → Flock) : (s.modFlock f k g).life = s.life := rfl
@[simp] theorem State.modFlock_refclk (f k : Nat) (g : Flock → Flock) : (s.modFlock f k g).refclk = s.refclk := rfl
@[simp] theorem State.modFlock_qspi (f k : Nat) (g : Flock → Flock) : (s.modFlock f k g).qspi = s.qspi := rfl
@[simp] theorem State.modFlock_pins (f k : Nat) (g : Flock → Flock) : (s.modFlock f k g).pins = s.pins := rfl
@[simp] theorem State.modFlock_ferr (f k : Nat) (g : Flock → Flock) : (s.modFlock f k g).ferr = s.ferr := rfl
@[simp] theorem State.modFlock_hif (f k : Nat) (g : Flock → Flock) : (s.modFlock f k g).hif = s.hif := rfl
@[simp] theorem State.modFlock_tally (f k : Nat) (g : Flock → Flock) : (s.modFlock f k g).tally = s.tally := rfl
@[simp] theorem State.modFlock_policy (f k : Nat) (g : Flock → Flock) : (s.modFlock f k g).policy = s.policy := rfl
@[simp] theorem State.modFlock_fields (f k : Nat) (g : Flock → Flock) : (s.modFlock f k g).fields = s.fields := rfl
@[simp] theorem State.modFlock_cores (f k : Nat) (g : Flock → Flock) : (s.modFlock f k g).cores = s.cores := rfl
@[simp] theorem State.modFlock_lanes (f k : Nat) (g : Flock → Flock) : (s.modFlock f k g).lanes = s.lanes := rfl
@[simp] theorem State.modFlock_crooks (f k : Nat) (g : Flock → Flock) : (s.modFlock f k g).crooks = s.crooks := rfl
@[simp] theorem State.modFlock_taps (f k : Nat) (g : Flock → Flock) : (s.modFlock f k g).taps = s.taps := rfl
@[simp] theorem State.modFlock_mems (f k : Nat) (g : Flock → Flock) : (s.modFlock f k g).mems = s.mems := rfl
@[simp] theorem State.modFlock_pair (f k : Nat) (g : Flock → Flock) : (s.modFlock f k g).pair = s.pair := rfl
@[simp] theorem State.modFlock_fw (f k : Nat) (g : Flock → Flock) : (s.modFlock f k g).fw = s.fw := rfl
@[simp] theorem State.modFlock_screen (f k : Nat) (g : Flock → Flock) : (s.modFlock f k g).screen = s.screen := rfl
@[simp] theorem State.modFlock_job (f k : Nat) (g : Flock → Flock) : (s.modFlock f k g).job = s.job := rfl
@[simp] theorem State.modFlock_recovery (f k : Nat) (g : Flock → Flock) : (s.modFlock f k g).recovery = s.recovery := rfl
@[simp] theorem State.modFlock_musters (f k : Nat) (g : Flock → Flock) : (s.modFlock f k g).musters = s.musters := rfl
@[simp] theorem State.modFlock_folds (f k : Nat) (g : Flock → Flock) : (s.modFlock f k g).folds = s.folds := rfl
@[simp] theorem State.modFlock_gov (f k : Nat) (g : Flock → Flock) : (s.modFlock f k g).gov = s.gov := rfl
@[simp] theorem State.modFlock_govFlocks (f k : Nat) (g : Flock → Flock) : (s.modFlock f k g).govFlocks = s.govFlocks := rfl
@[simp] theorem State.modFlock_earmarks (f k : Nat) (g : Flock → Flock) : (s.modFlock f k g).earmarks = s.earmarks := rfl
@[simp] theorem State.modFlock_watches (f k : Nat) (g : Flock → Flock) : (s.modFlock f k g).watches = s.watches := rfl
@[simp] theorem State.modFlock_power (f k : Nat) (g : Flock → Flock) : (s.modFlock f k g).power = s.power := rfl
@[simp] theorem State.modFlock_mesh (f k : Nat) (g : Flock → Flock) : (s.modFlock f k g).mesh = s.mesh := rfl
@[simp] theorem State.modFlock_i3c (f k : Nat) (g : Flock → Flock) : (s.modFlock f k g).i3c = s.i3c := rfl
@[simp] theorem State.modFlock_trace (f k : Nat) (g : Flock → Flock) : (s.modFlock f k g).trace = s.trace := rfl
@[simp] theorem State.modFlock_jtag (f k : Nat) (g : Flock → Flock) : (s.modFlock f k g).jtag = s.jtag := rfl
@[simp] theorem State.modFlock_taints (f k : Nat) (g : Flock → Flock) : (s.modFlock f k g).taints = s.taints := rfl
@[simp] theorem State.modFlock_musterOrders (f k : Nat) (g : Flock → Flock) : (s.modFlock f k g).musterOrders = s.musterOrders := rfl
@[simp] theorem State.modFlock_field (f k : Nat) (g : Flock → Flock) (x : Nat) : (s.modFlock f k g).field x = s.field x := rfl
@[simp] theorem State.modFlock_core (f k : Nat) (g : Flock → Flock) (x y z : Nat) : (s.modFlock f k g).core x y z = s.core x y z := rfl
@[simp] theorem State.modFlock_lane (f k : Nat) (g : Flock → Flock) (x y z u : Nat) : (s.modFlock f k g).lane x y z u = s.lane x y z u := rfl
@[simp] theorem State.modFlock_crook (f k : Nat) (g : Flock → Flock) (x y : Nat) : (s.modFlock f k g).crook x y = s.crook x y := rfl
@[simp] theorem State.modFlock_tap (f k : Nat) (g : Flock → Flock) (x : Nat) : (s.modFlock f k g).tap x = s.tap x := rfl
@[simp] theorem State.modFlock_mem (f k : Nat) (g : Flock → Flock) (x : Nat) : (s.modFlock f k g).mem x = s.mem x := rfl
@[simp] theorem State.modFlock_gflock (f k : Nat) (g : Flock → Flock) (x y : Nat) : (s.modFlock f k g).gflock x y = s.gflock x y := rfl
@[simp] theorem State.modFlock_watch (f k : Nat) (g : Flock → Flock) (x : Nat) : (s.modFlock f k g).watch x = s.watch x := rfl
@[simp] theorem State.modFlock_activeShc (f k : Nat) (g : Flock → Flock) : (s.modFlock f k g).activeShc = s.activeShc := rfl
@[simp] theorem State.modFlock_follower (f k : Nat) (g : Flock → Flock) : (s.modFlock f k g).follower = s.follower := rfl
@[simp] theorem State.modFlock_firmware (f k : Nat) (g : Flock → Flock) : (s.modFlock f k g).firmware = s.firmware := rfl
@[simp] theorem State.modFlock_lcs (f k : Nat) (g : Flock → Flock) : (s.modFlock f k g).lcs = s.lcs := rfl

/-! setCore writes `cores`. -/
@[simp] theorem State.setCore_pending (f k c : Nat) (v : Core) : (s.setCore f k c v).pending = s.pending := rfl
@[simp] theorem State.setCore_out (f k c : Nat) (v : Core) : (s.setCore f k c v).out = s.out := rfl
@[simp] theorem State.setCore_due (f k c : Nat) (v : Core) : (s.setCore f k c v).due = s.due := rfl
@[simp] theorem State.setCore_pwrGood (f k c : Nat) (v : Core) : (s.setCore f k c v).pwrGood = s.pwrGood := rfl
@[simp] theorem State.setCore_tbase (f k c : Nat) (v : Core) : (s.setCore f k c v).tbase = s.tbase := rfl
@[simp] theorem State.setCore_draws (f k c : Nat) (v : Core) : (s.setCore f k c v).draws = s.draws := rfl
@[simp] theorem State.setCore_free (f k c : Nat) (v : Core) : (s.setCore f k c v).free = s.free := rfl
@[simp] theorem State.setCore_start (f k c : Nat) (v : Core) : (s.setCore f k c v).start = s.start := rfl
@[simp] theorem State.setCore_life (f k c : Nat) (v : Core) : (s.setCore f k c v).life = s.life := rfl
@[simp] theorem State.setCore_refclk (f k c : Nat) (v : Core) : (s.setCore f k c v).refclk = s.refclk := rfl
@[simp] theorem State.setCore_qspi (f k c : Nat) (v : Core) : (s.setCore f k c v).qspi = s.qspi := rfl
@[simp] theorem State.setCore_pins (f k c : Nat) (v : Core) : (s.setCore f k c v).pins = s.pins := rfl
@[simp] theorem State.setCore_ferr (f k c : Nat) (v : Core) : (s.setCore f k c v).ferr = s.ferr := rfl
@[simp] theorem State.setCore_hif (f k c : Nat) (v : Core) : (s.setCore f k c v).hif = s.hif := rfl
@[simp] theorem State.setCore_tally (f k c : Nat) (v : Core) : (s.setCore f k c v).tally = s.tally := rfl
@[simp] theorem State.setCore_policy (f k c : Nat) (v : Core) : (s.setCore f k c v).policy = s.policy := rfl
@[simp] theorem State.setCore_fields (f k c : Nat) (v : Core) : (s.setCore f k c v).fields = s.fields := rfl
@[simp] theorem State.setCore_flocks (f k c : Nat) (v : Core) : (s.setCore f k c v).flocks = s.flocks := rfl
@[simp] theorem State.setCore_lanes (f k c : Nat) (v : Core) : (s.setCore f k c v).lanes = s.lanes := rfl
@[simp] theorem State.setCore_crooks (f k c : Nat) (v : Core) : (s.setCore f k c v).crooks = s.crooks := rfl
@[simp] theorem State.setCore_taps (f k c : Nat) (v : Core) : (s.setCore f k c v).taps = s.taps := rfl
@[simp] theorem State.setCore_mems (f k c : Nat) (v : Core) : (s.setCore f k c v).mems = s.mems := rfl
@[simp] theorem State.setCore_pair (f k c : Nat) (v : Core) : (s.setCore f k c v).pair = s.pair := rfl
@[simp] theorem State.setCore_fw (f k c : Nat) (v : Core) : (s.setCore f k c v).fw = s.fw := rfl
@[simp] theorem State.setCore_screen (f k c : Nat) (v : Core) : (s.setCore f k c v).screen = s.screen := rfl
@[simp] theorem State.setCore_job (f k c : Nat) (v : Core) : (s.setCore f k c v).job = s.job := rfl
@[simp] theorem State.setCore_recovery (f k c : Nat) (v : Core) : (s.setCore f k c v).recovery = s.recovery := rfl
@[simp] theorem State.setCore_musters (f k c : Nat) (v : Core) : (s.setCore f k c v).musters = s.musters := rfl
@[simp] theorem State.setCore_folds (f k c : Nat) (v : Core) : (s.setCore f k c v).folds = s.folds := rfl
@[simp] theorem State.setCore_gov (f k c : Nat) (v : Core) : (s.setCore f k c v).gov = s.gov := rfl
@[simp] theorem State.setCore_govFlocks (f k c : Nat) (v : Core) : (s.setCore f k c v).govFlocks = s.govFlocks := rfl
@[simp] theorem State.setCore_earmarks (f k c : Nat) (v : Core) : (s.setCore f k c v).earmarks = s.earmarks := rfl
@[simp] theorem State.setCore_watches (f k c : Nat) (v : Core) : (s.setCore f k c v).watches = s.watches := rfl
@[simp] theorem State.setCore_power (f k c : Nat) (v : Core) : (s.setCore f k c v).power = s.power := rfl
@[simp] theorem State.setCore_mesh (f k c : Nat) (v : Core) : (s.setCore f k c v).mesh = s.mesh := rfl
@[simp] theorem State.setCore_i3c (f k c : Nat) (v : Core) : (s.setCore f k c v).i3c = s.i3c := rfl
@[simp] theorem State.setCore_trace (f k c : Nat) (v : Core) : (s.setCore f k c v).trace = s.trace := rfl
@[simp] theorem State.setCore_jtag (f k c : Nat) (v : Core) : (s.setCore f k c v).jtag = s.jtag := rfl
@[simp] theorem State.setCore_taints (f k c : Nat) (v : Core) : (s.setCore f k c v).taints = s.taints := rfl
@[simp] theorem State.setCore_musterOrders (f k c : Nat) (v : Core) : (s.setCore f k c v).musterOrders = s.musterOrders := rfl
@[simp] theorem State.setCore_field (f k c : Nat) (v : Core) (x : Nat) : (s.setCore f k c v).field x = s.field x := rfl
@[simp] theorem State.setCore_flock (f k c : Nat) (v : Core) (x y : Nat) : (s.setCore f k c v).flock x y = s.flock x y := rfl
@[simp] theorem State.setCore_lane (f k c : Nat) (v : Core) (x y z u : Nat) : (s.setCore f k c v).lane x y z u = s.lane x y z u := rfl
@[simp] theorem State.setCore_crook (f k c : Nat) (v : Core) (x y : Nat) : (s.setCore f k c v).crook x y = s.crook x y := rfl
@[simp] theorem State.setCore_tap (f k c : Nat) (v : Core) (x : Nat) : (s.setCore f k c v).tap x = s.tap x := rfl
@[simp] theorem State.setCore_mem (f k c : Nat) (v : Core) (x : Nat) : (s.setCore f k c v).mem x = s.mem x := rfl
@[simp] theorem State.setCore_gflock (f k c : Nat) (v : Core) (x y : Nat) : (s.setCore f k c v).gflock x y = s.gflock x y := rfl
@[simp] theorem State.setCore_watch (f k c : Nat) (v : Core) (x : Nat) : (s.setCore f k c v).watch x = s.watch x := rfl
@[simp] theorem State.setCore_activeShc (f k c : Nat) (v : Core) : (s.setCore f k c v).activeShc = s.activeShc := rfl
@[simp] theorem State.setCore_follower (f k c : Nat) (v : Core) : (s.setCore f k c v).follower = s.follower := rfl
@[simp] theorem State.setCore_firmware (f k c : Nat) (v : Core) : (s.setCore f k c v).firmware = s.firmware := rfl
@[simp] theorem State.setCore_lcs (f k c : Nat) (v : Core) : (s.setCore f k c v).lcs = s.lcs := rfl

/-! modCore writes `cores`. -/
@[simp] theorem State.modCore_pending (f k c : Nat) (g : Core → Core) : (s.modCore f k c g).pending = s.pending := rfl
@[simp] theorem State.modCore_out (f k c : Nat) (g : Core → Core) : (s.modCore f k c g).out = s.out := rfl
@[simp] theorem State.modCore_due (f k c : Nat) (g : Core → Core) : (s.modCore f k c g).due = s.due := rfl
@[simp] theorem State.modCore_pwrGood (f k c : Nat) (g : Core → Core) : (s.modCore f k c g).pwrGood = s.pwrGood := rfl
@[simp] theorem State.modCore_tbase (f k c : Nat) (g : Core → Core) : (s.modCore f k c g).tbase = s.tbase := rfl
@[simp] theorem State.modCore_draws (f k c : Nat) (g : Core → Core) : (s.modCore f k c g).draws = s.draws := rfl
@[simp] theorem State.modCore_free (f k c : Nat) (g : Core → Core) : (s.modCore f k c g).free = s.free := rfl
@[simp] theorem State.modCore_start (f k c : Nat) (g : Core → Core) : (s.modCore f k c g).start = s.start := rfl
@[simp] theorem State.modCore_life (f k c : Nat) (g : Core → Core) : (s.modCore f k c g).life = s.life := rfl
@[simp] theorem State.modCore_refclk (f k c : Nat) (g : Core → Core) : (s.modCore f k c g).refclk = s.refclk := rfl
@[simp] theorem State.modCore_qspi (f k c : Nat) (g : Core → Core) : (s.modCore f k c g).qspi = s.qspi := rfl
@[simp] theorem State.modCore_pins (f k c : Nat) (g : Core → Core) : (s.modCore f k c g).pins = s.pins := rfl
@[simp] theorem State.modCore_ferr (f k c : Nat) (g : Core → Core) : (s.modCore f k c g).ferr = s.ferr := rfl
@[simp] theorem State.modCore_hif (f k c : Nat) (g : Core → Core) : (s.modCore f k c g).hif = s.hif := rfl
@[simp] theorem State.modCore_tally (f k c : Nat) (g : Core → Core) : (s.modCore f k c g).tally = s.tally := rfl
@[simp] theorem State.modCore_policy (f k c : Nat) (g : Core → Core) : (s.modCore f k c g).policy = s.policy := rfl
@[simp] theorem State.modCore_fields (f k c : Nat) (g : Core → Core) : (s.modCore f k c g).fields = s.fields := rfl
@[simp] theorem State.modCore_flocks (f k c : Nat) (g : Core → Core) : (s.modCore f k c g).flocks = s.flocks := rfl
@[simp] theorem State.modCore_lanes (f k c : Nat) (g : Core → Core) : (s.modCore f k c g).lanes = s.lanes := rfl
@[simp] theorem State.modCore_crooks (f k c : Nat) (g : Core → Core) : (s.modCore f k c g).crooks = s.crooks := rfl
@[simp] theorem State.modCore_taps (f k c : Nat) (g : Core → Core) : (s.modCore f k c g).taps = s.taps := rfl
@[simp] theorem State.modCore_mems (f k c : Nat) (g : Core → Core) : (s.modCore f k c g).mems = s.mems := rfl
@[simp] theorem State.modCore_pair (f k c : Nat) (g : Core → Core) : (s.modCore f k c g).pair = s.pair := rfl
@[simp] theorem State.modCore_fw (f k c : Nat) (g : Core → Core) : (s.modCore f k c g).fw = s.fw := rfl
@[simp] theorem State.modCore_screen (f k c : Nat) (g : Core → Core) : (s.modCore f k c g).screen = s.screen := rfl
@[simp] theorem State.modCore_job (f k c : Nat) (g : Core → Core) : (s.modCore f k c g).job = s.job := rfl
@[simp] theorem State.modCore_recovery (f k c : Nat) (g : Core → Core) : (s.modCore f k c g).recovery = s.recovery := rfl
@[simp] theorem State.modCore_musters (f k c : Nat) (g : Core → Core) : (s.modCore f k c g).musters = s.musters := rfl
@[simp] theorem State.modCore_folds (f k c : Nat) (g : Core → Core) : (s.modCore f k c g).folds = s.folds := rfl
@[simp] theorem State.modCore_gov (f k c : Nat) (g : Core → Core) : (s.modCore f k c g).gov = s.gov := rfl
@[simp] theorem State.modCore_govFlocks (f k c : Nat) (g : Core → Core) : (s.modCore f k c g).govFlocks = s.govFlocks := rfl
@[simp] theorem State.modCore_earmarks (f k c : Nat) (g : Core → Core) : (s.modCore f k c g).earmarks = s.earmarks := rfl
@[simp] theorem State.modCore_watches (f k c : Nat) (g : Core → Core) : (s.modCore f k c g).watches = s.watches := rfl
@[simp] theorem State.modCore_power (f k c : Nat) (g : Core → Core) : (s.modCore f k c g).power = s.power := rfl
@[simp] theorem State.modCore_mesh (f k c : Nat) (g : Core → Core) : (s.modCore f k c g).mesh = s.mesh := rfl
@[simp] theorem State.modCore_i3c (f k c : Nat) (g : Core → Core) : (s.modCore f k c g).i3c = s.i3c := rfl
@[simp] theorem State.modCore_trace (f k c : Nat) (g : Core → Core) : (s.modCore f k c g).trace = s.trace := rfl
@[simp] theorem State.modCore_jtag (f k c : Nat) (g : Core → Core) : (s.modCore f k c g).jtag = s.jtag := rfl
@[simp] theorem State.modCore_taints (f k c : Nat) (g : Core → Core) : (s.modCore f k c g).taints = s.taints := rfl
@[simp] theorem State.modCore_musterOrders (f k c : Nat) (g : Core → Core) : (s.modCore f k c g).musterOrders = s.musterOrders := rfl
@[simp] theorem State.modCore_field (f k c : Nat) (g : Core → Core) (x : Nat) : (s.modCore f k c g).field x = s.field x := rfl
@[simp] theorem State.modCore_flock (f k c : Nat) (g : Core → Core) (x y : Nat) : (s.modCore f k c g).flock x y = s.flock x y := rfl
@[simp] theorem State.modCore_lane (f k c : Nat) (g : Core → Core) (x y z u : Nat) : (s.modCore f k c g).lane x y z u = s.lane x y z u := rfl
@[simp] theorem State.modCore_crook (f k c : Nat) (g : Core → Core) (x y : Nat) : (s.modCore f k c g).crook x y = s.crook x y := rfl
@[simp] theorem State.modCore_tap (f k c : Nat) (g : Core → Core) (x : Nat) : (s.modCore f k c g).tap x = s.tap x := rfl
@[simp] theorem State.modCore_mem (f k c : Nat) (g : Core → Core) (x : Nat) : (s.modCore f k c g).mem x = s.mem x := rfl
@[simp] theorem State.modCore_gflock (f k c : Nat) (g : Core → Core) (x y : Nat) : (s.modCore f k c g).gflock x y = s.gflock x y := rfl
@[simp] theorem State.modCore_watch (f k c : Nat) (g : Core → Core) (x : Nat) : (s.modCore f k c g).watch x = s.watch x := rfl
@[simp] theorem State.modCore_activeShc (f k c : Nat) (g : Core → Core) : (s.modCore f k c g).activeShc = s.activeShc := rfl
@[simp] theorem State.modCore_follower (f k c : Nat) (g : Core → Core) : (s.modCore f k c g).follower = s.follower := rfl
@[simp] theorem State.modCore_firmware (f k c : Nat) (g : Core → Core) : (s.modCore f k c g).firmware = s.firmware := rfl
@[simp] theorem State.modCore_lcs (f k c : Nat) (g : Core → Core) : (s.modCore f k c g).lcs = s.lcs := rfl

/-! modLane writes `lanes`. -/
@[simp] theorem State.modLane_pending (f k c l : Nat) (g : Lane → Lane) : (s.modLane f k c l g).pending = s.pending := rfl
@[simp] theorem State.modLane_out (f k c l : Nat) (g : Lane → Lane) : (s.modLane f k c l g).out = s.out := rfl
@[simp] theorem State.modLane_due (f k c l : Nat) (g : Lane → Lane) : (s.modLane f k c l g).due = s.due := rfl
@[simp] theorem State.modLane_pwrGood (f k c l : Nat) (g : Lane → Lane) : (s.modLane f k c l g).pwrGood = s.pwrGood := rfl
@[simp] theorem State.modLane_tbase (f k c l : Nat) (g : Lane → Lane) : (s.modLane f k c l g).tbase = s.tbase := rfl
@[simp] theorem State.modLane_draws (f k c l : Nat) (g : Lane → Lane) : (s.modLane f k c l g).draws = s.draws := rfl
@[simp] theorem State.modLane_free (f k c l : Nat) (g : Lane → Lane) : (s.modLane f k c l g).free = s.free := rfl
@[simp] theorem State.modLane_start (f k c l : Nat) (g : Lane → Lane) : (s.modLane f k c l g).start = s.start := rfl
@[simp] theorem State.modLane_life (f k c l : Nat) (g : Lane → Lane) : (s.modLane f k c l g).life = s.life := rfl
@[simp] theorem State.modLane_refclk (f k c l : Nat) (g : Lane → Lane) : (s.modLane f k c l g).refclk = s.refclk := rfl
@[simp] theorem State.modLane_qspi (f k c l : Nat) (g : Lane → Lane) : (s.modLane f k c l g).qspi = s.qspi := rfl
@[simp] theorem State.modLane_pins (f k c l : Nat) (g : Lane → Lane) : (s.modLane f k c l g).pins = s.pins := rfl
@[simp] theorem State.modLane_ferr (f k c l : Nat) (g : Lane → Lane) : (s.modLane f k c l g).ferr = s.ferr := rfl
@[simp] theorem State.modLane_hif (f k c l : Nat) (g : Lane → Lane) : (s.modLane f k c l g).hif = s.hif := rfl
@[simp] theorem State.modLane_tally (f k c l : Nat) (g : Lane → Lane) : (s.modLane f k c l g).tally = s.tally := rfl
@[simp] theorem State.modLane_policy (f k c l : Nat) (g : Lane → Lane) : (s.modLane f k c l g).policy = s.policy := rfl
@[simp] theorem State.modLane_fields (f k c l : Nat) (g : Lane → Lane) : (s.modLane f k c l g).fields = s.fields := rfl
@[simp] theorem State.modLane_flocks (f k c l : Nat) (g : Lane → Lane) : (s.modLane f k c l g).flocks = s.flocks := rfl
@[simp] theorem State.modLane_cores (f k c l : Nat) (g : Lane → Lane) : (s.modLane f k c l g).cores = s.cores := rfl
@[simp] theorem State.modLane_crooks (f k c l : Nat) (g : Lane → Lane) : (s.modLane f k c l g).crooks = s.crooks := rfl
@[simp] theorem State.modLane_taps (f k c l : Nat) (g : Lane → Lane) : (s.modLane f k c l g).taps = s.taps := rfl
@[simp] theorem State.modLane_mems (f k c l : Nat) (g : Lane → Lane) : (s.modLane f k c l g).mems = s.mems := rfl
@[simp] theorem State.modLane_pair (f k c l : Nat) (g : Lane → Lane) : (s.modLane f k c l g).pair = s.pair := rfl
@[simp] theorem State.modLane_fw (f k c l : Nat) (g : Lane → Lane) : (s.modLane f k c l g).fw = s.fw := rfl
@[simp] theorem State.modLane_screen (f k c l : Nat) (g : Lane → Lane) : (s.modLane f k c l g).screen = s.screen := rfl
@[simp] theorem State.modLane_job (f k c l : Nat) (g : Lane → Lane) : (s.modLane f k c l g).job = s.job := rfl
@[simp] theorem State.modLane_recovery (f k c l : Nat) (g : Lane → Lane) : (s.modLane f k c l g).recovery = s.recovery := rfl
@[simp] theorem State.modLane_musters (f k c l : Nat) (g : Lane → Lane) : (s.modLane f k c l g).musters = s.musters := rfl
@[simp] theorem State.modLane_folds (f k c l : Nat) (g : Lane → Lane) : (s.modLane f k c l g).folds = s.folds := rfl
@[simp] theorem State.modLane_gov (f k c l : Nat) (g : Lane → Lane) : (s.modLane f k c l g).gov = s.gov := rfl
@[simp] theorem State.modLane_govFlocks (f k c l : Nat) (g : Lane → Lane) : (s.modLane f k c l g).govFlocks = s.govFlocks := rfl
@[simp] theorem State.modLane_earmarks (f k c l : Nat) (g : Lane → Lane) : (s.modLane f k c l g).earmarks = s.earmarks := rfl
@[simp] theorem State.modLane_watches (f k c l : Nat) (g : Lane → Lane) : (s.modLane f k c l g).watches = s.watches := rfl
@[simp] theorem State.modLane_power (f k c l : Nat) (g : Lane → Lane) : (s.modLane f k c l g).power = s.power := rfl
@[simp] theorem State.modLane_mesh (f k c l : Nat) (g : Lane → Lane) : (s.modLane f k c l g).mesh = s.mesh := rfl
@[simp] theorem State.modLane_i3c (f k c l : Nat) (g : Lane → Lane) : (s.modLane f k c l g).i3c = s.i3c := rfl
@[simp] theorem State.modLane_trace (f k c l : Nat) (g : Lane → Lane) : (s.modLane f k c l g).trace = s.trace := rfl
@[simp] theorem State.modLane_jtag (f k c l : Nat) (g : Lane → Lane) : (s.modLane f k c l g).jtag = s.jtag := rfl
@[simp] theorem State.modLane_taints (f k c l : Nat) (g : Lane → Lane) : (s.modLane f k c l g).taints = s.taints := rfl
@[simp] theorem State.modLane_musterOrders (f k c l : Nat) (g : Lane → Lane) : (s.modLane f k c l g).musterOrders = s.musterOrders := rfl
@[simp] theorem State.modLane_field (f k c l : Nat) (g : Lane → Lane) (x : Nat) : (s.modLane f k c l g).field x = s.field x := rfl
@[simp] theorem State.modLane_flock (f k c l : Nat) (g : Lane → Lane) (x y : Nat) : (s.modLane f k c l g).flock x y = s.flock x y := rfl
@[simp] theorem State.modLane_core (f k c l : Nat) (g : Lane → Lane) (x y z : Nat) : (s.modLane f k c l g).core x y z = s.core x y z := rfl
@[simp] theorem State.modLane_crook (f k c l : Nat) (g : Lane → Lane) (x y : Nat) : (s.modLane f k c l g).crook x y = s.crook x y := rfl
@[simp] theorem State.modLane_tap (f k c l : Nat) (g : Lane → Lane) (x : Nat) : (s.modLane f k c l g).tap x = s.tap x := rfl
@[simp] theorem State.modLane_mem (f k c l : Nat) (g : Lane → Lane) (x : Nat) : (s.modLane f k c l g).mem x = s.mem x := rfl
@[simp] theorem State.modLane_gflock (f k c l : Nat) (g : Lane → Lane) (x y : Nat) : (s.modLane f k c l g).gflock x y = s.gflock x y := rfl
@[simp] theorem State.modLane_watch (f k c l : Nat) (g : Lane → Lane) (x : Nat) : (s.modLane f k c l g).watch x = s.watch x := rfl
@[simp] theorem State.modLane_activeShc (f k c l : Nat) (g : Lane → Lane) : (s.modLane f k c l g).activeShc = s.activeShc := rfl
@[simp] theorem State.modLane_follower (f k c l : Nat) (g : Lane → Lane) : (s.modLane f k c l g).follower = s.follower := rfl
@[simp] theorem State.modLane_firmware (f k c l : Nat) (g : Lane → Lane) : (s.modLane f k c l g).firmware = s.firmware := rfl
@[simp] theorem State.modLane_lcs (f k c l : Nat) (g : Lane → Lane) : (s.modLane f k c l g).lcs = s.lcs := rfl

/-! modCrook writes `crooks`. -/
@[simp] theorem State.modCrook_pending (f i : Nat) (g : Crook → Crook) : (s.modCrook f i g).pending = s.pending := rfl
@[simp] theorem State.modCrook_out (f i : Nat) (g : Crook → Crook) : (s.modCrook f i g).out = s.out := rfl
@[simp] theorem State.modCrook_due (f i : Nat) (g : Crook → Crook) : (s.modCrook f i g).due = s.due := rfl
@[simp] theorem State.modCrook_pwrGood (f i : Nat) (g : Crook → Crook) : (s.modCrook f i g).pwrGood = s.pwrGood := rfl
@[simp] theorem State.modCrook_tbase (f i : Nat) (g : Crook → Crook) : (s.modCrook f i g).tbase = s.tbase := rfl
@[simp] theorem State.modCrook_draws (f i : Nat) (g : Crook → Crook) : (s.modCrook f i g).draws = s.draws := rfl
@[simp] theorem State.modCrook_free (f i : Nat) (g : Crook → Crook) : (s.modCrook f i g).free = s.free := rfl
@[simp] theorem State.modCrook_start (f i : Nat) (g : Crook → Crook) : (s.modCrook f i g).start = s.start := rfl
@[simp] theorem State.modCrook_life (f i : Nat) (g : Crook → Crook) : (s.modCrook f i g).life = s.life := rfl
@[simp] theorem State.modCrook_refclk (f i : Nat) (g : Crook → Crook) : (s.modCrook f i g).refclk = s.refclk := rfl
@[simp] theorem State.modCrook_qspi (f i : Nat) (g : Crook → Crook) : (s.modCrook f i g).qspi = s.qspi := rfl
@[simp] theorem State.modCrook_pins (f i : Nat) (g : Crook → Crook) : (s.modCrook f i g).pins = s.pins := rfl
@[simp] theorem State.modCrook_ferr (f i : Nat) (g : Crook → Crook) : (s.modCrook f i g).ferr = s.ferr := rfl
@[simp] theorem State.modCrook_hif (f i : Nat) (g : Crook → Crook) : (s.modCrook f i g).hif = s.hif := rfl
@[simp] theorem State.modCrook_tally (f i : Nat) (g : Crook → Crook) : (s.modCrook f i g).tally = s.tally := rfl
@[simp] theorem State.modCrook_policy (f i : Nat) (g : Crook → Crook) : (s.modCrook f i g).policy = s.policy := rfl
@[simp] theorem State.modCrook_fields (f i : Nat) (g : Crook → Crook) : (s.modCrook f i g).fields = s.fields := rfl
@[simp] theorem State.modCrook_flocks (f i : Nat) (g : Crook → Crook) : (s.modCrook f i g).flocks = s.flocks := rfl
@[simp] theorem State.modCrook_cores (f i : Nat) (g : Crook → Crook) : (s.modCrook f i g).cores = s.cores := rfl
@[simp] theorem State.modCrook_lanes (f i : Nat) (g : Crook → Crook) : (s.modCrook f i g).lanes = s.lanes := rfl
@[simp] theorem State.modCrook_taps (f i : Nat) (g : Crook → Crook) : (s.modCrook f i g).taps = s.taps := rfl
@[simp] theorem State.modCrook_mems (f i : Nat) (g : Crook → Crook) : (s.modCrook f i g).mems = s.mems := rfl
@[simp] theorem State.modCrook_pair (f i : Nat) (g : Crook → Crook) : (s.modCrook f i g).pair = s.pair := rfl
@[simp] theorem State.modCrook_fw (f i : Nat) (g : Crook → Crook) : (s.modCrook f i g).fw = s.fw := rfl
@[simp] theorem State.modCrook_screen (f i : Nat) (g : Crook → Crook) : (s.modCrook f i g).screen = s.screen := rfl
@[simp] theorem State.modCrook_job (f i : Nat) (g : Crook → Crook) : (s.modCrook f i g).job = s.job := rfl
@[simp] theorem State.modCrook_recovery (f i : Nat) (g : Crook → Crook) : (s.modCrook f i g).recovery = s.recovery := rfl
@[simp] theorem State.modCrook_musters (f i : Nat) (g : Crook → Crook) : (s.modCrook f i g).musters = s.musters := rfl
@[simp] theorem State.modCrook_folds (f i : Nat) (g : Crook → Crook) : (s.modCrook f i g).folds = s.folds := rfl
@[simp] theorem State.modCrook_gov (f i : Nat) (g : Crook → Crook) : (s.modCrook f i g).gov = s.gov := rfl
@[simp] theorem State.modCrook_govFlocks (f i : Nat) (g : Crook → Crook) : (s.modCrook f i g).govFlocks = s.govFlocks := rfl
@[simp] theorem State.modCrook_earmarks (f i : Nat) (g : Crook → Crook) : (s.modCrook f i g).earmarks = s.earmarks := rfl
@[simp] theorem State.modCrook_watches (f i : Nat) (g : Crook → Crook) : (s.modCrook f i g).watches = s.watches := rfl
@[simp] theorem State.modCrook_power (f i : Nat) (g : Crook → Crook) : (s.modCrook f i g).power = s.power := rfl
@[simp] theorem State.modCrook_mesh (f i : Nat) (g : Crook → Crook) : (s.modCrook f i g).mesh = s.mesh := rfl
@[simp] theorem State.modCrook_i3c (f i : Nat) (g : Crook → Crook) : (s.modCrook f i g).i3c = s.i3c := rfl
@[simp] theorem State.modCrook_trace (f i : Nat) (g : Crook → Crook) : (s.modCrook f i g).trace = s.trace := rfl
@[simp] theorem State.modCrook_jtag (f i : Nat) (g : Crook → Crook) : (s.modCrook f i g).jtag = s.jtag := rfl
@[simp] theorem State.modCrook_taints (f i : Nat) (g : Crook → Crook) : (s.modCrook f i g).taints = s.taints := rfl
@[simp] theorem State.modCrook_musterOrders (f i : Nat) (g : Crook → Crook) : (s.modCrook f i g).musterOrders = s.musterOrders := rfl
@[simp] theorem State.modCrook_field (f i : Nat) (g : Crook → Crook) (x : Nat) : (s.modCrook f i g).field x = s.field x := rfl
@[simp] theorem State.modCrook_flock (f i : Nat) (g : Crook → Crook) (x y : Nat) : (s.modCrook f i g).flock x y = s.flock x y := rfl
@[simp] theorem State.modCrook_core (f i : Nat) (g : Crook → Crook) (x y z : Nat) : (s.modCrook f i g).core x y z = s.core x y z := rfl
@[simp] theorem State.modCrook_lane (f i : Nat) (g : Crook → Crook) (x y z u : Nat) : (s.modCrook f i g).lane x y z u = s.lane x y z u := rfl
@[simp] theorem State.modCrook_tap (f i : Nat) (g : Crook → Crook) (x : Nat) : (s.modCrook f i g).tap x = s.tap x := rfl
@[simp] theorem State.modCrook_mem (f i : Nat) (g : Crook → Crook) (x : Nat) : (s.modCrook f i g).mem x = s.mem x := rfl
@[simp] theorem State.modCrook_gflock (f i : Nat) (g : Crook → Crook) (x y : Nat) : (s.modCrook f i g).gflock x y = s.gflock x y := rfl
@[simp] theorem State.modCrook_watch (f i : Nat) (g : Crook → Crook) (x : Nat) : (s.modCrook f i g).watch x = s.watch x := rfl
@[simp] theorem State.modCrook_activeShc (f i : Nat) (g : Crook → Crook) : (s.modCrook f i g).activeShc = s.activeShc := rfl
@[simp] theorem State.modCrook_follower (f i : Nat) (g : Crook → Crook) : (s.modCrook f i g).follower = s.follower := rfl
@[simp] theorem State.modCrook_firmware (f i : Nat) (g : Crook → Crook) : (s.modCrook f i g).firmware = s.firmware := rfl
@[simp] theorem State.modCrook_lcs (f i : Nat) (g : Crook → Crook) : (s.modCrook f i g).lcs = s.lcs := rfl

/-! modTap writes `taps`. -/
@[simp] theorem State.modTap_pending (t : Nat) (g : LinkTap → LinkTap) : (s.modTap t g).pending = s.pending := rfl
@[simp] theorem State.modTap_out (t : Nat) (g : LinkTap → LinkTap) : (s.modTap t g).out = s.out := rfl
@[simp] theorem State.modTap_due (t : Nat) (g : LinkTap → LinkTap) : (s.modTap t g).due = s.due := rfl
@[simp] theorem State.modTap_pwrGood (t : Nat) (g : LinkTap → LinkTap) : (s.modTap t g).pwrGood = s.pwrGood := rfl
@[simp] theorem State.modTap_tbase (t : Nat) (g : LinkTap → LinkTap) : (s.modTap t g).tbase = s.tbase := rfl
@[simp] theorem State.modTap_draws (t : Nat) (g : LinkTap → LinkTap) : (s.modTap t g).draws = s.draws := rfl
@[simp] theorem State.modTap_free (t : Nat) (g : LinkTap → LinkTap) : (s.modTap t g).free = s.free := rfl
@[simp] theorem State.modTap_start (t : Nat) (g : LinkTap → LinkTap) : (s.modTap t g).start = s.start := rfl
@[simp] theorem State.modTap_life (t : Nat) (g : LinkTap → LinkTap) : (s.modTap t g).life = s.life := rfl
@[simp] theorem State.modTap_refclk (t : Nat) (g : LinkTap → LinkTap) : (s.modTap t g).refclk = s.refclk := rfl
@[simp] theorem State.modTap_qspi (t : Nat) (g : LinkTap → LinkTap) : (s.modTap t g).qspi = s.qspi := rfl
@[simp] theorem State.modTap_pins (t : Nat) (g : LinkTap → LinkTap) : (s.modTap t g).pins = s.pins := rfl
@[simp] theorem State.modTap_ferr (t : Nat) (g : LinkTap → LinkTap) : (s.modTap t g).ferr = s.ferr := rfl
@[simp] theorem State.modTap_hif (t : Nat) (g : LinkTap → LinkTap) : (s.modTap t g).hif = s.hif := rfl
@[simp] theorem State.modTap_tally (t : Nat) (g : LinkTap → LinkTap) : (s.modTap t g).tally = s.tally := rfl
@[simp] theorem State.modTap_policy (t : Nat) (g : LinkTap → LinkTap) : (s.modTap t g).policy = s.policy := rfl
@[simp] theorem State.modTap_fields (t : Nat) (g : LinkTap → LinkTap) : (s.modTap t g).fields = s.fields := rfl
@[simp] theorem State.modTap_flocks (t : Nat) (g : LinkTap → LinkTap) : (s.modTap t g).flocks = s.flocks := rfl
@[simp] theorem State.modTap_cores (t : Nat) (g : LinkTap → LinkTap) : (s.modTap t g).cores = s.cores := rfl
@[simp] theorem State.modTap_lanes (t : Nat) (g : LinkTap → LinkTap) : (s.modTap t g).lanes = s.lanes := rfl
@[simp] theorem State.modTap_crooks (t : Nat) (g : LinkTap → LinkTap) : (s.modTap t g).crooks = s.crooks := rfl
@[simp] theorem State.modTap_mems (t : Nat) (g : LinkTap → LinkTap) : (s.modTap t g).mems = s.mems := rfl
@[simp] theorem State.modTap_pair (t : Nat) (g : LinkTap → LinkTap) : (s.modTap t g).pair = s.pair := rfl
@[simp] theorem State.modTap_fw (t : Nat) (g : LinkTap → LinkTap) : (s.modTap t g).fw = s.fw := rfl
@[simp] theorem State.modTap_screen (t : Nat) (g : LinkTap → LinkTap) : (s.modTap t g).screen = s.screen := rfl
@[simp] theorem State.modTap_job (t : Nat) (g : LinkTap → LinkTap) : (s.modTap t g).job = s.job := rfl
@[simp] theorem State.modTap_recovery (t : Nat) (g : LinkTap → LinkTap) : (s.modTap t g).recovery = s.recovery := rfl
@[simp] theorem State.modTap_musters (t : Nat) (g : LinkTap → LinkTap) : (s.modTap t g).musters = s.musters := rfl
@[simp] theorem State.modTap_folds (t : Nat) (g : LinkTap → LinkTap) : (s.modTap t g).folds = s.folds := rfl
@[simp] theorem State.modTap_gov (t : Nat) (g : LinkTap → LinkTap) : (s.modTap t g).gov = s.gov := rfl
@[simp] theorem State.modTap_govFlocks (t : Nat) (g : LinkTap → LinkTap) : (s.modTap t g).govFlocks = s.govFlocks := rfl
@[simp] theorem State.modTap_earmarks (t : Nat) (g : LinkTap → LinkTap) : (s.modTap t g).earmarks = s.earmarks := rfl
@[simp] theorem State.modTap_watches (t : Nat) (g : LinkTap → LinkTap) : (s.modTap t g).watches = s.watches := rfl
@[simp] theorem State.modTap_power (t : Nat) (g : LinkTap → LinkTap) : (s.modTap t g).power = s.power := rfl
@[simp] theorem State.modTap_mesh (t : Nat) (g : LinkTap → LinkTap) : (s.modTap t g).mesh = s.mesh := rfl
@[simp] theorem State.modTap_i3c (t : Nat) (g : LinkTap → LinkTap) : (s.modTap t g).i3c = s.i3c := rfl
@[simp] theorem State.modTap_trace (t : Nat) (g : LinkTap → LinkTap) : (s.modTap t g).trace = s.trace := rfl
@[simp] theorem State.modTap_jtag (t : Nat) (g : LinkTap → LinkTap) : (s.modTap t g).jtag = s.jtag := rfl
@[simp] theorem State.modTap_taints (t : Nat) (g : LinkTap → LinkTap) : (s.modTap t g).taints = s.taints := rfl
@[simp] theorem State.modTap_musterOrders (t : Nat) (g : LinkTap → LinkTap) : (s.modTap t g).musterOrders = s.musterOrders := rfl
@[simp] theorem State.modTap_field (t : Nat) (g : LinkTap → LinkTap) (x : Nat) : (s.modTap t g).field x = s.field x := rfl
@[simp] theorem State.modTap_flock (t : Nat) (g : LinkTap → LinkTap) (x y : Nat) : (s.modTap t g).flock x y = s.flock x y := rfl
@[simp] theorem State.modTap_core (t : Nat) (g : LinkTap → LinkTap) (x y z : Nat) : (s.modTap t g).core x y z = s.core x y z := rfl
@[simp] theorem State.modTap_lane (t : Nat) (g : LinkTap → LinkTap) (x y z u : Nat) : (s.modTap t g).lane x y z u = s.lane x y z u := rfl
@[simp] theorem State.modTap_crook (t : Nat) (g : LinkTap → LinkTap) (x y : Nat) : (s.modTap t g).crook x y = s.crook x y := rfl
@[simp] theorem State.modTap_mem (t : Nat) (g : LinkTap → LinkTap) (x : Nat) : (s.modTap t g).mem x = s.mem x := rfl
@[simp] theorem State.modTap_gflock (t : Nat) (g : LinkTap → LinkTap) (x y : Nat) : (s.modTap t g).gflock x y = s.gflock x y := rfl
@[simp] theorem State.modTap_watch (t : Nat) (g : LinkTap → LinkTap) (x : Nat) : (s.modTap t g).watch x = s.watch x := rfl
@[simp] theorem State.modTap_activeShc (t : Nat) (g : LinkTap → LinkTap) : (s.modTap t g).activeShc = s.activeShc := rfl
@[simp] theorem State.modTap_follower (t : Nat) (g : LinkTap → LinkTap) : (s.modTap t g).follower = s.follower := rfl
@[simp] theorem State.modTap_firmware (t : Nat) (g : LinkTap → LinkTap) : (s.modTap t g).firmware = s.firmware := rfl
@[simp] theorem State.modTap_lcs (t : Nat) (g : LinkTap → LinkTap) : (s.modTap t g).lcs = s.lcs := rfl

/-! modMem writes `mems`. -/
@[simp] theorem State.modMem_pending (t : Nat) (g : MemTap → MemTap) : (s.modMem t g).pending = s.pending := rfl
@[simp] theorem State.modMem_out (t : Nat) (g : MemTap → MemTap) : (s.modMem t g).out = s.out := rfl
@[simp] theorem State.modMem_due (t : Nat) (g : MemTap → MemTap) : (s.modMem t g).due = s.due := rfl
@[simp] theorem State.modMem_pwrGood (t : Nat) (g : MemTap → MemTap) : (s.modMem t g).pwrGood = s.pwrGood := rfl
@[simp] theorem State.modMem_tbase (t : Nat) (g : MemTap → MemTap) : (s.modMem t g).tbase = s.tbase := rfl
@[simp] theorem State.modMem_draws (t : Nat) (g : MemTap → MemTap) : (s.modMem t g).draws = s.draws := rfl
@[simp] theorem State.modMem_free (t : Nat) (g : MemTap → MemTap) : (s.modMem t g).free = s.free := rfl
@[simp] theorem State.modMem_start (t : Nat) (g : MemTap → MemTap) : (s.modMem t g).start = s.start := rfl
@[simp] theorem State.modMem_life (t : Nat) (g : MemTap → MemTap) : (s.modMem t g).life = s.life := rfl
@[simp] theorem State.modMem_refclk (t : Nat) (g : MemTap → MemTap) : (s.modMem t g).refclk = s.refclk := rfl
@[simp] theorem State.modMem_qspi (t : Nat) (g : MemTap → MemTap) : (s.modMem t g).qspi = s.qspi := rfl
@[simp] theorem State.modMem_pins (t : Nat) (g : MemTap → MemTap) : (s.modMem t g).pins = s.pins := rfl
@[simp] theorem State.modMem_ferr (t : Nat) (g : MemTap → MemTap) : (s.modMem t g).ferr = s.ferr := rfl
@[simp] theorem State.modMem_hif (t : Nat) (g : MemTap → MemTap) : (s.modMem t g).hif = s.hif := rfl
@[simp] theorem State.modMem_tally (t : Nat) (g : MemTap → MemTap) : (s.modMem t g).tally = s.tally := rfl
@[simp] theorem State.modMem_policy (t : Nat) (g : MemTap → MemTap) : (s.modMem t g).policy = s.policy := rfl
@[simp] theorem State.modMem_fields (t : Nat) (g : MemTap → MemTap) : (s.modMem t g).fields = s.fields := rfl
@[simp] theorem State.modMem_flocks (t : Nat) (g : MemTap → MemTap) : (s.modMem t g).flocks = s.flocks := rfl
@[simp] theorem State.modMem_cores (t : Nat) (g : MemTap → MemTap) : (s.modMem t g).cores = s.cores := rfl
@[simp] theorem State.modMem_lanes (t : Nat) (g : MemTap → MemTap) : (s.modMem t g).lanes = s.lanes := rfl
@[simp] theorem State.modMem_crooks (t : Nat) (g : MemTap → MemTap) : (s.modMem t g).crooks = s.crooks := rfl
@[simp] theorem State.modMem_taps (t : Nat) (g : MemTap → MemTap) : (s.modMem t g).taps = s.taps := rfl
@[simp] theorem State.modMem_pair (t : Nat) (g : MemTap → MemTap) : (s.modMem t g).pair = s.pair := rfl
@[simp] theorem State.modMem_fw (t : Nat) (g : MemTap → MemTap) : (s.modMem t g).fw = s.fw := rfl
@[simp] theorem State.modMem_screen (t : Nat) (g : MemTap → MemTap) : (s.modMem t g).screen = s.screen := rfl
@[simp] theorem State.modMem_job (t : Nat) (g : MemTap → MemTap) : (s.modMem t g).job = s.job := rfl
@[simp] theorem State.modMem_recovery (t : Nat) (g : MemTap → MemTap) : (s.modMem t g).recovery = s.recovery := rfl
@[simp] theorem State.modMem_musters (t : Nat) (g : MemTap → MemTap) : (s.modMem t g).musters = s.musters := rfl
@[simp] theorem State.modMem_folds (t : Nat) (g : MemTap → MemTap) : (s.modMem t g).folds = s.folds := rfl
@[simp] theorem State.modMem_gov (t : Nat) (g : MemTap → MemTap) : (s.modMem t g).gov = s.gov := rfl
@[simp] theorem State.modMem_govFlocks (t : Nat) (g : MemTap → MemTap) : (s.modMem t g).govFlocks = s.govFlocks := rfl
@[simp] theorem State.modMem_earmarks (t : Nat) (g : MemTap → MemTap) : (s.modMem t g).earmarks = s.earmarks := rfl
@[simp] theorem State.modMem_watches (t : Nat) (g : MemTap → MemTap) : (s.modMem t g).watches = s.watches := rfl
@[simp] theorem State.modMem_power (t : Nat) (g : MemTap → MemTap) : (s.modMem t g).power = s.power := rfl
@[simp] theorem State.modMem_mesh (t : Nat) (g : MemTap → MemTap) : (s.modMem t g).mesh = s.mesh := rfl
@[simp] theorem State.modMem_i3c (t : Nat) (g : MemTap → MemTap) : (s.modMem t g).i3c = s.i3c := rfl
@[simp] theorem State.modMem_trace (t : Nat) (g : MemTap → MemTap) : (s.modMem t g).trace = s.trace := rfl
@[simp] theorem State.modMem_jtag (t : Nat) (g : MemTap → MemTap) : (s.modMem t g).jtag = s.jtag := rfl
@[simp] theorem State.modMem_taints (t : Nat) (g : MemTap → MemTap) : (s.modMem t g).taints = s.taints := rfl
@[simp] theorem State.modMem_musterOrders (t : Nat) (g : MemTap → MemTap) : (s.modMem t g).musterOrders = s.musterOrders := rfl
@[simp] theorem State.modMem_field (t : Nat) (g : MemTap → MemTap) (x : Nat) : (s.modMem t g).field x = s.field x := rfl
@[simp] theorem State.modMem_flock (t : Nat) (g : MemTap → MemTap) (x y : Nat) : (s.modMem t g).flock x y = s.flock x y := rfl
@[simp] theorem State.modMem_core (t : Nat) (g : MemTap → MemTap) (x y z : Nat) : (s.modMem t g).core x y z = s.core x y z := rfl
@[simp] theorem State.modMem_lane (t : Nat) (g : MemTap → MemTap) (x y z u : Nat) : (s.modMem t g).lane x y z u = s.lane x y z u := rfl
@[simp] theorem State.modMem_crook (t : Nat) (g : MemTap → MemTap) (x y : Nat) : (s.modMem t g).crook x y = s.crook x y := rfl
@[simp] theorem State.modMem_tap (t : Nat) (g : MemTap → MemTap) (x : Nat) : (s.modMem t g).tap x = s.tap x := rfl
@[simp] theorem State.modMem_gflock (t : Nat) (g : MemTap → MemTap) (x y : Nat) : (s.modMem t g).gflock x y = s.gflock x y := rfl
@[simp] theorem State.modMem_watch (t : Nat) (g : MemTap → MemTap) (x : Nat) : (s.modMem t g).watch x = s.watch x := rfl
@[simp] theorem State.modMem_activeShc (t : Nat) (g : MemTap → MemTap) : (s.modMem t g).activeShc = s.activeShc := rfl
@[simp] theorem State.modMem_follower (t : Nat) (g : MemTap → MemTap) : (s.modMem t g).follower = s.follower := rfl
@[simp] theorem State.modMem_firmware (t : Nat) (g : MemTap → MemTap) : (s.modMem t g).firmware = s.firmware := rfl
@[simp] theorem State.modMem_lcs (t : Nat) (g : MemTap → MemTap) : (s.modMem t g).lcs = s.lcs := rfl

/-! modGflock writes `govFlocks`. -/
@[simp] theorem State.modGflock_pending (f k : Nat) (g : GovFlock → GovFlock) : (s.modGflock f k g).pending = s.pending := rfl
@[simp] theorem State.modGflock_out (f k : Nat) (g : GovFlock → GovFlock) : (s.modGflock f k g).out = s.out := rfl
@[simp] theorem State.modGflock_due (f k : Nat) (g : GovFlock → GovFlock) : (s.modGflock f k g).due = s.due := rfl
@[simp] theorem State.modGflock_pwrGood (f k : Nat) (g : GovFlock → GovFlock) : (s.modGflock f k g).pwrGood = s.pwrGood := rfl
@[simp] theorem State.modGflock_tbase (f k : Nat) (g : GovFlock → GovFlock) : (s.modGflock f k g).tbase = s.tbase := rfl
@[simp] theorem State.modGflock_draws (f k : Nat) (g : GovFlock → GovFlock) : (s.modGflock f k g).draws = s.draws := rfl
@[simp] theorem State.modGflock_free (f k : Nat) (g : GovFlock → GovFlock) : (s.modGflock f k g).free = s.free := rfl
@[simp] theorem State.modGflock_start (f k : Nat) (g : GovFlock → GovFlock) : (s.modGflock f k g).start = s.start := rfl
@[simp] theorem State.modGflock_life (f k : Nat) (g : GovFlock → GovFlock) : (s.modGflock f k g).life = s.life := rfl
@[simp] theorem State.modGflock_refclk (f k : Nat) (g : GovFlock → GovFlock) : (s.modGflock f k g).refclk = s.refclk := rfl
@[simp] theorem State.modGflock_qspi (f k : Nat) (g : GovFlock → GovFlock) : (s.modGflock f k g).qspi = s.qspi := rfl
@[simp] theorem State.modGflock_pins (f k : Nat) (g : GovFlock → GovFlock) : (s.modGflock f k g).pins = s.pins := rfl
@[simp] theorem State.modGflock_ferr (f k : Nat) (g : GovFlock → GovFlock) : (s.modGflock f k g).ferr = s.ferr := rfl
@[simp] theorem State.modGflock_hif (f k : Nat) (g : GovFlock → GovFlock) : (s.modGflock f k g).hif = s.hif := rfl
@[simp] theorem State.modGflock_tally (f k : Nat) (g : GovFlock → GovFlock) : (s.modGflock f k g).tally = s.tally := rfl
@[simp] theorem State.modGflock_policy (f k : Nat) (g : GovFlock → GovFlock) : (s.modGflock f k g).policy = s.policy := rfl
@[simp] theorem State.modGflock_fields (f k : Nat) (g : GovFlock → GovFlock) : (s.modGflock f k g).fields = s.fields := rfl
@[simp] theorem State.modGflock_flocks (f k : Nat) (g : GovFlock → GovFlock) : (s.modGflock f k g).flocks = s.flocks := rfl
@[simp] theorem State.modGflock_cores (f k : Nat) (g : GovFlock → GovFlock) : (s.modGflock f k g).cores = s.cores := rfl
@[simp] theorem State.modGflock_lanes (f k : Nat) (g : GovFlock → GovFlock) : (s.modGflock f k g).lanes = s.lanes := rfl
@[simp] theorem State.modGflock_crooks (f k : Nat) (g : GovFlock → GovFlock) : (s.modGflock f k g).crooks = s.crooks := rfl
@[simp] theorem State.modGflock_taps (f k : Nat) (g : GovFlock → GovFlock) : (s.modGflock f k g).taps = s.taps := rfl
@[simp] theorem State.modGflock_mems (f k : Nat) (g : GovFlock → GovFlock) : (s.modGflock f k g).mems = s.mems := rfl
@[simp] theorem State.modGflock_pair (f k : Nat) (g : GovFlock → GovFlock) : (s.modGflock f k g).pair = s.pair := rfl
@[simp] theorem State.modGflock_fw (f k : Nat) (g : GovFlock → GovFlock) : (s.modGflock f k g).fw = s.fw := rfl
@[simp] theorem State.modGflock_screen (f k : Nat) (g : GovFlock → GovFlock) : (s.modGflock f k g).screen = s.screen := rfl
@[simp] theorem State.modGflock_job (f k : Nat) (g : GovFlock → GovFlock) : (s.modGflock f k g).job = s.job := rfl
@[simp] theorem State.modGflock_recovery (f k : Nat) (g : GovFlock → GovFlock) : (s.modGflock f k g).recovery = s.recovery := rfl
@[simp] theorem State.modGflock_musters (f k : Nat) (g : GovFlock → GovFlock) : (s.modGflock f k g).musters = s.musters := rfl
@[simp] theorem State.modGflock_folds (f k : Nat) (g : GovFlock → GovFlock) : (s.modGflock f k g).folds = s.folds := rfl
@[simp] theorem State.modGflock_gov (f k : Nat) (g : GovFlock → GovFlock) : (s.modGflock f k g).gov = s.gov := rfl
@[simp] theorem State.modGflock_earmarks (f k : Nat) (g : GovFlock → GovFlock) : (s.modGflock f k g).earmarks = s.earmarks := rfl
@[simp] theorem State.modGflock_watches (f k : Nat) (g : GovFlock → GovFlock) : (s.modGflock f k g).watches = s.watches := rfl
@[simp] theorem State.modGflock_power (f k : Nat) (g : GovFlock → GovFlock) : (s.modGflock f k g).power = s.power := rfl
@[simp] theorem State.modGflock_mesh (f k : Nat) (g : GovFlock → GovFlock) : (s.modGflock f k g).mesh = s.mesh := rfl
@[simp] theorem State.modGflock_i3c (f k : Nat) (g : GovFlock → GovFlock) : (s.modGflock f k g).i3c = s.i3c := rfl
@[simp] theorem State.modGflock_trace (f k : Nat) (g : GovFlock → GovFlock) : (s.modGflock f k g).trace = s.trace := rfl
@[simp] theorem State.modGflock_jtag (f k : Nat) (g : GovFlock → GovFlock) : (s.modGflock f k g).jtag = s.jtag := rfl
@[simp] theorem State.modGflock_taints (f k : Nat) (g : GovFlock → GovFlock) : (s.modGflock f k g).taints = s.taints := rfl
@[simp] theorem State.modGflock_musterOrders (f k : Nat) (g : GovFlock → GovFlock) : (s.modGflock f k g).musterOrders = s.musterOrders := rfl
@[simp] theorem State.modGflock_field (f k : Nat) (g : GovFlock → GovFlock) (x : Nat) : (s.modGflock f k g).field x = s.field x := rfl
@[simp] theorem State.modGflock_flock (f k : Nat) (g : GovFlock → GovFlock) (x y : Nat) : (s.modGflock f k g).flock x y = s.flock x y := rfl
@[simp] theorem State.modGflock_core (f k : Nat) (g : GovFlock → GovFlock) (x y z : Nat) : (s.modGflock f k g).core x y z = s.core x y z := rfl
@[simp] theorem State.modGflock_lane (f k : Nat) (g : GovFlock → GovFlock) (x y z u : Nat) : (s.modGflock f k g).lane x y z u = s.lane x y z u := rfl
@[simp] theorem State.modGflock_crook (f k : Nat) (g : GovFlock → GovFlock) (x y : Nat) : (s.modGflock f k g).crook x y = s.crook x y := rfl
@[simp] theorem State.modGflock_tap (f k : Nat) (g : GovFlock → GovFlock) (x : Nat) : (s.modGflock f k g).tap x = s.tap x := rfl
@[simp] theorem State.modGflock_mem (f k : Nat) (g : GovFlock → GovFlock) (x : Nat) : (s.modGflock f k g).mem x = s.mem x := rfl
@[simp] theorem State.modGflock_watch (f k : Nat) (g : GovFlock → GovFlock) (x : Nat) : (s.modGflock f k g).watch x = s.watch x := rfl
@[simp] theorem State.modGflock_activeShc (f k : Nat) (g : GovFlock → GovFlock) : (s.modGflock f k g).activeShc = s.activeShc := rfl
@[simp] theorem State.modGflock_follower (f k : Nat) (g : GovFlock → GovFlock) : (s.modGflock f k g).follower = s.follower := rfl
@[simp] theorem State.modGflock_firmware (f k : Nat) (g : GovFlock → GovFlock) : (s.modGflock f k g).firmware = s.firmware := rfl
@[simp] theorem State.modGflock_lcs (f k : Nat) (g : GovFlock → GovFlock) : (s.modGflock f k g).lcs = s.lcs := rfl

/-! modWatch writes `watches`. -/
@[simp] theorem State.modWatch_pending (w : Nat) (g : Watch → Watch) : (s.modWatch w g).pending = s.pending := rfl
@[simp] theorem State.modWatch_out (w : Nat) (g : Watch → Watch) : (s.modWatch w g).out = s.out := rfl
@[simp] theorem State.modWatch_due (w : Nat) (g : Watch → Watch) : (s.modWatch w g).due = s.due := rfl
@[simp] theorem State.modWatch_pwrGood (w : Nat) (g : Watch → Watch) : (s.modWatch w g).pwrGood = s.pwrGood := rfl
@[simp] theorem State.modWatch_tbase (w : Nat) (g : Watch → Watch) : (s.modWatch w g).tbase = s.tbase := rfl
@[simp] theorem State.modWatch_draws (w : Nat) (g : Watch → Watch) : (s.modWatch w g).draws = s.draws := rfl
@[simp] theorem State.modWatch_free (w : Nat) (g : Watch → Watch) : (s.modWatch w g).free = s.free := rfl
@[simp] theorem State.modWatch_start (w : Nat) (g : Watch → Watch) : (s.modWatch w g).start = s.start := rfl
@[simp] theorem State.modWatch_life (w : Nat) (g : Watch → Watch) : (s.modWatch w g).life = s.life := rfl
@[simp] theorem State.modWatch_refclk (w : Nat) (g : Watch → Watch) : (s.modWatch w g).refclk = s.refclk := rfl
@[simp] theorem State.modWatch_qspi (w : Nat) (g : Watch → Watch) : (s.modWatch w g).qspi = s.qspi := rfl
@[simp] theorem State.modWatch_pins (w : Nat) (g : Watch → Watch) : (s.modWatch w g).pins = s.pins := rfl
@[simp] theorem State.modWatch_ferr (w : Nat) (g : Watch → Watch) : (s.modWatch w g).ferr = s.ferr := rfl
@[simp] theorem State.modWatch_hif (w : Nat) (g : Watch → Watch) : (s.modWatch w g).hif = s.hif := rfl
@[simp] theorem State.modWatch_tally (w : Nat) (g : Watch → Watch) : (s.modWatch w g).tally = s.tally := rfl
@[simp] theorem State.modWatch_policy (w : Nat) (g : Watch → Watch) : (s.modWatch w g).policy = s.policy := rfl
@[simp] theorem State.modWatch_fields (w : Nat) (g : Watch → Watch) : (s.modWatch w g).fields = s.fields := rfl
@[simp] theorem State.modWatch_flocks (w : Nat) (g : Watch → Watch) : (s.modWatch w g).flocks = s.flocks := rfl
@[simp] theorem State.modWatch_cores (w : Nat) (g : Watch → Watch) : (s.modWatch w g).cores = s.cores := rfl
@[simp] theorem State.modWatch_lanes (w : Nat) (g : Watch → Watch) : (s.modWatch w g).lanes = s.lanes := rfl
@[simp] theorem State.modWatch_crooks (w : Nat) (g : Watch → Watch) : (s.modWatch w g).crooks = s.crooks := rfl
@[simp] theorem State.modWatch_taps (w : Nat) (g : Watch → Watch) : (s.modWatch w g).taps = s.taps := rfl
@[simp] theorem State.modWatch_mems (w : Nat) (g : Watch → Watch) : (s.modWatch w g).mems = s.mems := rfl
@[simp] theorem State.modWatch_pair (w : Nat) (g : Watch → Watch) : (s.modWatch w g).pair = s.pair := rfl
@[simp] theorem State.modWatch_fw (w : Nat) (g : Watch → Watch) : (s.modWatch w g).fw = s.fw := rfl
@[simp] theorem State.modWatch_screen (w : Nat) (g : Watch → Watch) : (s.modWatch w g).screen = s.screen := rfl
@[simp] theorem State.modWatch_job (w : Nat) (g : Watch → Watch) : (s.modWatch w g).job = s.job := rfl
@[simp] theorem State.modWatch_recovery (w : Nat) (g : Watch → Watch) : (s.modWatch w g).recovery = s.recovery := rfl
@[simp] theorem State.modWatch_musters (w : Nat) (g : Watch → Watch) : (s.modWatch w g).musters = s.musters := rfl
@[simp] theorem State.modWatch_folds (w : Nat) (g : Watch → Watch) : (s.modWatch w g).folds = s.folds := rfl
@[simp] theorem State.modWatch_gov (w : Nat) (g : Watch → Watch) : (s.modWatch w g).gov = s.gov := rfl
@[simp] theorem State.modWatch_govFlocks (w : Nat) (g : Watch → Watch) : (s.modWatch w g).govFlocks = s.govFlocks := rfl
@[simp] theorem State.modWatch_earmarks (w : Nat) (g : Watch → Watch) : (s.modWatch w g).earmarks = s.earmarks := rfl
@[simp] theorem State.modWatch_power (w : Nat) (g : Watch → Watch) : (s.modWatch w g).power = s.power := rfl
@[simp] theorem State.modWatch_mesh (w : Nat) (g : Watch → Watch) : (s.modWatch w g).mesh = s.mesh := rfl
@[simp] theorem State.modWatch_i3c (w : Nat) (g : Watch → Watch) : (s.modWatch w g).i3c = s.i3c := rfl
@[simp] theorem State.modWatch_trace (w : Nat) (g : Watch → Watch) : (s.modWatch w g).trace = s.trace := rfl
@[simp] theorem State.modWatch_jtag (w : Nat) (g : Watch → Watch) : (s.modWatch w g).jtag = s.jtag := rfl
@[simp] theorem State.modWatch_taints (w : Nat) (g : Watch → Watch) : (s.modWatch w g).taints = s.taints := rfl
@[simp] theorem State.modWatch_musterOrders (w : Nat) (g : Watch → Watch) : (s.modWatch w g).musterOrders = s.musterOrders := rfl
@[simp] theorem State.modWatch_field (w : Nat) (g : Watch → Watch) (x : Nat) : (s.modWatch w g).field x = s.field x := rfl
@[simp] theorem State.modWatch_flock (w : Nat) (g : Watch → Watch) (x y : Nat) : (s.modWatch w g).flock x y = s.flock x y := rfl
@[simp] theorem State.modWatch_core (w : Nat) (g : Watch → Watch) (x y z : Nat) : (s.modWatch w g).core x y z = s.core x y z := rfl
@[simp] theorem State.modWatch_lane (w : Nat) (g : Watch → Watch) (x y z u : Nat) : (s.modWatch w g).lane x y z u = s.lane x y z u := rfl
@[simp] theorem State.modWatch_crook (w : Nat) (g : Watch → Watch) (x y : Nat) : (s.modWatch w g).crook x y = s.crook x y := rfl
@[simp] theorem State.modWatch_tap (w : Nat) (g : Watch → Watch) (x : Nat) : (s.modWatch w g).tap x = s.tap x := rfl
@[simp] theorem State.modWatch_mem (w : Nat) (g : Watch → Watch) (x : Nat) : (s.modWatch w g).mem x = s.mem x := rfl
@[simp] theorem State.modWatch_gflock (w : Nat) (g : Watch → Watch) (x y : Nat) : (s.modWatch w g).gflock x y = s.gflock x y := rfl
@[simp] theorem State.modWatch_activeShc (w : Nat) (g : Watch → Watch) : (s.modWatch w g).activeShc = s.activeShc := rfl
@[simp] theorem State.modWatch_follower (w : Nat) (g : Watch → Watch) : (s.modWatch w g).follower = s.follower := rfl
@[simp] theorem State.modWatch_firmware (w : Nat) (g : Watch → Watch) : (s.modWatch w g).firmware = s.firmware := rfl
@[simp] theorem State.modWatch_lcs (w : Nat) (g : Watch → Watch) : (s.modWatch w g).lcs = s.lcs := rfl

/-! drive writes `out`. -/
@[simp] theorem State.drive_pending (o : Output) : (s.drive o).pending = s.pending := rfl
@[simp] theorem State.drive_out (o : Output) : (s.drive o).out = s.out ++ [o] := rfl
@[simp] theorem State.drive_due (o : Output) : (s.drive o).due = s.due := rfl
@[simp] theorem State.drive_pwrGood (o : Output) : (s.drive o).pwrGood = s.pwrGood := rfl
@[simp] theorem State.drive_tbase (o : Output) : (s.drive o).tbase = s.tbase := rfl
@[simp] theorem State.drive_draws (o : Output) : (s.drive o).draws = s.draws := rfl
@[simp] theorem State.drive_free (o : Output) : (s.drive o).free = s.free := rfl
@[simp] theorem State.drive_start (o : Output) : (s.drive o).start = s.start := rfl
@[simp] theorem State.drive_life (o : Output) : (s.drive o).life = s.life := rfl
@[simp] theorem State.drive_refclk (o : Output) : (s.drive o).refclk = s.refclk := rfl
@[simp] theorem State.drive_qspi (o : Output) : (s.drive o).qspi = s.qspi := rfl
@[simp] theorem State.drive_pins (o : Output) : (s.drive o).pins = s.pins := rfl
@[simp] theorem State.drive_ferr (o : Output) : (s.drive o).ferr = s.ferr := rfl
@[simp] theorem State.drive_hif (o : Output) : (s.drive o).hif = s.hif := rfl
@[simp] theorem State.drive_tally (o : Output) : (s.drive o).tally = s.tally := rfl
@[simp] theorem State.drive_policy (o : Output) : (s.drive o).policy = s.policy := rfl
@[simp] theorem State.drive_fields (o : Output) : (s.drive o).fields = s.fields := rfl
@[simp] theorem State.drive_flocks (o : Output) : (s.drive o).flocks = s.flocks := rfl
@[simp] theorem State.drive_cores (o : Output) : (s.drive o).cores = s.cores := rfl
@[simp] theorem State.drive_lanes (o : Output) : (s.drive o).lanes = s.lanes := rfl
@[simp] theorem State.drive_crooks (o : Output) : (s.drive o).crooks = s.crooks := rfl
@[simp] theorem State.drive_taps (o : Output) : (s.drive o).taps = s.taps := rfl
@[simp] theorem State.drive_mems (o : Output) : (s.drive o).mems = s.mems := rfl
@[simp] theorem State.drive_pair (o : Output) : (s.drive o).pair = s.pair := rfl
@[simp] theorem State.drive_fw (o : Output) : (s.drive o).fw = s.fw := rfl
@[simp] theorem State.drive_screen (o : Output) : (s.drive o).screen = s.screen := rfl
@[simp] theorem State.drive_job (o : Output) : (s.drive o).job = s.job := rfl
@[simp] theorem State.drive_recovery (o : Output) : (s.drive o).recovery = s.recovery := rfl
@[simp] theorem State.drive_musters (o : Output) : (s.drive o).musters = s.musters := rfl
@[simp] theorem State.drive_folds (o : Output) : (s.drive o).folds = s.folds := rfl
@[simp] theorem State.drive_gov (o : Output) : (s.drive o).gov = s.gov := rfl
@[simp] theorem State.drive_govFlocks (o : Output) : (s.drive o).govFlocks = s.govFlocks := rfl
@[simp] theorem State.drive_earmarks (o : Output) : (s.drive o).earmarks = s.earmarks := rfl
@[simp] theorem State.drive_watches (o : Output) : (s.drive o).watches = s.watches := rfl
@[simp] theorem State.drive_power (o : Output) : (s.drive o).power = s.power := rfl
@[simp] theorem State.drive_mesh (o : Output) : (s.drive o).mesh = s.mesh := rfl
@[simp] theorem State.drive_i3c (o : Output) : (s.drive o).i3c = s.i3c := rfl
@[simp] theorem State.drive_trace (o : Output) : (s.drive o).trace = s.trace := rfl
@[simp] theorem State.drive_jtag (o : Output) : (s.drive o).jtag = s.jtag := rfl
@[simp] theorem State.drive_taints (o : Output) : (s.drive o).taints = s.taints := rfl
@[simp] theorem State.drive_musterOrders (o : Output) : (s.drive o).musterOrders = s.musterOrders := rfl
@[simp] theorem State.drive_field (o : Output) (x : Nat) : (s.drive o).field x = s.field x := rfl
@[simp] theorem State.drive_flock (o : Output) (x y : Nat) : (s.drive o).flock x y = s.flock x y := rfl
@[simp] theorem State.drive_core (o : Output) (x y z : Nat) : (s.drive o).core x y z = s.core x y z := rfl
@[simp] theorem State.drive_lane (o : Output) (x y z u : Nat) : (s.drive o).lane x y z u = s.lane x y z u := rfl
@[simp] theorem State.drive_crook (o : Output) (x y : Nat) : (s.drive o).crook x y = s.crook x y := rfl
@[simp] theorem State.drive_tap (o : Output) (x : Nat) : (s.drive o).tap x = s.tap x := rfl
@[simp] theorem State.drive_mem (o : Output) (x : Nat) : (s.drive o).mem x = s.mem x := rfl
@[simp] theorem State.drive_gflock (o : Output) (x y : Nat) : (s.drive o).gflock x y = s.gflock x y := rfl
@[simp] theorem State.drive_watch (o : Output) (x : Nat) : (s.drive o).watch x = s.watch x := rfl
@[simp] theorem State.drive_activeShc (o : Output) : (s.drive o).activeShc = s.activeShc := rfl
@[simp] theorem State.drive_follower (o : Output) : (s.drive o).follower = s.follower := rfl
@[simp] theorem State.drive_firmware (o : Output) : (s.drive o).firmware = s.firmware := rfl
@[simp] theorem State.drive_lcs (o : Output) : (s.drive o).lcs = s.lcs := rfl

/-! sig writes `out`. -/
@[simp] theorem State.sig_pending (n : Sig) (a v : Nat) : (s.sig n a v).pending = s.pending := rfl
@[simp] theorem State.sig_out (n : Sig) (a v : Nat) : (s.sig n a v).out = s.out ++ [.sig n a v] := rfl
@[simp] theorem State.sig_due (n : Sig) (a v : Nat) : (s.sig n a v).due = s.due := rfl
@[simp] theorem State.sig_pwrGood (n : Sig) (a v : Nat) : (s.sig n a v).pwrGood = s.pwrGood := rfl
@[simp] theorem State.sig_tbase (n : Sig) (a v : Nat) : (s.sig n a v).tbase = s.tbase := rfl
@[simp] theorem State.sig_draws (n : Sig) (a v : Nat) : (s.sig n a v).draws = s.draws := rfl
@[simp] theorem State.sig_free (n : Sig) (a v : Nat) : (s.sig n a v).free = s.free := rfl
@[simp] theorem State.sig_start (n : Sig) (a v : Nat) : (s.sig n a v).start = s.start := rfl
@[simp] theorem State.sig_life (n : Sig) (a v : Nat) : (s.sig n a v).life = s.life := rfl
@[simp] theorem State.sig_refclk (n : Sig) (a v : Nat) : (s.sig n a v).refclk = s.refclk := rfl
@[simp] theorem State.sig_qspi (n : Sig) (a v : Nat) : (s.sig n a v).qspi = s.qspi := rfl
@[simp] theorem State.sig_pins (n : Sig) (a v : Nat) : (s.sig n a v).pins = s.pins := rfl
@[simp] theorem State.sig_ferr (n : Sig) (a v : Nat) : (s.sig n a v).ferr = s.ferr := rfl
@[simp] theorem State.sig_hif (n : Sig) (a v : Nat) : (s.sig n a v).hif = s.hif := rfl
@[simp] theorem State.sig_tally (n : Sig) (a v : Nat) : (s.sig n a v).tally = s.tally := rfl
@[simp] theorem State.sig_policy (n : Sig) (a v : Nat) : (s.sig n a v).policy = s.policy := rfl
@[simp] theorem State.sig_fields (n : Sig) (a v : Nat) : (s.sig n a v).fields = s.fields := rfl
@[simp] theorem State.sig_flocks (n : Sig) (a v : Nat) : (s.sig n a v).flocks = s.flocks := rfl
@[simp] theorem State.sig_cores (n : Sig) (a v : Nat) : (s.sig n a v).cores = s.cores := rfl
@[simp] theorem State.sig_lanes (n : Sig) (a v : Nat) : (s.sig n a v).lanes = s.lanes := rfl
@[simp] theorem State.sig_crooks (n : Sig) (a v : Nat) : (s.sig n a v).crooks = s.crooks := rfl
@[simp] theorem State.sig_taps (n : Sig) (a v : Nat) : (s.sig n a v).taps = s.taps := rfl
@[simp] theorem State.sig_mems (n : Sig) (a v : Nat) : (s.sig n a v).mems = s.mems := rfl
@[simp] theorem State.sig_pair (n : Sig) (a v : Nat) : (s.sig n a v).pair = s.pair := rfl
@[simp] theorem State.sig_fw (n : Sig) (a v : Nat) : (s.sig n a v).fw = s.fw := rfl
@[simp] theorem State.sig_screen (n : Sig) (a v : Nat) : (s.sig n a v).screen = s.screen := rfl
@[simp] theorem State.sig_job (n : Sig) (a v : Nat) : (s.sig n a v).job = s.job := rfl
@[simp] theorem State.sig_recovery (n : Sig) (a v : Nat) : (s.sig n a v).recovery = s.recovery := rfl
@[simp] theorem State.sig_musters (n : Sig) (a v : Nat) : (s.sig n a v).musters = s.musters := rfl
@[simp] theorem State.sig_folds (n : Sig) (a v : Nat) : (s.sig n a v).folds = s.folds := rfl
@[simp] theorem State.sig_gov (n : Sig) (a v : Nat) : (s.sig n a v).gov = s.gov := rfl
@[simp] theorem State.sig_govFlocks (n : Sig) (a v : Nat) : (s.sig n a v).govFlocks = s.govFlocks := rfl
@[simp] theorem State.sig_earmarks (n : Sig) (a v : Nat) : (s.sig n a v).earmarks = s.earmarks := rfl
@[simp] theorem State.sig_watches (n : Sig) (a v : Nat) : (s.sig n a v).watches = s.watches := rfl
@[simp] theorem State.sig_power (n : Sig) (a v : Nat) : (s.sig n a v).power = s.power := rfl
@[simp] theorem State.sig_mesh (n : Sig) (a v : Nat) : (s.sig n a v).mesh = s.mesh := rfl
@[simp] theorem State.sig_i3c (n : Sig) (a v : Nat) : (s.sig n a v).i3c = s.i3c := rfl
@[simp] theorem State.sig_trace (n : Sig) (a v : Nat) : (s.sig n a v).trace = s.trace := rfl
@[simp] theorem State.sig_jtag (n : Sig) (a v : Nat) : (s.sig n a v).jtag = s.jtag := rfl
@[simp] theorem State.sig_taints (n : Sig) (a v : Nat) : (s.sig n a v).taints = s.taints := rfl
@[simp] theorem State.sig_musterOrders (n : Sig) (a v : Nat) : (s.sig n a v).musterOrders = s.musterOrders := rfl
@[simp] theorem State.sig_field (n : Sig) (a v : Nat) (x : Nat) : (s.sig n a v).field x = s.field x := rfl
@[simp] theorem State.sig_flock (n : Sig) (a v : Nat) (x y : Nat) : (s.sig n a v).flock x y = s.flock x y := rfl
@[simp] theorem State.sig_core (n : Sig) (a v : Nat) (x y z : Nat) : (s.sig n a v).core x y z = s.core x y z := rfl
@[simp] theorem State.sig_lane (n : Sig) (a v : Nat) (x y z u : Nat) : (s.sig n a v).lane x y z u = s.lane x y z u := rfl
@[simp] theorem State.sig_crook (n : Sig) (a v : Nat) (x y : Nat) : (s.sig n a v).crook x y = s.crook x y := rfl
@[simp] theorem State.sig_tap (n : Sig) (a v : Nat) (x : Nat) : (s.sig n a v).tap x = s.tap x := rfl
@[simp] theorem State.sig_mem (n : Sig) (a v : Nat) (x : Nat) : (s.sig n a v).mem x = s.mem x := rfl
@[simp] theorem State.sig_gflock (n : Sig) (a v : Nat) (x y : Nat) : (s.sig n a v).gflock x y = s.gflock x y := rfl
@[simp] theorem State.sig_watch (n : Sig) (a v : Nat) (x : Nat) : (s.sig n a v).watch x = s.watch x := rfl
@[simp] theorem State.sig_activeShc (n : Sig) (a v : Nat) : (s.sig n a v).activeShc = s.activeShc := rfl
@[simp] theorem State.sig_follower (n : Sig) (a v : Nat) : (s.sig n a v).follower = s.follower := rfl
@[simp] theorem State.sig_firmware (n : Sig) (a v : Nat) : (s.sig n a v).firmware = s.firmware := rfl
@[simp] theorem State.sig_lcs (n : Sig) (a v : Nat) : (s.sig n a v).lcs = s.lcs := rfl

/-! advanceTo writes `tbase`. -/
@[simp] theorem State.advanceTo_pending (t : Nat) : (s.advanceTo t).pending = s.pending := rfl
@[simp] theorem State.advanceTo_out (t : Nat) : (s.advanceTo t).out = s.out := rfl
@[simp] theorem State.advanceTo_due (t : Nat) : (s.advanceTo t).due = s.due := rfl
@[simp] theorem State.advanceTo_pwrGood (t : Nat) : (s.advanceTo t).pwrGood = s.pwrGood := rfl
@[simp] theorem State.advanceTo_tbase (t : Nat) : (s.advanceTo t).tbase = max s.tbase t := rfl
@[simp] theorem State.advanceTo_draws (t : Nat) : (s.advanceTo t).draws = s.draws := rfl
@[simp] theorem State.advanceTo_free (t : Nat) : (s.advanceTo t).free = s.free := rfl
@[simp] theorem State.advanceTo_start (t : Nat) : (s.advanceTo t).start = s.start := rfl
@[simp] theorem State.advanceTo_life (t : Nat) : (s.advanceTo t).life = s.life := rfl
@[simp] theorem State.advanceTo_refclk (t : Nat) : (s.advanceTo t).refclk = s.refclk := rfl
@[simp] theorem State.advanceTo_qspi (t : Nat) : (s.advanceTo t).qspi = s.qspi := rfl
@[simp] theorem State.advanceTo_pins (t : Nat) : (s.advanceTo t).pins = s.pins := rfl
@[simp] theorem State.advanceTo_ferr (t : Nat) : (s.advanceTo t).ferr = s.ferr := rfl
@[simp] theorem State.advanceTo_hif (t : Nat) : (s.advanceTo t).hif = s.hif := rfl
@[simp] theorem State.advanceTo_tally (t : Nat) : (s.advanceTo t).tally = s.tally := rfl
@[simp] theorem State.advanceTo_policy (t : Nat) : (s.advanceTo t).policy = s.policy := rfl
@[simp] theorem State.advanceTo_fields (t : Nat) : (s.advanceTo t).fields = s.fields := rfl
@[simp] theorem State.advanceTo_flocks (t : Nat) : (s.advanceTo t).flocks = s.flocks := rfl
@[simp] theorem State.advanceTo_cores (t : Nat) : (s.advanceTo t).cores = s.cores := rfl
@[simp] theorem State.advanceTo_lanes (t : Nat) : (s.advanceTo t).lanes = s.lanes := rfl
@[simp] theorem State.advanceTo_crooks (t : Nat) : (s.advanceTo t).crooks = s.crooks := rfl
@[simp] theorem State.advanceTo_taps (t : Nat) : (s.advanceTo t).taps = s.taps := rfl
@[simp] theorem State.advanceTo_mems (t : Nat) : (s.advanceTo t).mems = s.mems := rfl
@[simp] theorem State.advanceTo_pair (t : Nat) : (s.advanceTo t).pair = s.pair := rfl
@[simp] theorem State.advanceTo_fw (t : Nat) : (s.advanceTo t).fw = s.fw := rfl
@[simp] theorem State.advanceTo_screen (t : Nat) : (s.advanceTo t).screen = s.screen := rfl
@[simp] theorem State.advanceTo_job (t : Nat) : (s.advanceTo t).job = s.job := rfl
@[simp] theorem State.advanceTo_recovery (t : Nat) : (s.advanceTo t).recovery = s.recovery := rfl
@[simp] theorem State.advanceTo_musters (t : Nat) : (s.advanceTo t).musters = s.musters := rfl
@[simp] theorem State.advanceTo_folds (t : Nat) : (s.advanceTo t).folds = s.folds := rfl
@[simp] theorem State.advanceTo_gov (t : Nat) : (s.advanceTo t).gov = s.gov := rfl
@[simp] theorem State.advanceTo_govFlocks (t : Nat) : (s.advanceTo t).govFlocks = s.govFlocks := rfl
@[simp] theorem State.advanceTo_earmarks (t : Nat) : (s.advanceTo t).earmarks = s.earmarks := rfl
@[simp] theorem State.advanceTo_watches (t : Nat) : (s.advanceTo t).watches = s.watches := rfl
@[simp] theorem State.advanceTo_power (t : Nat) : (s.advanceTo t).power = s.power := rfl
@[simp] theorem State.advanceTo_mesh (t : Nat) : (s.advanceTo t).mesh = s.mesh := rfl
@[simp] theorem State.advanceTo_i3c (t : Nat) : (s.advanceTo t).i3c = s.i3c := rfl
@[simp] theorem State.advanceTo_trace (t : Nat) : (s.advanceTo t).trace = s.trace := rfl
@[simp] theorem State.advanceTo_jtag (t : Nat) : (s.advanceTo t).jtag = s.jtag := rfl
@[simp] theorem State.advanceTo_taints (t : Nat) : (s.advanceTo t).taints = s.taints := rfl
@[simp] theorem State.advanceTo_musterOrders (t : Nat) : (s.advanceTo t).musterOrders = s.musterOrders := rfl
@[simp] theorem State.advanceTo_field (t : Nat) (x : Nat) : (s.advanceTo t).field x = s.field x := rfl
@[simp] theorem State.advanceTo_flock (t : Nat) (x y : Nat) : (s.advanceTo t).flock x y = s.flock x y := rfl
@[simp] theorem State.advanceTo_core (t : Nat) (x y z : Nat) : (s.advanceTo t).core x y z = s.core x y z := rfl
@[simp] theorem State.advanceTo_lane (t : Nat) (x y z u : Nat) : (s.advanceTo t).lane x y z u = s.lane x y z u := rfl
@[simp] theorem State.advanceTo_crook (t : Nat) (x y : Nat) : (s.advanceTo t).crook x y = s.crook x y := rfl
@[simp] theorem State.advanceTo_tap (t : Nat) (x : Nat) : (s.advanceTo t).tap x = s.tap x := rfl
@[simp] theorem State.advanceTo_mem (t : Nat) (x : Nat) : (s.advanceTo t).mem x = s.mem x := rfl
@[simp] theorem State.advanceTo_gflock (t : Nat) (x y : Nat) : (s.advanceTo t).gflock x y = s.gflock x y := rfl
@[simp] theorem State.advanceTo_watch (t : Nat) (x : Nat) : (s.advanceTo t).watch x = s.watch x := rfl
@[simp] theorem State.advanceTo_activeShc (t : Nat) : (s.advanceTo t).activeShc = s.activeShc := rfl
@[simp] theorem State.advanceTo_follower (t : Nat) : (s.advanceTo t).follower = s.follower := rfl
@[simp] theorem State.advanceTo_firmware (t : Nat) : (s.advanceTo t).firmware = s.firmware := rfl
@[simp] theorem State.advanceTo_lcs (t : Nat) : (s.advanceTo t).lcs = s.lcs := rfl

/-! modHif writes `hif`. -/
@[simp] theorem State.modHif_pending (g : Hif → Hif) : (s.modHif g).pending = s.pending := rfl
@[simp] theorem State.modHif_out (g : Hif → Hif) : (s.modHif g).out = s.out := rfl
@[simp] theorem State.modHif_due (g : Hif → Hif) : (s.modHif g).due = s.due := rfl
@[simp] theorem State.modHif_pwrGood (g : Hif → Hif) : (s.modHif g).pwrGood = s.pwrGood := rfl
@[simp] theorem State.modHif_tbase (g : Hif → Hif) : (s.modHif g).tbase = s.tbase := rfl
@[simp] theorem State.modHif_draws (g : Hif → Hif) : (s.modHif g).draws = s.draws := rfl
@[simp] theorem State.modHif_free (g : Hif → Hif) : (s.modHif g).free = s.free := rfl
@[simp] theorem State.modHif_start (g : Hif → Hif) : (s.modHif g).start = s.start := rfl
@[simp] theorem State.modHif_life (g : Hif → Hif) : (s.modHif g).life = s.life := rfl
@[simp] theorem State.modHif_refclk (g : Hif → Hif) : (s.modHif g).refclk = s.refclk := rfl
@[simp] theorem State.modHif_qspi (g : Hif → Hif) : (s.modHif g).qspi = s.qspi := rfl
@[simp] theorem State.modHif_pins (g : Hif → Hif) : (s.modHif g).pins = s.pins := rfl
@[simp] theorem State.modHif_ferr (g : Hif → Hif) : (s.modHif g).ferr = s.ferr := rfl
@[simp] theorem State.modHif_hif (g : Hif → Hif) : (s.modHif g).hif = g s.hif := rfl
@[simp] theorem State.modHif_tally (g : Hif → Hif) : (s.modHif g).tally = s.tally := rfl
@[simp] theorem State.modHif_policy (g : Hif → Hif) : (s.modHif g).policy = s.policy := rfl
@[simp] theorem State.modHif_fields (g : Hif → Hif) : (s.modHif g).fields = s.fields := rfl
@[simp] theorem State.modHif_flocks (g : Hif → Hif) : (s.modHif g).flocks = s.flocks := rfl
@[simp] theorem State.modHif_cores (g : Hif → Hif) : (s.modHif g).cores = s.cores := rfl
@[simp] theorem State.modHif_lanes (g : Hif → Hif) : (s.modHif g).lanes = s.lanes := rfl
@[simp] theorem State.modHif_crooks (g : Hif → Hif) : (s.modHif g).crooks = s.crooks := rfl
@[simp] theorem State.modHif_taps (g : Hif → Hif) : (s.modHif g).taps = s.taps := rfl
@[simp] theorem State.modHif_mems (g : Hif → Hif) : (s.modHif g).mems = s.mems := rfl
@[simp] theorem State.modHif_pair (g : Hif → Hif) : (s.modHif g).pair = s.pair := rfl
@[simp] theorem State.modHif_fw (g : Hif → Hif) : (s.modHif g).fw = s.fw := rfl
@[simp] theorem State.modHif_screen (g : Hif → Hif) : (s.modHif g).screen = s.screen := rfl
@[simp] theorem State.modHif_job (g : Hif → Hif) : (s.modHif g).job = s.job := rfl
@[simp] theorem State.modHif_recovery (g : Hif → Hif) : (s.modHif g).recovery = s.recovery := rfl
@[simp] theorem State.modHif_musters (g : Hif → Hif) : (s.modHif g).musters = s.musters := rfl
@[simp] theorem State.modHif_folds (g : Hif → Hif) : (s.modHif g).folds = s.folds := rfl
@[simp] theorem State.modHif_gov (g : Hif → Hif) : (s.modHif g).gov = s.gov := rfl
@[simp] theorem State.modHif_govFlocks (g : Hif → Hif) : (s.modHif g).govFlocks = s.govFlocks := rfl
@[simp] theorem State.modHif_earmarks (g : Hif → Hif) : (s.modHif g).earmarks = s.earmarks := rfl
@[simp] theorem State.modHif_watches (g : Hif → Hif) : (s.modHif g).watches = s.watches := rfl
@[simp] theorem State.modHif_power (g : Hif → Hif) : (s.modHif g).power = s.power := rfl
@[simp] theorem State.modHif_mesh (g : Hif → Hif) : (s.modHif g).mesh = s.mesh := rfl
@[simp] theorem State.modHif_i3c (g : Hif → Hif) : (s.modHif g).i3c = s.i3c := rfl
@[simp] theorem State.modHif_trace (g : Hif → Hif) : (s.modHif g).trace = s.trace := rfl
@[simp] theorem State.modHif_jtag (g : Hif → Hif) : (s.modHif g).jtag = s.jtag := rfl
@[simp] theorem State.modHif_taints (g : Hif → Hif) : (s.modHif g).taints = s.taints := rfl
@[simp] theorem State.modHif_musterOrders (g : Hif → Hif) : (s.modHif g).musterOrders = s.musterOrders := rfl
@[simp] theorem State.modHif_field (g : Hif → Hif) (x : Nat) : (s.modHif g).field x = s.field x := rfl
@[simp] theorem State.modHif_flock (g : Hif → Hif) (x y : Nat) : (s.modHif g).flock x y = s.flock x y := rfl
@[simp] theorem State.modHif_core (g : Hif → Hif) (x y z : Nat) : (s.modHif g).core x y z = s.core x y z := rfl
@[simp] theorem State.modHif_lane (g : Hif → Hif) (x y z u : Nat) : (s.modHif g).lane x y z u = s.lane x y z u := rfl
@[simp] theorem State.modHif_crook (g : Hif → Hif) (x y : Nat) : (s.modHif g).crook x y = s.crook x y := rfl
@[simp] theorem State.modHif_tap (g : Hif → Hif) (x : Nat) : (s.modHif g).tap x = s.tap x := rfl
@[simp] theorem State.modHif_mem (g : Hif → Hif) (x : Nat) : (s.modHif g).mem x = s.mem x := rfl
@[simp] theorem State.modHif_gflock (g : Hif → Hif) (x y : Nat) : (s.modHif g).gflock x y = s.gflock x y := rfl
@[simp] theorem State.modHif_watch (g : Hif → Hif) (x : Nat) : (s.modHif g).watch x = s.watch x := rfl
@[simp] theorem State.modHif_activeShc (g : Hif → Hif) : (s.modHif g).activeShc = s.activeShc := rfl
@[simp] theorem State.modHif_follower (g : Hif → Hif) : (s.modHif g).follower = s.follower := rfl
@[simp] theorem State.modHif_firmware (g : Hif → Hif) : (s.modHif g).firmware = s.firmware := rfl
@[simp] theorem State.modHif_lcs (g : Hif → Hif) : (s.modHif g).lcs = s.lcs := rfl

/-! modRec writes `recovery`. -/
@[simp] theorem State.modRec_pending (g : Recovery → Recovery) : (s.modRec g).pending = s.pending := rfl
@[simp] theorem State.modRec_out (g : Recovery → Recovery) : (s.modRec g).out = s.out := rfl
@[simp] theorem State.modRec_due (g : Recovery → Recovery) : (s.modRec g).due = s.due := rfl
@[simp] theorem State.modRec_pwrGood (g : Recovery → Recovery) : (s.modRec g).pwrGood = s.pwrGood := rfl
@[simp] theorem State.modRec_tbase (g : Recovery → Recovery) : (s.modRec g).tbase = s.tbase := rfl
@[simp] theorem State.modRec_draws (g : Recovery → Recovery) : (s.modRec g).draws = s.draws := rfl
@[simp] theorem State.modRec_free (g : Recovery → Recovery) : (s.modRec g).free = s.free := rfl
@[simp] theorem State.modRec_start (g : Recovery → Recovery) : (s.modRec g).start = s.start := rfl
@[simp] theorem State.modRec_life (g : Recovery → Recovery) : (s.modRec g).life = s.life := rfl
@[simp] theorem State.modRec_refclk (g : Recovery → Recovery) : (s.modRec g).refclk = s.refclk := rfl
@[simp] theorem State.modRec_qspi (g : Recovery → Recovery) : (s.modRec g).qspi = s.qspi := rfl
@[simp] theorem State.modRec_pins (g : Recovery → Recovery) : (s.modRec g).pins = s.pins := rfl
@[simp] theorem State.modRec_ferr (g : Recovery → Recovery) : (s.modRec g).ferr = s.ferr := rfl
@[simp] theorem State.modRec_hif (g : Recovery → Recovery) : (s.modRec g).hif = s.hif := rfl
@[simp] theorem State.modRec_tally (g : Recovery → Recovery) : (s.modRec g).tally = s.tally := rfl
@[simp] theorem State.modRec_policy (g : Recovery → Recovery) : (s.modRec g).policy = s.policy := rfl
@[simp] theorem State.modRec_fields (g : Recovery → Recovery) : (s.modRec g).fields = s.fields := rfl
@[simp] theorem State.modRec_flocks (g : Recovery → Recovery) : (s.modRec g).flocks = s.flocks := rfl
@[simp] theorem State.modRec_cores (g : Recovery → Recovery) : (s.modRec g).cores = s.cores := rfl
@[simp] theorem State.modRec_lanes (g : Recovery → Recovery) : (s.modRec g).lanes = s.lanes := rfl
@[simp] theorem State.modRec_crooks (g : Recovery → Recovery) : (s.modRec g).crooks = s.crooks := rfl
@[simp] theorem State.modRec_taps (g : Recovery → Recovery) : (s.modRec g).taps = s.taps := rfl
@[simp] theorem State.modRec_mems (g : Recovery → Recovery) : (s.modRec g).mems = s.mems := rfl
@[simp] theorem State.modRec_pair (g : Recovery → Recovery) : (s.modRec g).pair = s.pair := rfl
@[simp] theorem State.modRec_fw (g : Recovery → Recovery) : (s.modRec g).fw = s.fw := rfl
@[simp] theorem State.modRec_screen (g : Recovery → Recovery) : (s.modRec g).screen = s.screen := rfl
@[simp] theorem State.modRec_job (g : Recovery → Recovery) : (s.modRec g).job = s.job := rfl
@[simp] theorem State.modRec_recovery (g : Recovery → Recovery) : (s.modRec g).recovery = g s.recovery := rfl
@[simp] theorem State.modRec_musters (g : Recovery → Recovery) : (s.modRec g).musters = s.musters := rfl
@[simp] theorem State.modRec_folds (g : Recovery → Recovery) : (s.modRec g).folds = s.folds := rfl
@[simp] theorem State.modRec_gov (g : Recovery → Recovery) : (s.modRec g).gov = s.gov := rfl
@[simp] theorem State.modRec_govFlocks (g : Recovery → Recovery) : (s.modRec g).govFlocks = s.govFlocks := rfl
@[simp] theorem State.modRec_earmarks (g : Recovery → Recovery) : (s.modRec g).earmarks = s.earmarks := rfl
@[simp] theorem State.modRec_watches (g : Recovery → Recovery) : (s.modRec g).watches = s.watches := rfl
@[simp] theorem State.modRec_power (g : Recovery → Recovery) : (s.modRec g).power = s.power := rfl
@[simp] theorem State.modRec_mesh (g : Recovery → Recovery) : (s.modRec g).mesh = s.mesh := rfl
@[simp] theorem State.modRec_i3c (g : Recovery → Recovery) : (s.modRec g).i3c = s.i3c := rfl
@[simp] theorem State.modRec_trace (g : Recovery → Recovery) : (s.modRec g).trace = s.trace := rfl
@[simp] theorem State.modRec_jtag (g : Recovery → Recovery) : (s.modRec g).jtag = s.jtag := rfl
@[simp] theorem State.modRec_taints (g : Recovery → Recovery) : (s.modRec g).taints = s.taints := rfl
@[simp] theorem State.modRec_musterOrders (g : Recovery → Recovery) : (s.modRec g).musterOrders = s.musterOrders := rfl
@[simp] theorem State.modRec_field (g : Recovery → Recovery) (x : Nat) : (s.modRec g).field x = s.field x := rfl
@[simp] theorem State.modRec_flock (g : Recovery → Recovery) (x y : Nat) : (s.modRec g).flock x y = s.flock x y := rfl
@[simp] theorem State.modRec_core (g : Recovery → Recovery) (x y z : Nat) : (s.modRec g).core x y z = s.core x y z := rfl
@[simp] theorem State.modRec_lane (g : Recovery → Recovery) (x y z u : Nat) : (s.modRec g).lane x y z u = s.lane x y z u := rfl
@[simp] theorem State.modRec_crook (g : Recovery → Recovery) (x y : Nat) : (s.modRec g).crook x y = s.crook x y := rfl
@[simp] theorem State.modRec_tap (g : Recovery → Recovery) (x : Nat) : (s.modRec g).tap x = s.tap x := rfl
@[simp] theorem State.modRec_mem (g : Recovery → Recovery) (x : Nat) : (s.modRec g).mem x = s.mem x := rfl
@[simp] theorem State.modRec_gflock (g : Recovery → Recovery) (x y : Nat) : (s.modRec g).gflock x y = s.gflock x y := rfl
@[simp] theorem State.modRec_watch (g : Recovery → Recovery) (x : Nat) : (s.modRec g).watch x = s.watch x := rfl
@[simp] theorem State.modRec_activeShc (g : Recovery → Recovery) : (s.modRec g).activeShc = s.activeShc := rfl
@[simp] theorem State.modRec_follower (g : Recovery → Recovery) : (s.modRec g).follower = s.follower := rfl
@[simp] theorem State.modRec_firmware (g : Recovery → Recovery) : (s.modRec g).firmware = s.firmware := rfl
@[simp] theorem State.modRec_lcs (g : Recovery → Recovery) : (s.modRec g).lcs = s.lcs := rfl

/-! modPair writes `pair`. -/
@[simp] theorem State.modPair_pending (g : Pair → Pair) : (s.modPair g).pending = s.pending := rfl
@[simp] theorem State.modPair_out (g : Pair → Pair) : (s.modPair g).out = s.out := rfl
@[simp] theorem State.modPair_due (g : Pair → Pair) : (s.modPair g).due = s.due := rfl
@[simp] theorem State.modPair_pwrGood (g : Pair → Pair) : (s.modPair g).pwrGood = s.pwrGood := rfl
@[simp] theorem State.modPair_tbase (g : Pair → Pair) : (s.modPair g).tbase = s.tbase := rfl
@[simp] theorem State.modPair_draws (g : Pair → Pair) : (s.modPair g).draws = s.draws := rfl
@[simp] theorem State.modPair_free (g : Pair → Pair) : (s.modPair g).free = s.free := rfl
@[simp] theorem State.modPair_start (g : Pair → Pair) : (s.modPair g).start = s.start := rfl
@[simp] theorem State.modPair_life (g : Pair → Pair) : (s.modPair g).life = s.life := rfl
@[simp] theorem State.modPair_refclk (g : Pair → Pair) : (s.modPair g).refclk = s.refclk := rfl
@[simp] theorem State.modPair_qspi (g : Pair → Pair) : (s.modPair g).qspi = s.qspi := rfl
@[simp] theorem State.modPair_pins (g : Pair → Pair) : (s.modPair g).pins = s.pins := rfl
@[simp] theorem State.modPair_ferr (g : Pair → Pair) : (s.modPair g).ferr = s.ferr := rfl
@[simp] theorem State.modPair_hif (g : Pair → Pair) : (s.modPair g).hif = s.hif := rfl
@[simp] theorem State.modPair_tally (g : Pair → Pair) : (s.modPair g).tally = s.tally := rfl
@[simp] theorem State.modPair_policy (g : Pair → Pair) : (s.modPair g).policy = s.policy := rfl
@[simp] theorem State.modPair_fields (g : Pair → Pair) : (s.modPair g).fields = s.fields := rfl
@[simp] theorem State.modPair_flocks (g : Pair → Pair) : (s.modPair g).flocks = s.flocks := rfl
@[simp] theorem State.modPair_cores (g : Pair → Pair) : (s.modPair g).cores = s.cores := rfl
@[simp] theorem State.modPair_lanes (g : Pair → Pair) : (s.modPair g).lanes = s.lanes := rfl
@[simp] theorem State.modPair_crooks (g : Pair → Pair) : (s.modPair g).crooks = s.crooks := rfl
@[simp] theorem State.modPair_taps (g : Pair → Pair) : (s.modPair g).taps = s.taps := rfl
@[simp] theorem State.modPair_mems (g : Pair → Pair) : (s.modPair g).mems = s.mems := rfl
@[simp] theorem State.modPair_pair (g : Pair → Pair) : (s.modPair g).pair = g s.pair := rfl
@[simp] theorem State.modPair_fw (g : Pair → Pair) : (s.modPair g).fw = s.fw := rfl
@[simp] theorem State.modPair_screen (g : Pair → Pair) : (s.modPair g).screen = s.screen := rfl
@[simp] theorem State.modPair_job (g : Pair → Pair) : (s.modPair g).job = s.job := rfl
@[simp] theorem State.modPair_recovery (g : Pair → Pair) : (s.modPair g).recovery = s.recovery := rfl
@[simp] theorem State.modPair_musters (g : Pair → Pair) : (s.modPair g).musters = s.musters := rfl
@[simp] theorem State.modPair_folds (g : Pair → Pair) : (s.modPair g).folds = s.folds := rfl
@[simp] theorem State.modPair_gov (g : Pair → Pair) : (s.modPair g).gov = s.gov := rfl
@[simp] theorem State.modPair_govFlocks (g : Pair → Pair) : (s.modPair g).govFlocks = s.govFlocks := rfl
@[simp] theorem State.modPair_earmarks (g : Pair → Pair) : (s.modPair g).earmarks = s.earmarks := rfl
@[simp] theorem State.modPair_watches (g : Pair → Pair) : (s.modPair g).watches = s.watches := rfl
@[simp] theorem State.modPair_power (g : Pair → Pair) : (s.modPair g).power = s.power := rfl
@[simp] theorem State.modPair_mesh (g : Pair → Pair) : (s.modPair g).mesh = s.mesh := rfl
@[simp] theorem State.modPair_i3c (g : Pair → Pair) : (s.modPair g).i3c = s.i3c := rfl
@[simp] theorem State.modPair_trace (g : Pair → Pair) : (s.modPair g).trace = s.trace := rfl
@[simp] theorem State.modPair_jtag (g : Pair → Pair) : (s.modPair g).jtag = s.jtag := rfl
@[simp] theorem State.modPair_taints (g : Pair → Pair) : (s.modPair g).taints = s.taints := rfl
@[simp] theorem State.modPair_musterOrders (g : Pair → Pair) : (s.modPair g).musterOrders = s.musterOrders := rfl
@[simp] theorem State.modPair_field (g : Pair → Pair) (x : Nat) : (s.modPair g).field x = s.field x := rfl
@[simp] theorem State.modPair_flock (g : Pair → Pair) (x y : Nat) : (s.modPair g).flock x y = s.flock x y := rfl
@[simp] theorem State.modPair_core (g : Pair → Pair) (x y z : Nat) : (s.modPair g).core x y z = s.core x y z := rfl
@[simp] theorem State.modPair_lane (g : Pair → Pair) (x y z u : Nat) : (s.modPair g).lane x y z u = s.lane x y z u := rfl
@[simp] theorem State.modPair_crook (g : Pair → Pair) (x y : Nat) : (s.modPair g).crook x y = s.crook x y := rfl
@[simp] theorem State.modPair_tap (g : Pair → Pair) (x : Nat) : (s.modPair g).tap x = s.tap x := rfl
@[simp] theorem State.modPair_mem (g : Pair → Pair) (x : Nat) : (s.modPair g).mem x = s.mem x := rfl
@[simp] theorem State.modPair_gflock (g : Pair → Pair) (x y : Nat) : (s.modPair g).gflock x y = s.gflock x y := rfl
@[simp] theorem State.modPair_watch (g : Pair → Pair) (x : Nat) : (s.modPair g).watch x = s.watch x := rfl
@[simp] theorem State.modPair_lcs (g : Pair → Pair) : (s.modPair g).lcs = s.lcs := rfl

/-! modPolicy writes `policy`. -/
@[simp] theorem State.modPolicy_pending (g : Policy → Policy) : (s.modPolicy g).pending = s.pending := rfl
@[simp] theorem State.modPolicy_out (g : Policy → Policy) : (s.modPolicy g).out = s.out := rfl
@[simp] theorem State.modPolicy_due (g : Policy → Policy) : (s.modPolicy g).due = s.due := rfl
@[simp] theorem State.modPolicy_pwrGood (g : Policy → Policy) : (s.modPolicy g).pwrGood = s.pwrGood := rfl
@[simp] theorem State.modPolicy_tbase (g : Policy → Policy) : (s.modPolicy g).tbase = s.tbase := rfl
@[simp] theorem State.modPolicy_draws (g : Policy → Policy) : (s.modPolicy g).draws = s.draws := rfl
@[simp] theorem State.modPolicy_free (g : Policy → Policy) : (s.modPolicy g).free = s.free := rfl
@[simp] theorem State.modPolicy_start (g : Policy → Policy) : (s.modPolicy g).start = s.start := rfl
@[simp] theorem State.modPolicy_life (g : Policy → Policy) : (s.modPolicy g).life = s.life := rfl
@[simp] theorem State.modPolicy_refclk (g : Policy → Policy) : (s.modPolicy g).refclk = s.refclk := rfl
@[simp] theorem State.modPolicy_qspi (g : Policy → Policy) : (s.modPolicy g).qspi = s.qspi := rfl
@[simp] theorem State.modPolicy_pins (g : Policy → Policy) : (s.modPolicy g).pins = s.pins := rfl
@[simp] theorem State.modPolicy_ferr (g : Policy → Policy) : (s.modPolicy g).ferr = s.ferr := rfl
@[simp] theorem State.modPolicy_hif (g : Policy → Policy) : (s.modPolicy g).hif = s.hif := rfl
@[simp] theorem State.modPolicy_tally (g : Policy → Policy) : (s.modPolicy g).tally = s.tally := rfl
@[simp] theorem State.modPolicy_policy (g : Policy → Policy) : (s.modPolicy g).policy = g s.policy := rfl
@[simp] theorem State.modPolicy_fields (g : Policy → Policy) : (s.modPolicy g).fields = s.fields := rfl
@[simp] theorem State.modPolicy_flocks (g : Policy → Policy) : (s.modPolicy g).flocks = s.flocks := rfl
@[simp] theorem State.modPolicy_cores (g : Policy → Policy) : (s.modPolicy g).cores = s.cores := rfl
@[simp] theorem State.modPolicy_lanes (g : Policy → Policy) : (s.modPolicy g).lanes = s.lanes := rfl
@[simp] theorem State.modPolicy_crooks (g : Policy → Policy) : (s.modPolicy g).crooks = s.crooks := rfl
@[simp] theorem State.modPolicy_taps (g : Policy → Policy) : (s.modPolicy g).taps = s.taps := rfl
@[simp] theorem State.modPolicy_mems (g : Policy → Policy) : (s.modPolicy g).mems = s.mems := rfl
@[simp] theorem State.modPolicy_pair (g : Policy → Policy) : (s.modPolicy g).pair = s.pair := rfl
@[simp] theorem State.modPolicy_fw (g : Policy → Policy) : (s.modPolicy g).fw = s.fw := rfl
@[simp] theorem State.modPolicy_screen (g : Policy → Policy) : (s.modPolicy g).screen = s.screen := rfl
@[simp] theorem State.modPolicy_job (g : Policy → Policy) : (s.modPolicy g).job = s.job := rfl
@[simp] theorem State.modPolicy_recovery (g : Policy → Policy) : (s.modPolicy g).recovery = s.recovery := rfl
@[simp] theorem State.modPolicy_musters (g : Policy → Policy) : (s.modPolicy g).musters = s.musters := rfl
@[simp] theorem State.modPolicy_folds (g : Policy → Policy) : (s.modPolicy g).folds = s.folds := rfl
@[simp] theorem State.modPolicy_gov (g : Policy → Policy) : (s.modPolicy g).gov = s.gov := rfl
@[simp] theorem State.modPolicy_govFlocks (g : Policy → Policy) : (s.modPolicy g).govFlocks = s.govFlocks := rfl
@[simp] theorem State.modPolicy_earmarks (g : Policy → Policy) : (s.modPolicy g).earmarks = s.earmarks := rfl
@[simp] theorem State.modPolicy_watches (g : Policy → Policy) : (s.modPolicy g).watches = s.watches := rfl
@[simp] theorem State.modPolicy_power (g : Policy → Policy) : (s.modPolicy g).power = s.power := rfl
@[simp] theorem State.modPolicy_mesh (g : Policy → Policy) : (s.modPolicy g).mesh = s.mesh := rfl
@[simp] theorem State.modPolicy_i3c (g : Policy → Policy) : (s.modPolicy g).i3c = s.i3c := rfl
@[simp] theorem State.modPolicy_trace (g : Policy → Policy) : (s.modPolicy g).trace = s.trace := rfl
@[simp] theorem State.modPolicy_jtag (g : Policy → Policy) : (s.modPolicy g).jtag = s.jtag := rfl
@[simp] theorem State.modPolicy_taints (g : Policy → Policy) : (s.modPolicy g).taints = s.taints := rfl
@[simp] theorem State.modPolicy_musterOrders (g : Policy → Policy) : (s.modPolicy g).musterOrders = s.musterOrders := rfl
@[simp] theorem State.modPolicy_field (g : Policy → Policy) (x : Nat) : (s.modPolicy g).field x = s.field x := rfl
@[simp] theorem State.modPolicy_flock (g : Policy → Policy) (x y : Nat) : (s.modPolicy g).flock x y = s.flock x y := rfl
@[simp] theorem State.modPolicy_core (g : Policy → Policy) (x y z : Nat) : (s.modPolicy g).core x y z = s.core x y z := rfl
@[simp] theorem State.modPolicy_lane (g : Policy → Policy) (x y z u : Nat) : (s.modPolicy g).lane x y z u = s.lane x y z u := rfl
@[simp] theorem State.modPolicy_crook (g : Policy → Policy) (x y : Nat) : (s.modPolicy g).crook x y = s.crook x y := rfl
@[simp] theorem State.modPolicy_tap (g : Policy → Policy) (x : Nat) : (s.modPolicy g).tap x = s.tap x := rfl
@[simp] theorem State.modPolicy_mem (g : Policy → Policy) (x : Nat) : (s.modPolicy g).mem x = s.mem x := rfl
@[simp] theorem State.modPolicy_gflock (g : Policy → Policy) (x y : Nat) : (s.modPolicy g).gflock x y = s.gflock x y := rfl
@[simp] theorem State.modPolicy_watch (g : Policy → Policy) (x : Nat) : (s.modPolicy g).watch x = s.watch x := rfl
@[simp] theorem State.modPolicy_activeShc (g : Policy → Policy) : (s.modPolicy g).activeShc = s.activeShc := rfl
@[simp] theorem State.modPolicy_follower (g : Policy → Policy) : (s.modPolicy g).follower = s.follower := rfl
@[simp] theorem State.modPolicy_firmware (g : Policy → Policy) : (s.modPolicy g).firmware = s.firmware := rfl
@[simp] theorem State.modPolicy_lcs (g : Policy → Policy) : (s.modPolicy g).lcs = s.lcs := rfl

/-! modTally writes `tally`. -/
@[simp] theorem State.modTally_pending (g : Tally → Tally) : (s.modTally g).pending = s.pending := rfl
@[simp] theorem State.modTally_out (g : Tally → Tally) : (s.modTally g).out = s.out := rfl
@[simp] theorem State.modTally_due (g : Tally → Tally) : (s.modTally g).due = s.due := rfl
@[simp] theorem State.modTally_pwrGood (g : Tally → Tally) : (s.modTally g).pwrGood = s.pwrGood := rfl
@[simp] theorem State.modTally_tbase (g : Tally → Tally) : (s.modTally g).tbase = s.tbase := rfl
@[simp] theorem State.modTally_draws (g : Tally → Tally) : (s.modTally g).draws = s.draws := rfl
@[simp] theorem State.modTally_free (g : Tally → Tally) : (s.modTally g).free = s.free := rfl
@[simp] theorem State.modTally_start (g : Tally → Tally) : (s.modTally g).start = s.start := rfl
@[simp] theorem State.modTally_life (g : Tally → Tally) : (s.modTally g).life = s.life := rfl
@[simp] theorem State.modTally_refclk (g : Tally → Tally) : (s.modTally g).refclk = s.refclk := rfl
@[simp] theorem State.modTally_qspi (g : Tally → Tally) : (s.modTally g).qspi = s.qspi := rfl
@[simp] theorem State.modTally_pins (g : Tally → Tally) : (s.modTally g).pins = s.pins := rfl
@[simp] theorem State.modTally_ferr (g : Tally → Tally) : (s.modTally g).ferr = s.ferr := rfl
@[simp] theorem State.modTally_hif (g : Tally → Tally) : (s.modTally g).hif = s.hif := rfl
@[simp] theorem State.modTally_tally (g : Tally → Tally) : (s.modTally g).tally = g s.tally := rfl
@[simp] theorem State.modTally_policy (g : Tally → Tally) : (s.modTally g).policy = s.policy := rfl
@[simp] theorem State.modTally_fields (g : Tally → Tally) : (s.modTally g).fields = s.fields := rfl
@[simp] theorem State.modTally_flocks (g : Tally → Tally) : (s.modTally g).flocks = s.flocks := rfl
@[simp] theorem State.modTally_cores (g : Tally → Tally) : (s.modTally g).cores = s.cores := rfl
@[simp] theorem State.modTally_lanes (g : Tally → Tally) : (s.modTally g).lanes = s.lanes := rfl
@[simp] theorem State.modTally_crooks (g : Tally → Tally) : (s.modTally g).crooks = s.crooks := rfl
@[simp] theorem State.modTally_taps (g : Tally → Tally) : (s.modTally g).taps = s.taps := rfl
@[simp] theorem State.modTally_mems (g : Tally → Tally) : (s.modTally g).mems = s.mems := rfl
@[simp] theorem State.modTally_pair (g : Tally → Tally) : (s.modTally g).pair = s.pair := rfl
@[simp] theorem State.modTally_fw (g : Tally → Tally) : (s.modTally g).fw = s.fw := rfl
@[simp] theorem State.modTally_screen (g : Tally → Tally) : (s.modTally g).screen = s.screen := rfl
@[simp] theorem State.modTally_job (g : Tally → Tally) : (s.modTally g).job = s.job := rfl
@[simp] theorem State.modTally_recovery (g : Tally → Tally) : (s.modTally g).recovery = s.recovery := rfl
@[simp] theorem State.modTally_musters (g : Tally → Tally) : (s.modTally g).musters = s.musters := rfl
@[simp] theorem State.modTally_folds (g : Tally → Tally) : (s.modTally g).folds = s.folds := rfl
@[simp] theorem State.modTally_gov (g : Tally → Tally) : (s.modTally g).gov = s.gov := rfl
@[simp] theorem State.modTally_govFlocks (g : Tally → Tally) : (s.modTally g).govFlocks = s.govFlocks := rfl
@[simp] theorem State.modTally_earmarks (g : Tally → Tally) : (s.modTally g).earmarks = s.earmarks := rfl
@[simp] theorem State.modTally_watches (g : Tally → Tally) : (s.modTally g).watches = s.watches := rfl
@[simp] theorem State.modTally_power (g : Tally → Tally) : (s.modTally g).power = s.power := rfl
@[simp] theorem State.modTally_mesh (g : Tally → Tally) : (s.modTally g).mesh = s.mesh := rfl
@[simp] theorem State.modTally_i3c (g : Tally → Tally) : (s.modTally g).i3c = s.i3c := rfl
@[simp] theorem State.modTally_trace (g : Tally → Tally) : (s.modTally g).trace = s.trace := rfl
@[simp] theorem State.modTally_jtag (g : Tally → Tally) : (s.modTally g).jtag = s.jtag := rfl
@[simp] theorem State.modTally_taints (g : Tally → Tally) : (s.modTally g).taints = s.taints := rfl
@[simp] theorem State.modTally_musterOrders (g : Tally → Tally) : (s.modTally g).musterOrders = s.musterOrders := rfl
@[simp] theorem State.modTally_field (g : Tally → Tally) (x : Nat) : (s.modTally g).field x = s.field x := rfl
@[simp] theorem State.modTally_flock (g : Tally → Tally) (x y : Nat) : (s.modTally g).flock x y = s.flock x y := rfl
@[simp] theorem State.modTally_core (g : Tally → Tally) (x y z : Nat) : (s.modTally g).core x y z = s.core x y z := rfl
@[simp] theorem State.modTally_lane (g : Tally → Tally) (x y z u : Nat) : (s.modTally g).lane x y z u = s.lane x y z u := rfl
@[simp] theorem State.modTally_crook (g : Tally → Tally) (x y : Nat) : (s.modTally g).crook x y = s.crook x y := rfl
@[simp] theorem State.modTally_tap (g : Tally → Tally) (x : Nat) : (s.modTally g).tap x = s.tap x := rfl
@[simp] theorem State.modTally_mem (g : Tally → Tally) (x : Nat) : (s.modTally g).mem x = s.mem x := rfl
@[simp] theorem State.modTally_gflock (g : Tally → Tally) (x y : Nat) : (s.modTally g).gflock x y = s.gflock x y := rfl
@[simp] theorem State.modTally_watch (g : Tally → Tally) (x : Nat) : (s.modTally g).watch x = s.watch x := rfl
@[simp] theorem State.modTally_activeShc (g : Tally → Tally) : (s.modTally g).activeShc = s.activeShc := rfl
@[simp] theorem State.modTally_follower (g : Tally → Tally) : (s.modTally g).follower = s.follower := rfl
@[simp] theorem State.modTally_firmware (g : Tally → Tally) : (s.modTally g).firmware = s.firmware := rfl
@[simp] theorem State.modTally_lcs (g : Tally → Tally) : (s.modTally g).lcs = s.lcs := rfl

/-! modLife writes `life`. -/
@[simp] theorem State.modLife_pending (g : Life → Life) : (s.modLife g).pending = s.pending := rfl
@[simp] theorem State.modLife_out (g : Life → Life) : (s.modLife g).out = s.out := rfl
@[simp] theorem State.modLife_due (g : Life → Life) : (s.modLife g).due = s.due := rfl
@[simp] theorem State.modLife_pwrGood (g : Life → Life) : (s.modLife g).pwrGood = s.pwrGood := rfl
@[simp] theorem State.modLife_tbase (g : Life → Life) : (s.modLife g).tbase = s.tbase := rfl
@[simp] theorem State.modLife_draws (g : Life → Life) : (s.modLife g).draws = s.draws := rfl
@[simp] theorem State.modLife_free (g : Life → Life) : (s.modLife g).free = s.free := rfl
@[simp] theorem State.modLife_start (g : Life → Life) : (s.modLife g).start = s.start := rfl
@[simp] theorem State.modLife_life (g : Life → Life) : (s.modLife g).life = g s.life := rfl
@[simp] theorem State.modLife_refclk (g : Life → Life) : (s.modLife g).refclk = s.refclk := rfl
@[simp] theorem State.modLife_qspi (g : Life → Life) : (s.modLife g).qspi = s.qspi := rfl
@[simp] theorem State.modLife_pins (g : Life → Life) : (s.modLife g).pins = s.pins := rfl
@[simp] theorem State.modLife_ferr (g : Life → Life) : (s.modLife g).ferr = s.ferr := rfl
@[simp] theorem State.modLife_hif (g : Life → Life) : (s.modLife g).hif = s.hif := rfl
@[simp] theorem State.modLife_tally (g : Life → Life) : (s.modLife g).tally = s.tally := rfl
@[simp] theorem State.modLife_policy (g : Life → Life) : (s.modLife g).policy = s.policy := rfl
@[simp] theorem State.modLife_fields (g : Life → Life) : (s.modLife g).fields = s.fields := rfl
@[simp] theorem State.modLife_flocks (g : Life → Life) : (s.modLife g).flocks = s.flocks := rfl
@[simp] theorem State.modLife_cores (g : Life → Life) : (s.modLife g).cores = s.cores := rfl
@[simp] theorem State.modLife_lanes (g : Life → Life) : (s.modLife g).lanes = s.lanes := rfl
@[simp] theorem State.modLife_crooks (g : Life → Life) : (s.modLife g).crooks = s.crooks := rfl
@[simp] theorem State.modLife_taps (g : Life → Life) : (s.modLife g).taps = s.taps := rfl
@[simp] theorem State.modLife_mems (g : Life → Life) : (s.modLife g).mems = s.mems := rfl
@[simp] theorem State.modLife_pair (g : Life → Life) : (s.modLife g).pair = s.pair := rfl
@[simp] theorem State.modLife_fw (g : Life → Life) : (s.modLife g).fw = s.fw := rfl
@[simp] theorem State.modLife_screen (g : Life → Life) : (s.modLife g).screen = s.screen := rfl
@[simp] theorem State.modLife_job (g : Life → Life) : (s.modLife g).job = s.job := rfl
@[simp] theorem State.modLife_recovery (g : Life → Life) : (s.modLife g).recovery = s.recovery := rfl
@[simp] theorem State.modLife_musters (g : Life → Life) : (s.modLife g).musters = s.musters := rfl
@[simp] theorem State.modLife_folds (g : Life → Life) : (s.modLife g).folds = s.folds := rfl
@[simp] theorem State.modLife_gov (g : Life → Life) : (s.modLife g).gov = s.gov := rfl
@[simp] theorem State.modLife_govFlocks (g : Life → Life) : (s.modLife g).govFlocks = s.govFlocks := rfl
@[simp] theorem State.modLife_earmarks (g : Life → Life) : (s.modLife g).earmarks = s.earmarks := rfl
@[simp] theorem State.modLife_watches (g : Life → Life) : (s.modLife g).watches = s.watches := rfl
@[simp] theorem State.modLife_power (g : Life → Life) : (s.modLife g).power = s.power := rfl
@[simp] theorem State.modLife_mesh (g : Life → Life) : (s.modLife g).mesh = s.mesh := rfl
@[simp] theorem State.modLife_i3c (g : Life → Life) : (s.modLife g).i3c = s.i3c := rfl
@[simp] theorem State.modLife_trace (g : Life → Life) : (s.modLife g).trace = s.trace := rfl
@[simp] theorem State.modLife_jtag (g : Life → Life) : (s.modLife g).jtag = s.jtag := rfl
@[simp] theorem State.modLife_taints (g : Life → Life) : (s.modLife g).taints = s.taints := rfl
@[simp] theorem State.modLife_musterOrders (g : Life → Life) : (s.modLife g).musterOrders = s.musterOrders := rfl
@[simp] theorem State.modLife_field (g : Life → Life) (x : Nat) : (s.modLife g).field x = s.field x := rfl
@[simp] theorem State.modLife_flock (g : Life → Life) (x y : Nat) : (s.modLife g).flock x y = s.flock x y := rfl
@[simp] theorem State.modLife_core (g : Life → Life) (x y z : Nat) : (s.modLife g).core x y z = s.core x y z := rfl
@[simp] theorem State.modLife_lane (g : Life → Life) (x y z u : Nat) : (s.modLife g).lane x y z u = s.lane x y z u := rfl
@[simp] theorem State.modLife_crook (g : Life → Life) (x y : Nat) : (s.modLife g).crook x y = s.crook x y := rfl
@[simp] theorem State.modLife_tap (g : Life → Life) (x : Nat) : (s.modLife g).tap x = s.tap x := rfl
@[simp] theorem State.modLife_mem (g : Life → Life) (x : Nat) : (s.modLife g).mem x = s.mem x := rfl
@[simp] theorem State.modLife_gflock (g : Life → Life) (x y : Nat) : (s.modLife g).gflock x y = s.gflock x y := rfl
@[simp] theorem State.modLife_watch (g : Life → Life) (x : Nat) : (s.modLife g).watch x = s.watch x := rfl
@[simp] theorem State.modLife_activeShc (g : Life → Life) : (s.modLife g).activeShc = s.activeShc := rfl
@[simp] theorem State.modLife_follower (g : Life → Life) : (s.modLife g).follower = s.follower := rfl
@[simp] theorem State.modLife_firmware (g : Life → Life) : (s.modLife g).firmware = s.firmware := rfl

/-! modFw writes `fw`. -/
@[simp] theorem State.modFw_pending (g : Fw → Fw) : (s.modFw g).pending = s.pending := rfl
@[simp] theorem State.modFw_out (g : Fw → Fw) : (s.modFw g).out = s.out := rfl
@[simp] theorem State.modFw_due (g : Fw → Fw) : (s.modFw g).due = s.due := rfl
@[simp] theorem State.modFw_pwrGood (g : Fw → Fw) : (s.modFw g).pwrGood = s.pwrGood := rfl
@[simp] theorem State.modFw_tbase (g : Fw → Fw) : (s.modFw g).tbase = s.tbase := rfl
@[simp] theorem State.modFw_draws (g : Fw → Fw) : (s.modFw g).draws = s.draws := rfl
@[simp] theorem State.modFw_free (g : Fw → Fw) : (s.modFw g).free = s.free := rfl
@[simp] theorem State.modFw_start (g : Fw → Fw) : (s.modFw g).start = s.start := rfl
@[simp] theorem State.modFw_life (g : Fw → Fw) : (s.modFw g).life = s.life := rfl
@[simp] theorem State.modFw_refclk (g : Fw → Fw) : (s.modFw g).refclk = s.refclk := rfl
@[simp] theorem State.modFw_qspi (g : Fw → Fw) : (s.modFw g).qspi = s.qspi := rfl
@[simp] theorem State.modFw_pins (g : Fw → Fw) : (s.modFw g).pins = s.pins := rfl
@[simp] theorem State.modFw_ferr (g : Fw → Fw) : (s.modFw g).ferr = s.ferr := rfl
@[simp] theorem State.modFw_hif (g : Fw → Fw) : (s.modFw g).hif = s.hif := rfl
@[simp] theorem State.modFw_tally (g : Fw → Fw) : (s.modFw g).tally = s.tally := rfl
@[simp] theorem State.modFw_policy (g : Fw → Fw) : (s.modFw g).policy = s.policy := rfl
@[simp] theorem State.modFw_fields (g : Fw → Fw) : (s.modFw g).fields = s.fields := rfl
@[simp] theorem State.modFw_flocks (g : Fw → Fw) : (s.modFw g).flocks = s.flocks := rfl
@[simp] theorem State.modFw_cores (g : Fw → Fw) : (s.modFw g).cores = s.cores := rfl
@[simp] theorem State.modFw_lanes (g : Fw → Fw) : (s.modFw g).lanes = s.lanes := rfl
@[simp] theorem State.modFw_crooks (g : Fw → Fw) : (s.modFw g).crooks = s.crooks := rfl
@[simp] theorem State.modFw_taps (g : Fw → Fw) : (s.modFw g).taps = s.taps := rfl
@[simp] theorem State.modFw_mems (g : Fw → Fw) : (s.modFw g).mems = s.mems := rfl
@[simp] theorem State.modFw_pair (g : Fw → Fw) : (s.modFw g).pair = s.pair := rfl
@[simp] theorem State.modFw_fw (g : Fw → Fw) : (s.modFw g).fw = g s.fw := rfl
@[simp] theorem State.modFw_screen (g : Fw → Fw) : (s.modFw g).screen = s.screen := rfl
@[simp] theorem State.modFw_job (g : Fw → Fw) : (s.modFw g).job = s.job := rfl
@[simp] theorem State.modFw_recovery (g : Fw → Fw) : (s.modFw g).recovery = s.recovery := rfl
@[simp] theorem State.modFw_musters (g : Fw → Fw) : (s.modFw g).musters = s.musters := rfl
@[simp] theorem State.modFw_folds (g : Fw → Fw) : (s.modFw g).folds = s.folds := rfl
@[simp] theorem State.modFw_gov (g : Fw → Fw) : (s.modFw g).gov = s.gov := rfl
@[simp] theorem State.modFw_govFlocks (g : Fw → Fw) : (s.modFw g).govFlocks = s.govFlocks := rfl
@[simp] theorem State.modFw_earmarks (g : Fw → Fw) : (s.modFw g).earmarks = s.earmarks := rfl
@[simp] theorem State.modFw_watches (g : Fw → Fw) : (s.modFw g).watches = s.watches := rfl
@[simp] theorem State.modFw_power (g : Fw → Fw) : (s.modFw g).power = s.power := rfl
@[simp] theorem State.modFw_mesh (g : Fw → Fw) : (s.modFw g).mesh = s.mesh := rfl
@[simp] theorem State.modFw_i3c (g : Fw → Fw) : (s.modFw g).i3c = s.i3c := rfl
@[simp] theorem State.modFw_trace (g : Fw → Fw) : (s.modFw g).trace = s.trace := rfl
@[simp] theorem State.modFw_jtag (g : Fw → Fw) : (s.modFw g).jtag = s.jtag := rfl
@[simp] theorem State.modFw_taints (g : Fw → Fw) : (s.modFw g).taints = s.taints := rfl
@[simp] theorem State.modFw_musterOrders (g : Fw → Fw) : (s.modFw g).musterOrders = s.musterOrders := rfl
@[simp] theorem State.modFw_field (g : Fw → Fw) (x : Nat) : (s.modFw g).field x = s.field x := rfl
@[simp] theorem State.modFw_flock (g : Fw → Fw) (x y : Nat) : (s.modFw g).flock x y = s.flock x y := rfl
@[simp] theorem State.modFw_core (g : Fw → Fw) (x y z : Nat) : (s.modFw g).core x y z = s.core x y z := rfl
@[simp] theorem State.modFw_lane (g : Fw → Fw) (x y z u : Nat) : (s.modFw g).lane x y z u = s.lane x y z u := rfl
@[simp] theorem State.modFw_crook (g : Fw → Fw) (x y : Nat) : (s.modFw g).crook x y = s.crook x y := rfl
@[simp] theorem State.modFw_tap (g : Fw → Fw) (x : Nat) : (s.modFw g).tap x = s.tap x := rfl
@[simp] theorem State.modFw_mem (g : Fw → Fw) (x : Nat) : (s.modFw g).mem x = s.mem x := rfl
@[simp] theorem State.modFw_gflock (g : Fw → Fw) (x y : Nat) : (s.modFw g).gflock x y = s.gflock x y := rfl
@[simp] theorem State.modFw_watch (g : Fw → Fw) (x : Nat) : (s.modFw g).watch x = s.watch x := rfl
@[simp] theorem State.modFw_activeShc (g : Fw → Fw) : (s.modFw g).activeShc = s.activeShc := rfl
@[simp] theorem State.modFw_follower (g : Fw → Fw) : (s.modFw g).follower = s.follower := rfl
@[simp] theorem State.modFw_firmware (g : Fw → Fw) : (s.modFw g).firmware = s.firmware := rfl
@[simp] theorem State.modFw_lcs (g : Fw → Fw) : (s.modFw g).lcs = s.lcs := rfl

/-! modScreen writes `screen`. -/
@[simp] theorem State.modScreen_pending (g : Screen → Screen) : (s.modScreen g).pending = s.pending := rfl
@[simp] theorem State.modScreen_out (g : Screen → Screen) : (s.modScreen g).out = s.out := rfl
@[simp] theorem State.modScreen_due (g : Screen → Screen) : (s.modScreen g).due = s.due := rfl
@[simp] theorem State.modScreen_pwrGood (g : Screen → Screen) : (s.modScreen g).pwrGood = s.pwrGood := rfl
@[simp] theorem State.modScreen_tbase (g : Screen → Screen) : (s.modScreen g).tbase = s.tbase := rfl
@[simp] theorem State.modScreen_draws (g : Screen → Screen) : (s.modScreen g).draws = s.draws := rfl
@[simp] theorem State.modScreen_free (g : Screen → Screen) : (s.modScreen g).free = s.free := rfl
@[simp] theorem State.modScreen_start (g : Screen → Screen) : (s.modScreen g).start = s.start := rfl
@[simp] theorem State.modScreen_life (g : Screen → Screen) : (s.modScreen g).life = s.life := rfl
@[simp] theorem State.modScreen_refclk (g : Screen → Screen) : (s.modScreen g).refclk = s.refclk := rfl
@[simp] theorem State.modScreen_qspi (g : Screen → Screen) : (s.modScreen g).qspi = s.qspi := rfl
@[simp] theorem State.modScreen_pins (g : Screen → Screen) : (s.modScreen g).pins = s.pins := rfl
@[simp] theorem State.modScreen_ferr (g : Screen → Screen) : (s.modScreen g).ferr = s.ferr := rfl
@[simp] theorem State.modScreen_hif (g : Screen → Screen) : (s.modScreen g).hif = s.hif := rfl
@[simp] theorem State.modScreen_tally (g : Screen → Screen) : (s.modScreen g).tally = s.tally := rfl
@[simp] theorem State.modScreen_policy (g : Screen → Screen) : (s.modScreen g).policy = s.policy := rfl
@[simp] theorem State.modScreen_fields (g : Screen → Screen) : (s.modScreen g).fields = s.fields := rfl
@[simp] theorem State.modScreen_flocks (g : Screen → Screen) : (s.modScreen g).flocks = s.flocks := rfl
@[simp] theorem State.modScreen_cores (g : Screen → Screen) : (s.modScreen g).cores = s.cores := rfl
@[simp] theorem State.modScreen_lanes (g : Screen → Screen) : (s.modScreen g).lanes = s.lanes := rfl
@[simp] theorem State.modScreen_crooks (g : Screen → Screen) : (s.modScreen g).crooks = s.crooks := rfl
@[simp] theorem State.modScreen_taps (g : Screen → Screen) : (s.modScreen g).taps = s.taps := rfl
@[simp] theorem State.modScreen_mems (g : Screen → Screen) : (s.modScreen g).mems = s.mems := rfl
@[simp] theorem State.modScreen_pair (g : Screen → Screen) : (s.modScreen g).pair = s.pair := rfl
@[simp] theorem State.modScreen_fw (g : Screen → Screen) : (s.modScreen g).fw = s.fw := rfl
@[simp] theorem State.modScreen_screen (g : Screen → Screen) : (s.modScreen g).screen = g s.screen := rfl
@[simp] theorem State.modScreen_job (g : Screen → Screen) : (s.modScreen g).job = s.job := rfl
@[simp] theorem State.modScreen_recovery (g : Screen → Screen) : (s.modScreen g).recovery = s.recovery := rfl
@[simp] theorem State.modScreen_musters (g : Screen → Screen) : (s.modScreen g).musters = s.musters := rfl
@[simp] theorem State.modScreen_folds (g : Screen → Screen) : (s.modScreen g).folds = s.folds := rfl
@[simp] theorem State.modScreen_gov (g : Screen → Screen) : (s.modScreen g).gov = s.gov := rfl
@[simp] theorem State.modScreen_govFlocks (g : Screen → Screen) : (s.modScreen g).govFlocks = s.govFlocks := rfl
@[simp] theorem State.modScreen_earmarks (g : Screen → Screen) : (s.modScreen g).earmarks = s.earmarks := rfl
@[simp] theorem State.modScreen_watches (g : Screen → Screen) : (s.modScreen g).watches = s.watches := rfl
@[simp] theorem State.modScreen_power (g : Screen → Screen) : (s.modScreen g).power = s.power := rfl
@[simp] theorem State.modScreen_mesh (g : Screen → Screen) : (s.modScreen g).mesh = s.mesh := rfl
@[simp] theorem State.modScreen_i3c (g : Screen → Screen) : (s.modScreen g).i3c = s.i3c := rfl
@[simp] theorem State.modScreen_trace (g : Screen → Screen) : (s.modScreen g).trace = s.trace := rfl
@[simp] theorem State.modScreen_jtag (g : Screen → Screen) : (s.modScreen g).jtag = s.jtag := rfl
@[simp] theorem State.modScreen_taints (g : Screen → Screen) : (s.modScreen g).taints = s.taints := rfl
@[simp] theorem State.modScreen_musterOrders (g : Screen → Screen) : (s.modScreen g).musterOrders = s.musterOrders := rfl
@[simp] theorem State.modScreen_field (g : Screen → Screen) (x : Nat) : (s.modScreen g).field x = s.field x := rfl
@[simp] theorem State.modScreen_flock (g : Screen → Screen) (x y : Nat) : (s.modScreen g).flock x y = s.flock x y := rfl
@[simp] theorem State.modScreen_core (g : Screen → Screen) (x y z : Nat) : (s.modScreen g).core x y z = s.core x y z := rfl
@[simp] theorem State.modScreen_lane (g : Screen → Screen) (x y z u : Nat) : (s.modScreen g).lane x y z u = s.lane x y z u := rfl
@[simp] theorem State.modScreen_crook (g : Screen → Screen) (x y : Nat) : (s.modScreen g).crook x y = s.crook x y := rfl
@[simp] theorem State.modScreen_tap (g : Screen → Screen) (x : Nat) : (s.modScreen g).tap x = s.tap x := rfl
@[simp] theorem State.modScreen_mem (g : Screen → Screen) (x : Nat) : (s.modScreen g).mem x = s.mem x := rfl
@[simp] theorem State.modScreen_gflock (g : Screen → Screen) (x y : Nat) : (s.modScreen g).gflock x y = s.gflock x y := rfl
@[simp] theorem State.modScreen_watch (g : Screen → Screen) (x : Nat) : (s.modScreen g).watch x = s.watch x := rfl
@[simp] theorem State.modScreen_activeShc (g : Screen → Screen) : (s.modScreen g).activeShc = s.activeShc := rfl
@[simp] theorem State.modScreen_follower (g : Screen → Screen) : (s.modScreen g).follower = s.follower := rfl
@[simp] theorem State.modScreen_firmware (g : Screen → Screen) : (s.modScreen g).firmware = s.firmware := rfl
@[simp] theorem State.modScreen_lcs (g : Screen → Screen) : (s.modScreen g).lcs = s.lcs := rfl

/-! modGov writes `gov`. -/
@[simp] theorem State.modGov_pending (g : Gov → Gov) : (s.modGov g).pending = s.pending := rfl
@[simp] theorem State.modGov_out (g : Gov → Gov) : (s.modGov g).out = s.out := rfl
@[simp] theorem State.modGov_due (g : Gov → Gov) : (s.modGov g).due = s.due := rfl
@[simp] theorem State.modGov_pwrGood (g : Gov → Gov) : (s.modGov g).pwrGood = s.pwrGood := rfl
@[simp] theorem State.modGov_tbase (g : Gov → Gov) : (s.modGov g).tbase = s.tbase := rfl
@[simp] theorem State.modGov_draws (g : Gov → Gov) : (s.modGov g).draws = s.draws := rfl
@[simp] theorem State.modGov_free (g : Gov → Gov) : (s.modGov g).free = s.free := rfl
@[simp] theorem State.modGov_start (g : Gov → Gov) : (s.modGov g).start = s.start := rfl
@[simp] theorem State.modGov_life (g : Gov → Gov) : (s.modGov g).life = s.life := rfl
@[simp] theorem State.modGov_refclk (g : Gov → Gov) : (s.modGov g).refclk = s.refclk := rfl
@[simp] theorem State.modGov_qspi (g : Gov → Gov) : (s.modGov g).qspi = s.qspi := rfl
@[simp] theorem State.modGov_pins (g : Gov → Gov) : (s.modGov g).pins = s.pins := rfl
@[simp] theorem State.modGov_ferr (g : Gov → Gov) : (s.modGov g).ferr = s.ferr := rfl
@[simp] theorem State.modGov_hif (g : Gov → Gov) : (s.modGov g).hif = s.hif := rfl
@[simp] theorem State.modGov_tally (g : Gov → Gov) : (s.modGov g).tally = s.tally := rfl
@[simp] theorem State.modGov_policy (g : Gov → Gov) : (s.modGov g).policy = s.policy := rfl
@[simp] theorem State.modGov_fields (g : Gov → Gov) : (s.modGov g).fields = s.fields := rfl
@[simp] theorem State.modGov_flocks (g : Gov → Gov) : (s.modGov g).flocks = s.flocks := rfl
@[simp] theorem State.modGov_cores (g : Gov → Gov) : (s.modGov g).cores = s.cores := rfl
@[simp] theorem State.modGov_lanes (g : Gov → Gov) : (s.modGov g).lanes = s.lanes := rfl
@[simp] theorem State.modGov_crooks (g : Gov → Gov) : (s.modGov g).crooks = s.crooks := rfl
@[simp] theorem State.modGov_taps (g : Gov → Gov) : (s.modGov g).taps = s.taps := rfl
@[simp] theorem State.modGov_mems (g : Gov → Gov) : (s.modGov g).mems = s.mems := rfl
@[simp] theorem State.modGov_pair (g : Gov → Gov) : (s.modGov g).pair = s.pair := rfl
@[simp] theorem State.modGov_fw (g : Gov → Gov) : (s.modGov g).fw = s.fw := rfl
@[simp] theorem State.modGov_screen (g : Gov → Gov) : (s.modGov g).screen = s.screen := rfl
@[simp] theorem State.modGov_job (g : Gov → Gov) : (s.modGov g).job = s.job := rfl
@[simp] theorem State.modGov_recovery (g : Gov → Gov) : (s.modGov g).recovery = s.recovery := rfl
@[simp] theorem State.modGov_musters (g : Gov → Gov) : (s.modGov g).musters = s.musters := rfl
@[simp] theorem State.modGov_folds (g : Gov → Gov) : (s.modGov g).folds = s.folds := rfl
@[simp] theorem State.modGov_gov (g : Gov → Gov) : (s.modGov g).gov = g s.gov := rfl
@[simp] theorem State.modGov_govFlocks (g : Gov → Gov) : (s.modGov g).govFlocks = s.govFlocks := rfl
@[simp] theorem State.modGov_earmarks (g : Gov → Gov) : (s.modGov g).earmarks = s.earmarks := rfl
@[simp] theorem State.modGov_watches (g : Gov → Gov) : (s.modGov g).watches = s.watches := rfl
@[simp] theorem State.modGov_power (g : Gov → Gov) : (s.modGov g).power = s.power := rfl
@[simp] theorem State.modGov_mesh (g : Gov → Gov) : (s.modGov g).mesh = s.mesh := rfl
@[simp] theorem State.modGov_i3c (g : Gov → Gov) : (s.modGov g).i3c = s.i3c := rfl
@[simp] theorem State.modGov_trace (g : Gov → Gov) : (s.modGov g).trace = s.trace := rfl
@[simp] theorem State.modGov_jtag (g : Gov → Gov) : (s.modGov g).jtag = s.jtag := rfl
@[simp] theorem State.modGov_taints (g : Gov → Gov) : (s.modGov g).taints = s.taints := rfl
@[simp] theorem State.modGov_musterOrders (g : Gov → Gov) : (s.modGov g).musterOrders = s.musterOrders := rfl
@[simp] theorem State.modGov_field (g : Gov → Gov) (x : Nat) : (s.modGov g).field x = s.field x := rfl
@[simp] theorem State.modGov_flock (g : Gov → Gov) (x y : Nat) : (s.modGov g).flock x y = s.flock x y := rfl
@[simp] theorem State.modGov_core (g : Gov → Gov) (x y z : Nat) : (s.modGov g).core x y z = s.core x y z := rfl
@[simp] theorem State.modGov_lane (g : Gov → Gov) (x y z u : Nat) : (s.modGov g).lane x y z u = s.lane x y z u := rfl
@[simp] theorem State.modGov_crook (g : Gov → Gov) (x y : Nat) : (s.modGov g).crook x y = s.crook x y := rfl
@[simp] theorem State.modGov_tap (g : Gov → Gov) (x : Nat) : (s.modGov g).tap x = s.tap x := rfl
@[simp] theorem State.modGov_mem (g : Gov → Gov) (x : Nat) : (s.modGov g).mem x = s.mem x := rfl
@[simp] theorem State.modGov_gflock (g : Gov → Gov) (x y : Nat) : (s.modGov g).gflock x y = s.gflock x y := rfl
@[simp] theorem State.modGov_watch (g : Gov → Gov) (x : Nat) : (s.modGov g).watch x = s.watch x := rfl
@[simp] theorem State.modGov_activeShc (g : Gov → Gov) : (s.modGov g).activeShc = s.activeShc := rfl
@[simp] theorem State.modGov_follower (g : Gov → Gov) : (s.modGov g).follower = s.follower := rfl
@[simp] theorem State.modGov_firmware (g : Gov → Gov) : (s.modGov g).firmware = s.firmware := rfl
@[simp] theorem State.modGov_lcs (g : Gov → Gov) : (s.modGov g).lcs = s.lcs := rfl

/-! modStart writes `start`. -/
@[simp] theorem State.modStart_pending (g : Start → Start) : (s.modStart g).pending = s.pending := rfl
@[simp] theorem State.modStart_out (g : Start → Start) : (s.modStart g).out = s.out := rfl
@[simp] theorem State.modStart_due (g : Start → Start) : (s.modStart g).due = s.due := rfl
@[simp] theorem State.modStart_pwrGood (g : Start → Start) : (s.modStart g).pwrGood = s.pwrGood := rfl
@[simp] theorem State.modStart_tbase (g : Start → Start) : (s.modStart g).tbase = s.tbase := rfl
@[simp] theorem State.modStart_draws (g : Start → Start) : (s.modStart g).draws = s.draws := rfl
@[simp] theorem State.modStart_free (g : Start → Start) : (s.modStart g).free = s.free := rfl
@[simp] theorem State.modStart_start (g : Start → Start) : (s.modStart g).start = g s.start := rfl
@[simp] theorem State.modStart_life (g : Start → Start) : (s.modStart g).life = s.life := rfl
@[simp] theorem State.modStart_refclk (g : Start → Start) : (s.modStart g).refclk = s.refclk := rfl
@[simp] theorem State.modStart_qspi (g : Start → Start) : (s.modStart g).qspi = s.qspi := rfl
@[simp] theorem State.modStart_pins (g : Start → Start) : (s.modStart g).pins = s.pins := rfl
@[simp] theorem State.modStart_ferr (g : Start → Start) : (s.modStart g).ferr = s.ferr := rfl
@[simp] theorem State.modStart_hif (g : Start → Start) : (s.modStart g).hif = s.hif := rfl
@[simp] theorem State.modStart_tally (g : Start → Start) : (s.modStart g).tally = s.tally := rfl
@[simp] theorem State.modStart_policy (g : Start → Start) : (s.modStart g).policy = s.policy := rfl
@[simp] theorem State.modStart_fields (g : Start → Start) : (s.modStart g).fields = s.fields := rfl
@[simp] theorem State.modStart_flocks (g : Start → Start) : (s.modStart g).flocks = s.flocks := rfl
@[simp] theorem State.modStart_cores (g : Start → Start) : (s.modStart g).cores = s.cores := rfl
@[simp] theorem State.modStart_lanes (g : Start → Start) : (s.modStart g).lanes = s.lanes := rfl
@[simp] theorem State.modStart_crooks (g : Start → Start) : (s.modStart g).crooks = s.crooks := rfl
@[simp] theorem State.modStart_taps (g : Start → Start) : (s.modStart g).taps = s.taps := rfl
@[simp] theorem State.modStart_mems (g : Start → Start) : (s.modStart g).mems = s.mems := rfl
@[simp] theorem State.modStart_pair (g : Start → Start) : (s.modStart g).pair = s.pair := rfl
@[simp] theorem State.modStart_fw (g : Start → Start) : (s.modStart g).fw = s.fw := rfl
@[simp] theorem State.modStart_screen (g : Start → Start) : (s.modStart g).screen = s.screen := rfl
@[simp] theorem State.modStart_job (g : Start → Start) : (s.modStart g).job = s.job := rfl
@[simp] theorem State.modStart_recovery (g : Start → Start) : (s.modStart g).recovery = s.recovery := rfl
@[simp] theorem State.modStart_musters (g : Start → Start) : (s.modStart g).musters = s.musters := rfl
@[simp] theorem State.modStart_folds (g : Start → Start) : (s.modStart g).folds = s.folds := rfl
@[simp] theorem State.modStart_gov (g : Start → Start) : (s.modStart g).gov = s.gov := rfl
@[simp] theorem State.modStart_govFlocks (g : Start → Start) : (s.modStart g).govFlocks = s.govFlocks := rfl
@[simp] theorem State.modStart_earmarks (g : Start → Start) : (s.modStart g).earmarks = s.earmarks := rfl
@[simp] theorem State.modStart_watches (g : Start → Start) : (s.modStart g).watches = s.watches := rfl
@[simp] theorem State.modStart_power (g : Start → Start) : (s.modStart g).power = s.power := rfl
@[simp] theorem State.modStart_mesh (g : Start → Start) : (s.modStart g).mesh = s.mesh := rfl
@[simp] theorem State.modStart_i3c (g : Start → Start) : (s.modStart g).i3c = s.i3c := rfl
@[simp] theorem State.modStart_trace (g : Start → Start) : (s.modStart g).trace = s.trace := rfl
@[simp] theorem State.modStart_jtag (g : Start → Start) : (s.modStart g).jtag = s.jtag := rfl
@[simp] theorem State.modStart_taints (g : Start → Start) : (s.modStart g).taints = s.taints := rfl
@[simp] theorem State.modStart_musterOrders (g : Start → Start) : (s.modStart g).musterOrders = s.musterOrders := rfl
@[simp] theorem State.modStart_field (g : Start → Start) (x : Nat) : (s.modStart g).field x = s.field x := rfl
@[simp] theorem State.modStart_flock (g : Start → Start) (x y : Nat) : (s.modStart g).flock x y = s.flock x y := rfl
@[simp] theorem State.modStart_core (g : Start → Start) (x y z : Nat) : (s.modStart g).core x y z = s.core x y z := rfl
@[simp] theorem State.modStart_lane (g : Start → Start) (x y z u : Nat) : (s.modStart g).lane x y z u = s.lane x y z u := rfl
@[simp] theorem State.modStart_crook (g : Start → Start) (x y : Nat) : (s.modStart g).crook x y = s.crook x y := rfl
@[simp] theorem State.modStart_tap (g : Start → Start) (x : Nat) : (s.modStart g).tap x = s.tap x := rfl
@[simp] theorem State.modStart_mem (g : Start → Start) (x : Nat) : (s.modStart g).mem x = s.mem x := rfl
@[simp] theorem State.modStart_gflock (g : Start → Start) (x y : Nat) : (s.modStart g).gflock x y = s.gflock x y := rfl
@[simp] theorem State.modStart_watch (g : Start → Start) (x : Nat) : (s.modStart g).watch x = s.watch x := rfl
@[simp] theorem State.modStart_activeShc (g : Start → Start) : (s.modStart g).activeShc = s.activeShc := rfl
@[simp] theorem State.modStart_follower (g : Start → Start) : (s.modStart g).follower = s.follower := rfl
@[simp] theorem State.modStart_lcs (g : Start → Start) : (s.modStart g).lcs = s.lcs := rfl

/-! modEarmarks writes `earmarks`. -/
@[simp] theorem State.modEarmarks_pending (g : Earmarks → Earmarks) : (s.modEarmarks g).pending = s.pending := rfl
@[simp] theorem State.modEarmarks_out (g : Earmarks → Earmarks) : (s.modEarmarks g).out = s.out := rfl
@[simp] theorem State.modEarmarks_due (g : Earmarks → Earmarks) : (s.modEarmarks g).due = s.due := rfl
@[simp] theorem State.modEarmarks_pwrGood (g : Earmarks → Earmarks) : (s.modEarmarks g).pwrGood = s.pwrGood := rfl
@[simp] theorem State.modEarmarks_tbase (g : Earmarks → Earmarks) : (s.modEarmarks g).tbase = s.tbase := rfl
@[simp] theorem State.modEarmarks_draws (g : Earmarks → Earmarks) : (s.modEarmarks g).draws = s.draws := rfl
@[simp] theorem State.modEarmarks_free (g : Earmarks → Earmarks) : (s.modEarmarks g).free = s.free := rfl
@[simp] theorem State.modEarmarks_start (g : Earmarks → Earmarks) : (s.modEarmarks g).start = s.start := rfl
@[simp] theorem State.modEarmarks_life (g : Earmarks → Earmarks) : (s.modEarmarks g).life = s.life := rfl
@[simp] theorem State.modEarmarks_refclk (g : Earmarks → Earmarks) : (s.modEarmarks g).refclk = s.refclk := rfl
@[simp] theorem State.modEarmarks_qspi (g : Earmarks → Earmarks) : (s.modEarmarks g).qspi = s.qspi := rfl
@[simp] theorem State.modEarmarks_pins (g : Earmarks → Earmarks) : (s.modEarmarks g).pins = s.pins := rfl
@[simp] theorem State.modEarmarks_ferr (g : Earmarks → Earmarks) : (s.modEarmarks g).ferr = s.ferr := rfl
@[simp] theorem State.modEarmarks_hif (g : Earmarks → Earmarks) : (s.modEarmarks g).hif = s.hif := rfl
@[simp] theorem State.modEarmarks_tally (g : Earmarks → Earmarks) : (s.modEarmarks g).tally = s.tally := rfl
@[simp] theorem State.modEarmarks_policy (g : Earmarks → Earmarks) : (s.modEarmarks g).policy = s.policy := rfl
@[simp] theorem State.modEarmarks_fields (g : Earmarks → Earmarks) : (s.modEarmarks g).fields = s.fields := rfl
@[simp] theorem State.modEarmarks_flocks (g : Earmarks → Earmarks) : (s.modEarmarks g).flocks = s.flocks := rfl
@[simp] theorem State.modEarmarks_cores (g : Earmarks → Earmarks) : (s.modEarmarks g).cores = s.cores := rfl
@[simp] theorem State.modEarmarks_lanes (g : Earmarks → Earmarks) : (s.modEarmarks g).lanes = s.lanes := rfl
@[simp] theorem State.modEarmarks_crooks (g : Earmarks → Earmarks) : (s.modEarmarks g).crooks = s.crooks := rfl
@[simp] theorem State.modEarmarks_taps (g : Earmarks → Earmarks) : (s.modEarmarks g).taps = s.taps := rfl
@[simp] theorem State.modEarmarks_mems (g : Earmarks → Earmarks) : (s.modEarmarks g).mems = s.mems := rfl
@[simp] theorem State.modEarmarks_pair (g : Earmarks → Earmarks) : (s.modEarmarks g).pair = s.pair := rfl
@[simp] theorem State.modEarmarks_fw (g : Earmarks → Earmarks) : (s.modEarmarks g).fw = s.fw := rfl
@[simp] theorem State.modEarmarks_screen (g : Earmarks → Earmarks) : (s.modEarmarks g).screen = s.screen := rfl
@[simp] theorem State.modEarmarks_job (g : Earmarks → Earmarks) : (s.modEarmarks g).job = s.job := rfl
@[simp] theorem State.modEarmarks_recovery (g : Earmarks → Earmarks) : (s.modEarmarks g).recovery = s.recovery := rfl
@[simp] theorem State.modEarmarks_musters (g : Earmarks → Earmarks) : (s.modEarmarks g).musters = s.musters := rfl
@[simp] theorem State.modEarmarks_folds (g : Earmarks → Earmarks) : (s.modEarmarks g).folds = s.folds := rfl
@[simp] theorem State.modEarmarks_gov (g : Earmarks → Earmarks) : (s.modEarmarks g).gov = s.gov := rfl
@[simp] theorem State.modEarmarks_govFlocks (g : Earmarks → Earmarks) : (s.modEarmarks g).govFlocks = s.govFlocks := rfl
@[simp] theorem State.modEarmarks_earmarks (g : Earmarks → Earmarks) : (s.modEarmarks g).earmarks = g s.earmarks := rfl
@[simp] theorem State.modEarmarks_watches (g : Earmarks → Earmarks) : (s.modEarmarks g).watches = s.watches := rfl
@[simp] theorem State.modEarmarks_power (g : Earmarks → Earmarks) : (s.modEarmarks g).power = s.power := rfl
@[simp] theorem State.modEarmarks_mesh (g : Earmarks → Earmarks) : (s.modEarmarks g).mesh = s.mesh := rfl
@[simp] theorem State.modEarmarks_i3c (g : Earmarks → Earmarks) : (s.modEarmarks g).i3c = s.i3c := rfl
@[simp] theorem State.modEarmarks_trace (g : Earmarks → Earmarks) : (s.modEarmarks g).trace = s.trace := rfl
@[simp] theorem State.modEarmarks_jtag (g : Earmarks → Earmarks) : (s.modEarmarks g).jtag = s.jtag := rfl
@[simp] theorem State.modEarmarks_taints (g : Earmarks → Earmarks) : (s.modEarmarks g).taints = s.taints := rfl
@[simp] theorem State.modEarmarks_musterOrders (g : Earmarks → Earmarks) : (s.modEarmarks g).musterOrders = s.musterOrders := rfl
@[simp] theorem State.modEarmarks_field (g : Earmarks → Earmarks) (x : Nat) : (s.modEarmarks g).field x = s.field x := rfl
@[simp] theorem State.modEarmarks_flock (g : Earmarks → Earmarks) (x y : Nat) : (s.modEarmarks g).flock x y = s.flock x y := rfl
@[simp] theorem State.modEarmarks_core (g : Earmarks → Earmarks) (x y z : Nat) : (s.modEarmarks g).core x y z = s.core x y z := rfl
@[simp] theorem State.modEarmarks_lane (g : Earmarks → Earmarks) (x y z u : Nat) : (s.modEarmarks g).lane x y z u = s.lane x y z u := rfl
@[simp] theorem State.modEarmarks_crook (g : Earmarks → Earmarks) (x y : Nat) : (s.modEarmarks g).crook x y = s.crook x y := rfl
@[simp] theorem State.modEarmarks_tap (g : Earmarks → Earmarks) (x : Nat) : (s.modEarmarks g).tap x = s.tap x := rfl
@[simp] theorem State.modEarmarks_mem (g : Earmarks → Earmarks) (x : Nat) : (s.modEarmarks g).mem x = s.mem x := rfl
@[simp] theorem State.modEarmarks_gflock (g : Earmarks → Earmarks) (x y : Nat) : (s.modEarmarks g).gflock x y = s.gflock x y := rfl
@[simp] theorem State.modEarmarks_watch (g : Earmarks → Earmarks) (x : Nat) : (s.modEarmarks g).watch x = s.watch x := rfl
@[simp] theorem State.modEarmarks_activeShc (g : Earmarks → Earmarks) : (s.modEarmarks g).activeShc = s.activeShc := rfl
@[simp] theorem State.modEarmarks_follower (g : Earmarks → Earmarks) : (s.modEarmarks g).follower = s.follower := rfl
@[simp] theorem State.modEarmarks_firmware (g : Earmarks → Earmarks) : (s.modEarmarks g).firmware = s.firmware := rfl
@[simp] theorem State.modEarmarks_lcs (g : Earmarks → Earmarks) : (s.modEarmarks g).lcs = s.lcs := rfl

/-! modMesh writes `mesh`. -/
@[simp] theorem State.modMesh_pending (g : Mesh → Mesh) : (s.modMesh g).pending = s.pending := rfl
@[simp] theorem State.modMesh_out (g : Mesh → Mesh) : (s.modMesh g).out = s.out := rfl
@[simp] theorem State.modMesh_due (g : Mesh → Mesh) : (s.modMesh g).due = s.due := rfl
@[simp] theorem State.modMesh_pwrGood (g : Mesh → Mesh) : (s.modMesh g).pwrGood = s.pwrGood := rfl
@[simp] theorem State.modMesh_tbase (g : Mesh → Mesh) : (s.modMesh g).tbase = s.tbase := rfl
@[simp] theorem State.modMesh_draws (g : Mesh → Mesh) : (s.modMesh g).draws = s.draws := rfl
@[simp] theorem State.modMesh_free (g : Mesh → Mesh) : (s.modMesh g).free = s.free := rfl
@[simp] theorem State.modMesh_start (g : Mesh → Mesh) : (s.modMesh g).start = s.start := rfl
@[simp] theorem State.modMesh_life (g : Mesh → Mesh) : (s.modMesh g).life = s.life := rfl
@[simp] theorem State.modMesh_refclk (g : Mesh → Mesh) : (s.modMesh g).refclk = s.refclk := rfl
@[simp] theorem State.modMesh_qspi (g : Mesh → Mesh) : (s.modMesh g).qspi = s.qspi := rfl
@[simp] theorem State.modMesh_pins (g : Mesh → Mesh) : (s.modMesh g).pins = s.pins := rfl
@[simp] theorem State.modMesh_ferr (g : Mesh → Mesh) : (s.modMesh g).ferr = s.ferr := rfl
@[simp] theorem State.modMesh_hif (g : Mesh → Mesh) : (s.modMesh g).hif = s.hif := rfl
@[simp] theorem State.modMesh_tally (g : Mesh → Mesh) : (s.modMesh g).tally = s.tally := rfl
@[simp] theorem State.modMesh_policy (g : Mesh → Mesh) : (s.modMesh g).policy = s.policy := rfl
@[simp] theorem State.modMesh_fields (g : Mesh → Mesh) : (s.modMesh g).fields = s.fields := rfl
@[simp] theorem State.modMesh_flocks (g : Mesh → Mesh) : (s.modMesh g).flocks = s.flocks := rfl
@[simp] theorem State.modMesh_cores (g : Mesh → Mesh) : (s.modMesh g).cores = s.cores := rfl
@[simp] theorem State.modMesh_lanes (g : Mesh → Mesh) : (s.modMesh g).lanes = s.lanes := rfl
@[simp] theorem State.modMesh_crooks (g : Mesh → Mesh) : (s.modMesh g).crooks = s.crooks := rfl
@[simp] theorem State.modMesh_taps (g : Mesh → Mesh) : (s.modMesh g).taps = s.taps := rfl
@[simp] theorem State.modMesh_mems (g : Mesh → Mesh) : (s.modMesh g).mems = s.mems := rfl
@[simp] theorem State.modMesh_pair (g : Mesh → Mesh) : (s.modMesh g).pair = s.pair := rfl
@[simp] theorem State.modMesh_fw (g : Mesh → Mesh) : (s.modMesh g).fw = s.fw := rfl
@[simp] theorem State.modMesh_screen (g : Mesh → Mesh) : (s.modMesh g).screen = s.screen := rfl
@[simp] theorem State.modMesh_job (g : Mesh → Mesh) : (s.modMesh g).job = s.job := rfl
@[simp] theorem State.modMesh_recovery (g : Mesh → Mesh) : (s.modMesh g).recovery = s.recovery := rfl
@[simp] theorem State.modMesh_musters (g : Mesh → Mesh) : (s.modMesh g).musters = s.musters := rfl
@[simp] theorem State.modMesh_folds (g : Mesh → Mesh) : (s.modMesh g).folds = s.folds := rfl
@[simp] theorem State.modMesh_gov (g : Mesh → Mesh) : (s.modMesh g).gov = s.gov := rfl
@[simp] theorem State.modMesh_govFlocks (g : Mesh → Mesh) : (s.modMesh g).govFlocks = s.govFlocks := rfl
@[simp] theorem State.modMesh_earmarks (g : Mesh → Mesh) : (s.modMesh g).earmarks = s.earmarks := rfl
@[simp] theorem State.modMesh_watches (g : Mesh → Mesh) : (s.modMesh g).watches = s.watches := rfl
@[simp] theorem State.modMesh_power (g : Mesh → Mesh) : (s.modMesh g).power = s.power := rfl
@[simp] theorem State.modMesh_mesh (g : Mesh → Mesh) : (s.modMesh g).mesh = g s.mesh := rfl
@[simp] theorem State.modMesh_i3c (g : Mesh → Mesh) : (s.modMesh g).i3c = s.i3c := rfl
@[simp] theorem State.modMesh_trace (g : Mesh → Mesh) : (s.modMesh g).trace = s.trace := rfl
@[simp] theorem State.modMesh_jtag (g : Mesh → Mesh) : (s.modMesh g).jtag = s.jtag := rfl
@[simp] theorem State.modMesh_taints (g : Mesh → Mesh) : (s.modMesh g).taints = s.taints := rfl
@[simp] theorem State.modMesh_musterOrders (g : Mesh → Mesh) : (s.modMesh g).musterOrders = s.musterOrders := rfl
@[simp] theorem State.modMesh_field (g : Mesh → Mesh) (x : Nat) : (s.modMesh g).field x = s.field x := rfl
@[simp] theorem State.modMesh_flock (g : Mesh → Mesh) (x y : Nat) : (s.modMesh g).flock x y = s.flock x y := rfl
@[simp] theorem State.modMesh_core (g : Mesh → Mesh) (x y z : Nat) : (s.modMesh g).core x y z = s.core x y z := rfl
@[simp] theorem State.modMesh_lane (g : Mesh → Mesh) (x y z u : Nat) : (s.modMesh g).lane x y z u = s.lane x y z u := rfl
@[simp] theorem State.modMesh_crook (g : Mesh → Mesh) (x y : Nat) : (s.modMesh g).crook x y = s.crook x y := rfl
@[simp] theorem State.modMesh_tap (g : Mesh → Mesh) (x : Nat) : (s.modMesh g).tap x = s.tap x := rfl
@[simp] theorem State.modMesh_mem (g : Mesh → Mesh) (x : Nat) : (s.modMesh g).mem x = s.mem x := rfl
@[simp] theorem State.modMesh_gflock (g : Mesh → Mesh) (x y : Nat) : (s.modMesh g).gflock x y = s.gflock x y := rfl
@[simp] theorem State.modMesh_watch (g : Mesh → Mesh) (x : Nat) : (s.modMesh g).watch x = s.watch x := rfl
@[simp] theorem State.modMesh_activeShc (g : Mesh → Mesh) : (s.modMesh g).activeShc = s.activeShc := rfl
@[simp] theorem State.modMesh_follower (g : Mesh → Mesh) : (s.modMesh g).follower = s.follower := rfl
@[simp] theorem State.modMesh_firmware (g : Mesh → Mesh) : (s.modMesh g).firmware = s.firmware := rfl
@[simp] theorem State.modMesh_lcs (g : Mesh → Mesh) : (s.modMesh g).lcs = s.lcs := rfl

/-! modRef writes `refclk`. -/
@[simp] theorem State.modRef_pending (g : RefClk → RefClk) : (s.modRef g).pending = s.pending := rfl
@[simp] theorem State.modRef_out (g : RefClk → RefClk) : (s.modRef g).out = s.out := rfl
@[simp] theorem State.modRef_due (g : RefClk → RefClk) : (s.modRef g).due = s.due := rfl
@[simp] theorem State.modRef_pwrGood (g : RefClk → RefClk) : (s.modRef g).pwrGood = s.pwrGood := rfl
@[simp] theorem State.modRef_tbase (g : RefClk → RefClk) : (s.modRef g).tbase = s.tbase := rfl
@[simp] theorem State.modRef_draws (g : RefClk → RefClk) : (s.modRef g).draws = s.draws := rfl
@[simp] theorem State.modRef_free (g : RefClk → RefClk) : (s.modRef g).free = s.free := rfl
@[simp] theorem State.modRef_start (g : RefClk → RefClk) : (s.modRef g).start = s.start := rfl
@[simp] theorem State.modRef_life (g : RefClk → RefClk) : (s.modRef g).life = s.life := rfl
@[simp] theorem State.modRef_refclk (g : RefClk → RefClk) : (s.modRef g).refclk = g s.refclk := rfl
@[simp] theorem State.modRef_qspi (g : RefClk → RefClk) : (s.modRef g).qspi = s.qspi := rfl
@[simp] theorem State.modRef_pins (g : RefClk → RefClk) : (s.modRef g).pins = s.pins := rfl
@[simp] theorem State.modRef_ferr (g : RefClk → RefClk) : (s.modRef g).ferr = s.ferr := rfl
@[simp] theorem State.modRef_hif (g : RefClk → RefClk) : (s.modRef g).hif = s.hif := rfl
@[simp] theorem State.modRef_tally (g : RefClk → RefClk) : (s.modRef g).tally = s.tally := rfl
@[simp] theorem State.modRef_policy (g : RefClk → RefClk) : (s.modRef g).policy = s.policy := rfl
@[simp] theorem State.modRef_fields (g : RefClk → RefClk) : (s.modRef g).fields = s.fields := rfl
@[simp] theorem State.modRef_flocks (g : RefClk → RefClk) : (s.modRef g).flocks = s.flocks := rfl
@[simp] theorem State.modRef_cores (g : RefClk → RefClk) : (s.modRef g).cores = s.cores := rfl
@[simp] theorem State.modRef_lanes (g : RefClk → RefClk) : (s.modRef g).lanes = s.lanes := rfl
@[simp] theorem State.modRef_crooks (g : RefClk → RefClk) : (s.modRef g).crooks = s.crooks := rfl
@[simp] theorem State.modRef_taps (g : RefClk → RefClk) : (s.modRef g).taps = s.taps := rfl
@[simp] theorem State.modRef_mems (g : RefClk → RefClk) : (s.modRef g).mems = s.mems := rfl
@[simp] theorem State.modRef_pair (g : RefClk → RefClk) : (s.modRef g).pair = s.pair := rfl
@[simp] theorem State.modRef_fw (g : RefClk → RefClk) : (s.modRef g).fw = s.fw := rfl
@[simp] theorem State.modRef_screen (g : RefClk → RefClk) : (s.modRef g).screen = s.screen := rfl
@[simp] theorem State.modRef_job (g : RefClk → RefClk) : (s.modRef g).job = s.job := rfl
@[simp] theorem State.modRef_recovery (g : RefClk → RefClk) : (s.modRef g).recovery = s.recovery := rfl
@[simp] theorem State.modRef_musters (g : RefClk → RefClk) : (s.modRef g).musters = s.musters := rfl
@[simp] theorem State.modRef_folds (g : RefClk → RefClk) : (s.modRef g).folds = s.folds := rfl
@[simp] theorem State.modRef_gov (g : RefClk → RefClk) : (s.modRef g).gov = s.gov := rfl
@[simp] theorem State.modRef_govFlocks (g : RefClk → RefClk) : (s.modRef g).govFlocks = s.govFlocks := rfl
@[simp] theorem State.modRef_earmarks (g : RefClk → RefClk) : (s.modRef g).earmarks = s.earmarks := rfl
@[simp] theorem State.modRef_watches (g : RefClk → RefClk) : (s.modRef g).watches = s.watches := rfl
@[simp] theorem State.modRef_power (g : RefClk → RefClk) : (s.modRef g).power = s.power := rfl
@[simp] theorem State.modRef_mesh (g : RefClk → RefClk) : (s.modRef g).mesh = s.mesh := rfl
@[simp] theorem State.modRef_i3c (g : RefClk → RefClk) : (s.modRef g).i3c = s.i3c := rfl
@[simp] theorem State.modRef_trace (g : RefClk → RefClk) : (s.modRef g).trace = s.trace := rfl
@[simp] theorem State.modRef_jtag (g : RefClk → RefClk) : (s.modRef g).jtag = s.jtag := rfl
@[simp] theorem State.modRef_taints (g : RefClk → RefClk) : (s.modRef g).taints = s.taints := rfl
@[simp] theorem State.modRef_musterOrders (g : RefClk → RefClk) : (s.modRef g).musterOrders = s.musterOrders := rfl
@[simp] theorem State.modRef_field (g : RefClk → RefClk) (x : Nat) : (s.modRef g).field x = s.field x := rfl
@[simp] theorem State.modRef_flock (g : RefClk → RefClk) (x y : Nat) : (s.modRef g).flock x y = s.flock x y := rfl
@[simp] theorem State.modRef_core (g : RefClk → RefClk) (x y z : Nat) : (s.modRef g).core x y z = s.core x y z := rfl
@[simp] theorem State.modRef_lane (g : RefClk → RefClk) (x y z u : Nat) : (s.modRef g).lane x y z u = s.lane x y z u := rfl
@[simp] theorem State.modRef_crook (g : RefClk → RefClk) (x y : Nat) : (s.modRef g).crook x y = s.crook x y := rfl
@[simp] theorem State.modRef_tap (g : RefClk → RefClk) (x : Nat) : (s.modRef g).tap x = s.tap x := rfl
@[simp] theorem State.modRef_mem (g : RefClk → RefClk) (x : Nat) : (s.modRef g).mem x = s.mem x := rfl
@[simp] theorem State.modRef_gflock (g : RefClk → RefClk) (x y : Nat) : (s.modRef g).gflock x y = s.gflock x y := rfl
@[simp] theorem State.modRef_watch (g : RefClk → RefClk) (x : Nat) : (s.modRef g).watch x = s.watch x := rfl
@[simp] theorem State.modRef_activeShc (g : RefClk → RefClk) : (s.modRef g).activeShc = s.activeShc := rfl
@[simp] theorem State.modRef_follower (g : RefClk → RefClk) : (s.modRef g).follower = s.follower := rfl
@[simp] theorem State.modRef_firmware (g : RefClk → RefClk) : (s.modRef g).firmware = s.firmware := rfl
@[simp] theorem State.modRef_lcs (g : RefClk → RefClk) : (s.modRef g).lcs = s.lcs := rfl

/-! modI3c writes `i3c`. -/
@[simp] theorem State.modI3c_pending (g : I3c → I3c) : (s.modI3c g).pending = s.pending := rfl
@[simp] theorem State.modI3c_out (g : I3c → I3c) : (s.modI3c g).out = s.out := rfl
@[simp] theorem State.modI3c_due (g : I3c → I3c) : (s.modI3c g).due = s.due := rfl
@[simp] theorem State.modI3c_pwrGood (g : I3c → I3c) : (s.modI3c g).pwrGood = s.pwrGood := rfl
@[simp] theorem State.modI3c_tbase (g : I3c → I3c) : (s.modI3c g).tbase = s.tbase := rfl
@[simp] theorem State.modI3c_draws (g : I3c → I3c) : (s.modI3c g).draws = s.draws := rfl
@[simp] theorem State.modI3c_free (g : I3c → I3c) : (s.modI3c g).free = s.free := rfl
@[simp] theorem State.modI3c_start (g : I3c → I3c) : (s.modI3c g).start = s.start := rfl
@[simp] theorem State.modI3c_life (g : I3c → I3c) : (s.modI3c g).life = s.life := rfl
@[simp] theorem State.modI3c_refclk (g : I3c → I3c) : (s.modI3c g).refclk = s.refclk := rfl
@[simp] theorem State.modI3c_qspi (g : I3c → I3c) : (s.modI3c g).qspi = s.qspi := rfl
@[simp] theorem State.modI3c_pins (g : I3c → I3c) : (s.modI3c g).pins = s.pins := rfl
@[simp] theorem State.modI3c_ferr (g : I3c → I3c) : (s.modI3c g).ferr = s.ferr := rfl
@[simp] theorem State.modI3c_hif (g : I3c → I3c) : (s.modI3c g).hif = s.hif := rfl
@[simp] theorem State.modI3c_tally (g : I3c → I3c) : (s.modI3c g).tally = s.tally := rfl
@[simp] theorem State.modI3c_policy (g : I3c → I3c) : (s.modI3c g).policy = s.policy := rfl
@[simp] theorem State.modI3c_fields (g : I3c → I3c) : (s.modI3c g).fields = s.fields := rfl
@[simp] theorem State.modI3c_flocks (g : I3c → I3c) : (s.modI3c g).flocks = s.flocks := rfl
@[simp] theorem State.modI3c_cores (g : I3c → I3c) : (s.modI3c g).cores = s.cores := rfl
@[simp] theorem State.modI3c_lanes (g : I3c → I3c) : (s.modI3c g).lanes = s.lanes := rfl
@[simp] theorem State.modI3c_crooks (g : I3c → I3c) : (s.modI3c g).crooks = s.crooks := rfl
@[simp] theorem State.modI3c_taps (g : I3c → I3c) : (s.modI3c g).taps = s.taps := rfl
@[simp] theorem State.modI3c_mems (g : I3c → I3c) : (s.modI3c g).mems = s.mems := rfl
@[simp] theorem State.modI3c_pair (g : I3c → I3c) : (s.modI3c g).pair = s.pair := rfl
@[simp] theorem State.modI3c_fw (g : I3c → I3c) : (s.modI3c g).fw = s.fw := rfl
@[simp] theorem State.modI3c_screen (g : I3c → I3c) : (s.modI3c g).screen = s.screen := rfl
@[simp] theorem State.modI3c_job (g : I3c → I3c) : (s.modI3c g).job = s.job := rfl
@[simp] theorem State.modI3c_recovery (g : I3c → I3c) : (s.modI3c g).recovery = s.recovery := rfl
@[simp] theorem State.modI3c_musters (g : I3c → I3c) : (s.modI3c g).musters = s.musters := rfl
@[simp] theorem State.modI3c_folds (g : I3c → I3c) : (s.modI3c g).folds = s.folds := rfl
@[simp] theorem State.modI3c_gov (g : I3c → I3c) : (s.modI3c g).gov = s.gov := rfl
@[simp] theorem State.modI3c_govFlocks (g : I3c → I3c) : (s.modI3c g).govFlocks = s.govFlocks := rfl
@[simp] theorem State.modI3c_earmarks (g : I3c → I3c) : (s.modI3c g).earmarks = s.earmarks := rfl
@[simp] theorem State.modI3c_watches (g : I3c → I3c) : (s.modI3c g).watches = s.watches := rfl
@[simp] theorem State.modI3c_power (g : I3c → I3c) : (s.modI3c g).power = s.power := rfl
@[simp] theorem State.modI3c_mesh (g : I3c → I3c) : (s.modI3c g).mesh = s.mesh := rfl
@[simp] theorem State.modI3c_i3c (g : I3c → I3c) : (s.modI3c g).i3c = g s.i3c := rfl
@[simp] theorem State.modI3c_trace (g : I3c → I3c) : (s.modI3c g).trace = s.trace := rfl
@[simp] theorem State.modI3c_jtag (g : I3c → I3c) : (s.modI3c g).jtag = s.jtag := rfl
@[simp] theorem State.modI3c_taints (g : I3c → I3c) : (s.modI3c g).taints = s.taints := rfl
@[simp] theorem State.modI3c_musterOrders (g : I3c → I3c) : (s.modI3c g).musterOrders = s.musterOrders := rfl
@[simp] theorem State.modI3c_field (g : I3c → I3c) (x : Nat) : (s.modI3c g).field x = s.field x := rfl
@[simp] theorem State.modI3c_flock (g : I3c → I3c) (x y : Nat) : (s.modI3c g).flock x y = s.flock x y := rfl
@[simp] theorem State.modI3c_core (g : I3c → I3c) (x y z : Nat) : (s.modI3c g).core x y z = s.core x y z := rfl
@[simp] theorem State.modI3c_lane (g : I3c → I3c) (x y z u : Nat) : (s.modI3c g).lane x y z u = s.lane x y z u := rfl
@[simp] theorem State.modI3c_crook (g : I3c → I3c) (x y : Nat) : (s.modI3c g).crook x y = s.crook x y := rfl
@[simp] theorem State.modI3c_tap (g : I3c → I3c) (x : Nat) : (s.modI3c g).tap x = s.tap x := rfl
@[simp] theorem State.modI3c_mem (g : I3c → I3c) (x : Nat) : (s.modI3c g).mem x = s.mem x := rfl
@[simp] theorem State.modI3c_gflock (g : I3c → I3c) (x y : Nat) : (s.modI3c g).gflock x y = s.gflock x y := rfl
@[simp] theorem State.modI3c_watch (g : I3c → I3c) (x : Nat) : (s.modI3c g).watch x = s.watch x := rfl
@[simp] theorem State.modI3c_activeShc (g : I3c → I3c) : (s.modI3c g).activeShc = s.activeShc := rfl
@[simp] theorem State.modI3c_follower (g : I3c → I3c) : (s.modI3c g).follower = s.follower := rfl
@[simp] theorem State.modI3c_firmware (g : I3c → I3c) : (s.modI3c g).firmware = s.firmware := rfl
@[simp] theorem State.modI3c_lcs (g : I3c → I3c) : (s.modI3c g).lcs = s.lcs := rfl

/-! modTrace writes `trace`. -/
@[simp] theorem State.modTrace_pending (g : Trace → Trace) : (s.modTrace g).pending = s.pending := rfl
@[simp] theorem State.modTrace_out (g : Trace → Trace) : (s.modTrace g).out = s.out := rfl
@[simp] theorem State.modTrace_due (g : Trace → Trace) : (s.modTrace g).due = s.due := rfl
@[simp] theorem State.modTrace_pwrGood (g : Trace → Trace) : (s.modTrace g).pwrGood = s.pwrGood := rfl
@[simp] theorem State.modTrace_tbase (g : Trace → Trace) : (s.modTrace g).tbase = s.tbase := rfl
@[simp] theorem State.modTrace_draws (g : Trace → Trace) : (s.modTrace g).draws = s.draws := rfl
@[simp] theorem State.modTrace_free (g : Trace → Trace) : (s.modTrace g).free = s.free := rfl
@[simp] theorem State.modTrace_start (g : Trace → Trace) : (s.modTrace g).start = s.start := rfl
@[simp] theorem State.modTrace_life (g : Trace → Trace) : (s.modTrace g).life = s.life := rfl
@[simp] theorem State.modTrace_refclk (g : Trace → Trace) : (s.modTrace g).refclk = s.refclk := rfl
@[simp] theorem State.modTrace_qspi (g : Trace → Trace) : (s.modTrace g).qspi = s.qspi := rfl
@[simp] theorem State.modTrace_pins (g : Trace → Trace) : (s.modTrace g).pins = s.pins := rfl
@[simp] theorem State.modTrace_ferr (g : Trace → Trace) : (s.modTrace g).ferr = s.ferr := rfl
@[simp] theorem State.modTrace_hif (g : Trace → Trace) : (s.modTrace g).hif = s.hif := rfl
@[simp] theorem State.modTrace_tally (g : Trace → Trace) : (s.modTrace g).tally = s.tally := rfl
@[simp] theorem State.modTrace_policy (g : Trace → Trace) : (s.modTrace g).policy = s.policy := rfl
@[simp] theorem State.modTrace_fields (g : Trace → Trace) : (s.modTrace g).fields = s.fields := rfl
@[simp] theorem State.modTrace_flocks (g : Trace → Trace) : (s.modTrace g).flocks = s.flocks := rfl
@[simp] theorem State.modTrace_cores (g : Trace → Trace) : (s.modTrace g).cores = s.cores := rfl
@[simp] theorem State.modTrace_lanes (g : Trace → Trace) : (s.modTrace g).lanes = s.lanes := rfl
@[simp] theorem State.modTrace_crooks (g : Trace → Trace) : (s.modTrace g).crooks = s.crooks := rfl
@[simp] theorem State.modTrace_taps (g : Trace → Trace) : (s.modTrace g).taps = s.taps := rfl
@[simp] theorem State.modTrace_mems (g : Trace → Trace) : (s.modTrace g).mems = s.mems := rfl
@[simp] theorem State.modTrace_pair (g : Trace → Trace) : (s.modTrace g).pair = s.pair := rfl
@[simp] theorem State.modTrace_fw (g : Trace → Trace) : (s.modTrace g).fw = s.fw := rfl
@[simp] theorem State.modTrace_screen (g : Trace → Trace) : (s.modTrace g).screen = s.screen := rfl
@[simp] theorem State.modTrace_job (g : Trace → Trace) : (s.modTrace g).job = s.job := rfl
@[simp] theorem State.modTrace_recovery (g : Trace → Trace) : (s.modTrace g).recovery = s.recovery := rfl
@[simp] theorem State.modTrace_musters (g : Trace → Trace) : (s.modTrace g).musters = s.musters := rfl
@[simp] theorem State.modTrace_folds (g : Trace → Trace) : (s.modTrace g).folds = s.folds := rfl
@[simp] theorem State.modTrace_gov (g : Trace → Trace) : (s.modTrace g).gov = s.gov := rfl
@[simp] theorem State.modTrace_govFlocks (g : Trace → Trace) : (s.modTrace g).govFlocks = s.govFlocks := rfl
@[simp] theorem State.modTrace_earmarks (g : Trace → Trace) : (s.modTrace g).earmarks = s.earmarks := rfl
@[simp] theorem State.modTrace_watches (g : Trace → Trace) : (s.modTrace g).watches = s.watches := rfl
@[simp] theorem State.modTrace_power (g : Trace → Trace) : (s.modTrace g).power = s.power := rfl
@[simp] theorem State.modTrace_mesh (g : Trace → Trace) : (s.modTrace g).mesh = s.mesh := rfl
@[simp] theorem State.modTrace_i3c (g : Trace → Trace) : (s.modTrace g).i3c = s.i3c := rfl
@[simp] theorem State.modTrace_trace (g : Trace → Trace) : (s.modTrace g).trace = g s.trace := rfl
@[simp] theorem State.modTrace_jtag (g : Trace → Trace) : (s.modTrace g).jtag = s.jtag := rfl
@[simp] theorem State.modTrace_taints (g : Trace → Trace) : (s.modTrace g).taints = s.taints := rfl
@[simp] theorem State.modTrace_musterOrders (g : Trace → Trace) : (s.modTrace g).musterOrders = s.musterOrders := rfl
@[simp] theorem State.modTrace_field (g : Trace → Trace) (x : Nat) : (s.modTrace g).field x = s.field x := rfl
@[simp] theorem State.modTrace_flock (g : Trace → Trace) (x y : Nat) : (s.modTrace g).flock x y = s.flock x y := rfl
@[simp] theorem State.modTrace_core (g : Trace → Trace) (x y z : Nat) : (s.modTrace g).core x y z = s.core x y z := rfl
@[simp] theorem State.modTrace_lane (g : Trace → Trace) (x y z u : Nat) : (s.modTrace g).lane x y z u = s.lane x y z u := rfl
@[simp] theorem State.modTrace_crook (g : Trace → Trace) (x y : Nat) : (s.modTrace g).crook x y = s.crook x y := rfl
@[simp] theorem State.modTrace_tap (g : Trace → Trace) (x : Nat) : (s.modTrace g).tap x = s.tap x := rfl
@[simp] theorem State.modTrace_mem (g : Trace → Trace) (x : Nat) : (s.modTrace g).mem x = s.mem x := rfl
@[simp] theorem State.modTrace_gflock (g : Trace → Trace) (x y : Nat) : (s.modTrace g).gflock x y = s.gflock x y := rfl
@[simp] theorem State.modTrace_watch (g : Trace → Trace) (x : Nat) : (s.modTrace g).watch x = s.watch x := rfl
@[simp] theorem State.modTrace_activeShc (g : Trace → Trace) : (s.modTrace g).activeShc = s.activeShc := rfl
@[simp] theorem State.modTrace_follower (g : Trace → Trace) : (s.modTrace g).follower = s.follower := rfl
@[simp] theorem State.modTrace_firmware (g : Trace → Trace) : (s.modTrace g).firmware = s.firmware := rfl
@[simp] theorem State.modTrace_lcs (g : Trace → Trace) : (s.modTrace g).lcs = s.lcs := rfl

/-! outside writes `out`. -/
@[simp] theorem State.outside_pending : (s.outside).pending = s.pending := rfl
@[simp] theorem State.outside_out : (s.outside).out = [] := rfl
@[simp] theorem State.outside_due : (s.outside).due = s.due := rfl
@[simp] theorem State.outside_pwrGood : (s.outside).pwrGood = s.pwrGood := rfl
@[simp] theorem State.outside_tbase : (s.outside).tbase = s.tbase := rfl
@[simp] theorem State.outside_draws : (s.outside).draws = s.draws := rfl
@[simp] theorem State.outside_free : (s.outside).free = s.free := rfl
@[simp] theorem State.outside_start : (s.outside).start = s.start := rfl
@[simp] theorem State.outside_life : (s.outside).life = s.life := rfl
@[simp] theorem State.outside_refclk : (s.outside).refclk = s.refclk := rfl
@[simp] theorem State.outside_qspi : (s.outside).qspi = s.qspi := rfl
@[simp] theorem State.outside_pins : (s.outside).pins = s.pins := rfl
@[simp] theorem State.outside_ferr : (s.outside).ferr = s.ferr := rfl
@[simp] theorem State.outside_hif : (s.outside).hif = s.hif := rfl
@[simp] theorem State.outside_tally : (s.outside).tally = s.tally := rfl
@[simp] theorem State.outside_policy : (s.outside).policy = s.policy := rfl
@[simp] theorem State.outside_fields : (s.outside).fields = s.fields := rfl
@[simp] theorem State.outside_flocks : (s.outside).flocks = s.flocks := rfl
@[simp] theorem State.outside_cores : (s.outside).cores = s.cores := rfl
@[simp] theorem State.outside_lanes : (s.outside).lanes = s.lanes := rfl
@[simp] theorem State.outside_crooks : (s.outside).crooks = s.crooks := rfl
@[simp] theorem State.outside_taps : (s.outside).taps = s.taps := rfl
@[simp] theorem State.outside_mems : (s.outside).mems = s.mems := rfl
@[simp] theorem State.outside_pair : (s.outside).pair = s.pair := rfl
@[simp] theorem State.outside_fw : (s.outside).fw = s.fw := rfl
@[simp] theorem State.outside_screen : (s.outside).screen = s.screen := rfl
@[simp] theorem State.outside_job : (s.outside).job = s.job := rfl
@[simp] theorem State.outside_recovery : (s.outside).recovery = s.recovery := rfl
@[simp] theorem State.outside_musters : (s.outside).musters = s.musters := rfl
@[simp] theorem State.outside_folds : (s.outside).folds = s.folds := rfl
@[simp] theorem State.outside_gov : (s.outside).gov = s.gov := rfl
@[simp] theorem State.outside_govFlocks : (s.outside).govFlocks = s.govFlocks := rfl
@[simp] theorem State.outside_earmarks : (s.outside).earmarks = s.earmarks := rfl
@[simp] theorem State.outside_watches : (s.outside).watches = s.watches := rfl
@[simp] theorem State.outside_power : (s.outside).power = s.power := rfl
@[simp] theorem State.outside_mesh : (s.outside).mesh = s.mesh := rfl
@[simp] theorem State.outside_i3c : (s.outside).i3c = s.i3c := rfl
@[simp] theorem State.outside_trace : (s.outside).trace = s.trace := rfl
@[simp] theorem State.outside_jtag : (s.outside).jtag = s.jtag := rfl
@[simp] theorem State.outside_taints : (s.outside).taints = s.taints := rfl
@[simp] theorem State.outside_musterOrders : (s.outside).musterOrders = s.musterOrders := rfl
@[simp] theorem State.outside_field (x : Nat) : (s.outside).field x = s.field x := rfl
@[simp] theorem State.outside_flock (x y : Nat) : (s.outside).flock x y = s.flock x y := rfl
@[simp] theorem State.outside_core (x y z : Nat) : (s.outside).core x y z = s.core x y z := rfl
@[simp] theorem State.outside_lane (x y z u : Nat) : (s.outside).lane x y z u = s.lane x y z u := rfl
@[simp] theorem State.outside_crook (x y : Nat) : (s.outside).crook x y = s.crook x y := rfl
@[simp] theorem State.outside_tap (x : Nat) : (s.outside).tap x = s.tap x := rfl
@[simp] theorem State.outside_mem (x : Nat) : (s.outside).mem x = s.mem x := rfl
@[simp] theorem State.outside_gflock (x y : Nat) : (s.outside).gflock x y = s.gflock x y := rfl
@[simp] theorem State.outside_watch (x : Nat) : (s.outside).watch x = s.watch x := rfl
@[simp] theorem State.outside_activeShc : (s.outside).activeShc = s.activeShc := rfl
@[simp] theorem State.outside_follower : (s.outside).follower = s.follower := rfl
@[simp] theorem State.outside_firmware : (s.outside).firmware = s.firmware := rfl
@[simp] theorem State.outside_lcs : (s.outside).lcs = s.lcs := rfl

/-! taken writes `hif`. -/
@[simp] theorem State.taken_pending (d : Desc) (op : Nat) : (s.taken d op).pending = s.pending := rfl
@[simp] theorem State.taken_out (d : Desc) (op : Nat) : (s.taken d op).out = s.out := rfl
@[simp] theorem State.taken_due (d : Desc) (op : Nat) : (s.taken d op).due = s.due := rfl
@[simp] theorem State.taken_pwrGood (d : Desc) (op : Nat) : (s.taken d op).pwrGood = s.pwrGood := rfl
@[simp] theorem State.taken_tbase (d : Desc) (op : Nat) : (s.taken d op).tbase = s.tbase := rfl
@[simp] theorem State.taken_draws (d : Desc) (op : Nat) : (s.taken d op).draws = s.draws := rfl
@[simp] theorem State.taken_free (d : Desc) (op : Nat) : (s.taken d op).free = s.free := rfl
@[simp] theorem State.taken_start (d : Desc) (op : Nat) : (s.taken d op).start = s.start := rfl
@[simp] theorem State.taken_life (d : Desc) (op : Nat) : (s.taken d op).life = s.life := rfl
@[simp] theorem State.taken_refclk (d : Desc) (op : Nat) : (s.taken d op).refclk = s.refclk := rfl
@[simp] theorem State.taken_qspi (d : Desc) (op : Nat) : (s.taken d op).qspi = s.qspi := rfl
@[simp] theorem State.taken_pins (d : Desc) (op : Nat) : (s.taken d op).pins = s.pins := rfl
@[simp] theorem State.taken_ferr (d : Desc) (op : Nat) : (s.taken d op).ferr = s.ferr := rfl
@[simp] theorem State.taken_hif (d : Desc) (op : Nat) : (s.taken d op).hif = ({ s.hif with turn := d.ring + 1 } : Hif).modCmd d.ring (fun r => { r with busy := some op, notify := bit (d.bytes.getD 1 0).toNat 0, bufAddr := d.addr }) := rfl
@[simp] theorem State.taken_tally (d : Desc) (op : Nat) : (s.taken d op).tally = s.tally := rfl
@[simp] theorem State.taken_policy (d : Desc) (op : Nat) : (s.taken d op).policy = s.policy := rfl
@[simp] theorem State.taken_fields (d : Desc) (op : Nat) : (s.taken d op).fields = s.fields := rfl
@[simp] theorem State.taken_flocks (d : Desc) (op : Nat) : (s.taken d op).flocks = s.flocks := rfl
@[simp] theorem State.taken_cores (d : Desc) (op : Nat) : (s.taken d op).cores = s.cores := rfl
@[simp] theorem State.taken_lanes (d : Desc) (op : Nat) : (s.taken d op).lanes = s.lanes := rfl
@[simp] theorem State.taken_crooks (d : Desc) (op : Nat) : (s.taken d op).crooks = s.crooks := rfl
@[simp] theorem State.taken_taps (d : Desc) (op : Nat) : (s.taken d op).taps = s.taps := rfl
@[simp] theorem State.taken_mems (d : Desc) (op : Nat) : (s.taken d op).mems = s.mems := rfl
@[simp] theorem State.taken_pair (d : Desc) (op : Nat) : (s.taken d op).pair = s.pair := rfl
@[simp] theorem State.taken_fw (d : Desc) (op : Nat) : (s.taken d op).fw = s.fw := rfl
@[simp] theorem State.taken_screen (d : Desc) (op : Nat) : (s.taken d op).screen = s.screen := rfl
@[simp] theorem State.taken_job (d : Desc) (op : Nat) : (s.taken d op).job = s.job := rfl
@[simp] theorem State.taken_recovery (d : Desc) (op : Nat) : (s.taken d op).recovery = s.recovery := rfl
@[simp] theorem State.taken_musters (d : Desc) (op : Nat) : (s.taken d op).musters = s.musters := rfl
@[simp] theorem State.taken_folds (d : Desc) (op : Nat) : (s.taken d op).folds = s.folds := rfl
@[simp] theorem State.taken_gov (d : Desc) (op : Nat) : (s.taken d op).gov = s.gov := rfl
@[simp] theorem State.taken_govFlocks (d : Desc) (op : Nat) : (s.taken d op).govFlocks = s.govFlocks := rfl
@[simp] theorem State.taken_earmarks (d : Desc) (op : Nat) : (s.taken d op).earmarks = s.earmarks := rfl
@[simp] theorem State.taken_watches (d : Desc) (op : Nat) : (s.taken d op).watches = s.watches := rfl
@[simp] theorem State.taken_power (d : Desc) (op : Nat) : (s.taken d op).power = s.power := rfl
@[simp] theorem State.taken_mesh (d : Desc) (op : Nat) : (s.taken d op).mesh = s.mesh := rfl
@[simp] theorem State.taken_i3c (d : Desc) (op : Nat) : (s.taken d op).i3c = s.i3c := rfl
@[simp] theorem State.taken_trace (d : Desc) (op : Nat) : (s.taken d op).trace = s.trace := rfl
@[simp] theorem State.taken_jtag (d : Desc) (op : Nat) : (s.taken d op).jtag = s.jtag := rfl
@[simp] theorem State.taken_taints (d : Desc) (op : Nat) : (s.taken d op).taints = s.taints := rfl
@[simp] theorem State.taken_musterOrders (d : Desc) (op : Nat) : (s.taken d op).musterOrders = s.musterOrders := rfl
@[simp] theorem State.taken_field (d : Desc) (op : Nat) (x : Nat) : (s.taken d op).field x = s.field x := rfl
@[simp] theorem State.taken_flock (d : Desc) (op : Nat) (x y : Nat) : (s.taken d op).flock x y = s.flock x y := rfl
@[simp] theorem State.taken_core (d : Desc) (op : Nat) (x y z : Nat) : (s.taken d op).core x y z = s.core x y z := rfl
@[simp] theorem State.taken_lane (d : Desc) (op : Nat) (x y z u : Nat) : (s.taken d op).lane x y z u = s.lane x y z u := rfl
@[simp] theorem State.taken_crook (d : Desc) (op : Nat) (x y : Nat) : (s.taken d op).crook x y = s.crook x y := rfl
@[simp] theorem State.taken_tap (d : Desc) (op : Nat) (x : Nat) : (s.taken d op).tap x = s.tap x := rfl
@[simp] theorem State.taken_mem (d : Desc) (op : Nat) (x : Nat) : (s.taken d op).mem x = s.mem x := rfl
@[simp] theorem State.taken_gflock (d : Desc) (op : Nat) (x y : Nat) : (s.taken d op).gflock x y = s.gflock x y := rfl
@[simp] theorem State.taken_watch (d : Desc) (op : Nat) (x : Nat) : (s.taken d op).watch x = s.watch x := rfl
@[simp] theorem State.taken_activeShc (d : Desc) (op : Nat) : (s.taken d op).activeShc = s.activeShc := rfl
@[simp] theorem State.taken_follower (d : Desc) (op : Nat) : (s.taken d op).follower = s.follower := rfl
@[simp] theorem State.taken_firmware (d : Desc) (op : Nat) : (s.taken d op).firmware = s.firmware := rfl
@[simp] theorem State.taken_lcs (d : Desc) (op : Nat) : (s.taken d op).lcs = s.lcs := rfl

/-! modShc writes `pair`. -/
@[simp] theorem State.modShc_pending (b : Bool) (g : Shc → Shc) : (s.modShc b g).pending = s.pending := by unfold State.modShc; split <;> rfl
@[simp] theorem State.modShc_out (b : Bool) (g : Shc → Shc) : (s.modShc b g).out = s.out := by unfold State.modShc; split <;> rfl
@[simp] theorem State.modShc_due (b : Bool) (g : Shc → Shc) : (s.modShc b g).due = s.due := by unfold State.modShc; split <;> rfl
@[simp] theorem State.modShc_pwrGood (b : Bool) (g : Shc → Shc) : (s.modShc b g).pwrGood = s.pwrGood := by unfold State.modShc; split <;> rfl
@[simp] theorem State.modShc_tbase (b : Bool) (g : Shc → Shc) : (s.modShc b g).tbase = s.tbase := by unfold State.modShc; split <;> rfl
@[simp] theorem State.modShc_draws (b : Bool) (g : Shc → Shc) : (s.modShc b g).draws = s.draws := by unfold State.modShc; split <;> rfl
@[simp] theorem State.modShc_free (b : Bool) (g : Shc → Shc) : (s.modShc b g).free = s.free := by unfold State.modShc; split <;> rfl
@[simp] theorem State.modShc_start (b : Bool) (g : Shc → Shc) : (s.modShc b g).start = s.start := by unfold State.modShc; split <;> rfl
@[simp] theorem State.modShc_life (b : Bool) (g : Shc → Shc) : (s.modShc b g).life = s.life := by unfold State.modShc; split <;> rfl
@[simp] theorem State.modShc_refclk (b : Bool) (g : Shc → Shc) : (s.modShc b g).refclk = s.refclk := by unfold State.modShc; split <;> rfl
@[simp] theorem State.modShc_qspi (b : Bool) (g : Shc → Shc) : (s.modShc b g).qspi = s.qspi := by unfold State.modShc; split <;> rfl
@[simp] theorem State.modShc_pins (b : Bool) (g : Shc → Shc) : (s.modShc b g).pins = s.pins := by unfold State.modShc; split <;> rfl
@[simp] theorem State.modShc_ferr (b : Bool) (g : Shc → Shc) : (s.modShc b g).ferr = s.ferr := by unfold State.modShc; split <;> rfl
@[simp] theorem State.modShc_hif (b : Bool) (g : Shc → Shc) : (s.modShc b g).hif = s.hif := by unfold State.modShc; split <;> rfl
@[simp] theorem State.modShc_tally (b : Bool) (g : Shc → Shc) : (s.modShc b g).tally = s.tally := by unfold State.modShc; split <;> rfl
@[simp] theorem State.modShc_policy (b : Bool) (g : Shc → Shc) : (s.modShc b g).policy = s.policy := by unfold State.modShc; split <;> rfl
@[simp] theorem State.modShc_fields (b : Bool) (g : Shc → Shc) : (s.modShc b g).fields = s.fields := by unfold State.modShc; split <;> rfl
@[simp] theorem State.modShc_flocks (b : Bool) (g : Shc → Shc) : (s.modShc b g).flocks = s.flocks := by unfold State.modShc; split <;> rfl
@[simp] theorem State.modShc_cores (b : Bool) (g : Shc → Shc) : (s.modShc b g).cores = s.cores := by unfold State.modShc; split <;> rfl
@[simp] theorem State.modShc_lanes (b : Bool) (g : Shc → Shc) : (s.modShc b g).lanes = s.lanes := by unfold State.modShc; split <;> rfl
@[simp] theorem State.modShc_crooks (b : Bool) (g : Shc → Shc) : (s.modShc b g).crooks = s.crooks := by unfold State.modShc; split <;> rfl
@[simp] theorem State.modShc_taps (b : Bool) (g : Shc → Shc) : (s.modShc b g).taps = s.taps := by unfold State.modShc; split <;> rfl
@[simp] theorem State.modShc_mems (b : Bool) (g : Shc → Shc) : (s.modShc b g).mems = s.mems := by unfold State.modShc; split <;> rfl
@[simp] theorem State.modShc_fw (b : Bool) (g : Shc → Shc) : (s.modShc b g).fw = s.fw := by unfold State.modShc; split <;> rfl
@[simp] theorem State.modShc_screen (b : Bool) (g : Shc → Shc) : (s.modShc b g).screen = s.screen := by unfold State.modShc; split <;> rfl
@[simp] theorem State.modShc_job (b : Bool) (g : Shc → Shc) : (s.modShc b g).job = s.job := by unfold State.modShc; split <;> rfl
@[simp] theorem State.modShc_recovery (b : Bool) (g : Shc → Shc) : (s.modShc b g).recovery = s.recovery := by unfold State.modShc; split <;> rfl
@[simp] theorem State.modShc_musters (b : Bool) (g : Shc → Shc) : (s.modShc b g).musters = s.musters := by unfold State.modShc; split <;> rfl
@[simp] theorem State.modShc_folds (b : Bool) (g : Shc → Shc) : (s.modShc b g).folds = s.folds := by unfold State.modShc; split <;> rfl
@[simp] theorem State.modShc_gov (b : Bool) (g : Shc → Shc) : (s.modShc b g).gov = s.gov := by unfold State.modShc; split <;> rfl
@[simp] theorem State.modShc_govFlocks (b : Bool) (g : Shc → Shc) : (s.modShc b g).govFlocks = s.govFlocks := by unfold State.modShc; split <;> rfl
@[simp] theorem State.modShc_earmarks (b : Bool) (g : Shc → Shc) : (s.modShc b g).earmarks = s.earmarks := by unfold State.modShc; split <;> rfl
@[simp] theorem State.modShc_watches (b : Bool) (g : Shc → Shc) : (s.modShc b g).watches = s.watches := by unfold State.modShc; split <;> rfl
@[simp] theorem State.modShc_power (b : Bool) (g : Shc → Shc) : (s.modShc b g).power = s.power := by unfold State.modShc; split <;> rfl
@[simp] theorem State.modShc_mesh (b : Bool) (g : Shc → Shc) : (s.modShc b g).mesh = s.mesh := by unfold State.modShc; split <;> rfl
@[simp] theorem State.modShc_i3c (b : Bool) (g : Shc → Shc) : (s.modShc b g).i3c = s.i3c := by unfold State.modShc; split <;> rfl
@[simp] theorem State.modShc_trace (b : Bool) (g : Shc → Shc) : (s.modShc b g).trace = s.trace := by unfold State.modShc; split <;> rfl
@[simp] theorem State.modShc_jtag (b : Bool) (g : Shc → Shc) : (s.modShc b g).jtag = s.jtag := by unfold State.modShc; split <;> rfl
@[simp] theorem State.modShc_taints (b : Bool) (g : Shc → Shc) : (s.modShc b g).taints = s.taints := by unfold State.modShc; split <;> rfl
@[simp] theorem State.modShc_musterOrders (b : Bool) (g : Shc → Shc) : (s.modShc b g).musterOrders = s.musterOrders := by unfold State.modShc; split <;> rfl
@[simp] theorem State.modShc_field (b : Bool) (g : Shc → Shc) (x : Nat) : (s.modShc b g).field x = s.field x := by unfold State.modShc; split <;> rfl
@[simp] theorem State.modShc_flock (b : Bool) (g : Shc → Shc) (x y : Nat) : (s.modShc b g).flock x y = s.flock x y := by unfold State.modShc; split <;> rfl
@[simp] theorem State.modShc_core (b : Bool) (g : Shc → Shc) (x y z : Nat) : (s.modShc b g).core x y z = s.core x y z := by unfold State.modShc; split <;> rfl
@[simp] theorem State.modShc_lane (b : Bool) (g : Shc → Shc) (x y z u : Nat) : (s.modShc b g).lane x y z u = s.lane x y z u := by unfold State.modShc; split <;> rfl
@[simp] theorem State.modShc_crook (b : Bool) (g : Shc → Shc) (x y : Nat) : (s.modShc b g).crook x y = s.crook x y := by unfold State.modShc; split <;> rfl
@[simp] theorem State.modShc_tap (b : Bool) (g : Shc → Shc) (x : Nat) : (s.modShc b g).tap x = s.tap x := by unfold State.modShc; split <;> rfl
@[simp] theorem State.modShc_mem (b : Bool) (g : Shc → Shc) (x : Nat) : (s.modShc b g).mem x = s.mem x := by unfold State.modShc; split <;> rfl
@[simp] theorem State.modShc_gflock (b : Bool) (g : Shc → Shc) (x y : Nat) : (s.modShc b g).gflock x y = s.gflock x y := by unfold State.modShc; split <;> rfl
@[simp] theorem State.modShc_watch (b : Bool) (g : Shc → Shc) (x : Nat) : (s.modShc b g).watch x = s.watch x := by unfold State.modShc; split <;> rfl
@[simp] theorem State.modShc_lcs (b : Bool) (g : Shc → Shc) : (s.modShc b g).lcs = s.lcs := by unfold State.modShc; split <;> rfl

/-! modPin writes `pins`. -/
@[simp] theorem State.modPin_pending (b : Bool) (g : Pin → Pin) : (s.modPin b g).pending = s.pending := by unfold State.modPin; split <;> rfl
@[simp] theorem State.modPin_out (b : Bool) (g : Pin → Pin) : (s.modPin b g).out = s.out := by unfold State.modPin; split <;> rfl
@[simp] theorem State.modPin_due (b : Bool) (g : Pin → Pin) : (s.modPin b g).due = s.due := by unfold State.modPin; split <;> rfl
@[simp] theorem State.modPin_pwrGood (b : Bool) (g : Pin → Pin) : (s.modPin b g).pwrGood = s.pwrGood := by unfold State.modPin; split <;> rfl
@[simp] theorem State.modPin_tbase (b : Bool) (g : Pin → Pin) : (s.modPin b g).tbase = s.tbase := by unfold State.modPin; split <;> rfl
@[simp] theorem State.modPin_draws (b : Bool) (g : Pin → Pin) : (s.modPin b g).draws = s.draws := by unfold State.modPin; split <;> rfl
@[simp] theorem State.modPin_free (b : Bool) (g : Pin → Pin) : (s.modPin b g).free = s.free := by unfold State.modPin; split <;> rfl
@[simp] theorem State.modPin_start (b : Bool) (g : Pin → Pin) : (s.modPin b g).start = s.start := by unfold State.modPin; split <;> rfl
@[simp] theorem State.modPin_life (b : Bool) (g : Pin → Pin) : (s.modPin b g).life = s.life := by unfold State.modPin; split <;> rfl
@[simp] theorem State.modPin_refclk (b : Bool) (g : Pin → Pin) : (s.modPin b g).refclk = s.refclk := by unfold State.modPin; split <;> rfl
@[simp] theorem State.modPin_qspi (b : Bool) (g : Pin → Pin) : (s.modPin b g).qspi = s.qspi := by unfold State.modPin; split <;> rfl
@[simp] theorem State.modPin_ferr (b : Bool) (g : Pin → Pin) : (s.modPin b g).ferr = s.ferr := by unfold State.modPin; split <;> rfl
@[simp] theorem State.modPin_hif (b : Bool) (g : Pin → Pin) : (s.modPin b g).hif = s.hif := by unfold State.modPin; split <;> rfl
@[simp] theorem State.modPin_tally (b : Bool) (g : Pin → Pin) : (s.modPin b g).tally = s.tally := by unfold State.modPin; split <;> rfl
@[simp] theorem State.modPin_policy (b : Bool) (g : Pin → Pin) : (s.modPin b g).policy = s.policy := by unfold State.modPin; split <;> rfl
@[simp] theorem State.modPin_fields (b : Bool) (g : Pin → Pin) : (s.modPin b g).fields = s.fields := by unfold State.modPin; split <;> rfl
@[simp] theorem State.modPin_flocks (b : Bool) (g : Pin → Pin) : (s.modPin b g).flocks = s.flocks := by unfold State.modPin; split <;> rfl
@[simp] theorem State.modPin_cores (b : Bool) (g : Pin → Pin) : (s.modPin b g).cores = s.cores := by unfold State.modPin; split <;> rfl
@[simp] theorem State.modPin_lanes (b : Bool) (g : Pin → Pin) : (s.modPin b g).lanes = s.lanes := by unfold State.modPin; split <;> rfl
@[simp] theorem State.modPin_crooks (b : Bool) (g : Pin → Pin) : (s.modPin b g).crooks = s.crooks := by unfold State.modPin; split <;> rfl
@[simp] theorem State.modPin_taps (b : Bool) (g : Pin → Pin) : (s.modPin b g).taps = s.taps := by unfold State.modPin; split <;> rfl
@[simp] theorem State.modPin_mems (b : Bool) (g : Pin → Pin) : (s.modPin b g).mems = s.mems := by unfold State.modPin; split <;> rfl
@[simp] theorem State.modPin_pair (b : Bool) (g : Pin → Pin) : (s.modPin b g).pair = s.pair := by unfold State.modPin; split <;> rfl
@[simp] theorem State.modPin_fw (b : Bool) (g : Pin → Pin) : (s.modPin b g).fw = s.fw := by unfold State.modPin; split <;> rfl
@[simp] theorem State.modPin_screen (b : Bool) (g : Pin → Pin) : (s.modPin b g).screen = s.screen := by unfold State.modPin; split <;> rfl
@[simp] theorem State.modPin_job (b : Bool) (g : Pin → Pin) : (s.modPin b g).job = s.job := by unfold State.modPin; split <;> rfl
@[simp] theorem State.modPin_recovery (b : Bool) (g : Pin → Pin) : (s.modPin b g).recovery = s.recovery := by unfold State.modPin; split <;> rfl
@[simp] theorem State.modPin_musters (b : Bool) (g : Pin → Pin) : (s.modPin b g).musters = s.musters := by unfold State.modPin; split <;> rfl
@[simp] theorem State.modPin_folds (b : Bool) (g : Pin → Pin) : (s.modPin b g).folds = s.folds := by unfold State.modPin; split <;> rfl
@[simp] theorem State.modPin_gov (b : Bool) (g : Pin → Pin) : (s.modPin b g).gov = s.gov := by unfold State.modPin; split <;> rfl
@[simp] theorem State.modPin_govFlocks (b : Bool) (g : Pin → Pin) : (s.modPin b g).govFlocks = s.govFlocks := by unfold State.modPin; split <;> rfl
@[simp] theorem State.modPin_earmarks (b : Bool) (g : Pin → Pin) : (s.modPin b g).earmarks = s.earmarks := by unfold State.modPin; split <;> rfl
@[simp] theorem State.modPin_watches (b : Bool) (g : Pin → Pin) : (s.modPin b g).watches = s.watches := by unfold State.modPin; split <;> rfl
@[simp] theorem State.modPin_power (b : Bool) (g : Pin → Pin) : (s.modPin b g).power = s.power := by unfold State.modPin; split <;> rfl
@[simp] theorem State.modPin_mesh (b : Bool) (g : Pin → Pin) : (s.modPin b g).mesh = s.mesh := by unfold State.modPin; split <;> rfl
@[simp] theorem State.modPin_i3c (b : Bool) (g : Pin → Pin) : (s.modPin b g).i3c = s.i3c := by unfold State.modPin; split <;> rfl
@[simp] theorem State.modPin_trace (b : Bool) (g : Pin → Pin) : (s.modPin b g).trace = s.trace := by unfold State.modPin; split <;> rfl
@[simp] theorem State.modPin_jtag (b : Bool) (g : Pin → Pin) : (s.modPin b g).jtag = s.jtag := by unfold State.modPin; split <;> rfl
@[simp] theorem State.modPin_taints (b : Bool) (g : Pin → Pin) : (s.modPin b g).taints = s.taints := by unfold State.modPin; split <;> rfl
@[simp] theorem State.modPin_musterOrders (b : Bool) (g : Pin → Pin) : (s.modPin b g).musterOrders = s.musterOrders := by unfold State.modPin; split <;> rfl
@[simp] theorem State.modPin_field (b : Bool) (g : Pin → Pin) (x : Nat) : (s.modPin b g).field x = s.field x := by unfold State.modPin; split <;> rfl
@[simp] theorem State.modPin_flock (b : Bool) (g : Pin → Pin) (x y : Nat) : (s.modPin b g).flock x y = s.flock x y := by unfold State.modPin; split <;> rfl
@[simp] theorem State.modPin_core (b : Bool) (g : Pin → Pin) (x y z : Nat) : (s.modPin b g).core x y z = s.core x y z := by unfold State.modPin; split <;> rfl
@[simp] theorem State.modPin_lane (b : Bool) (g : Pin → Pin) (x y z u : Nat) : (s.modPin b g).lane x y z u = s.lane x y z u := by unfold State.modPin; split <;> rfl
@[simp] theorem State.modPin_crook (b : Bool) (g : Pin → Pin) (x y : Nat) : (s.modPin b g).crook x y = s.crook x y := by unfold State.modPin; split <;> rfl
@[simp] theorem State.modPin_tap (b : Bool) (g : Pin → Pin) (x : Nat) : (s.modPin b g).tap x = s.tap x := by unfold State.modPin; split <;> rfl
@[simp] theorem State.modPin_mem (b : Bool) (g : Pin → Pin) (x : Nat) : (s.modPin b g).mem x = s.mem x := by unfold State.modPin; split <;> rfl
@[simp] theorem State.modPin_gflock (b : Bool) (g : Pin → Pin) (x y : Nat) : (s.modPin b g).gflock x y = s.gflock x y := by unfold State.modPin; split <;> rfl
@[simp] theorem State.modPin_watch (b : Bool) (g : Pin → Pin) (x : Nat) : (s.modPin b g).watch x = s.watch x := by unfold State.modPin; split <;> rfl
@[simp] theorem State.modPin_activeShc (b : Bool) (g : Pin → Pin) : (s.modPin b g).activeShc = s.activeShc := by unfold State.modPin; split <;> rfl
@[simp] theorem State.modPin_follower (b : Bool) (g : Pin → Pin) : (s.modPin b g).follower = s.follower := by unfold State.modPin; split <;> rfl
@[simp] theorem State.modPin_firmware (b : Bool) (g : Pin → Pin) : (s.modPin b g).firmware = s.firmware := by unfold State.modPin; split <;> rfl
@[simp] theorem State.modPin_lcs (b : Bool) (g : Pin → Pin) : (s.modPin b g).lcs = s.lcs := by unfold State.modPin; split <;> rfl

/-! send writes `pair out`. -/
@[simp] theorem State.send_pending (o : Output) : (s.send o).pending = s.pending := by unfold State.send; split <;> rfl
@[simp] theorem State.send_due (o : Output) : (s.send o).due = s.due := by unfold State.send; split <;> rfl
@[simp] theorem State.send_pwrGood (o : Output) : (s.send o).pwrGood = s.pwrGood := by unfold State.send; split <;> rfl
@[simp] theorem State.send_tbase (o : Output) : (s.send o).tbase = s.tbase := by unfold State.send; split <;> rfl
@[simp] theorem State.send_draws (o : Output) : (s.send o).draws = s.draws := by unfold State.send; split <;> rfl
@[simp] theorem State.send_free (o : Output) : (s.send o).free = s.free := by unfold State.send; split <;> rfl
@[simp] theorem State.send_start (o : Output) : (s.send o).start = s.start := by unfold State.send; split <;> rfl
@[simp] theorem State.send_life (o : Output) : (s.send o).life = s.life := by unfold State.send; split <;> rfl
@[simp] theorem State.send_refclk (o : Output) : (s.send o).refclk = s.refclk := by unfold State.send; split <;> rfl
@[simp] theorem State.send_qspi (o : Output) : (s.send o).qspi = s.qspi := by unfold State.send; split <;> rfl
@[simp] theorem State.send_pins (o : Output) : (s.send o).pins = s.pins := by unfold State.send; split <;> rfl
@[simp] theorem State.send_ferr (o : Output) : (s.send o).ferr = s.ferr := by unfold State.send; split <;> rfl
@[simp] theorem State.send_hif (o : Output) : (s.send o).hif = s.hif := by unfold State.send; split <;> rfl
@[simp] theorem State.send_tally (o : Output) : (s.send o).tally = s.tally := by unfold State.send; split <;> rfl
@[simp] theorem State.send_policy (o : Output) : (s.send o).policy = s.policy := by unfold State.send; split <;> rfl
@[simp] theorem State.send_fields (o : Output) : (s.send o).fields = s.fields := by unfold State.send; split <;> rfl
@[simp] theorem State.send_flocks (o : Output) : (s.send o).flocks = s.flocks := by unfold State.send; split <;> rfl
@[simp] theorem State.send_cores (o : Output) : (s.send o).cores = s.cores := by unfold State.send; split <;> rfl
@[simp] theorem State.send_lanes (o : Output) : (s.send o).lanes = s.lanes := by unfold State.send; split <;> rfl
@[simp] theorem State.send_crooks (o : Output) : (s.send o).crooks = s.crooks := by unfold State.send; split <;> rfl
@[simp] theorem State.send_taps (o : Output) : (s.send o).taps = s.taps := by unfold State.send; split <;> rfl
@[simp] theorem State.send_mems (o : Output) : (s.send o).mems = s.mems := by unfold State.send; split <;> rfl
@[simp] theorem State.send_fw (o : Output) : (s.send o).fw = s.fw := by unfold State.send; split <;> rfl
@[simp] theorem State.send_screen (o : Output) : (s.send o).screen = s.screen := by unfold State.send; split <;> rfl
@[simp] theorem State.send_job (o : Output) : (s.send o).job = s.job := by unfold State.send; split <;> rfl
@[simp] theorem State.send_recovery (o : Output) : (s.send o).recovery = s.recovery := by unfold State.send; split <;> rfl
@[simp] theorem State.send_musters (o : Output) : (s.send o).musters = s.musters := by unfold State.send; split <;> rfl
@[simp] theorem State.send_folds (o : Output) : (s.send o).folds = s.folds := by unfold State.send; split <;> rfl
@[simp] theorem State.send_gov (o : Output) : (s.send o).gov = s.gov := by unfold State.send; split <;> rfl
@[simp] theorem State.send_govFlocks (o : Output) : (s.send o).govFlocks = s.govFlocks := by unfold State.send; split <;> rfl
@[simp] theorem State.send_earmarks (o : Output) : (s.send o).earmarks = s.earmarks := by unfold State.send; split <;> rfl
@[simp] theorem State.send_watches (o : Output) : (s.send o).watches = s.watches := by unfold State.send; split <;> rfl
@[simp] theorem State.send_power (o : Output) : (s.send o).power = s.power := by unfold State.send; split <;> rfl
@[simp] theorem State.send_mesh (o : Output) : (s.send o).mesh = s.mesh := by unfold State.send; split <;> rfl
@[simp] theorem State.send_i3c (o : Output) : (s.send o).i3c = s.i3c := by unfold State.send; split <;> rfl
@[simp] theorem State.send_trace (o : Output) : (s.send o).trace = s.trace := by unfold State.send; split <;> rfl
@[simp] theorem State.send_jtag (o : Output) : (s.send o).jtag = s.jtag := by unfold State.send; split <;> rfl
@[simp] theorem State.send_taints (o : Output) : (s.send o).taints = s.taints := by unfold State.send; split <;> rfl
@[simp] theorem State.send_musterOrders (o : Output) : (s.send o).musterOrders = s.musterOrders := by unfold State.send; split <;> rfl
@[simp] theorem State.send_field (o : Output) (x : Nat) : (s.send o).field x = s.field x := by unfold State.send; split <;> rfl
@[simp] theorem State.send_flock (o : Output) (x y : Nat) : (s.send o).flock x y = s.flock x y := by unfold State.send; split <;> rfl
@[simp] theorem State.send_core (o : Output) (x y z : Nat) : (s.send o).core x y z = s.core x y z := by unfold State.send; split <;> rfl
@[simp] theorem State.send_lane (o : Output) (x y z u : Nat) : (s.send o).lane x y z u = s.lane x y z u := by unfold State.send; split <;> rfl
@[simp] theorem State.send_crook (o : Output) (x y : Nat) : (s.send o).crook x y = s.crook x y := by unfold State.send; split <;> rfl
@[simp] theorem State.send_tap (o : Output) (x : Nat) : (s.send o).tap x = s.tap x := by unfold State.send; split <;> rfl
@[simp] theorem State.send_mem (o : Output) (x : Nat) : (s.send o).mem x = s.mem x := by unfold State.send; split <;> rfl
@[simp] theorem State.send_gflock (o : Output) (x y : Nat) : (s.send o).gflock x y = s.gflock x y := by unfold State.send; split <;> rfl
@[simp] theorem State.send_watch (o : Output) (x : Nat) : (s.send o).watch x = s.watch x := by unfold State.send; split <;> rfl
@[simp] theorem State.send_lcs (o : Output) : (s.send o).lcs = s.lcs := by unfold State.send; split <;> rfl

/-! begun writes `pair out`. -/
@[simp] theorem State.begun_pending : (s.begun).pending = s.pending := rfl
@[simp] theorem State.begun_due : (s.begun).due = s.due := rfl
@[simp] theorem State.begun_pwrGood : (s.begun).pwrGood = s.pwrGood := rfl
@[simp] theorem State.begun_tbase : (s.begun).tbase = s.tbase := rfl
@[simp] theorem State.begun_draws : (s.begun).draws = s.draws := rfl
@[simp] theorem State.begun_free : (s.begun).free = s.free := rfl
@[simp] theorem State.begun_start : (s.begun).start = s.start := rfl
@[simp] theorem State.begun_life : (s.begun).life = s.life := rfl
@[simp] theorem State.begun_refclk : (s.begun).refclk = s.refclk := rfl
@[simp] theorem State.begun_qspi : (s.begun).qspi = s.qspi := rfl
@[simp] theorem State.begun_pins : (s.begun).pins = s.pins := rfl
@[simp] theorem State.begun_ferr : (s.begun).ferr = s.ferr := rfl
@[simp] theorem State.begun_hif : (s.begun).hif = s.hif := rfl
@[simp] theorem State.begun_tally : (s.begun).tally = s.tally := rfl
@[simp] theorem State.begun_policy : (s.begun).policy = s.policy := rfl
@[simp] theorem State.begun_fields : (s.begun).fields = s.fields := rfl
@[simp] theorem State.begun_flocks : (s.begun).flocks = s.flocks := rfl
@[simp] theorem State.begun_cores : (s.begun).cores = s.cores := rfl
@[simp] theorem State.begun_lanes : (s.begun).lanes = s.lanes := rfl
@[simp] theorem State.begun_crooks : (s.begun).crooks = s.crooks := rfl
@[simp] theorem State.begun_taps : (s.begun).taps = s.taps := rfl
@[simp] theorem State.begun_mems : (s.begun).mems = s.mems := rfl
@[simp] theorem State.begun_fw : (s.begun).fw = s.fw := rfl
@[simp] theorem State.begun_screen : (s.begun).screen = s.screen := rfl
@[simp] theorem State.begun_job : (s.begun).job = s.job := rfl
@[simp] theorem State.begun_recovery : (s.begun).recovery = s.recovery := rfl
@[simp] theorem State.begun_musters : (s.begun).musters = s.musters := rfl
@[simp] theorem State.begun_folds : (s.begun).folds = s.folds := rfl
@[simp] theorem State.begun_gov : (s.begun).gov = s.gov := rfl
@[simp] theorem State.begun_govFlocks : (s.begun).govFlocks = s.govFlocks := rfl
@[simp] theorem State.begun_earmarks : (s.begun).earmarks = s.earmarks := rfl
@[simp] theorem State.begun_watches : (s.begun).watches = s.watches := rfl
@[simp] theorem State.begun_power : (s.begun).power = s.power := rfl
@[simp] theorem State.begun_mesh : (s.begun).mesh = s.mesh := rfl
@[simp] theorem State.begun_i3c : (s.begun).i3c = s.i3c := rfl
@[simp] theorem State.begun_trace : (s.begun).trace = s.trace := rfl
@[simp] theorem State.begun_jtag : (s.begun).jtag = s.jtag := rfl
@[simp] theorem State.begun_taints : (s.begun).taints = s.taints := rfl
@[simp] theorem State.begun_musterOrders : (s.begun).musterOrders = s.musterOrders := rfl
@[simp] theorem State.begun_field (x : Nat) : (s.begun).field x = s.field x := rfl
@[simp] theorem State.begun_flock (x y : Nat) : (s.begun).flock x y = s.flock x y := rfl
@[simp] theorem State.begun_core (x y z : Nat) : (s.begun).core x y z = s.core x y z := rfl
@[simp] theorem State.begun_lane (x y z u : Nat) : (s.begun).lane x y z u = s.lane x y z u := rfl
@[simp] theorem State.begun_crook (x y : Nat) : (s.begun).crook x y = s.crook x y := rfl
@[simp] theorem State.begun_tap (x : Nat) : (s.begun).tap x = s.tap x := rfl
@[simp] theorem State.begun_mem (x : Nat) : (s.begun).mem x = s.mem x := rfl
@[simp] theorem State.begun_gflock (x y : Nat) : (s.begun).gflock x y = s.gflock x y := rfl
@[simp] theorem State.begun_watch (x : Nat) : (s.begun).watch x = s.watch x := rfl
@[simp] theorem State.begun_lcs : (s.begun).lcs = s.lcs := rfl

/-- Two states with equal fields are equal. -/
theorem State.ext_fields {s t : State} (h_pending : s.pending = t.pending) (h_out : s.out = t.out) (h_due : s.due = t.due) (h_pwrGood : s.pwrGood = t.pwrGood) (h_tbase : s.tbase = t.tbase) (h_draws : s.draws = t.draws) (h_free : s.free = t.free) (h_start : s.start = t.start) (h_life : s.life = t.life) (h_refclk : s.refclk = t.refclk) (h_qspi : s.qspi = t.qspi) (h_pins : s.pins = t.pins) (h_ferr : s.ferr = t.ferr) (h_hif : s.hif = t.hif) (h_tally : s.tally = t.tally) (h_policy : s.policy = t.policy) (h_fields : s.fields = t.fields) (h_flocks : s.flocks = t.flocks) (h_cores : s.cores = t.cores) (h_lanes : s.lanes = t.lanes) (h_crooks : s.crooks = t.crooks) (h_taps : s.taps = t.taps) (h_mems : s.mems = t.mems) (h_pair : s.pair = t.pair) (h_fw : s.fw = t.fw) (h_screen : s.screen = t.screen) (h_job : s.job = t.job) (h_recovery : s.recovery = t.recovery) (h_musters : s.musters = t.musters) (h_folds : s.folds = t.folds) (h_gov : s.gov = t.gov) (h_govFlocks : s.govFlocks = t.govFlocks) (h_earmarks : s.earmarks = t.earmarks) (h_watches : s.watches = t.watches) (h_power : s.power = t.power) (h_mesh : s.mesh = t.mesh) (h_i3c : s.i3c = t.i3c) (h_trace : s.trace = t.trace) (h_jtag : s.jtag = t.jtag) (h_taints : s.taints = t.taints) (h_musterOrders : s.musterOrders = t.musterOrders) : s = t := by
  cases s; cases t; simp_all

end Sys2Proof.Machine
end

