-- ==== Sys2Proof/Laws/Units.lean ====
section
/-! SUPPORT. Reading a unit after a write, and the canonical form of the unit maps. -/

namespace Sys2Proof.Machine

variable (s : State)

theorem State.setField_get (f g : Nat) (v : Field) : (s.setField f v).field g = if g = f then v else s.field g := mapGet_set ..
@[simp] theorem State.setField_self (f : Nat) (v : Field) : (s.setField f v).field f = v := mapGet_set_self ..
theorem State.modField_get (f g : Nat) (h : Field → Field) : (s.modField f h).field g = if g = f then h (s.field f) else s.field g := mapGet_set ..
@[simp] theorem State.modField_self (f : Nat) (h : Field → Field) : (s.modField f h).field f = h (s.field f) := mapGet_set_self ..

theorem State.setFlock_get (f k g j : Nat) (v : Flock) :
    (s.setFlock f k v).flock g j = if flockKey g j = flockKey f k then v else s.flock g j := mapGet_set ..
@[simp] theorem State.setFlock_self (f k : Nat) (v : Flock) : (s.setFlock f k v).flock f k = v := mapGet_set_self ..
theorem State.modFlock_get (f k g j : Nat) (h : Flock → Flock) :
    (s.modFlock f k h).flock g j = if flockKey g j = flockKey f k then h (s.flock f k) else s.flock g j := mapGet_set ..
@[simp] theorem State.modFlock_self (f k : Nat) (h : Flock → Flock) : (s.modFlock f k h).flock f k = h (s.flock f k) := mapGet_set_self ..

theorem State.setCore_get (f k c g j e : Nat) (v : Core) :
    (s.setCore f k c v).core g j e = if coreKey g j e = coreKey f k c then v else s.core g j e := mapGet_set ..
@[simp] theorem State.setCore_self (f k c : Nat) (v : Core) : (s.setCore f k c v).core f k c = v := mapGet_set_self ..
theorem State.modCore_get (f k c g j e : Nat) (h : Core → Core) :
    (s.modCore f k c h).core g j e = if coreKey g j e = coreKey f k c then h (s.core f k c) else s.core g j e := mapGet_set ..
@[simp] theorem State.modCore_self (f k c : Nat) (h : Core → Core) : (s.modCore f k c h).core f k c = h (s.core f k c) := mapGet_set_self ..

theorem State.modCrook_get (f i g j : Nat) (h : Crook → Crook) :
    (s.modCrook f i h).crook g j = if crookKey g j = crookKey f i then h (s.crook f i) else s.crook g j := mapGet_set ..
@[simp] theorem State.modCrook_self (f i : Nat) (h : Crook → Crook) : (s.modCrook f i h).crook f i = h (s.crook f i) := mapGet_set_self ..
theorem State.modTap_get (t u : Nat) (h : LinkTap → LinkTap) : (s.modTap t h).tap u = if u = t then h (s.tap t) else s.tap u := mapGet_set ..
@[simp] theorem State.modTap_self (t : Nat) (h : LinkTap → LinkTap) : (s.modTap t h).tap t = h (s.tap t) := mapGet_set_self ..
theorem State.modMem_get (t u : Nat) (h : MemTap → MemTap) : (s.modMem t h).mem u = if u = t then h (s.mem t) else s.mem u := mapGet_set ..
@[simp] theorem State.modMem_self (t : Nat) (h : MemTap → MemTap) : (s.modMem t h).mem t = h (s.mem t) := mapGet_set_self ..
@[simp] theorem State.modGflock_self (f k : Nat) (h : GovFlock → GovFlock) : (s.modGflock f k h).gflock f k = h (s.gflock f k) := mapGet_set_self ..
@[simp] theorem State.modWatch_self (w : Nat) (h : Watch → Watch) : (s.modWatch w h).watch w = h (s.watch w) := mapGet_set_self ..

/-- The keys of two existing flocks differ when the flocks do. -/
theorem flockKey_inj (f k g j : Nat) (hk : k < 64) (hj : j < 64) : flockKey f k = flockKey g j ↔ f = g ∧ k = j := by
  unfold flockKey; omega

/-- A change that keeps a property keeps it over a list. -/
theorem State.forEach_keeps {β : Type} (P : State → Prop) (l : List β) (g : State → β → State) (hg : ∀ s x, P s → P (g s x)) (h : P s) :
    P (s.forEach l g) := by
  induction l generalizing s with
  | nil => exact h
  | cons x t ih => exact ih (g s x) (hg s x h)

/-- A change that leaves a part of the state leaves it over a list. -/
theorem State.forEach_frame {β γ : Type} (p : State → γ) (l : List β) (g : State → β → State) (hg : ∀ s x, p (g s x) = p s) :
    p (s.forEach l g) = p s :=
  State.forEach_keeps s (fun t => p t = p s) l g (fun t x h => (hg t x).trans h) rfl

@[simp] theorem State.forEach_nil {β : Type} (g : State → β → State) : s.forEach [] g = s := rfl

end Sys2Proof.Machine
end

