-- ==== Sys2Proof/Laws/Commands.lean ====
section
/-! SUPPORT. What the shared frame of every command does, said once: where its effect begins, how it ends, and when a command of
the host is taken. -/

namespace Sys2Proof.Machine

variable (s : State)

/-- A command answers the state in which its effect ends. -/
theorem act_eq (g : State → State) : act s g = .next (s.ends (g s.begun)) := rfl
theorem actIf_eq (b : Bool) (g : State → State) : actIf b s g = .next (s.ends (if b then g s.begun else s.begun)) := rfl
/-- A command whose condition holds has its effect; one whose condition does not hold has none. -/
theorem actIf_pos (b : Bool) (g : State → State) (h : b = true) : actIf b s g = .next (s.ends (g s.begun)) := by
  subst h; rfl
theorem actIf_neg (b : Bool) (g : State → State) (h : b = false) : actIf b s g = .next (s.ends s.begun) := by
  subst h; rfl
theorem actOutside_eq (g : State → State) : actOutside s g = .next (s.ends (g s.outside)) := rfl
theorem i3cDo_eq (ok : State → Bool) (g : State → State) :
    i3cDo ok s g = .next (s.ends (if s.begun.i3cUp && ok s.begun then g s.begun else s.begun.drive (.i3c none))) := rfl

@[simp] theorem State.begun_out : s.begun.out = [] := rfl
@[simp] theorem State.begun_activeShc : s.begun.activeShc = s.activeShc := by
  unfold State.begun; cases s.follower.isSome <;> rfl
@[simp] theorem State.begun_follower : s.begun.follower = s.follower := by
  unfold State.begun; cases s.follower.isSome <;> rfl
@[simp] theorem State.begun_firmware : s.begun.firmware = s.firmware := by simp [State.firmware]
@[simp] theorem State.begun_bothLost : s.begun.pair.bothLost = s.pair.bothLost := by unfold State.begun; split <;> rfl
@[simp] theorem State.begun_shc (b : Bool) : s.begun.pair.shc b = s.pair.shc b := by unfold State.begun; split <;> cases b <;> rfl
@[simp] theorem State.begun_held : s.begun.pair.held = s.pair.held := by unfold State.begun; split <;> rfl
@[simp] theorem State.begun_voters : s.begun.pair.voters = s.pair.voters := by unfold State.begun; split <;> rfl

@[simp] theorem State.begun_begun_firmware (d : Desc) (op : Nat) : (s.taken d op).firmware = s.firmware := rfl

@[simp] theorem State.begun_takes (d : Desc) (op : Nat) : s.begun.takes d op = s.takes d op := by simp [State.takes]
@[simp] theorem State.begun_accepts (d : Desc) (op : Nat) (used : List (Nat × Nat)) (maxLen : Nat) :
    s.begun.accepts d op used maxLen = s.accepts d op used maxLen := by
  simp [State.accepts, State.badDesc]

/-- What taking a descriptor does when Beyja takes it now: a breach completes with BAD_DESCRIPTOR, a failed read of the input buffer
too and is recorded, a command before its negotiation completes with VERSION, and every other goes on with its own effect. -/
theorem State.takeCmd_takes (d : Desc) (op : Nat) (used : List (Nat × Nat)) (maxLen : Nat) (bad : Bool) (k : State → State)
    (h : s.takes d op = true) :
    s.takeCmd d op used maxLen bad k =
      if s.badDesc d used maxLen = true then (s.taken d op).complete d.ring 0x05
      else if d.bufLost = true then ({ s.taken d op with due := s.due ++ [.dmaError (.buffer d.ring) d.addr] } : State).complete d.ring 0x05
      else if bad = true then (s.taken d op).complete d.ring 0x05
      else if (op == 0x01 || op == 0x04 || s.hif.neg.isSome) = true then k (s.taken d op)
      else (s.taken d op).complete d.ring 0x02 := by
  cases hr : s.hif.cmd d.ring with
  | none => simp [State.takes, hr] at h
  | some r =>
    simp only [State.takes, hr, Bool.and_eq_true] at h
    obtain ⟨⟨⟨⟨⟨⟨h1, h2⟩, h3⟩, h4⟩, h5⟩, h6⟩, h7⟩ := h
    have hne : ((d.bytes.getD 0 0).toNat != op) = false := by rw [bne, h6]; rfl
    unfold State.takeCmd
    rw [hr]
    simp only [h1, h2, h3, h4, h5, h6, h7, hne, Bool.true_or, Bool.or_false, Bool.and_true, Bool.not_true, Bool.false_eq_true, if_false]
    by_cases hb : s.badDesc d used maxLen = true
    · simp [hb]; rfl
    · simp only [hb, Bool.not_false, Bool.true_and, Bool.false_or]
      by_cases hl : d.bufLost = true
      · simp [hl]; rfl
      · simp only [hl]
        by_cases hd : bad = true
        · simp [hd]; rfl
        · by_cases h1 : op = 1
          · subst h1; simp [hd]; rfl
          · by_cases h4 : op = 4
            · subst h4; simp [hd]; rfl
            · have hq : (s.taken d op).hif.neg = s.hif.neg := rfl
              change (if bad = true then (s.taken d op).complete d.ring stBad
                else if op ≠ 1 ∧ op ≠ 4 ∧ (s.taken d op).hif.neg.isNone = true then (s.taken d op).complete d.ring stVersion
                else k (s.taken d op)) = _
              rw [hq]
              cases hn : s.hif.neg with
              | none => simp [hd, h1, h4]; rfl
              | some v => simp [hd]

/-- A descriptor that is taken without a breach goes on with its own command. -/
theorem State.takeCmd_accepts (d : Desc) (op : Nat) (used : List (Nat × Nat)) (maxLen : Nat) (bad : Bool) (k : State → State)
    (h : s.accepts d op used maxLen = true) (hb : bad = false) : s.takeCmd d op used maxLen bad k = k (s.taken d op) := by
  simp only [State.accepts, Bool.and_eq_true, Bool.not_eq_true'] at h
  rw [State.takeCmd_takes s d op used maxLen bad k h.1.1.1, hb, h.1.1.2, h.1.2, h.2]
  rfl

/-- A command of a ring that is accepted has its own effect on the state in which its ring carries it. -/
theorem act_takeCmd (d : Desc) (op : Nat) (used : List (Nat × Nat)) (maxLen : Nat) (bad : State → Bool) (k : State → State)
    (h : s.accepts d op used maxLen = true) (hb : bad s.begun = false) :
    act s (fun s => s.takeCmd d op used maxLen (bad s) k) = .next (s.ends (k (s.begun.taken d op))) := by
  rw [act_eq, State.takeCmd_accepts _ _ _ _ _ _ _ (by simpa using h) hb]

/-- Checks none of which holds let the command go on. -/
theorem State.checked_pass (ring : Nat) (cs : List (Bool × Nat)) (k : State → State) (h : ∀ p ∈ cs, p.1 = false) :
    s.checked ring cs k = k s := by
  have : cs.find? (·.1) = none := List.find?_eq_none.2 (fun p hp => by simp [h p hp])
  simp [State.checked, this]

end Sys2Proof.Machine
end

