-- ==== Sys2Proof/WellFormed.lean ====
section
/-! DEFINITION. Which commands are well formed: their operands name units that RI-48 has, in the ranges of Table 0.1, and
their byte strings have the length the spec gives. The meanings do not rely on it: an ill-formed command changes nothing
that the spec describes. -/

namespace Sys2Proof

/-- A number below a bound. -/
def inRange (n i : Nat) : Bool := decide (i < n)
/-- A reticle field (Table 0.1). -/
def inField (f : Nat) : Bool := inRange Config.fields f
/-- A physical flock of a field (Table 0.1). -/
def inFlock (k : Nat) : Bool := inRange Config.flocks k
/-- A physical core of a flock (Table 0.1). -/
def inCore (c : Nat) : Bool := inRange Config.cores c
/-- A logical slot (R19). -/
def inSlot (j : Nat) : Bool := inRange Config.slots j
/-- A Crook of a field (Table 0.1). -/
def inCrook (c : Nat) : Bool := inRange Config.crooks c
/-- A memory tap or a link tap (Table 0.1). -/
def inTap (mtp : Bool) (t : Nat) : Bool := inRange (if mtp then Config.memTaps else Config.linkTaps) t
/-- An access of the set-up window has the size and alignment R100 allows. -/
def inWindow (off size : Nat) : Bool := (size == 4 || size == 8) && off % size == 0 && decide (off + size ≤ 65536)
/-- A descriptor has its 64 bytes, and its input buffer has the length it states or is absent. -/
def Desc.wf (d : Desc) : Bool := decide (d.bytes.length = 64) && decide (d.ring < 64)

/-- The operands of a command are in range. -/
def wellFormed (i : Instr) : Bool :=
  match i with
  | .hifStart => true
  | .hifResume => true
  | .windowLock => true
  | .ferrClear => true
  | .ferrOverflowClear => true
  | .pinHeldClear _ _ => true
  | .pinModeWrite _ _ => true
  | .apertureWrite off size _ => inWindow off size
  | .windowWrite off size _ => inWindow off size
  | .windowError off size _ => !inWindow off size
  | .doorbellPoll words => decide (words.length = 72)
  | .moderationEnd ring => inRange 128 ring
  | .interruptAck => true
  | .dmaError _ _ _ => true
  | .heartbeatLate => true
  | .hostLost => true
  | .negotiate d => d.wf
  | .ringCreate d => d.wf
  | .ringDestroy d => d.wf
  | .heartbeat d => d.wf
  | .jobBegin d => d.wf
  | .mtpDrainDone tap => inTap true tap
  | .jobBeginDrainTimeout => true
  | .jobEnd d => d.wf
  | .musterPoint d => d.wf
  | .musterQuietTimeout dom => Machine.isDomain dom
  | .idleTableLoad d => d.wf
  | .screenPolicy d => d.wf
  | .governorPolicy d => d.wf
  | .reactionPolicy d => d.wf
  | .reactionDefaults d => d.wf
  | .sparingPolicy d => d.wf
  | .recoveryPolicy d => d.wf
  | .powerPolicy d => d.wf
  | .lifecyclePolicy d => d.wf
  | .rampSet d => d.wf
  | .packStage d => d.wf
  | .packActivate d => d.wf
  | .watchSet d => d.wf
  | .earmarkConfig d => d.wf
  | .replicaDigest d => d.wf
  | .queryBound d => d.wf
  | .queryHealth d => d.wf
  | .foldRequest d => d.wf
  | .unfold d => d.wf
  | .domainReset d => d.wf
  | .recover d => d.wf
  | .tallyRead d => d.wf
  | .tallyClear d => d.wf
  | .fwStage d => d.wf
  | .fwActivate d => d.wf
  | .traceConfig d => d.wf
  | .waitgraphReq d => d.wf
  | .lifecycleProvisioned d => d.wf
  | .lifecycleField d => d.wf
  | .lifecycleReturn d => d.wf
  | .shutDown d => d.wf
  | .setOwnerPackKey d => d.wf
  | .opAnnounce f k core _ _ beats _ => inField f && inFlock k && inCore core && decide (beats ≤ 8192)
  | .mirrorBeat f k kind _ data _ => inRange 4 kind && inField f && inFlock k && decide (data.length = 64)
  | .digestArrival f k core tag _ _ => inField f && inFlock k && inCore core && inRange 64 tag
  | .digestWaitEnd f k tag _ => inField f && inFlock k && inRange 64 tag
  | .crookComputeDone f c fk tag _ => inField f && inCrook c && inFlock fk && inRange 64 tag
  | .crookConfirmDone f c fk tag _ => inField f && inCrook c && inFlock fk && inRange 64 tag
  | .crookSelftest f c _ => inField f && inCrook c
  | .crookBufferEcc f c _ _ _ => inField f && inCrook c
  | .commandIssue f k cls _ => inField f && inFlock k && inRange 4 cls
  | .commandRetire f k id _ => inField f && inFlock k && inRange 64 id
  | .killDone f k _ => inField f && inFlock k
  | .killTimeout f k => inField f && inFlock k
  | .hurdleClosed dom _ => Machine.isDomain dom
  | .drainEnd dom _ => Machine.isDomain dom
  | .drainTimeout dom _ => Machine.isDomain dom
  | .quietRise f k _ => inField f && inFlock k
  | .quietFall f k _ => inField f && inFlock k
  | .copyDone f k _ _ => inField f && inFlock k
  | .copyLimit f k => inField f && inFlock k
  | .foldListCommit => true
  | .ldoOk f k _ => inField f && inFlock k
  | .ldoOkTimeout f k => inField f && inFlock k
  | .retestDeadline f k c => inField f && inFlock k && inCore c
  | .runStart f k _ _ => inField f && inFlock k
  | .windowPlan f k slot _ => inField f && inFlock k && inSlot slot
  | .scratchWriteDone f k c => inField f && inFlock k && inCore c
  | .windowOpen f k slot _ => inField f && inFlock k && inSlot slot
  | .spareSlicePlan f k c => inField f && inFlock k && inCore c
  | .tsSaved f k c _ => inField f && inFlock k && inCore c
  | .tsSavedLate f k c => inField f && inFlock k && inCore c
  | .guardGo f k c => inField f && inFlock k && inCore c
  | .tsDone f k c _ _ => inField f && inFlock k && inCore c
  | .guardExit f k c => inField f && inFlock k && inCore c
  | .doneMissing f k c => inField f && inFlock k && inCore c
  | .sliceLatestExit f k c => inField f && inFlock k && inCore c
  | .tsNeed f k c _ => inField f && inFlock k && inCore c
  | .tsRestored f k c _ => inField f && inFlock k && inCore c
  | .restoredLate f k c => inField f && inFlock k && inCore c
  | .rotationCheck f => inField f
  | .errorReport f k r => inField f && inFlock k && inRange 32 r.core && inRange 16 r.lane
  | .infrastructureError e => Machine.uidBelowZero e.uid
  | .partResetDone uid _ => Machine.partResettable uid
  | .partResetLimit uid => Machine.partResettable uid
  | .nmiReturn _ => true
  | .nmiOverrun _ core => inRange 4 core
  | .txFrameStart tap _ => inTap false tap
  | .txFrameEnd tap _ => inTap false tap
  | .trackerIdle tap tracker => inTap false tap && inRange 256 tracker
  | .inboundFrame tap _ _ _ => inTap false tap
  | .serviceFrameGrant tap => inTap false tap
  | .serviceFrameReceived tap _ => inTap false tap
  | .linkDown tap => inTap false tap
  | .linkUp tap => inTap false tap
  | .serviceRegisterAck mtp tap _ _ => inTap mtp tap
  | .serviceRegisterLate mtp tap => inTap mtp tap
  | .memoryEvent tap cls _ _ => inRange 24 tap && inRange 4 cls
  | .rowRepairStart tap => inTap true tap
  | .rowRepair tap status => inRange 24 tap && inRange 5 status
  | .rowRepairLimit tap => inTap true tap
  | .retrainDone tap _ _ => inTap true tap
  | .railTrip f _ => inField f
  | .thermalOff f sensor _ => inField f && inRange Config.sensors sensor
  | .hwThrottle f sensor _ => inField f && inRange Config.sensors sensor
  | .hwThrottleRelease f => inField f
  | .paddockReturn f => inField f
  | .pspPowerGood f _ => inField f
  | .compPgTimeout f _ => inField f
  | .pwrGoodRise _ => true
  | .pwrGoodFall => true
  | .coldReset => true
  | .coldResetRelease => true
  | .shepherdSelftestDone _ _ _ => true
  | .firmwareLoaded _ _ => true
  | .startReady _ => true
  | .tallyScan _ _ => true
  | .packCopyVerified _ => true
  | .refclkCheck _ _ => true
  | .pllLock f => inField f
  | .tapInstruction _ => true
  | .debugAuthorisation _ _ => true
  | .secretClear _ => true
  | .scanEnable _ => true
  | .i3cCcc code _ => inRange 256 code
  | .entdaa addr => inRange 128 addr
  | .setdasa static addr => inRange 128 static && inRange 128 addr
  | .setnewda addr => inRange 128 addr
  | .rstdaa => true
  | .getpid => true
  | .getbcr => true
  | .getdcr => true
  | .getstatus => true
  | .enec _ => true
  | .disec _ => true
  | .getmwl => true
  | .setmwl len => decide (len < 65536)
  | .getmrl => true
  | .setmrl len => decide (len < 65536)
  | .mctpControl _ => true
  | .mctpOtherMessage typ _ => inRange 128 typ
  | .getTid => true
  | .getPldmVersion _ => true
  | .getPldmTypes => true
  | .getPldmCommands _ => true
  | .getSensorReading id => decide (id < 65536)
  | .getStateSensorReadings id => decide (id < 65536)
  | .getPdrRepositoryInfo => true
  | .getPdr _ => true
  | .getIdent => true
  | .getHealth => true
  | .getBound => true
  | .readTally _ _ => true
  | .getPins => true
  | .telemetryRound seg _ _ => inRange Config.rows seg
  | .busHeld seg _ => inRange Config.rows seg
  | .calibration => true
  | .meshMessage m => Machine.meshOk m
  | .meshLinkDown plane f link => inRange 2 plane && inField f && inRange 4 link
  | .detourTables => true
  | .tbaseSync _ => true
  | .wardenEpoch _ _ _ => true
  | .digestLate => true
  | .shepherdHeartbeat _ => true
  | .shepherdLost voter _ _ => inRange 3 voter
  | .vote voter _ _ => inRange 3 voter
  | .challengeResponse _ _ => true
  | .challengeTimeout => true
  | .takeover f => inField f
  | .orderEntry _ => true
  | .outputRelease => true
  | .shepherdRejoin _ _ => true
  | .rejoinTimeout _ => true
  | .shepherdResetOrder => true
  | .fwWatchdog _ core => inRange 4 core
  | .deferredActivationStart => true
  | .updateImageReceived _ _ => true
  | .updateSwap => true
  | .updateJoinTimeout => true
  | .trackerCheck f => inField f
  | .waitGraphAssembled _ _ _ _ => true
  | .captureDone _ => true
  | .captureBudget _ => true
  | .resetStatus f k _ => inField f && inFlock k
  | .resetLimit dom => Machine.isDomain dom
  | .railCycleHold => true
  | .level1Limit => true
  | .epochEnd => true
  | .hourBin => true
  | .sweepReport f target => inField f && inRange 64 target
  | .sweepWait target => inRange 64 target
  | .exchangeWait target => inRange 64 target
  | .fleeceSend => true
  | .leeRun => true
  | .frequencySlewStep f => inField f
  | .voltageLower f => inField f
  | .gustRise f detector => inField f && inRange Config.gusts detector
  | .stretchEnd f => inField f
  | .stormHoldEnd f => inField f
  | .gustDetectorStuck f detector => inField f && inRange Config.gusts detector
  | .thermalSensorUpdate f sensor _ => inField f && inRange Config.sensors sensor
  | .breezeRun _ => true
  | .tallyCommit _ => true
  | .tallyReclaimDone => true
  | .tokenRefill => true
  | .operatingSeconds => true
  | .selftestSliceBoundary => true
  | .pacerWindow _ _ _ => true
  | .snapshot => true
  | .pinLowTimeEnd _ => true
  | .pinHighTimeEnd _ => true
  | .thermalReturnDeadline f => inField f
  | .linkRetrainFailed tap _ => inRange 32 tap
  | .voutReadBack f _ => inField f
  | .writeResponse ring => inRange 128 ring
  | .flashSlotWritten _ _ _ => true
  | .instrumentAccess _ _ _ _ => true

end Sys2Proof
end

