-- ==== Sys2Proof/Laws/PerInstr.lean ====
section
/-! SUPPORT. What holds of every instruction as syntax, said per constructor: the units that a well-formed command names exist in this
integration. -/

namespace Sys2Proof.Laws.Operands

open Sys2Proof

/-- The numbers of units, tags and other bounded operands that a command names, each after its bound (Table 0.1). -/
def named (i : Instr) : List (Nat × Nat) :=
  match i with
  | .hifStart => []
  | .hifResume => []
  | .windowLock => []
  | .ferrClear => []
  | .ferrOverflowClear => []
  | .pinHeldClear _ _ => []
  | .pinModeWrite _ _ => []
  | .apertureWrite _ _ _ => []
  | .windowWrite _ _ _ => []
  | .windowError _ _ _ => []
  | .doorbellPoll _ => []
  | .moderationEnd ring => [(128, ring)]
  | .interruptAck => []
  | .dmaError _ _ _ => []
  | .heartbeatLate => []
  | .hostLost => []
  | .negotiate d => [(64, d.ring)]
  | .ringCreate d => [(64, d.ring)]
  | .ringDestroy d => [(64, d.ring)]
  | .heartbeat d => [(64, d.ring)]
  | .jobBegin d => [(64, d.ring)]
  | .mtpDrainDone tap => [(Config.memTaps, tap)]
  | .jobBeginDrainTimeout => []
  | .jobEnd d => [(64, d.ring)]
  | .musterPoint d => [(64, d.ring)]
  | .musterQuietTimeout _ => []
  | .idleTableLoad d => [(64, d.ring)]
  | .screenPolicy d => [(64, d.ring)]
  | .governorPolicy d => [(64, d.ring)]
  | .reactionPolicy d => [(64, d.ring)]
  | .reactionDefaults d => [(64, d.ring)]
  | .sparingPolicy d => [(64, d.ring)]
  | .recoveryPolicy d => [(64, d.ring)]
  | .powerPolicy d => [(64, d.ring)]
  | .lifecyclePolicy d => [(64, d.ring)]
  | .rampSet d => [(64, d.ring)]
  | .packStage d => [(64, d.ring)]
  | .packActivate d => [(64, d.ring)]
  | .watchSet d => [(64, d.ring)]
  | .earmarkConfig d => [(64, d.ring)]
  | .replicaDigest d => [(64, d.ring)]
  | .queryBound d => [(64, d.ring)]
  | .queryHealth d => [(64, d.ring)]
  | .foldRequest d => [(64, d.ring)]
  | .unfold d => [(64, d.ring)]
  | .domainReset d => [(64, d.ring)]
  | .recover d => [(64, d.ring)]
  | .tallyRead d => [(64, d.ring)]
  | .tallyClear d => [(64, d.ring)]
  | .fwStage d => [(64, d.ring)]
  | .fwActivate d => [(64, d.ring)]
  | .traceConfig d => [(64, d.ring)]
  | .waitgraphReq d => [(64, d.ring)]
  | .lifecycleProvisioned d => [(64, d.ring)]
  | .lifecycleField d => [(64, d.ring)]
  | .lifecycleReturn d => [(64, d.ring)]
  | .shutDown d => [(64, d.ring)]
  | .setOwnerPackKey d => [(64, d.ring)]
  | .opAnnounce f k core _ _ _ _ => [(Config.fields, f), (Config.flocks, k), (Config.cores, core)]
  | .mirrorBeat f k kind _ _ _ => [(4, kind), (Config.fields, f), (Config.flocks, k)]
  | .digestArrival f k core tag _ _ => [(Config.fields, f), (Config.flocks, k), (Config.cores, core), (64, tag)]
  | .digestWaitEnd f k tag _ => [(Config.fields, f), (Config.flocks, k), (64, tag)]
  | .crookComputeDone f c fk tag _ => [(Config.fields, f), (Config.crooks, c), (Config.flocks, fk), (64, tag)]
  | .crookConfirmDone f c fk tag _ => [(Config.fields, f), (Config.crooks, c), (Config.flocks, fk), (64, tag)]
  | .crookSelftest f c _ => [(Config.fields, f), (Config.crooks, c)]
  | .crookBufferEcc f c _ _ _ => [(Config.fields, f), (Config.crooks, c)]
  | .commandIssue f k cls _ => [(Config.fields, f), (Config.flocks, k), (4, cls)]
  | .commandRetire f k id _ => [(Config.fields, f), (Config.flocks, k), (64, id)]
  | .killDone f k _ => [(Config.fields, f), (Config.flocks, k)]
  | .killTimeout f k => [(Config.fields, f), (Config.flocks, k)]
  | .hurdleClosed _ _ => []
  | .drainEnd _ _ => []
  | .drainTimeout _ _ => []
  | .quietRise f k _ => [(Config.fields, f), (Config.flocks, k)]
  | .quietFall f k _ => [(Config.fields, f), (Config.flocks, k)]
  | .copyDone f k _ _ => [(Config.fields, f), (Config.flocks, k)]
  | .copyLimit f k => [(Config.fields, f), (Config.flocks, k)]
  | .foldListCommit => []
  | .ldoOk f k _ => [(Config.fields, f), (Config.flocks, k)]
  | .ldoOkTimeout f k => [(Config.fields, f), (Config.flocks, k)]
  | .retestDeadline f k c => [(Config.fields, f), (Config.flocks, k), (Config.cores, c)]
  | .runStart f k _ _ => [(Config.fields, f), (Config.flocks, k)]
  | .windowPlan f k slot _ => [(Config.fields, f), (Config.flocks, k), (Config.slots, slot)]
  | .scratchWriteDone f k c => [(Config.fields, f), (Config.flocks, k), (Config.cores, c)]
  | .windowOpen f k slot _ => [(Config.fields, f), (Config.flocks, k), (Config.slots, slot)]
  | .spareSlicePlan f k c => [(Config.fields, f), (Config.flocks, k), (Config.cores, c)]
  | .tsSaved f k c _ => [(Config.fields, f), (Config.flocks, k), (Config.cores, c)]
  | .tsSavedLate f k c => [(Config.fields, f), (Config.flocks, k), (Config.cores, c)]
  | .guardGo f k c => [(Config.fields, f), (Config.flocks, k), (Config.cores, c)]
  | .tsDone f k c _ _ => [(Config.fields, f), (Config.flocks, k), (Config.cores, c)]
  | .guardExit f k c => [(Config.fields, f), (Config.flocks, k), (Config.cores, c)]
  | .doneMissing f k c => [(Config.fields, f), (Config.flocks, k), (Config.cores, c)]
  | .sliceLatestExit f k c => [(Config.fields, f), (Config.flocks, k), (Config.cores, c)]
  | .tsNeed f k c _ => [(Config.fields, f), (Config.flocks, k), (Config.cores, c)]
  | .tsRestored f k c _ => [(Config.fields, f), (Config.flocks, k), (Config.cores, c)]
  | .restoredLate f k c => [(Config.fields, f), (Config.flocks, k), (Config.cores, c)]
  | .rotationCheck f => [(Config.fields, f)]
  | .errorReport f k r => [(Config.fields, f), (Config.flocks, k), (32, r.core), (16, r.lane)]
  | .infrastructureError _ => []
  | .partResetDone _ _ => []
  | .partResetLimit _ => []
  | .nmiReturn _ => []
  | .nmiOverrun _ core => [(4, core)]
  | .txFrameStart tap _ => [(Config.linkTaps, tap)]
  | .txFrameEnd tap _ => [(Config.linkTaps, tap)]
  | .trackerIdle tap tracker => [(Config.linkTaps, tap), (256, tracker)]
  | .inboundFrame tap _ _ _ => [(Config.linkTaps, tap)]
  | .serviceFrameGrant tap => [(Config.linkTaps, tap)]
  | .serviceFrameReceived tap _ => [(Config.linkTaps, tap)]
  | .linkDown tap => [(Config.linkTaps, tap)]
  | .linkUp tap => [(Config.linkTaps, tap)]
  | .serviceRegisterAck mtp tap _ _ => [(if mtp then Config.memTaps else Config.linkTaps, tap)]
  | .serviceRegisterLate mtp tap => [(if mtp then Config.memTaps else Config.linkTaps, tap)]
  | .memoryEvent tap cls _ _ => [(24, tap), (4, cls)]
  | .rowRepairStart tap => [(Config.memTaps, tap)]
  | .rowRepair tap status => [(24, tap), (5, status)]
  | .rowRepairLimit tap => [(Config.memTaps, tap)]
  | .retrainDone tap _ _ => [(Config.memTaps, tap)]
  | .railTrip f _ => [(Config.fields, f)]
  | .thermalOff f sensor _ => [(Config.fields, f), (Config.sensors, sensor)]
  | .hwThrottle f sensor _ => [(Config.fields, f), (Config.sensors, sensor)]
  | .hwThrottleRelease f => [(Config.fields, f)]
  | .paddockReturn f => [(Config.fields, f)]
  | .pspPowerGood f _ => [(Config.fields, f)]
  | .compPgTimeout f _ => [(Config.fields, f)]
  | .pwrGoodRise _ => []
  | .pwrGoodFall => []
  | .coldReset => []
  | .coldResetRelease => []
  | .shepherdSelftestDone _ _ _ => []
  | .firmwareLoaded _ _ => []
  | .startReady _ => []
  | .tallyScan _ _ => []
  | .packCopyVerified _ => []
  | .refclkCheck _ _ => []
  | .pllLock f => [(Config.fields, f)]
  | .tapInstruction _ => []
  | .debugAuthorisation _ _ => []
  | .secretClear _ => []
  | .scanEnable _ => []
  | .i3cCcc code _ => [(256, code)]
  | .entdaa addr => [(128, addr)]
  | .setdasa static addr => [(128, static), (128, addr)]
  | .setnewda addr => [(128, addr)]
  | .rstdaa => []
  | .getpid => []
  | .getbcr => []
  | .getdcr => []
  | .getstatus => []
  | .enec _ => []
  | .disec _ => []
  | .getmwl => []
  | .setmwl _ => []
  | .getmrl => []
  | .setmrl _ => []
  | .mctpControl _ => []
  | .mctpOtherMessage typ _ => [(128, typ)]
  | .getTid => []
  | .getPldmVersion _ => []
  | .getPldmTypes => []
  | .getPldmCommands _ => []
  | .getSensorReading _ => []
  | .getStateSensorReadings _ => []
  | .getPdrRepositoryInfo => []
  | .getPdr _ => []
  | .getIdent => []
  | .getHealth => []
  | .getBound => []
  | .readTally _ _ => []
  | .getPins => []
  | .telemetryRound seg _ _ => [(Config.rows, seg)]
  | .busHeld seg _ => [(Config.rows, seg)]
  | .calibration => []
  | .meshMessage _ => []
  | .meshLinkDown plane f link => [(2, plane), (Config.fields, f), (4, link)]
  | .detourTables => []
  | .tbaseSync _ => []
  | .wardenEpoch _ _ _ => []
  | .digestLate => []
  | .shepherdHeartbeat _ => []
  | .shepherdLost voter _ _ => [(3, voter)]
  | .vote voter _ _ => [(3, voter)]
  | .challengeResponse _ _ => []
  | .challengeTimeout => []
  | .takeover f => [(Config.fields, f)]
  | .orderEntry _ => []
  | .outputRelease => []
  | .shepherdRejoin _ _ => []
  | .rejoinTimeout _ => []
  | .shepherdResetOrder => []
  | .fwWatchdog _ core => [(4, core)]
  | .deferredActivationStart => []
  | .updateImageReceived _ _ => []
  | .updateSwap => []
  | .updateJoinTimeout => []
  | .trackerCheck f => [(Config.fields, f)]
  | .waitGraphAssembled _ _ _ _ => []
  | .captureDone _ => []
  | .captureBudget _ => []
  | .resetStatus f k _ => [(Config.fields, f), (Config.flocks, k)]
  | .resetLimit _ => []
  | .railCycleHold => []
  | .level1Limit => []
  | .epochEnd => []
  | .hourBin => []
  | .sweepReport f target => [(Config.fields, f), (64, target)]
  | .sweepWait target => [(64, target)]
  | .exchangeWait target => [(64, target)]
  | .fleeceSend => []
  | .leeRun => []
  | .frequencySlewStep f => [(Config.fields, f)]
  | .voltageLower f => [(Config.fields, f)]
  | .gustRise f detector => [(Config.fields, f), (Config.gusts, detector)]
  | .stretchEnd f => [(Config.fields, f)]
  | .stormHoldEnd f => [(Config.fields, f)]
  | .gustDetectorStuck f detector => [(Config.fields, f), (Config.gusts, detector)]
  | .thermalSensorUpdate f sensor _ => [(Config.fields, f), (Config.sensors, sensor)]
  | .breezeRun _ => []
  | .tallyCommit _ => []
  | .tallyReclaimDone => []
  | .tokenRefill => []
  | .operatingSeconds => []
  | .selftestSliceBoundary => []
  | .pacerWindow _ _ _ => []
  | .snapshot => []
  | .pinLowTimeEnd _ => []
  | .pinHighTimeEnd _ => []
  | .thermalReturnDeadline f => [(Config.fields, f)]
  | .linkRetrainFailed tap _ => [(32, tap)]
  | .voutReadBack f _ => [(Config.fields, f)]
  | .writeResponse ring => [(128, ring)]
  | .flashSlotWritten _ _ _ => []
  | .instrumentAccess _ _ _ _ => []

/-- A list each of whose pairs passes a test at once has no pair that fails it. -/
theorem each_of_all (l : List (Nat × Nat)) (h : l.all (fun p => decide (p.2 < p.1)) = true) : ∀ p ∈ l, p.2 < p.1 := by simpa using h

/-- Every unit that a well-formed command names exists. -/
def Statement (i : Instr) : Prop := wellFormed i = true → ∀ p ∈ named i, p.2 < p.1

theorem hifStart : Statement (.hifStart) := by intro _ p hp; cases hp
theorem hifResume : Statement (.hifResume) := by intro _ p hp; cases hp
theorem windowLock : Statement (.windowLock) := by intro _ p hp; cases hp
theorem ferrClear : Statement (.ferrClear) := by intro _ p hp; cases hp
theorem ferrOverflowClear : Statement (.ferrOverflowClear) := by intro _ p hp; cases hp
theorem pinHeldClear : ∀ x0 x1, Statement (.pinHeldClear x0 x1) := by intro x0 x1 _ p hp; cases hp
theorem pinModeWrite : ∀ x0 x1, Statement (.pinModeWrite x0 x1) := by intro x0 x1 _ p hp; cases hp
theorem apertureWrite : ∀ x0 x1 x2, Statement (.apertureWrite x0 x1 x2) := by intro x0 x1 x2 _ p hp; cases hp
theorem windowWrite : ∀ x0 x1 x2, Statement (.windowWrite x0 x1 x2) := by intro x0 x1 x2 _ p hp; cases hp
theorem windowError : ∀ x0 x1 x2, Statement (.windowError x0 x1 x2) := by intro x0 x1 x2 _ p hp; cases hp
theorem doorbellPoll : ∀ x0, Statement (.doorbellPoll x0) := by intro x0 _ p hp; cases hp
theorem moderationEnd : ∀ x0, Statement (.moderationEnd x0) :=
  fun x0 (h : (inRange 128 x0) = true) => each_of_all [(128, x0)] (by simp [inRange] at h ⊢; omega)
theorem interruptAck : Statement (.interruptAck) := by intro _ p hp; cases hp
theorem dmaError : ∀ x0 x1 x2, Statement (.dmaError x0 x1 x2) := by intro x0 x1 x2 _ p hp; cases hp
theorem heartbeatLate : Statement (.heartbeatLate) := by intro _ p hp; cases hp
theorem hostLost : Statement (.hostLost) := by intro _ p hp; cases hp
theorem negotiate : ∀ x0, Statement (.negotiate x0) :=
  fun x0 (h : (x0.wf) = true) => each_of_all [(64, x0.ring)] (by simp [Desc.wf] at h ⊢; omega)
theorem ringCreate : ∀ x0, Statement (.ringCreate x0) :=
  fun x0 (h : (x0.wf) = true) => each_of_all [(64, x0.ring)] (by simp [Desc.wf] at h ⊢; omega)
theorem ringDestroy : ∀ x0, Statement (.ringDestroy x0) :=
  fun x0 (h : (x0.wf) = true) => each_of_all [(64, x0.ring)] (by simp [Desc.wf] at h ⊢; omega)
theorem heartbeat : ∀ x0, Statement (.heartbeat x0) :=
  fun x0 (h : (x0.wf) = true) => each_of_all [(64, x0.ring)] (by simp [Desc.wf] at h ⊢; omega)
theorem jobBegin : ∀ x0, Statement (.jobBegin x0) :=
  fun x0 (h : (x0.wf) = true) => each_of_all [(64, x0.ring)] (by simp [Desc.wf] at h ⊢; omega)
theorem mtpDrainDone : ∀ x0, Statement (.mtpDrainDone x0) :=
  fun x0 (h : (inTap true x0) = true) => each_of_all [(Config.memTaps, x0)] (by simp [inTap, inRange] at h ⊢; omega)
theorem jobBeginDrainTimeout : Statement (.jobBeginDrainTimeout) := by intro _ p hp; cases hp
theorem jobEnd : ∀ x0, Statement (.jobEnd x0) :=
  fun x0 (h : (x0.wf) = true) => each_of_all [(64, x0.ring)] (by simp [Desc.wf] at h ⊢; omega)
theorem musterPoint : ∀ x0, Statement (.musterPoint x0) :=
  fun x0 (h : (x0.wf) = true) => each_of_all [(64, x0.ring)] (by simp [Desc.wf] at h ⊢; omega)
theorem musterQuietTimeout : ∀ x0, Statement (.musterQuietTimeout x0) := by intro x0 _ p hp; cases hp
theorem idleTableLoad : ∀ x0, Statement (.idleTableLoad x0) :=
  fun x0 (h : (x0.wf) = true) => each_of_all [(64, x0.ring)] (by simp [Desc.wf] at h ⊢; omega)
theorem screenPolicy : ∀ x0, Statement (.screenPolicy x0) :=
  fun x0 (h : (x0.wf) = true) => each_of_all [(64, x0.ring)] (by simp [Desc.wf] at h ⊢; omega)
theorem governorPolicy : ∀ x0, Statement (.governorPolicy x0) :=
  fun x0 (h : (x0.wf) = true) => each_of_all [(64, x0.ring)] (by simp [Desc.wf] at h ⊢; omega)
theorem reactionPolicy : ∀ x0, Statement (.reactionPolicy x0) :=
  fun x0 (h : (x0.wf) = true) => each_of_all [(64, x0.ring)] (by simp [Desc.wf] at h ⊢; omega)
theorem reactionDefaults : ∀ x0, Statement (.reactionDefaults x0) :=
  fun x0 (h : (x0.wf) = true) => each_of_all [(64, x0.ring)] (by simp [Desc.wf] at h ⊢; omega)
theorem sparingPolicy : ∀ x0, Statement (.sparingPolicy x0) :=
  fun x0 (h : (x0.wf) = true) => each_of_all [(64, x0.ring)] (by simp [Desc.wf] at h ⊢; omega)
theorem recoveryPolicy : ∀ x0, Statement (.recoveryPolicy x0) :=
  fun x0 (h : (x0.wf) = true) => each_of_all [(64, x0.ring)] (by simp [Desc.wf] at h ⊢; omega)
theorem powerPolicy : ∀ x0, Statement (.powerPolicy x0) :=
  fun x0 (h : (x0.wf) = true) => each_of_all [(64, x0.ring)] (by simp [Desc.wf] at h ⊢; omega)
theorem lifecyclePolicy : ∀ x0, Statement (.lifecyclePolicy x0) :=
  fun x0 (h : (x0.wf) = true) => each_of_all [(64, x0.ring)] (by simp [Desc.wf] at h ⊢; omega)
theorem rampSet : ∀ x0, Statement (.rampSet x0) :=
  fun x0 (h : (x0.wf) = true) => each_of_all [(64, x0.ring)] (by simp [Desc.wf] at h ⊢; omega)
theorem packStage : ∀ x0, Statement (.packStage x0) :=
  fun x0 (h : (x0.wf) = true) => each_of_all [(64, x0.ring)] (by simp [Desc.wf] at h ⊢; omega)
theorem packActivate : ∀ x0, Statement (.packActivate x0) :=
  fun x0 (h : (x0.wf) = true) => each_of_all [(64, x0.ring)] (by simp [Desc.wf] at h ⊢; omega)
theorem watchSet : ∀ x0, Statement (.watchSet x0) :=
  fun x0 (h : (x0.wf) = true) => each_of_all [(64, x0.ring)] (by simp [Desc.wf] at h ⊢; omega)
theorem earmarkConfig : ∀ x0, Statement (.earmarkConfig x0) :=
  fun x0 (h : (x0.wf) = true) => each_of_all [(64, x0.ring)] (by simp [Desc.wf] at h ⊢; omega)
theorem replicaDigest : ∀ x0, Statement (.replicaDigest x0) :=
  fun x0 (h : (x0.wf) = true) => each_of_all [(64, x0.ring)] (by simp [Desc.wf] at h ⊢; omega)
theorem queryBound : ∀ x0, Statement (.queryBound x0) :=
  fun x0 (h : (x0.wf) = true) => each_of_all [(64, x0.ring)] (by simp [Desc.wf] at h ⊢; omega)
theorem queryHealth : ∀ x0, Statement (.queryHealth x0) :=
  fun x0 (h : (x0.wf) = true) => each_of_all [(64, x0.ring)] (by simp [Desc.wf] at h ⊢; omega)
theorem foldRequest : ∀ x0, Statement (.foldRequest x0) :=
  fun x0 (h : (x0.wf) = true) => each_of_all [(64, x0.ring)] (by simp [Desc.wf] at h ⊢; omega)
theorem unfold : ∀ x0, Statement (.unfold x0) :=
  fun x0 (h : (x0.wf) = true) => each_of_all [(64, x0.ring)] (by simp [Desc.wf] at h ⊢; omega)
theorem domainReset : ∀ x0, Statement (.domainReset x0) :=
  fun x0 (h : (x0.wf) = true) => each_of_all [(64, x0.ring)] (by simp [Desc.wf] at h ⊢; omega)
theorem recover : ∀ x0, Statement (.recover x0) :=
  fun x0 (h : (x0.wf) = true) => each_of_all [(64, x0.ring)] (by simp [Desc.wf] at h ⊢; omega)
theorem tallyRead : ∀ x0, Statement (.tallyRead x0) :=
  fun x0 (h : (x0.wf) = true) => each_of_all [(64, x0.ring)] (by simp [Desc.wf] at h ⊢; omega)
theorem tallyClear : ∀ x0, Statement (.tallyClear x0) :=
  fun x0 (h : (x0.wf) = true) => each_of_all [(64, x0.ring)] (by simp [Desc.wf] at h ⊢; omega)
theorem fwStage : ∀ x0, Statement (.fwStage x0) :=
  fun x0 (h : (x0.wf) = true) => each_of_all [(64, x0.ring)] (by simp [Desc.wf] at h ⊢; omega)
theorem fwActivate : ∀ x0, Statement (.fwActivate x0) :=
  fun x0 (h : (x0.wf) = true) => each_of_all [(64, x0.ring)] (by simp [Desc.wf] at h ⊢; omega)
theorem traceConfig : ∀ x0, Statement (.traceConfig x0) :=
  fun x0 (h : (x0.wf) = true) => each_of_all [(64, x0.ring)] (by simp [Desc.wf] at h ⊢; omega)
theorem waitgraphReq : ∀ x0, Statement (.waitgraphReq x0) :=
  fun x0 (h : (x0.wf) = true) => each_of_all [(64, x0.ring)] (by simp [Desc.wf] at h ⊢; omega)
theorem lifecycleProvisioned : ∀ x0, Statement (.lifecycleProvisioned x0) :=
  fun x0 (h : (x0.wf) = true) => each_of_all [(64, x0.ring)] (by simp [Desc.wf] at h ⊢; omega)
theorem lifecycleField : ∀ x0, Statement (.lifecycleField x0) :=
  fun x0 (h : (x0.wf) = true) => each_of_all [(64, x0.ring)] (by simp [Desc.wf] at h ⊢; omega)
theorem lifecycleReturn : ∀ x0, Statement (.lifecycleReturn x0) :=
  fun x0 (h : (x0.wf) = true) => each_of_all [(64, x0.ring)] (by simp [Desc.wf] at h ⊢; omega)
theorem shutDown : ∀ x0, Statement (.shutDown x0) :=
  fun x0 (h : (x0.wf) = true) => each_of_all [(64, x0.ring)] (by simp [Desc.wf] at h ⊢; omega)
theorem setOwnerPackKey : ∀ x0, Statement (.setOwnerPackKey x0) :=
  fun x0 (h : (x0.wf) = true) => each_of_all [(64, x0.ring)] (by simp [Desc.wf] at h ⊢; omega)
theorem opAnnounce : ∀ x0 x1 x2 x3 x4 x5 x6, Statement (.opAnnounce x0 x1 x2 x3 x4 x5 x6) :=
  fun x0 x1 x2 x3 x4 x5 x6 (h : (inField x0 && inFlock x1 && inCore x2 && decide (x5 ≤ 8192)) = true) => each_of_all [(Config.fields, x0), (Config.flocks, x1), (Config.cores, x2)] (by simp [inField, inFlock, inCore, inRange] at h ⊢; omega)
theorem mirrorBeat : ∀ x0 x1 x2 x3 x4 x5, Statement (.mirrorBeat x0 x1 x2 x3 x4 x5) :=
  fun x0 x1 x2 x3 x4 x5 (h : (inRange 4 x2 && inField x0 && inFlock x1 && decide (x4.length = 64)) = true) => each_of_all [(4, x2), (Config.fields, x0), (Config.flocks, x1)] (by simp [inField, inFlock, inRange] at h ⊢; omega)
theorem digestArrival : ∀ x0 x1 x2 x3 x4 x5, Statement (.digestArrival x0 x1 x2 x3 x4 x5) :=
  fun x0 x1 x2 x3 x4 x5 (h : (inField x0 && inFlock x1 && inCore x2 && inRange 64 x3) = true) => each_of_all [(Config.fields, x0), (Config.flocks, x1), (Config.cores, x2), (64, x3)] (by simp [inField, inFlock, inCore, inRange] at h ⊢; omega)
theorem digestWaitEnd : ∀ x0 x1 x2 x3, Statement (.digestWaitEnd x0 x1 x2 x3) :=
  fun x0 x1 x2 x3 (h : (inField x0 && inFlock x1 && inRange 64 x2) = true) => each_of_all [(Config.fields, x0), (Config.flocks, x1), (64, x2)] (by simp [inField, inFlock, inRange] at h ⊢; omega)
theorem crookComputeDone : ∀ x0 x1 x2 x3 x4, Statement (.crookComputeDone x0 x1 x2 x3 x4) :=
  fun x0 x1 x2 x3 x4 (h : (inField x0 && inCrook x1 && inFlock x2 && inRange 64 x3) = true) => each_of_all [(Config.fields, x0), (Config.crooks, x1), (Config.flocks, x2), (64, x3)] (by simp [inField, inFlock, inCrook, inRange] at h ⊢; omega)
theorem crookConfirmDone : ∀ x0 x1 x2 x3 x4, Statement (.crookConfirmDone x0 x1 x2 x3 x4) :=
  fun x0 x1 x2 x3 x4 (h : (inField x0 && inCrook x1 && inFlock x2 && inRange 64 x3) = true) => each_of_all [(Config.fields, x0), (Config.crooks, x1), (Config.flocks, x2), (64, x3)] (by simp [inField, inFlock, inCrook, inRange] at h ⊢; omega)
theorem crookSelftest : ∀ x0 x1 x2, Statement (.crookSelftest x0 x1 x2) :=
  fun x0 x1 x2 (h : (inField x0 && inCrook x1) = true) => each_of_all [(Config.fields, x0), (Config.crooks, x1)] (by simp [inField, inCrook, inRange] at h ⊢; omega)
theorem crookBufferEcc : ∀ x0 x1 x2 x3 x4, Statement (.crookBufferEcc x0 x1 x2 x3 x4) :=
  fun x0 x1 x2 x3 x4 (h : (inField x0 && inCrook x1) = true) => each_of_all [(Config.fields, x0), (Config.crooks, x1)] (by simp [inField, inCrook, inRange] at h ⊢; omega)
theorem commandIssue : ∀ x0 x1 x2 x3, Statement (.commandIssue x0 x1 x2 x3) :=
  fun x0 x1 x2 x3 (h : (inField x0 && inFlock x1 && inRange 4 x2) = true) => each_of_all [(Config.fields, x0), (Config.flocks, x1), (4, x2)] (by simp [inField, inFlock, inRange] at h ⊢; omega)
theorem commandRetire : ∀ x0 x1 x2 x3, Statement (.commandRetire x0 x1 x2 x3) :=
  fun x0 x1 x2 x3 (h : (inField x0 && inFlock x1 && inRange 64 x2) = true) => each_of_all [(Config.fields, x0), (Config.flocks, x1), (64, x2)] (by simp [inField, inFlock, inRange] at h ⊢; omega)
theorem killDone : ∀ x0 x1 x2, Statement (.killDone x0 x1 x2) :=
  fun x0 x1 x2 (h : (inField x0 && inFlock x1) = true) => each_of_all [(Config.fields, x0), (Config.flocks, x1)] (by simp [inField, inFlock, inRange] at h ⊢; omega)
theorem killTimeout : ∀ x0 x1, Statement (.killTimeout x0 x1) :=
  fun x0 x1 (h : (inField x0 && inFlock x1) = true) => each_of_all [(Config.fields, x0), (Config.flocks, x1)] (by simp [inField, inFlock, inRange] at h ⊢; omega)
theorem hurdleClosed : ∀ x0 x1, Statement (.hurdleClosed x0 x1) := by intro x0 x1 _ p hp; cases hp
theorem drainEnd : ∀ x0 x1, Statement (.drainEnd x0 x1) := by intro x0 x1 _ p hp; cases hp
theorem drainTimeout : ∀ x0 x1, Statement (.drainTimeout x0 x1) := by intro x0 x1 _ p hp; cases hp
theorem quietRise : ∀ x0 x1 x2, Statement (.quietRise x0 x1 x2) :=
  fun x0 x1 x2 (h : (inField x0 && inFlock x1) = true) => each_of_all [(Config.fields, x0), (Config.flocks, x1)] (by simp [inField, inFlock, inRange] at h ⊢; omega)
theorem quietFall : ∀ x0 x1 x2, Statement (.quietFall x0 x1 x2) :=
  fun x0 x1 x2 (h : (inField x0 && inFlock x1) = true) => each_of_all [(Config.fields, x0), (Config.flocks, x1)] (by simp [inField, inFlock, inRange] at h ⊢; omega)
theorem copyDone : ∀ x0 x1 x2 x3, Statement (.copyDone x0 x1 x2 x3) :=
  fun x0 x1 x2 x3 (h : (inField x0 && inFlock x1) = true) => each_of_all [(Config.fields, x0), (Config.flocks, x1)] (by simp [inField, inFlock, inRange] at h ⊢; omega)
theorem copyLimit : ∀ x0 x1, Statement (.copyLimit x0 x1) :=
  fun x0 x1 (h : (inField x0 && inFlock x1) = true) => each_of_all [(Config.fields, x0), (Config.flocks, x1)] (by simp [inField, inFlock, inRange] at h ⊢; omega)
theorem foldListCommit : Statement (.foldListCommit) := by intro _ p hp; cases hp
theorem ldoOk : ∀ x0 x1 x2, Statement (.ldoOk x0 x1 x2) :=
  fun x0 x1 x2 (h : (inField x0 && inFlock x1) = true) => each_of_all [(Config.fields, x0), (Config.flocks, x1)] (by simp [inField, inFlock, inRange] at h ⊢; omega)
theorem ldoOkTimeout : ∀ x0 x1, Statement (.ldoOkTimeout x0 x1) :=
  fun x0 x1 (h : (inField x0 && inFlock x1) = true) => each_of_all [(Config.fields, x0), (Config.flocks, x1)] (by simp [inField, inFlock, inRange] at h ⊢; omega)
theorem retestDeadline : ∀ x0 x1 x2, Statement (.retestDeadline x0 x1 x2) :=
  fun x0 x1 x2 (h : (inField x0 && inFlock x1 && inCore x2) = true) => each_of_all [(Config.fields, x0), (Config.flocks, x1), (Config.cores, x2)] (by simp [inField, inFlock, inCore, inRange] at h ⊢; omega)
theorem runStart : ∀ x0 x1 x2 x3, Statement (.runStart x0 x1 x2 x3) :=
  fun x0 x1 x2 x3 (h : (inField x0 && inFlock x1) = true) => each_of_all [(Config.fields, x0), (Config.flocks, x1)] (by simp [inField, inFlock, inRange] at h ⊢; omega)
theorem windowPlan : ∀ x0 x1 x2 x3, Statement (.windowPlan x0 x1 x2 x3) :=
  fun x0 x1 x2 x3 (h : (inField x0 && inFlock x1 && inSlot x2) = true) => each_of_all [(Config.fields, x0), (Config.flocks, x1), (Config.slots, x2)] (by simp [inField, inFlock, inSlot, inRange] at h ⊢; omega)
theorem scratchWriteDone : ∀ x0 x1 x2, Statement (.scratchWriteDone x0 x1 x2) :=
  fun x0 x1 x2 (h : (inField x0 && inFlock x1 && inCore x2) = true) => each_of_all [(Config.fields, x0), (Config.flocks, x1), (Config.cores, x2)] (by simp [inField, inFlock, inCore, inRange] at h ⊢; omega)
theorem windowOpen : ∀ x0 x1 x2 x3, Statement (.windowOpen x0 x1 x2 x3) :=
  fun x0 x1 x2 x3 (h : (inField x0 && inFlock x1 && inSlot x2) = true) => each_of_all [(Config.fields, x0), (Config.flocks, x1), (Config.slots, x2)] (by simp [inField, inFlock, inSlot, inRange] at h ⊢; omega)
theorem spareSlicePlan : ∀ x0 x1 x2, Statement (.spareSlicePlan x0 x1 x2) :=
  fun x0 x1 x2 (h : (inField x0 && inFlock x1 && inCore x2) = true) => each_of_all [(Config.fields, x0), (Config.flocks, x1), (Config.cores, x2)] (by simp [inField, inFlock, inCore, inRange] at h ⊢; omega)
theorem tsSaved : ∀ x0 x1 x2 x3, Statement (.tsSaved x0 x1 x2 x3) :=
  fun x0 x1 x2 x3 (h : (inField x0 && inFlock x1 && inCore x2) = true) => each_of_all [(Config.fields, x0), (Config.flocks, x1), (Config.cores, x2)] (by simp [inField, inFlock, inCore, inRange] at h ⊢; omega)
theorem tsSavedLate : ∀ x0 x1 x2, Statement (.tsSavedLate x0 x1 x2) :=
  fun x0 x1 x2 (h : (inField x0 && inFlock x1 && inCore x2) = true) => each_of_all [(Config.fields, x0), (Config.flocks, x1), (Config.cores, x2)] (by simp [inField, inFlock, inCore, inRange] at h ⊢; omega)
theorem guardGo : ∀ x0 x1 x2, Statement (.guardGo x0 x1 x2) :=
  fun x0 x1 x2 (h : (inField x0 && inFlock x1 && inCore x2) = true) => each_of_all [(Config.fields, x0), (Config.flocks, x1), (Config.cores, x2)] (by simp [inField, inFlock, inCore, inRange] at h ⊢; omega)
theorem tsDone : ∀ x0 x1 x2 x3 x4, Statement (.tsDone x0 x1 x2 x3 x4) :=
  fun x0 x1 x2 x3 x4 (h : (inField x0 && inFlock x1 && inCore x2) = true) => each_of_all [(Config.fields, x0), (Config.flocks, x1), (Config.cores, x2)] (by simp [inField, inFlock, inCore, inRange] at h ⊢; omega)
theorem guardExit : ∀ x0 x1 x2, Statement (.guardExit x0 x1 x2) :=
  fun x0 x1 x2 (h : (inField x0 && inFlock x1 && inCore x2) = true) => each_of_all [(Config.fields, x0), (Config.flocks, x1), (Config.cores, x2)] (by simp [inField, inFlock, inCore, inRange] at h ⊢; omega)
theorem doneMissing : ∀ x0 x1 x2, Statement (.doneMissing x0 x1 x2) :=
  fun x0 x1 x2 (h : (inField x0 && inFlock x1 && inCore x2) = true) => each_of_all [(Config.fields, x0), (Config.flocks, x1), (Config.cores, x2)] (by simp [inField, inFlock, inCore, inRange] at h ⊢; omega)
theorem sliceLatestExit : ∀ x0 x1 x2, Statement (.sliceLatestExit x0 x1 x2) :=
  fun x0 x1 x2 (h : (inField x0 && inFlock x1 && inCore x2) = true) => each_of_all [(Config.fields, x0), (Config.flocks, x1), (Config.cores, x2)] (by simp [inField, inFlock, inCore, inRange] at h ⊢; omega)
theorem tsNeed : ∀ x0 x1 x2 x3, Statement (.tsNeed x0 x1 x2 x3) :=
  fun x0 x1 x2 x3 (h : (inField x0 && inFlock x1 && inCore x2) = true) => each_of_all [(Config.fields, x0), (Config.flocks, x1), (Config.cores, x2)] (by simp [inField, inFlock, inCore, inRange] at h ⊢; omega)
theorem tsRestored : ∀ x0 x1 x2 x3, Statement (.tsRestored x0 x1 x2 x3) :=
  fun x0 x1 x2 x3 (h : (inField x0 && inFlock x1 && inCore x2) = true) => each_of_all [(Config.fields, x0), (Config.flocks, x1), (Config.cores, x2)] (by simp [inField, inFlock, inCore, inRange] at h ⊢; omega)
theorem restoredLate : ∀ x0 x1 x2, Statement (.restoredLate x0 x1 x2) :=
  fun x0 x1 x2 (h : (inField x0 && inFlock x1 && inCore x2) = true) => each_of_all [(Config.fields, x0), (Config.flocks, x1), (Config.cores, x2)] (by simp [inField, inFlock, inCore, inRange] at h ⊢; omega)
theorem rotationCheck : ∀ x0, Statement (.rotationCheck x0) :=
  fun x0 (h : (inField x0) = true) => each_of_all [(Config.fields, x0)] (by simp [inField, inRange] at h ⊢; omega)
theorem errorReport : ∀ x0 x1 x2, Statement (.errorReport x0 x1 x2) :=
  fun x0 x1 x2 (h : (inField x0 && inFlock x1 && inRange 32 x2.core && inRange 16 x2.lane) = true) => each_of_all [(Config.fields, x0), (Config.flocks, x1), (32, x2.core), (16, x2.lane)] (by simp [inField, inFlock, inRange] at h ⊢; omega)
theorem infrastructureError : ∀ x0, Statement (.infrastructureError x0) := by intro x0 _ p hp; cases hp
theorem partResetDone : ∀ x0 x1, Statement (.partResetDone x0 x1) := by intro x0 x1 _ p hp; cases hp
theorem partResetLimit : ∀ x0, Statement (.partResetLimit x0) := by intro x0 _ p hp; cases hp
theorem nmiReturn : ∀ x0, Statement (.nmiReturn x0) := by intro x0 _ p hp; cases hp
theorem nmiOverrun : ∀ x0 x1, Statement (.nmiOverrun x0 x1) :=
  fun x0 x1 (h : (inRange 4 x1) = true) => each_of_all [(4, x1)] (by simp [inRange] at h ⊢; omega)
theorem txFrameStart : ∀ x0 x1, Statement (.txFrameStart x0 x1) :=
  fun x0 x1 (h : (inTap false x0) = true) => each_of_all [(Config.linkTaps, x0)] (by simp [inTap, inRange] at h ⊢; omega)
theorem txFrameEnd : ∀ x0 x1, Statement (.txFrameEnd x0 x1) :=
  fun x0 x1 (h : (inTap false x0) = true) => each_of_all [(Config.linkTaps, x0)] (by simp [inTap, inRange] at h ⊢; omega)
theorem trackerIdle : ∀ x0 x1, Statement (.trackerIdle x0 x1) :=
  fun x0 x1 (h : (inTap false x0 && inRange 256 x1) = true) => each_of_all [(Config.linkTaps, x0), (256, x1)] (by simp [inTap, inRange] at h ⊢; omega)
theorem inboundFrame : ∀ x0 x1 x2 x3, Statement (.inboundFrame x0 x1 x2 x3) :=
  fun x0 x1 x2 x3 (h : (inTap false x0) = true) => each_of_all [(Config.linkTaps, x0)] (by simp [inTap, inRange] at h ⊢; omega)
theorem serviceFrameGrant : ∀ x0, Statement (.serviceFrameGrant x0) :=
  fun x0 (h : (inTap false x0) = true) => each_of_all [(Config.linkTaps, x0)] (by simp [inTap, inRange] at h ⊢; omega)
theorem serviceFrameReceived : ∀ x0 x1, Statement (.serviceFrameReceived x0 x1) :=
  fun x0 x1 (h : (inTap false x0) = true) => each_of_all [(Config.linkTaps, x0)] (by simp [inTap, inRange] at h ⊢; omega)
theorem linkDown : ∀ x0, Statement (.linkDown x0) :=
  fun x0 (h : (inTap false x0) = true) => each_of_all [(Config.linkTaps, x0)] (by simp [inTap, inRange] at h ⊢; omega)
theorem linkUp : ∀ x0, Statement (.linkUp x0) :=
  fun x0 (h : (inTap false x0) = true) => each_of_all [(Config.linkTaps, x0)] (by simp [inTap, inRange] at h ⊢; omega)
theorem serviceRegisterAck : ∀ x0 x1 x2 x3, Statement (.serviceRegisterAck x0 x1 x2 x3) :=
  fun x0 x1 x2 x3 (h : (inTap x0 x1) = true) => each_of_all [(if x0 then Config.memTaps else Config.linkTaps, x1)] (by simp [inTap, inRange] at h ⊢; exact h)
theorem serviceRegisterLate : ∀ x0 x1, Statement (.serviceRegisterLate x0 x1) :=
  fun x0 x1 (h : (inTap x0 x1) = true) => each_of_all [(if x0 then Config.memTaps else Config.linkTaps, x1)] (by simp [inTap, inRange] at h ⊢; exact h)
theorem memoryEvent : ∀ x0 x1 x2 x3, Statement (.memoryEvent x0 x1 x2 x3) :=
  fun x0 x1 x2 x3 (h : (inRange 24 x0 && inRange 4 x1) = true) => each_of_all [(24, x0), (4, x1)] (by simp [inRange] at h ⊢; omega)
theorem rowRepairStart : ∀ x0, Statement (.rowRepairStart x0) :=
  fun x0 (h : (inTap true x0) = true) => each_of_all [(Config.memTaps, x0)] (by simp [inTap, inRange] at h ⊢; omega)
theorem rowRepair : ∀ x0 x1, Statement (.rowRepair x0 x1) :=
  fun x0 x1 (h : (inRange 24 x0 && inRange 5 x1) = true) => each_of_all [(24, x0), (5, x1)] (by simp [inRange] at h ⊢; omega)
theorem rowRepairLimit : ∀ x0, Statement (.rowRepairLimit x0) :=
  fun x0 (h : (inTap true x0) = true) => each_of_all [(Config.memTaps, x0)] (by simp [inTap, inRange] at h ⊢; omega)
theorem retrainDone : ∀ x0 x1 x2, Statement (.retrainDone x0 x1 x2) :=
  fun x0 x1 x2 (h : (inTap true x0) = true) => each_of_all [(Config.memTaps, x0)] (by simp [inTap, inRange] at h ⊢; omega)
theorem railTrip : ∀ x0 x1, Statement (.railTrip x0 x1) :=
  fun x0 x1 (h : (inField x0) = true) => each_of_all [(Config.fields, x0)] (by simp [inField, inRange] at h ⊢; omega)
theorem thermalOff : ∀ x0 x1 x2, Statement (.thermalOff x0 x1 x2) :=
  fun x0 x1 x2 (h : (inField x0 && inRange Config.sensors x1) = true) => each_of_all [(Config.fields, x0), (Config.sensors, x1)] (by simp [inField, inRange] at h ⊢; omega)
theorem hwThrottle : ∀ x0 x1 x2, Statement (.hwThrottle x0 x1 x2) :=
  fun x0 x1 x2 (h : (inField x0 && inRange Config.sensors x1) = true) => each_of_all [(Config.fields, x0), (Config.sensors, x1)] (by simp [inField, inRange] at h ⊢; omega)
theorem hwThrottleRelease : ∀ x0, Statement (.hwThrottleRelease x0) :=
  fun x0 (h : (inField x0) = true) => each_of_all [(Config.fields, x0)] (by simp [inField, inRange] at h ⊢; omega)
theorem paddockReturn : ∀ x0, Statement (.paddockReturn x0) :=
  fun x0 (h : (inField x0) = true) => each_of_all [(Config.fields, x0)] (by simp [inField, inRange] at h ⊢; omega)
theorem pspPowerGood : ∀ x0 x1, Statement (.pspPowerGood x0 x1) :=
  fun x0 x1 (h : (inField x0) = true) => each_of_all [(Config.fields, x0)] (by simp [inField, inRange] at h ⊢; omega)
theorem compPgTimeout : ∀ x0 x1, Statement (.compPgTimeout x0 x1) :=
  fun x0 x1 (h : (inField x0) = true) => each_of_all [(Config.fields, x0)] (by simp [inField, inRange] at h ⊢; omega)
theorem pwrGoodRise : ∀ x0, Statement (.pwrGoodRise x0) := by intro x0 _ p hp; cases hp
theorem pwrGoodFall : Statement (.pwrGoodFall) := by intro _ p hp; cases hp
theorem coldReset : Statement (.coldReset) := by intro _ p hp; cases hp
theorem coldResetRelease : Statement (.coldResetRelease) := by intro _ p hp; cases hp
theorem shepherdSelftestDone : ∀ x0 x1 x2, Statement (.shepherdSelftestDone x0 x1 x2) := by intro x0 x1 x2 _ p hp; cases hp
theorem firmwareLoaded : ∀ x0 x1, Statement (.firmwareLoaded x0 x1) := by intro x0 x1 _ p hp; cases hp
theorem startReady : ∀ x0, Statement (.startReady x0) := by intro x0 _ p hp; cases hp
theorem tallyScan : ∀ x0 x1, Statement (.tallyScan x0 x1) := by intro x0 x1 _ p hp; cases hp
theorem packCopyVerified : ∀ x0, Statement (.packCopyVerified x0) := by intro x0 _ p hp; cases hp
theorem refclkCheck : ∀ x0 x1, Statement (.refclkCheck x0 x1) := by intro x0 x1 _ p hp; cases hp
theorem pllLock : ∀ x0, Statement (.pllLock x0) :=
  fun x0 (h : (inField x0) = true) => each_of_all [(Config.fields, x0)] (by simp [inField, inRange] at h ⊢; omega)
theorem tapInstruction : ∀ x0, Statement (.tapInstruction x0) := by intro x0 _ p hp; cases hp
theorem debugAuthorisation : ∀ x0 x1, Statement (.debugAuthorisation x0 x1) := by intro x0 x1 _ p hp; cases hp
theorem secretClear : ∀ x0, Statement (.secretClear x0) := by intro x0 _ p hp; cases hp
theorem scanEnable : ∀ x0, Statement (.scanEnable x0) := by intro x0 _ p hp; cases hp
theorem i3cCcc : ∀ x0 x1, Statement (.i3cCcc x0 x1) :=
  fun x0 x1 (h : (inRange 256 x0) = true) => each_of_all [(256, x0)] (by simp [inRange] at h ⊢; omega)
theorem entdaa : ∀ x0, Statement (.entdaa x0) :=
  fun x0 (h : (inRange 128 x0) = true) => each_of_all [(128, x0)] (by simp [inRange] at h ⊢; omega)
theorem setdasa : ∀ x0 x1, Statement (.setdasa x0 x1) :=
  fun x0 x1 (h : (inRange 128 x0 && inRange 128 x1) = true) => each_of_all [(128, x0), (128, x1)] (by simp [inRange] at h ⊢; omega)
theorem setnewda : ∀ x0, Statement (.setnewda x0) :=
  fun x0 (h : (inRange 128 x0) = true) => each_of_all [(128, x0)] (by simp [inRange] at h ⊢; omega)
theorem rstdaa : Statement (.rstdaa) := by intro _ p hp; cases hp
theorem getpid : Statement (.getpid) := by intro _ p hp; cases hp
theorem getbcr : Statement (.getbcr) := by intro _ p hp; cases hp
theorem getdcr : Statement (.getdcr) := by intro _ p hp; cases hp
theorem getstatus : Statement (.getstatus) := by intro _ p hp; cases hp
theorem enec : ∀ x0, Statement (.enec x0) := by intro x0 _ p hp; cases hp
theorem disec : ∀ x0, Statement (.disec x0) := by intro x0 _ p hp; cases hp
theorem getmwl : Statement (.getmwl) := by intro _ p hp; cases hp
theorem setmwl : ∀ x0, Statement (.setmwl x0) := by intro x0 _ p hp; cases hp
theorem getmrl : Statement (.getmrl) := by intro _ p hp; cases hp
theorem setmrl : ∀ x0, Statement (.setmrl x0) := by intro x0 _ p hp; cases hp
theorem mctpControl : ∀ x0, Statement (.mctpControl x0) := by intro x0 _ p hp; cases hp
theorem mctpOtherMessage : ∀ x0 x1, Statement (.mctpOtherMessage x0 x1) :=
  fun x0 x1 (h : (inRange 128 x0) = true) => each_of_all [(128, x0)] (by simp [inRange] at h ⊢; omega)
theorem getTid : Statement (.getTid) := by intro _ p hp; cases hp
theorem getPldmVersion : ∀ x0, Statement (.getPldmVersion x0) := by intro x0 _ p hp; cases hp
theorem getPldmTypes : Statement (.getPldmTypes) := by intro _ p hp; cases hp
theorem getPldmCommands : ∀ x0, Statement (.getPldmCommands x0) := by intro x0 _ p hp; cases hp
theorem getSensorReading : ∀ x0, Statement (.getSensorReading x0) := by intro x0 _ p hp; cases hp
theorem getStateSensorReadings : ∀ x0, Statement (.getStateSensorReadings x0) := by intro x0 _ p hp; cases hp
theorem getPdrRepositoryInfo : Statement (.getPdrRepositoryInfo) := by intro _ p hp; cases hp
theorem getPdr : ∀ x0, Statement (.getPdr x0) := by intro x0 _ p hp; cases hp
theorem getIdent : Statement (.getIdent) := by intro _ p hp; cases hp
theorem getHealth : Statement (.getHealth) := by intro _ p hp; cases hp
theorem getBound : Statement (.getBound) := by intro _ p hp; cases hp
theorem readTally : ∀ x0 x1, Statement (.readTally x0 x1) := by intro x0 x1 _ p hp; cases hp
theorem getPins : Statement (.getPins) := by intro _ p hp; cases hp
theorem telemetryRound : ∀ x0 x1 x2, Statement (.telemetryRound x0 x1 x2) :=
  fun x0 x1 x2 (h : (inRange Config.rows x0) = true) => each_of_all [(Config.rows, x0)] (by simp [inRange] at h ⊢; omega)
theorem busHeld : ∀ x0 x1, Statement (.busHeld x0 x1) :=
  fun x0 x1 (h : (inRange Config.rows x0) = true) => each_of_all [(Config.rows, x0)] (by simp [inRange] at h ⊢; omega)
theorem calibration : Statement (.calibration) := by intro _ p hp; cases hp
theorem meshMessage : ∀ x0, Statement (.meshMessage x0) := by intro x0 _ p hp; cases hp
theorem meshLinkDown : ∀ x0 x1 x2, Statement (.meshLinkDown x0 x1 x2) :=
  fun x0 x1 x2 (h : (inRange 2 x0 && inField x1 && inRange 4 x2) = true) => each_of_all [(2, x0), (Config.fields, x1), (4, x2)] (by simp [inField, inRange] at h ⊢; omega)
theorem detourTables : Statement (.detourTables) := by intro _ p hp; cases hp
theorem tbaseSync : ∀ x0, Statement (.tbaseSync x0) := by intro x0 _ p hp; cases hp
theorem wardenEpoch : ∀ x0 x1 x2, Statement (.wardenEpoch x0 x1 x2) := by intro x0 x1 x2 _ p hp; cases hp
theorem digestLate : Statement (.digestLate) := by intro _ p hp; cases hp
theorem shepherdHeartbeat : ∀ x0, Statement (.shepherdHeartbeat x0) := by intro x0 _ p hp; cases hp
theorem shepherdLost : ∀ x0 x1 x2, Statement (.shepherdLost x0 x1 x2) :=
  fun x0 x1 x2 (h : (inRange 3 x0) = true) => each_of_all [(3, x0)] (by simp [inRange] at h ⊢; omega)
theorem vote : ∀ x0 x1 x2, Statement (.vote x0 x1 x2) :=
  fun x0 x1 x2 (h : (inRange 3 x0) = true) => each_of_all [(3, x0)] (by simp [inRange] at h ⊢; omega)
theorem challengeResponse : ∀ x0 x1, Statement (.challengeResponse x0 x1) := by intro x0 x1 _ p hp; cases hp
theorem challengeTimeout : Statement (.challengeTimeout) := by intro _ p hp; cases hp
theorem takeover : ∀ x0, Statement (.takeover x0) :=
  fun x0 (h : (inField x0) = true) => each_of_all [(Config.fields, x0)] (by simp [inField, inRange] at h ⊢; omega)
theorem orderEntry : ∀ x0, Statement (.orderEntry x0) := by intro x0 _ p hp; cases hp
theorem outputRelease : Statement (.outputRelease) := by intro _ p hp; cases hp
theorem shepherdRejoin : ∀ x0 x1, Statement (.shepherdRejoin x0 x1) := by intro x0 x1 _ p hp; cases hp
theorem rejoinTimeout : ∀ x0, Statement (.rejoinTimeout x0) := by intro x0 _ p hp; cases hp
theorem shepherdResetOrder : Statement (.shepherdResetOrder) := by intro _ p hp; cases hp
theorem fwWatchdog : ∀ x0 x1, Statement (.fwWatchdog x0 x1) :=
  fun x0 x1 (h : (inRange 4 x1) = true) => each_of_all [(4, x1)] (by simp [inRange] at h ⊢; omega)
theorem deferredActivationStart : Statement (.deferredActivationStart) := by intro _ p hp; cases hp
theorem updateImageReceived : ∀ x0 x1, Statement (.updateImageReceived x0 x1) := by intro x0 x1 _ p hp; cases hp
theorem updateSwap : Statement (.updateSwap) := by intro _ p hp; cases hp
theorem updateJoinTimeout : Statement (.updateJoinTimeout) := by intro _ p hp; cases hp
theorem trackerCheck : ∀ x0, Statement (.trackerCheck x0) :=
  fun x0 (h : (inField x0) = true) => each_of_all [(Config.fields, x0)] (by simp [inField, inRange] at h ⊢; omega)
theorem waitGraphAssembled : ∀ x0 x1 x2 x3, Statement (.waitGraphAssembled x0 x1 x2 x3) := by intro x0 x1 x2 x3 _ p hp; cases hp
theorem captureDone : ∀ x0, Statement (.captureDone x0) := by intro x0 _ p hp; cases hp
theorem captureBudget : ∀ x0, Statement (.captureBudget x0) := by intro x0 _ p hp; cases hp
theorem resetStatus : ∀ x0 x1 x2, Statement (.resetStatus x0 x1 x2) :=
  fun x0 x1 x2 (h : (inField x0 && inFlock x1) = true) => each_of_all [(Config.fields, x0), (Config.flocks, x1)] (by simp [inField, inFlock, inRange] at h ⊢; omega)
theorem resetLimit : ∀ x0, Statement (.resetLimit x0) := by intro x0 _ p hp; cases hp
theorem railCycleHold : Statement (.railCycleHold) := by intro _ p hp; cases hp
theorem level1Limit : Statement (.level1Limit) := by intro _ p hp; cases hp
theorem epochEnd : Statement (.epochEnd) := by intro _ p hp; cases hp
theorem hourBin : Statement (.hourBin) := by intro _ p hp; cases hp
theorem sweepReport : ∀ x0 x1, Statement (.sweepReport x0 x1) :=
  fun x0 x1 (h : (inField x0 && inRange 64 x1) = true) => each_of_all [(Config.fields, x0), (64, x1)] (by simp [inField, inRange] at h ⊢; omega)
theorem sweepWait : ∀ x0, Statement (.sweepWait x0) :=
  fun x0 (h : (inRange 64 x0) = true) => each_of_all [(64, x0)] (by simp [inRange] at h ⊢; omega)
theorem exchangeWait : ∀ x0, Statement (.exchangeWait x0) :=
  fun x0 (h : (inRange 64 x0) = true) => each_of_all [(64, x0)] (by simp [inRange] at h ⊢; omega)
theorem fleeceSend : Statement (.fleeceSend) := by intro _ p hp; cases hp
theorem leeRun : Statement (.leeRun) := by intro _ p hp; cases hp
theorem frequencySlewStep : ∀ x0, Statement (.frequencySlewStep x0) :=
  fun x0 (h : (inField x0) = true) => each_of_all [(Config.fields, x0)] (by simp [inField, inRange] at h ⊢; omega)
theorem voltageLower : ∀ x0, Statement (.voltageLower x0) :=
  fun x0 (h : (inField x0) = true) => each_of_all [(Config.fields, x0)] (by simp [inField, inRange] at h ⊢; omega)
theorem gustRise : ∀ x0 x1, Statement (.gustRise x0 x1) :=
  fun x0 x1 (h : (inField x0 && inRange Config.gusts x1) = true) => each_of_all [(Config.fields, x0), (Config.gusts, x1)] (by simp [inField, inRange] at h ⊢; omega)
theorem stretchEnd : ∀ x0, Statement (.stretchEnd x0) :=
  fun x0 (h : (inField x0) = true) => each_of_all [(Config.fields, x0)] (by simp [inField, inRange] at h ⊢; omega)
theorem stormHoldEnd : ∀ x0, Statement (.stormHoldEnd x0) :=
  fun x0 (h : (inField x0) = true) => each_of_all [(Config.fields, x0)] (by simp [inField, inRange] at h ⊢; omega)
theorem gustDetectorStuck : ∀ x0 x1, Statement (.gustDetectorStuck x0 x1) :=
  fun x0 x1 (h : (inField x0 && inRange Config.gusts x1) = true) => each_of_all [(Config.fields, x0), (Config.gusts, x1)] (by simp [inField, inRange] at h ⊢; omega)
theorem thermalSensorUpdate : ∀ x0 x1 x2, Statement (.thermalSensorUpdate x0 x1 x2) :=
  fun x0 x1 x2 (h : (inField x0 && inRange Config.sensors x1) = true) => each_of_all [(Config.fields, x0), (Config.sensors, x1)] (by simp [inField, inRange] at h ⊢; omega)
theorem breezeRun : ∀ x0, Statement (.breezeRun x0) := by intro x0 _ p hp; cases hp
theorem tallyCommit : ∀ x0, Statement (.tallyCommit x0) := by intro x0 _ p hp; cases hp
theorem tallyReclaimDone : Statement (.tallyReclaimDone) := by intro _ p hp; cases hp
theorem tokenRefill : Statement (.tokenRefill) := by intro _ p hp; cases hp
theorem operatingSeconds : Statement (.operatingSeconds) := by intro _ p hp; cases hp
theorem selftestSliceBoundary : Statement (.selftestSliceBoundary) := by intro _ p hp; cases hp
theorem pacerWindow : ∀ x0 x1 x2, Statement (.pacerWindow x0 x1 x2) := by intro x0 x1 x2 _ p hp; cases hp
theorem snapshot : Statement (.snapshot) := by intro _ p hp; cases hp
theorem pinLowTimeEnd : ∀ x0, Statement (.pinLowTimeEnd x0) := by intro x0 _ p hp; cases hp
theorem pinHighTimeEnd : ∀ x0, Statement (.pinHighTimeEnd x0) := by intro x0 _ p hp; cases hp
theorem thermalReturnDeadline : ∀ x0, Statement (.thermalReturnDeadline x0) :=
  fun x0 (h : (inField x0) = true) => each_of_all [(Config.fields, x0)] (by simp [inField, inRange] at h ⊢; omega)
theorem linkRetrainFailed : ∀ x0 x1, Statement (.linkRetrainFailed x0 x1) :=
  fun x0 x1 (h : (inRange 32 x0) = true) => each_of_all [(32, x0)] (by simp [inRange] at h ⊢; omega)
theorem voutReadBack : ∀ x0 x1, Statement (.voutReadBack x0 x1) :=
  fun x0 x1 (h : (inField x0) = true) => each_of_all [(Config.fields, x0)] (by simp [inField, inRange] at h ⊢; omega)
theorem writeResponse : ∀ x0, Statement (.writeResponse x0) :=
  fun x0 (h : (inRange 128 x0) = true) => each_of_all [(128, x0)] (by simp [inRange] at h ⊢; omega)
theorem flashSlotWritten : ∀ x0 x1 x2, Statement (.flashSlotWritten x0 x1 x2) := by intro x0 x1 x2 _ p hp; cases hp
theorem instrumentAccess : ∀ x0 x1 x2 x3, Statement (.instrumentAccess x0 x1 x2 x3) := by intro x0 x1 x2 x3 _ p hp; cases hp

end Sys2Proof.Laws.Operands
end

