-- ==== Sys2Proof/Machine/Parity.lean ====
section
/-! DEFINITION. The parity bits of the Flock Service Ports (R47): fsp_<group>_po over the Out signals of each group. -/

namespace Sys2Proof.Machine

/-- The groups of the FSP that carry parity bits (R47, Table 2.2). -/
inductive FspGroup where
  | op | trk | hdl | map | pwr | ts | err
  deriving DecidableEq, Repr

/-- A value has an odd number of ones among its lowest 512 bits. -/
def oddOnes (n : Nat) : Bool := (List.range 512).foldl (fun a i => a != n.testBit i) false

/-- The group of an Out signal of the FSP (Table 2.2). -/
def Sig.fspGroup : Sig → Option FspGroup
  | .fspOpSel | .fspTwinSel => some .op
  | .fspTrkId | .fspKill => some .trk
  | .fspHdlClose | .fspHdlFlush => some .hdl
  | .fspMapWr | .fspMapSlot | .fspMapCore | .fspMapDis | .fspLaneCore | .fspLaneSkip | .fspCopyReq | .fspCopySrc | .fspCopyDst | .fspCopyFlock => some .map
  | .fspLdoTrim | .fspClkStep => some .pwr
  | .fspTsEnter | .fspTsGo | .fspTsExit => some .ts
  | .fspErrAck => some .err
  | _ => none

/-- What the held Out signals of a group show at a flock (R48): tracker, kill, hurdle, copy, trim, and the core under test. -/
def State.heldOut (s : State) (f k : Nat) : FspGroup → List Nat
  | .op | .err => []
  | .trk => [b2n (s.trkAvail f k), (s.flock f k).freeTracker.getD 0, b2n (s.flock f k).kill]
  | .hdl => [b2n (s.hurdled f k), b2n (s.flock f k).flush]
  | .map => match (s.flock f k).copy with
    | some c => if c.flockCopy then [1, 1] else [1, c.src, c.dst]
    | none => []
  | .pwr => [toTwos 5 (s.flock f k).trim]
  | .ts => (List.range Config.cores).flatMap (fun c => match (s.core f k c).slice with
    | some sl => if sl.phase = .writing then [] else [c, 1, b2n (sl.phase == .exiting)]
    | none => [])
/-- What a strobe shows on a group in its cycle: a scratch line, a step with its write strobe, or a value of one signal (R48). -/
def Output.strobe (g : FspGroup) : Output → List Nat
  | .scratch core line bytes => if g = .ts then [1, uidCore (BitVec.ofNat 32 core), line, fromLe bytes] else []
  | .sig n u v =>
    if n.fspGroup != some g then []
    else if n = .fspClkStep then [1, uidCore (BitVec.ofNat 32 u), v]
    else if n = .fspLaneSkip then [1, v] else [v]
  | _ => []
/-- fsp_<group>_po of a flock in a cycle with these strobes: even parity over all the group's Out signals (R47). -/
def State.portParity (s : State) (g : FspGroup) (f k : Nat) (cycle : List Output) : Bool :=
  (s.heldOut f k g ++ cycle.flatMap (Output.strobe g)).foldl (fun a v => a != oddOnes v) false

end Sys2Proof.Machine
end

