-- ==== Sys2Proof/Tests/Slice0.lean ====
section
/-! SUPPORT. The model's own tests: an ill-formed command for each check of WellFormed, the spec's worked examples, single
commands on small states, and for the statements a state and operands that meet their hypotheses. -/

namespace Sys2Proof.Tests

open Sys2Proof Sys2Proof.Machine

set_option maxRecDepth 20000
set_option exponentiation.threshold 400

/-! Small states and operands. -/

/-- A machine after its start: SHC-A is active, firmware runs, and the interface runs with its ring-0 pair. -/
def up : State :=
  { pwrGood := true, tbase := 1000000, start := { phase := .ready, ready := true, fwRun := true }
    pair := { a := { status := .active, gate := true }, active := some .a }
    hif := { st := .running, neg := some [1, 1, 1, 1, 1], hbOn := true, dbCur := 0x30000, stCur := 0x31000
             cmds := [{ num := 0, base := 0x10000, tail := 1 }], evs := [{ num := 0, base := 0x20000, mask := 0xFFFF, moderation := 20 }] }
    recovery := { hurdles := [] } }
/-- The same machine with a job active. -/
def upJob : State := { up with job := { active := true, begun := true, epoch := 5, id := 9, flags := 3 } }
/-- The same machine with some fields whose compute is released. -/
def fieldOn : Field :=
  { compEn := true, infraEn := true, compPg := true, infraPg := true, released := true, drover := true, tbaseSet := true }
def upField (s : State) (f : Nat) : State := s.setField f fieldOn
/-- A command of the life-cycle states before the start. -/
def off : State := {}
/-- A descriptor on ring 0 with inline parameters from byte 8 on and an input buffer. -/
def desc (op : Nat) (inl : List Byte) (len : Nat := 0) (buf : List Byte := []) : Desc :=
  { ring := 0, bytes := le 1 op ++ zeros 7 ++ fit 24 inl ++ le 8 (if len = 0 then 0 else 0x40000) ++ le 4 len ++ zeros 20, buf := buf }

/-- What a command answers, when that is a next state. -/
def after (c : Instr) (s : State) : Option State := match exec c s with | .next t => some t | _ => none

/-! Witnesses: a state and operands that meet the hypotheses of each statement, clause by clause. -/

theorem wit_StepIdlesOnEmptyQueue : up.pending = [] ∧ up.pwrGood = true ∧ off.pwrGood = false := by decide
theorem wit_CalmState : up.calm = true ∧ off.calm = true := by decide

/-- The window: the hardware registers answer; the latch handles something; a pin is held; the lock is set; both Shepherds are lost. -/
def handling : State := { up with ferr := { valid := true, fence := true } }
def locked : State := { up with hif := { up.hif with lock := true } }
def lost : State := { up with pair := { up.pair with bothLost := true, active := none } }
/-- A switch-over gap: firmware runs and no Shepherd is active. -/
def gap : State := { up with pair := { up.pair with active := none } }
theorem wit_WindowRegisterWrites : up.windowUp = true ∧ up.ferr.handling = false ∧ up.hif.lock = false ∧ up.pins.err.held = false
    ∧ up.pins.fatal.held = false ∧ handling.windowUp = true ∧ handling.ferr.handling = true ∧ locked.windowUp = true ∧ locked.hif.lock = true := by decide
theorem wit_WindowAnswersError : lost.pair.bothLost = true ∧ windowOk 0x180 8 = true ∧ windowOk 0xFFC 4 = true := by decide
/-- A held pin in its low time, and one whose low time has ended. -/
def lowPin : Pin := { modeReg := true, mode := true, low := true, held := true, lowEnd := some 1001000 }
def pinned (p : Pin) : State := { up with pins := { err := p, fatal := p } }
theorem wit_HeldPinClears : (pinned lowPin).windowUp = true ∧ (pinned lowPin).pins.wardenFatal = false
    ∧ (pinned { lowPin with lowEnd := none }).windowUp = true := by decide
theorem wit_PinTimesEnd : ((pinned lowPin).pin true).lowEnd = some 1001000 ∧ ((pinned lowPin).pin true).low = true
    ∧ ((pinned { highEnd := some 5 }).pin false).highEnd = some 5 ∧ ((pinned { highEnd := some 5 }).pin false).waiting = false
    ∧ ((pinned { highEnd := some 5, waiting := true }).pin false).waiting = true
    ∧ ((pinned { highEnd := some 5, waiting := true }).pin false).low = false ∧ (pinned { highEnd := some 5 }).pair.bothLost = false := by decide
theorem wit_EmulatedWrites : windowOk 0x180 8 = true ∧ up.emulated = true ∧ 0x100 ≤ 0x180 ∧ lost.emulated = false ∧ off.emulated = false
    ∧ windowOk 0xFC 4 = true ∧ 0xFC < 0x100 ∧ up.windowUp = true ∧ windowOk 0x100 8 = true ∧ up.activeShc.isSome = true
    ∧ gap.emulated = true ∧ gap.activeShc = none := by decide
theorem wit_MalformedWindowAccess : windowOk 0x182 4 = false ∧ windowOk 0x180 2 = false ∧ windowOk 0x184 8 = false ∧ up.pwrGood = true := by decide

/-- Bootstrap registers that pass their checks, ones that fail the first and the last of them, and a lost host. -/
def booted (h : Hif) : State := { up with hif := h }
def soundBoot : Hif := { cr0Base := 0x10000, cr0Size := 4, er0Base := 0x20000, er0Size := 12, dbAddr := 0x30000, stAddr := 0x31000 }
def gone : State := { up with hif := { up.hif with st := .hostLost, hbOn := false, cmds := [], evs := [] } }
theorem wit_InterfaceComesUp : (booted soundBoot).emulated = true ∧ (booted soundBoot).start.ready = true ∧ (booted soundBoot).hif.st ≠ .hostLost
    ∧ (booted soundBoot).hif.bootReason = 0 ∧ (booted soundBoot).activeShc.isSome = true ∧ gap.emulated = true ∧ gap.activeShc = none
    ∧ ({ up with start := { up.start with ready := false } } : State).emulated = true := by decide
theorem wit_FailedBootstrap : (booted { soundBoot with cr0Base := 0x10001 }).hif.bootReason ≠ 0 ∧ (booted { soundBoot with er0Size := 13 }).hif.bootReason ≠ 0
    ∧ (booted { soundBoot with aptLimit := 0x2FFFF }).hif.bootReason = 7 ∧ (booted { soundBoot with cr0Size := 3 }).emulated = true
    ∧ (booted { soundBoot with cr0Size := 3 }).activeShc.isSome = true ∧ (booted { soundBoot with cr0Size := 3 }).start.ready = true := by decide
theorem wit_ResumeEndsHostLoss : gone.emulated = true ∧ gone.hif.st = .hostLost ∧ up.emulated = true ∧ up.hif.st ≠ .hostLost
    ∧ gone.activeShc.isSome = true ∧ up.activeShc.isSome = true ∧ gap.emulated = true ∧ gap.activeShc = none := by decide
theorem wit_HeartbeatTimer : up.firmware = true ∧ up.hif.hbOn = true ∧ up.hif.st = .running ∧ up.hif.hbLate = false
    ∧ ({ up with hif := { up.hif with hbLate := true } } : State).firmware = true ∧ gone.hif.cmds = [] ∧ gone.hif.evs = []
    ∧ up.accepts (desc 0x04 []) 0x04 [] 0 = true := by decide
def ringing (q : List Nat) : State := { up with hif := { up.hif with impVld := some 0, impQueue := q } }
def interval (sig : Bool) : State := { up with hif := { up.hif with evs := [{ num := 0, intervalEnd := some 1020000, signal := sig }] } }
theorem wit_InterruptPort : (ringing []).hif.impVld = some 0 ∧ (ringing []).hif.impQueue = [] ∧ (ringing [8, 1]).hif.impQueue = 8 :: [1]
    ∧ (interval true).firmware = true ∧ (interval true).hif.ev 0 = some { num := 0, intervalEnd := some 1020000, signal := true }
    ∧ (interval false).hif.ev 0 = some { num := 0, intervalEnd := some 1020000 } := by decide
/-- Event ring 0 with two unread entries. -/
def unread : State := { up with hif := { up.hif with evs := [{ num := 0, base := 0x20000, tail := 2 }] } }
theorem wit_Doorbells : unread.firmware = true ∧ unread.hif.st = .running ∧ unread.hif.inside unread.hif.dbCur 1024 = true
    ∧ unread.hif.cmds = [{ num := 0, base := 0x10000, tail := 1 }] ∧ unread.hif.evs = [{ num := 0, base := 0x20000, tail := 2 }]
    ∧ (16 + 2 ^ 32 - 0) % 2 ^ 32 ≤ 2 ^ 4 ∧ 2 ^ 4 < (17 + 2 ^ 32 - 0) % 2 ^ 32
    ∧ (2 + 2 ^ 32 - 0) % 2 ^ 32 ≤ ({ num := 0, base := 0x20000, tail := 2 } : EvRing).used
    ∧ ({ num := 0, base := 0x20000, tail := 2 } : EvRing).used < (3 + 2 ^ 32 - 0) % 2 ^ 32 := by decide
theorem wit_FailedAccess : up.firmware = true ∧ up.hif.st = .running ∧ (up.hif.cmd 0).isSome = true ∧ (up.hif.ev 0).isSome = true := by decide

/-! Rings, completions and the checks common to the commands of a ring. -/

theorem wit_Negotiation : up.accepts (desc 0x01 [1, 2, 1, 2, 1, 2, 1, 2, 1, 2]) 0x01 [(8, 10)] 64 = true := by decide
def evDesc : Desc := desc 0x02 ([1, 4, 0, 0, 0xFF, 0xFF, 0, 0] ++ le 8 0x50000)
def cmdDesc : Desc := desc 0x02 ([0, 12, 0, 0, 0, 0, 0, 0] ++ le 8 0x60000)
def twoRings : State :=
  { up with hif := { up.hif with cmds := up.hif.cmds ++ [{ num := 1, base := 0x70000 }], evs := up.hif.evs ++ [{ num := 1, base := 0x80000 }] } }
theorem wit_RingsAreCreated : up.accepts evDesc 0x02 [(8, 1), (9, 1), (10, 1), (12, 2), (14, 2), (16, 8)] 0 = true ∧ up.badCreate evDesc = false
    ∧ evDesc.arg 8 1 = 1 ∧ up.accepts cmdDesc 0x02 [(8, 1), (9, 1), (10, 1), (12, 2), (14, 2), (16, 8)] 0 = true ∧ up.badCreate cmdDesc = false
    ∧ cmdDesc.arg 8 1 = 0 := by decide
theorem wit_RingsAreDestroyed : twoRings.accepts (desc 0x03 [1, 1]) 0x03 [(8, 1), (9, 1)] 0 = true ∧ twoRings.badDestroy (desc 0x03 [1, 1]) = false
    ∧ twoRings.badDestroy (desc 0x03 [0, 1]) = false ∧ (desc 0x03 [0, 1]).arg 8 1 = 0
    ∧ twoRings.hif.cmd ((desc 0x03 [0, 1]).arg 9 1) = some { num := 1, base := 0x70000 } := by decide
/-- Command ring 0 with a command in progress, and one whose completion waits for a write response. -/
def busyRing : CmdRing := { num := 0, base := 0x10000, tail := 1, busy := some 4, bufAddr := 0x40000 }
def carrying (r : CmdRing) : State := { up with hif := { up.hif with cmds := [r] } }
theorem wit_CompletionWrites : (carrying busyRing).hif.cmd 0 = some busyRing ∧ busyRing.busy.isSome = true ∧ busyRing.stage = none ∧ busyRing.held = none
    ∧ busyRing.stopped = false ∧ (carrying busyRing).hif.st = .running ∧ (carrying busyRing).follower = none
    ∧ (carrying busyRing).hif.inside busyRing.base (64 * 2 ^ busyRing.log2) = true ∧ (carrying busyRing).hif.inside busyRing.bufAddr [(1 : Byte)].length = true := by decide
theorem wit_WriteResponses : (carrying { busyRing with stage := some (0, {}) }).firmware = true
    ∧ (carrying { busyRing with stage := some (0, {}) }).hif.cmd 0 = some { busyRing with stage := some (0, {}) }
    ∧ (carrying { busyRing with stage := some (1, {}) }).hif.cmd 0 = some { busyRing with stage := some (1, {}) } ∧ busyRing.dying = none ∧ up.firmware = true
    ∧ 0 < 64 ∧ 64 ≤ 64 := by decide
/-- The write of an output buffer that fails. -/
theorem wit_FailedBufferWrite : (carrying { busyRing with stage := some (0, {}) }).hif.cmd 0 = some { busyRing with stage := some (0, {}) }
    ∧ (carrying { busyRing with stage := some (0, {}) }).firmware = true ∧ (carrying { busyRing with stage := some (0, {}) }).hif.st = .running := by decide
def unNegotiated : State := { up with hif := { up.hif with neg := none } }
theorem wit_CommonChecks : hostCommand (.jobEnd (desc 0x11 [7])) = some (desc 0x11 [7], 0x11, [], 0) ∧ up.takes (desc 0x11 [7]) 0x11 = true
    ∧ up.badDesc (desc 0x11 [7]) [] 0 = true ∧ unNegotiated.takes (desc 0x11 []) 0x11 = true ∧ unNegotiated.hif.neg = none
    ∧ gone.hif.cmd 0 = none ∧ off.firmware = false
    ∧ up.takes { desc 0x11 [] with bufLost := true } 0x11 = true ∧ up.badDesc { desc 0x11 [] with bufLost := true } [] 0 = false
    ∧ up.hif.nextRing = some 0 ∧ up.hif.cmd 0 = some { num := 0, base := 0x10000, tail := 1 } ∧ up.hif.inside 0x10000 (64 * 2 ^ 4) = true
    ∧ (desc 0x55 []).bytes.length = 64 ∧ opcodes.contains ((desc 0x55 []).bytes.getD 0 0).toNat = false := ⟨rfl, by decide⟩

/-! Jobs, Muster points and idle-slot tables. -/

/-- A job descriptor of job 9, epoch 6, one rank. -/
def jobBuf : List Byte := fit 576 (le 4 9 ++ le 2 6 ++ [4, 1, 0, 1, 0, 0] ++ le 4 0 ++ le 4 1)
def jobDesc : Desc := desc 0x10 [1] 576 jobBuf
def fencing : State := { up with recovery := { up.recovery with hurdles := [{ dom := flockUid 3 2 }] } }
theorem wit_JobBegin : up.accepts jobDesc 0x10 [(8, 1)] 576 = true ∧ jobDesc.arg 8 1 ≤ 1 ∧ jobDesc.len = 576 ∧ up.badJob jobDesc.buf = false
    ∧ up.job.active = false ∧ up.shutting = false ∧ up.job.starting = none ∧ up.anyFence = false
    ∧ upJob.accepts jobDesc 0x10 [(8, 1)] 576 = true ∧ upJob.badJob jobDesc.buf = false ∧ upJob.job.active = true
    ∧ ({ up with life := { shut := some { ring := 1 } } } : State).shutting = true
    ∧ fencing.accepts jobDesc 0x10 [(8, 1)] 576 = true ∧ fencing.anyFence = true ∧ fencing.badJob jobDesc.buf = false := by decide
/-- A job whose beginning waits for the drain of the stacks, on a die without a powered stack and with one. -/
def starting : State := { up with job := { epoch := 6, starting := some (0, jobBuf, false), startPhase := 2, startAt := 900000 } }
def draining : State := (upField starting 0).modMem 0 (fun m => { m with drainReq := true, drainDone := true })
theorem wit_JobStarts : draining.job.startPhase = 2 ∧ draining.job.starting = some (0, jobBuf, false)
    ∧ draining.upMems.all (fun t => (draining.mem t).drainDone) = true ∧ draining.upMems = [0] := by decide
theorem wit_JobDrain : 0 < Config.memTaps ∧ (draining.mem 0).drainReq = true ∧ draining.firmware = true := by decide
theorem wit_JobEnd : upJob.accepts (desc 0x11 []) 0x11 [] 0 = true ∧ upJob.job.active = true ∧ up.accepts (desc 0x11 []) 0x11 [] 0 = true
    ∧ up.job.active = false := by decide
def musterDesc (u : Uid) : Desc := desc 0x12 ([0, 0, 0, 0] ++ le 4 u.toNat)
def mustering : State := { upField up 3 with musters := [{ ring := 0, dom := fieldUid 3, began := 900000 }] }
def fenced3 : State := upField { up with recovery := { up.recovery with hurdles := [{ dom := flockUid 3 2 }] } } 3
theorem wit_MusterPoint : (upField up 3).accepts (musterDesc (flockUid 3 2)) 0x12 [(12, 4)] 0 = true ∧ isDomain ((musterDesc (flockUid 3 2)).uid 12) = true
    ∧ (upField up 3).musters = [] ∧ mustering.accepts (musterDesc (flockUid 3 2)) 0x12 [(12, 4)] 0 = true
    ∧ mustering.musters.any (fun m => domOverlap m.dom ((musterDesc (flockUid 3 2)).uid 12)) = true
    ∧ fenced3.accepts (musterDesc (flockUid 3 2)) 0x12 [(12, 4)] 0 = true
    ∧ (domFlocks ((musterDesc (flockUid 3 2)).uid 12)).any (fun p =>
        fenced3.fieldUp p.1 && (fenced3.flock p.1 p.2).logical.isSome && !(fenced3.flock p.1 p.2).st.gone && fenced3.fenced p.1 p.2) = true
    ∧ (domFlocks ((musterDesc (flockUid 3 2)).uid 12)).any (fun p =>
        (upField up 3).fieldUp p.1 && ((upField up 3).flock p.1 p.2).logical.isSome && !((upField up 3).flock p.1 p.2).st.gone && (upField up 3).fenced p.1 p.2) = false
    ∧ mustering.musters.find? (fun m => m.dom == fieldUid 3 && !m.folding) = some { ring := 0, dom := fieldUid 3, began := 900000 } := by decide
/-- An idle-slot table of one entry for flock 2 of field 3, onto a field that has a table of the identifier and onto one that has none. -/
def idleBuf : List Byte := le 4 1 ++ zeros 12 ++ [3, 2, 5, 0] ++ le 6 1000 ++ le 4 80000 ++ [0, 0]
def idleDesc : Desc := desc 0x13 (le 2 7 ++ [0, 0] ++ le 4 (fieldUid 3).toNat) 32 idleBuf
def tabled : State := up.setField 3 { fieldOn with tables := [{ runId := 7 }] }
theorem wit_IdleTable : up.accepts idleDesc 0x13 [(8, 2), (12, 4)] 2097168 = true ∧ up.badIdle idleDesc.buf (idleDesc.uid 12) = false
    ∧ tabled.badIdle idleDesc.buf (idleDesc.uid 12) = false ∧ domFields (idleDesc.uid 12) = [3]
    ∧ (tabled.field 3).tables.any (fun t => t.runId == idleDesc.arg 8 2) = true ∧ (up.field 3).tables.any (fun t => t.runId == idleDesc.arg 8 2) = false
    ∧ up.idleAfter 3 (idleDesc.arg 8 2) (idleDesc.uid 12)
        ((((List.range (rd idleDesc.buf 0 4)).map (idleEntry idleDesc.buf)).filter (fun p => p.1 == 3)).map (·.2)) ≠ []
    ∧ tabled.accepts idleDesc 0x13 [(8, 2), (12, 4)] 2097168 = true
    ∧ ((domFields (idleDesc.uid 12)).any (fun f =>
      let new := (((List.range (rd idleDesc.buf 0 4)).map (idleEntry idleDesc.buf)).filter (fun p => p.1 == f)).map (·.2)
      !(tabled.idleAfter f (idleDesc.arg 8 2) (idleDesc.uid 12) new).isEmpty
        && decide (64 < (insertNew (tabled.field f).identifiers (idleDesc.arg 8 2)).length)) = false)
    ∧ ((domFields (idleDesc.uid 12)).any (fun f =>
      let new := (((List.range (rd idleDesc.buf 0 4)).map (idleEntry idleDesc.buf)).filter (fun p => p.1 == f)).map (·.2)
      !(up.idleAfter f (idleDesc.arg 8 2) (idleDesc.uid 12) new).isEmpty
        && decide (64 < (insertNew (up.field f).identifiers (idleDesc.arg 8 2)).length)) = false) := by decide

/-! Policies. -/

/-- A POLICY_SET of an item with a value. -/
def setDesc (item v : Nat) : Desc := desc 0x14 (le 2 item ++ zeros 6 ++ le 8 v)
theorem wit_PlainPolicyItems : up.accepts (setDesc 0x0500 3600) 0x14 [(8, 2), (16, 8)] 304 = true ∧ policyRow ((setDesc 0x0500 3600).arg 8 2) = some .screen
    ∧ badScreen ((setDesc 0x0500 604800).arg 8 2) ((setDesc 0x0500 604800).arg 16 8) = false
    ∧ policyRow ((setDesc 0x0A06 15).arg 8 2) = some .sparing ∧ badSparing ((setDesc 0x0A06 15).arg 8 2) ((setDesc 0x0A06 15).arg 16 8) = false
    ∧ policyRow ((setDesc 0x0C1F 1).arg 8 2) = some .recovery ∧ badRecovery ((setDesc 0x0C1F 1).arg 8 2) ((setDesc 0x0C1F 1).arg 16 8) = false
    ∧ policyRow ((setDesc 0x1102 8).arg 8 2) = some .life ∧ badLife ((setDesc 0x1102 8).arg 8 2) ((setDesc 0x1102 8).arg 16 8) = false
    ∧ up.accepts (setDesc 0x0A06 15) 0x14 [(8, 2), (16, 8)] 304 = true ∧ up.accepts (setDesc 0x0C1F 1) 0x14 [(8, 2), (16, 8)] 304 = true
    ∧ up.accepts (setDesc 0x1102 8) 0x14 [(8, 2), (16, 8)] 304 = true := by decide
def rampDesc : Desc := desc 0x15 (le 4 10 ++ le 4 0xFFFFFFFF)
theorem wit_PowerItems : up.accepts (setDesc 0x0D00 1600) 0x14 [(8, 2), (16, 8)] 304 = true ∧ policyRow ((setDesc 0x0D00 1600).arg 8 2) = some .power
    ∧ badPower ((setDesc 0x0D00 1600).arg 8 2) ((setDesc 0x0D00 1600).arg 16 8) = false ∧ up.accepts rampDesc 0x15 [(8, 4), (12, 4)] 0 = true
    ∧ badRamp (rampDesc.arg 8 4) = false ∧ badRamp (rampDesc.arg 12 4) = false := by decide
theorem wit_PowerLimits : policyRow 0x0D05 = some .power ∧ badPower 0x0D05 255 = false ∧ badPower 0x0D00 800 = false
    ∧ (800 ≤ ({ trip := 0 } : Policy).freq ∧ ({ trip := 0 } : Policy).freq ≤ Config.fusedMax ∧ ({ trip := 0 } : Policy).freq % 25 = 0
      ∧ 60 ≤ ({ trip := 0 } : Policy).thermal ∧ ({ trip := 0 } : Policy).thermal ≤ 100 ∧ ({ trip := 0 } : Policy).trip ≤ Config.tripCeiling) :=
  ⟨by decide, by decide, by decide, by decide, by decide, by decide, by decide, by decide, Nat.zero_le _⟩
theorem wit_GovernorItems : up.accepts (setDesc 0x0903 0) 0x14 [(8, 2), (16, 8)] 304 = true ∧ policyRow ((setDesc 0x0903 0).arg 8 2) = some .governor
    ∧ badGovernor ((setDesc 0x0903 0).arg 8 2) ((setDesc 0x0903 0).arg 16 8) = false ∧ up.policy.loosens ((setDesc 0x0903 0).arg 8 2) ((setDesc 0x0903 0).arg 16 8) = false
    ∧ up.accepts (setDesc 0x0903 64) 0x14 [(8, 2), (16, 8)] 304 = true ∧ badGovernor ((setDesc 0x0903 64).arg 8 2) ((setDesc 0x0903 64).arg 16 8) = false
    ∧ up.policy.loosens ((setDesc 0x0903 64).arg 8 2) ((setDesc 0x0903 64).arg 16 8) = true := by decide
/-- A mask of code 0x0304 that keeps its reactions, and the defaults over a store that holds one mask. -/
def maskDesc : Desc := setDesc 0x0B00 (0x0304 + 65536 * 0x3F)
def masked : State := { up with policy := { masks := [(maskKey 0x5003 1, 0x21)] } }
theorem wit_ReactionMasks : up.accepts maskDesc 0x14 [(8, 2), (16, 8)] 304 = true ∧ maskDesc.arg 8 2 = 0x0B00 ∧ badReaction 0x0B00 (maskDesc.arg 16 8) = false
    ∧ losesReaction (up.mask (maskDesc.arg 16 8 % 65536) (maskClass (maskDesc.arg 16 8 % 65536) (maskDesc.arg 16 8))) (maskDesc.arg 16 8 / 65536 % 256) = false
    ∧ masked.accepts (setDesc 0x0B01 1) 0x14 [(8, 2), (16, 8)] 304 = true ∧ (setDesc 0x0B01 1).arg 8 2 = 0x0B01 ∧ (setDesc 0x0B01 1).arg 16 8 = 1
    ∧ masked.policy.masks.any (fun p => isFeMask (keyCode p.1) (keyClass p.1)
        && losesReaction p.2.toNat (defaultMask (keyCode p.1) (keyClass p.1))) = false := by decide
/-- A mask that takes PIN, DIERST and RECOVER out of an FE mask, and a store in which an FE mask has more than its default. -/
def loseDesc : Desc := setDesc 0x0B00 (0x1101 + 65536 * 1 + 2 ^ 24 * 2)
def maskedFe : State := { up with policy := { masks := [(maskKey 0x1101 2, 0x39)] } }
theorem wit_ReactionMasksUnderAuthority : up.accepts loseDesc 0x14 [(8, 2), (16, 8)] 304 = true ∧ loseDesc.arg 8 2 = 0x0B00
    ∧ badReaction 0x0B00 (loseDesc.arg 16 8) = false ∧ isFeMask (loseDesc.arg 16 8 % 65536) (maskClass (loseDesc.arg 16 8 % 65536) (loseDesc.arg 16 8)) = true
    ∧ losesReaction (up.mask (loseDesc.arg 16 8 % 65536) (maskClass (loseDesc.arg 16 8 % 65536) (loseDesc.arg 16 8))) (loseDesc.arg 16 8 / 65536 % 256) = true
    ∧ maskedFe.accepts (setDesc 0x0B01 1) 0x14 [(8, 2), (16, 8)] 304 = true
    ∧ maskedFe.policy.masks.any (fun p => isFeMask (keyCode p.1) (keyClass p.1)
        && losesReaction p.2.toNat (defaultMask (keyCode p.1) (keyClass p.1))) = true := by decide
theorem wit_ReactionAuthority : ∃ u ok, (up.begun.taken loseDesc 0x14).verify [(authBlock loseDesc.buf 0 0, loseDesc.auth.headD {},
    (up.begun.taken loseDesc 0x14).ownerAllowed)] 0x14 (loseDesc.arg 8 2) = (u, ok) := ⟨_, _, rfl⟩

/-! Authorisations, and the other commands of the rings. -/

/-- An authorisation block of an authority over a challenge, an opcode and a qualifier, for this part (Table 17.6). -/
def authBytes (a : Byte) (ch op q : Nat) : List Byte :=
  [a, 0, 0, 0] ++ (le 4 Config.partNumber.toNat ++ (be 16 Config.dieId.toNat ++ (le 8 ch ++ ([BitVec.ofNat 8 op, 0] ++ (le 2 q ++ zeros 268)))))
/-- The block names this part. -/
theorem authBytes_part (a : Byte) (ch op q : Nat) : rd (authBytes a ch op q) 4 4 = Config.partNumber.toNat := by
  have := rd_le [a, 0, 0, 0] (be 16 Config.dieId.toNat ++ (le 8 ch ++ ([BitVec.ofNat 8 op, 0] ++ (le 2 q ++ zeros 268)))) 4 Config.partNumber.toNat
  have hlt := Config.partNumber.isLt
  rw [Nat.mod_eq_of_lt (by omega)] at this
  exact this
/-- The block names this die. -/
theorem authBytes_die (a : Byte) (ch op q : Nat) : fromBe (((authBytes a ch op q).drop 8).take 16) = Config.dieId.toNat := by
  have h := drop_take_append ([a, 0, 0, 0] ++ le 4 Config.partNumber.toNat) (be 16 Config.dieId.toNat)
    (le 8 ch ++ ([BitVec.ofNat 8 op, 0] ++ (le 2 q ++ zeros 268)))
  have hlt := Config.dieId.isLt
  rw [be_length, List.append_assoc] at h
  have e : ((authBytes a ch op q).drop 8).take 16 = be 16 Config.dieId.toNat := h
  rw [e, fromBe_be, Nat.mod_eq_of_lt (by omega)]
/-- An attempt with a block that fails no check verifies. -/
theorem verify_passes (s : State) (buf b : List Byte) (n : Nat) (x : AuthFact) (allowed : Nat → Bool) (op q : Nat)
    (h1 : s.lockedOut = false) (h2 : authBlock buf n 0 = some b) (h3 : s.authFails b x allowed op q = 0) :
    s.verify [(authBlock buf n 0, x, allowed)] op q = (s.newChallenge, true) := by
  simp [State.verify, h1, h2, h3]
/-- A block over the pending challenge, with content digest and signature in order, fails no check. -/
theorem authFails_none (s : State) (a : Byte) (ch op q : Nat) (x : AuthFact) (allowed : Nat → Bool) (h1 : allowed (rd (authBytes a ch op q) 0 1) = true)
    (h2 : (if rd (authBytes a ch op q) 0 1 = 0 then s.ownerSlot else some Config.makerHash) = some x.keyHash)
    (h3 : rd (authBytes a ch op q) 24 8 = s.life.challenge.toNat) (h4 : rd (authBytes a ch op q) 32 1 = op) (h5 : rd (authBytes a ch op q) 34 2 = q)
    (h6 : x.digestOk = true) (h7 : x.sigOk = true) : s.authFails (authBytes a ch op q) x allowed op q = 0 := by
  unfold State.authFails
  simp only [h1, h2, h3, h4, h5, h6, h7, authBytes_part, authBytes_die, Bool.not_true, Bool.false_eq_true, if_false, ne_eq, not_true, or_self]

/-- A machine of a life-cycle state whose owner slots are given, with challenge 77, on which a command with an authorisation waits. -/
def owned (fuses : Nat) (owners : List (BitVec 384)) : State := { up with life := { fuses := fuses, owners := owners, challenge := 77 } }
/-- A command with a covered content and an authorisation of an authority. -/
def authDesc (op : Nat) (inl pre : List Byte) (a : Byte) (q : Nat) (key : BitVec 384) : Desc :=
  { desc op inl (pre.length + 304) (pre ++ authBytes a 77 op q) with auth := [{ keyHash := key, digestOk := true, sigOk := true }] }
def govDesc : Desc := authDesc 0x14 (le 2 0x0903 ++ zeros 6 ++ le 8 64) [] 0 0x0903 5
theorem wit_GovernorLoosens : (owned 2 [5]).accepts govDesc 0x14 [(8, 2), (16, 8)] 304 = true
    ∧ badGovernor (govDesc.arg 8 2) (govDesc.arg 16 8) = false ∧ (owned 2 [5]).policy.loosens (govDesc.arg 8 2) (govDesc.arg 16 8) = true
    ∧ ∃ u, ((owned 2 [5]).begun.taken govDesc 0x14).verify [(authBlock govDesc.buf 0 0, govDesc.auth.headD {}, ((owned 2 [5]).begun.taken govDesc 0x14).ownerAllowed)]
        0x14 (govDesc.arg 8 2) = (u, true) :=
  ⟨by decide, by decide, by decide, _, verify_passes _ _ (authBytes 0 77 0x14 0x0903) _ _ _ _ _ (by decide) rfl
    (authFails_none _ _ _ _ _ _ _ (by decide) rfl (by decide) (by decide) (by decide) (by decide) (by decide))⟩
/-- A pack of one pattern under the owner's key, and the machine that holds that key. -/
def packBuf : List Byte :=
  ([0x47, 0x50, 0x4B, 0x32, 1, 1] ++ le 2 256 ++ le 4 7 ++ le 4 3 ++ le 4 2 ++ le 4 1 ++ le 4 256 ++ le 4 416 ++ zeros 8)
    ++ (le 4 Config.partNumber.toNat ++ (zeros 212 ++ (zeros 8 ++ zeros 4 ++ le 4 500 ++ le 2 65 ++ zeros 46) ++ zeros 96))
def packDesc : Desc := { desc 0x20 [1] 416 packBuf with sigKey := some 5 }
def keyed : State := { up with life := { fuses := 2, owners := [5], packKeyHash := some 5 } }
def slotted : State := { up with screen := { slot1 := some { id := 7, serial := 3, floor := 2 } } }
theorem pack_part : rd packBuf 40 4 = Config.partNumber.toNat := by
  have := rd_le ([0x47, 0x50, 0x4B, 0x32, 1, 1] ++ le 2 256 ++ le 4 7 ++ le 4 3 ++ le 4 2 ++ le 4 1 ++ le 4 256 ++ le 4 416 ++ zeros 8)
    (zeros 212 ++ (zeros 8 ++ zeros 4 ++ le 4 500 ++ le 2 65 ++ zeros 46) ++ zeros 96) 4 Config.partNumber.toNat
  have hlt := Config.partNumber.isLt
  rw [Nat.mod_eq_of_lt (by omega)] at this
  exact this
theorem wit_PacksAreStaged : keyed.accepts packDesc 0x20 [(8, 1)] 16777216 = true ∧ packDesc.arg 8 1 ≤ 1 ∧ packDesc.arg 8 1 ≠ keyed.screen.active
    ∧ ((packOf packDesc).ver != (keyed.hif.neg.getD []).getD 1 0) = false ∧ keyed.screen.floor ≤ (packOf packDesc).serial ∧ keyed.screen.staging = none := by decide
theorem wit_PacksVerify : keyed.packVerifies (packOf packDesc) = true := rfl
theorem wit_PackIsSound : badPack packDesc = false := by
  have h : rd packDesc.buf 40 4 = Config.partNumber.toNat := pack_part
  simp only [badPack, h, bne_self_eq_false, Bool.or_false]
  decide +kernel
theorem wit_PacksAreActivated : slotted.accepts (desc 0x21 [1]) 0x21 [(8, 1)] 0 = true ∧ (desc 0x21 [1]).arg 8 1 ≤ 1
    ∧ slotted.screen.slot ((desc 0x21 [1]).arg 8 1) = some { id := 7, serial := 3, floor := 2 }
    ∧ slotted.accepts (desc 0x21 [0]) 0x21 [(8, 1)] 0 = true ∧ slotted.screen.slot ((desc 0x21 [0]).arg 8 1) = none := ⟨by decide, by decide, rfl, by decide, rfl⟩
def staging (fails : Nat) : State :=
  { up with
    screen := { staging := some (0, 1, {}), failBlock := 5, blockFails := fails }
    fw := { staging := some (0, {}), failBlock := 5, blockFails := fails } }
theorem wit_FlashSlots : (staging 1).firmware = true ∧ (staging 1).pwrGood = true ∧ (staging 1).screen.staging = some (0, 1, {}) ∧ (staging 1).fw.staging = some (0, {})
    ∧ blockTries (staging 1).screen.failBlock (staging 1).screen.blockFails 5 < 2
    ∧ blockTries (staging 2).screen.failBlock (staging 2).screen.blockFails 5 = 2 ∧ blockTries (staging 2).screen.failBlock (staging 2).screen.blockFails 6 < 2
    ∧ blockTries (staging 1).fw.failBlock (staging 1).fw.blockFails 5 < 2
    ∧ 2 ≤ blockTries (staging 2).fw.failBlock (staging 2).fw.blockFails 5 :=
  ⟨by decide, by decide, rfl, rfl, by decide⟩
def watchDesc : Desc := desc 0x30 [63] 64 (fit 64 ([2, 47, 31, 15] ++ zeros 16 ++ le 4 14))
def earmarkDesc : Desc := desc 0x31 [] 48 ([1, 1] ++ le 2 1000 ++ zeros 12 ++ [31, 0, 0, 0] ++ zeros 12 ++ le 4 16384 ++ le 2 10 ++ le 2 1 ++ zeros 8)
def replicaDesc : Desc :=
  desc 0x32 [] 112 ([2, 0, 1, 0] ++ le 4 1 ++ le 2 10 ++ le 2 1 ++ zeros 20 ++ zeros 32 ++ (le 4 1 ++ [1, 0, 0, 0, 2] ++ zeros 23) ++ (le 4 9 ++ [63, 0, 0, 0] ++ le 4 1 ++ zeros 4))
def linked : State := (upField up 2).modTap 2 (fun x => { x with linkUp := true })
theorem wit_WatchAndEarmarks : up.accepts watchDesc 0x30 [(8, 1)] 64 = true ∧ badWatch watchDesc = false ∧ up.accepts earmarkDesc 0x31 [] 1040 = true
    ∧ badEarmarks earmarkDesc.buf = false ∧ (rd earmarkDesc.buf 0 1 != up.emfVersion) = false := by decide
theorem wit_Replicas : linked.accepts replicaDesc 0x32 [] 1056 = true ∧ linked.badReplica replicaDesc.buf = false
    ∧ linked.routeLost replicaDesc.buf = false := by decide
def boundDesc : Desc := desc 0x40 [] 128
def healthDesc : Desc := desc 0x41 ([0, 0, 0, 0] ++ le 4 (fieldUid 47).toNat) 64
def readDesc : Desc := desc 0x70 (le 6 3 ++ [0, 0] ++ le 4 1) 64
def scanned : State := { up with tally := { scanned := true } }
theorem wit_Queries : up.accepts boundDesc 0x40 [] 4294967295 = true ∧ 128 ≤ boundDesc.len ∧ up.accepts healthDesc 0x41 [(12, 4)] 4294967295 = true
    ∧ isDomain (healthDesc.uid 12) = true ∧ 64 ≤ healthDesc.len ∧ scanned.accepts readDesc 0x70 [(8, 6), (16, 4)] 4294967295 = true
    ∧ readDesc.arg 16 4 ≠ 0 ∧ 64 ≤ readDesc.len ∧ readDesc.len % 64 = 0 ∧ scanned.tally.scanned = true ∧ up.tally.scanned = false
    ∧ scanned.readInProgress readDesc.ring = false ∧ up.readInProgress readDesc.ring = false
    ∧ ({ up with tally := { pendingRead := [(1, 0, 1, 64, 1)] } } : State).readInProgress readDesc.ring = true
    ∧ up.accepts readDesc 0x70 [(8, 6), (16, 4)] 4294967295 = true := by decide

def foldDesc (u : Uid) (j : Byte) : Desc := desc 0x50 ([0, 0, 0, 0] ++ le 4 u.toNat ++ [j])
/-- A field whose spare flock is retired, and whose flock 2 has lost its spare core. -/
def spent : State := (up.modFlock 3 32 (fun fl => { fl with st := .retired })).modCore 3 2 16 (fun c => { c with st := .retired })
theorem wit_FoldRequests : up.accepts (foldDesc (flockUid 3 2) 15) 0x50 [(12, 4), (16, 1)] 0 = true ∧ isFlock ((foldDesc (flockUid 3 2) 15).uid 12) = true
    ∧ (foldDesc (flockUid 3 2) 15).arg 16 1 < Config.slots ∧ (foldDesc (flockUid 3 2) 0xFF).arg 16 1 = 0xFF
    ∧ up.accepts (foldDesc (flockUid 3 2) 0xFF) 0x50 [(12, 4), (16, 1)] 0 = true ∧ (up.flock 3 2).logical.isSome = true ∧ (up.flock 3 2).st.gone = false
    ∧ (up.flock 3 2).disabled.contains 15 = false ∧ up.spareFlockEligible 3 = true ∧ spent.spareFlockEligible 3 = false ∧ spent.usableSpare 3 2 = none
    ∧ spent.accepts (foldDesc (flockUid 3 2) 15) 0x50 [(12, 4), (16, 1)] 0 = true ∧ (spent.flock 3 2).logical.isSome = true ∧ (spent.flock 3 2).st.gone = false := by decide
def unfoldDesc : Desc := authDesc 0x51 ([0, 0, 0, 0] ++ le 4 (flockUid 3 32).toNat ++ [0xFF]) [] 0 0 5
def retired : State := (owned 2 [5]).modFlock 3 32 (fun fl => { fl with st := .retired })
theorem wit_Unfolds : retired.accepts unfoldDesc 0x51 [(12, 4), (16, 1)] 304 = true ∧ isFlock (unfoldDesc.uid 12) = true ∧ unfoldDesc.arg 16 1 = 0xFF
    ∧ retired.unfoldCount (uidField (unfoldDesc.uid 12)) (uidFlock (unfoldDesc.uid 12)) (unfoldDesc.arg 16 1) ≠ 0
    ∧ ∃ u, (retired.begun.taken unfoldDesc 0x51).verify [(authBlock unfoldDesc.buf 0 0, unfoldDesc.auth.headD {}, (retired.begun.taken unfoldDesc 0x51).ownerAllowed)]
        0x51 0 = (u, true) :=
  ⟨by decide, by decide, by decide, by decide, _, verify_passes _ _ (authBytes 0 77 0x51 0) _ _ _ _ _ (by decide) rfl
    (authFails_none _ _ _ _ _ _ _ (by decide) rfl (by decide) (by decide) (by decide) (by decide) (by decide))⟩
def resetDesc (u : Uid) : Desc := desc 0x60 ([0, 0, 0, 0] ++ le 4 u.toNat)
def resetting : State := { up with recovery := { up.recovery with resets := [{ dom := fieldUid 3 }] } }
def recovering : State := { up with recovery := { up.recovery with level1 := some {} } }
theorem wit_ResetCommands : up.accepts (resetDesc (flockUid 3 2)) 0x60 [(12, 4)] 0 = true ∧ isDomain ((resetDesc (flockUid 3 2)).uid 12) = true
    ∧ (up.recovery.level1.isSome || up.recovery.resets.any (fun r => domOverlap r.dom ((resetDesc (flockUid 3 2)).uid 12))) = false
    ∧ resetting.accepts (resetDesc (flockUid 3 2)) 0x60 [(12, 4)] 0 = true
    ∧ (resetting.recovery.level1.isSome || resetting.recovery.resets.any (fun r => domOverlap r.dom ((resetDesc (flockUid 3 2)).uid 12))) = true
    ∧ up.accepts (desc 0x61 []) 0x61 [] 0 = true ∧ up.recovery.level1 = none ∧ up.recovery.resets = [] ∧ resetting.accepts (desc 0x61 []) 0x61 [] 0 = true
    ∧ resetting.recovery.resets = { dom := fieldUid 3 } :: [] ∧ recovering.accepts (desc 0x61 []) 0x61 [] 0 = true
    ∧ recovering.recovery.level1.isSome = true := by decide
def clearDesc : Desc := authDesc 0x71 [] ([1] ++ zeros 7 ++ le 6 3 ++ zeros 50) 0 0 5
theorem wit_TallyClears : (owned 2 [5]).accepts clearDesc 0x71 [] 368 = true ∧ badClear clearDesc.buf = false
    ∧ (∃ u, ((owned 2 [5]).begun.taken clearDesc 0x71).verify [(authBlock clearDesc.buf 64 0, clearDesc.auth.headD {},
        ((owned 2 [5]).begun.taken clearDesc 0x71).ownerAllowed)] 0x71 0 = (u, true))
    ∧ (∃ u, ((owned 2 []).begun.taken clearDesc 0x71).verify [(authBlock clearDesc.buf 64 0, clearDesc.auth.headD {},
        ((owned 2 []).begun.taken clearDesc 0x71).ownerAllowed)] 0x71 0 = (u, false)) :=
  ⟨by decide, by decide, ⟨_, verify_passes _ _ (authBytes 0 77 0x71 0) _ _ _ _ _ (by decide) rfl
    (authFails_none _ _ _ _ _ _ _ (by decide) rfl (by decide) (by decide) (by decide) (by decide) (by decide))⟩, _, rfl⟩
/-- A firmware image of serial 3, and machines with a staged image. -/
def fwBuf : List Byte :=
  ([0x43, 0x46, 0x57, 0x31, 0x10, 0, 0, 0] ++ le 4 2 ++ le 2 1 ++ le 2 0 ++ le 2 0 ++ zeros 2 ++ le 4 3 ++ le 4 2 ++ le 4 352)
    ++ (le 4 Config.partNumber.toNat ++ ([1, 1, 1, 1, 1, 1, 1, 1, 1, 1] ++ zeros 306))
def fwDesc : Desc := { desc 0x80 [] 352 fwBuf with sigKey := some Config.makerHash }
theorem fw_part : rd fwBuf 32 4 = Config.partNumber.toNat := by
  have := rd_le ([0x43, 0x46, 0x57, 0x31, 0x10, 0, 0, 0] ++ le 4 2 ++ le 2 1 ++ le 2 0 ++ le 2 0 ++ zeros 2 ++ le 4 3 ++ le 4 2 ++ le 4 352)
    ([1, 1, 1, 1, 1, 1, 1, 1, 1, 1] ++ zeros 306) 4 Config.partNumber.toNat
  have hlt := Config.partNumber.isLt
  rw [Nat.mod_eq_of_lt (by omega)] at this
  exact this
theorem wit_FirmwareIsSound : badImage fwDesc = false := by
  have h : rd fwDesc.buf 32 4 = Config.partNumber.toNat := fw_part
  simp only [badImage, h, bne_self_eq_false, Bool.or_false]
  decide
theorem wit_FirmwareIsStaged : up.accepts fwDesc 0x80 [] 2097152 = true ∧ (imageOf fwDesc.buf).supports (up.hif.neg.getD []) = true
    ∧ up.schemaOk (imageOf fwDesc.buf) = true ∧ up.fw.floor ≤ (imageOf fwDesc.buf).serial ∧ up.activating = false ∧ up.fw.staging = none := by decide
theorem wit_FirmwareIsSigned : fwDesc.sigKey = some Config.makerHash := rfl
/-- Both Shepherds in service with a staged image, in a storm, and in a job under another contract version. -/
def paired : State := { up with pair := { up.pair with b := { status := .following, gate := true } } }
def staged : State := { paired with fw := { slotB := some { contract := 2 }, running := some { contract := 1 }, staged := true } }
def storming : State := staged.setField 3 { fieldOn with storm := true }
def nothingStaged (s : State) : Bool :=
  s.fw.stagedImage.isNone || s.follower.isNone || !(List.range 3).all (fun v => (s.pair.voters.getD v {}).inService) || s.activating
theorem wit_FirmwareIsActivated : up.accepts (desc 0x81 []) 0x81 [] 0 = true ∧ nothingStaged up = true ∧ staged.accepts (desc 0x81 []) 0x81 [] 0 = true
    ∧ nothingStaged staged = false ∧ staged.emergency = 0 ∧ staged.job.active = false ∧ nothingStaged storming = false ∧ storming.emergency ≠ 0
    ∧ nothingStaged { staged with job := { active := true } } = false ∧ contractOf staged.fw.stagedImage ≠ contractOf staged.fw.running := by decide
def traceDesc : Desc := desc 0x90 [] 64 (fit 64 ([15, 1, 1, 3] ++ le 4 10 ++ le 8 0x100000 ++ le 4 16 ++ le 4 2048 ++ le 8 0x200000 ++ le 4 1 ++ le 2 30))
def graphDesc : Desc := desc 0x91 ([0, 0, 0, 0] ++ le 4 dieUid.toNat) 64
def waiting : State := { up with recovery := { up.recovery with waitReqs := [{ ring := 1, dom := dieUid, len := 64 }] } }
theorem wit_TraceAndWaitGraph : draining.accepts traceDesc 0x90 [] 64 = true ∧ draining.badTrace traceDesc.buf = false ∧ up.accepts graphDesc 0x91 [(12, 4)] 4294967295 = true
    ∧ isDomain (graphDesc.uid 12) = true ∧ 64 ≤ graphDesc.len ∧ up.recovery.waitReqs = [] ∧ waiting.accepts graphDesc 0x91 [(12, 4)] 4294967295 = true
    ∧ waiting.recovery.waitReqs ≠ [] := by decide

/-- The life-cycle requests: the first owner, the field, the return, and the pack key. -/
def provDesc : Desc := { desc 0xA0 [1] 400 (zeros 96 ++ authBytes 1 77 0xA0 1) with
  keyHash := 6, auth := [{ keyHash := Config.makerHash, digestOk := true, sigOk := true }] }
def fieldDesc : Desc := authDesc 0xA0 [2] [] 0 2 5
def returnDesc : Desc := authDesc 0xA0 [3] [] 0 3 5
def keyDesc : Desc := authDesc 0xA0 [5] (zeros 96) 0 5 5
/-- The request's authorisation verifies on a machine, and fails on one with another owner. -/
theorem wit_LifeCycleProvisioned : (owned 0 []).accepts provDesc 0xA0 [(8, 1)] 400 = true ∧ provDesc.arg 8 1 = 1 ∧ (owned 0 []).job.active = false
    ∧ (owned 0 []).lcs = 0 ∧ (owned 0 []).life.owners.length < 3 ∧ (owned 6 [5, 5]).lcs = 3 ∧ (owned 6 [5, 5]).life.owners.length < 3
    ∧ (∃ u, ((owned 0 []).begun.taken provDesc 0xA0).verify [(authBlock provDesc.buf 96 0, provDesc.auth.headD {}, makerAllowed)] 0xA0 1 = (u, true))
    ∧ ∃ u, ((owned 0 []).begun.taken { provDesc with auth := [], buf := [] } 0xA0).verify [(authBlock [] 96 0, {}, makerAllowed)] 0xA0 1 = (u, false) :=
  ⟨by decide, by decide, by decide, by decide, by decide, by decide, by decide, ⟨_, verify_passes _ _ (authBytes 1 77 0xA0 1) _ _ _ _ _ (by decide) rfl
    (authFails_none _ _ _ _ _ _ _ (by decide) rfl (by decide) (by decide) (by decide) (by decide) (by decide))⟩, _, rfl⟩
theorem wit_LifeCycleField : (owned 1 [5]).accepts fieldDesc 0xA0 [(8, 1)] 304 = true ∧ fieldDesc.arg 8 1 = 2 ∧ (owned 1 [5]).job.active = false ∧ (owned 1 [5]).lcs = 1
    ∧ (∃ u, ((owned 1 [5]).begun.taken fieldDesc 0xA0).verify [(authBlock fieldDesc.buf 0 0, fieldDesc.auth.headD {},
        ((owned 1 [5]).begun.taken fieldDesc 0xA0).ownerAllowed)] 0xA0 2 = (u, true))
    ∧ ∃ u, ((owned 1 []).begun.taken fieldDesc 0xA0).verify [(authBlock fieldDesc.buf 0 0, fieldDesc.auth.headD {},
        ((owned 1 []).begun.taken fieldDesc 0xA0).ownerAllowed)] 0xA0 2 = (u, false) :=
  ⟨by decide, by decide, by decide, by decide, ⟨_, verify_passes _ _ (authBytes 0 77 0xA0 2) _ _ _ _ _ (by decide) rfl
    (authFails_none _ _ _ _ _ _ _ (by decide) rfl (by decide) (by decide) (by decide) (by decide) (by decide))⟩, _, rfl⟩
theorem wit_LifeCycleReturn : (owned 2 [5]).accepts returnDesc 0xA0 [(8, 1)] 608 = true ∧ returnDesc.arg 8 1 = 3 ∧ (owned 2 [5]).job.active = false
    ∧ (owned 2 [5]).lcs = 2 ∧ authBlock returnDesc.buf 0 1 = none
    ∧ (∃ u, ((owned 2 []).begun.taken returnDesc 0xA0).verify [(authBlock returnDesc.buf 0 0, returnDesc.auth.headD {},
        ((owned 2 []).begun.taken returnDesc 0xA0).ownerAllowed)] 0xA0 3 = (u, false))
    ∧ ∃ u, ((owned 2 [5]).begun.taken returnDesc 0xA0).verify [(authBlock returnDesc.buf 0 0, returnDesc.auth.headD {},
        ((owned 2 [5]).begun.taken returnDesc 0xA0).ownerAllowed)] 0xA0 3 = (u, true) :=
  ⟨by decide, by decide, by decide, by decide, rfl, ⟨_, rfl⟩, _, verify_passes _ _ (authBytes 0 77 0xA0 3) _ _ _ _ _ (by decide) rfl
    (authFails_none _ _ _ _ _ _ _ (by decide) rfl (by decide) (by decide) (by decide) (by decide) (by decide))⟩
theorem wit_OwnerPackKey : (owned 2 [5]).accepts keyDesc 0xA0 [(8, 1)] 400 = true ∧ keyDesc.arg 8 1 = 5 ∧ (owned 2 [5]).lcs = 2
    ∧ (∃ u, ((owned 2 []).begun.taken keyDesc 0xA0).verify [(authBlock keyDesc.buf 96 0, keyDesc.auth.headD {},
        ((owned 2 []).begun.taken keyDesc 0xA0).ownerAllowed)] 0xA0 5 = (u, false))
    ∧ ∃ u, ((owned 2 [5]).begun.taken keyDesc 0xA0).verify [(authBlock keyDesc.buf 96 0, keyDesc.auth.headD {},
        ((owned 2 [5]).begun.taken keyDesc 0xA0).ownerAllowed)] 0xA0 5 = (u, true) :=
  ⟨by decide, by decide, by decide, ⟨_, rfl⟩, _, verify_passes _ _ (authBytes 0 77 0xA0 5) _ _ _ _ _ (by decide) rfl
    (authFails_none _ _ _ _ _ _ _ (by decide) rfl (by decide) (by decide) (by decide) (by decide) (by decide))⟩
/-- A self-test in the budget of 60 s and one beyond it. -/
def testing (began : Nat) : State :=
  { up with tbase := 70000000000, life := { shut := some { ring := 0, phase := .selfTest, test := some { began := began, groupAt := began, cur := [3] } } } }
theorem wit_ShutDown : up.accepts (desc 0xA0 [4]) 0xA0 [(8, 1)] 0 = true ∧ (desc 0xA0 [4]).arg 8 1 = 4 ∧ up.shutting = false ∧ up.job.active = false
    ∧ upJob.accepts (desc 0xA0 [4]) 0xA0 [(8, 1)] 0 = true ∧ upJob.job.active = true ∧ (testing 69000000000).firmware = true
    ∧ (max (testing 69000000000).tbase (69000000000 + max 1 (ceilDiv ((testing 69000000000).tbase - 69000000000) (250 * 1000000)) * (250 * 1000000)) - 69000000000)
        + 250 * 1000000 ≤ (testing 69000000000).policy.budget * 1000000000
    ∧ (testing 1).policy.budget * 1000000000 < (max (testing 1).tbase (1 + max 1 (ceilDiv ((testing 1).tbase - 1) (250 * 1000000)) * (250 * 1000000)) - 1)
        + 250 * 1000000 := by decide

/-! Replay and twinning. -/

/-- A core and its twin at work on tag 7 of flock 2 in field 3, with a Crook entry in a state. -/
def tagOf : TagSt := { core := 4, crook := some 1, twin := some 16, inst := 9 }
def entryOf (st : EntryState) : CrookEntry := { flock := 2, tag := 7, state := st, closed := true }
def replaying (t : TagSt) (st : EntryState) : State :=
  (upJob.modFlock 3 2 (fun fl => { fl with tags := [(7, t)], stream := some 7 })).modCrook 3 1 (fun x => { x with queue := [entryOf st] })
/-- The entry of the tag confirmed by Crook 0, ahead of its own queue. -/
def confirming : State := (replaying tagOf .confirming).modCrook 3 0 (fun x => { x with confirms := [(1, 2, 7)] })
theorem wit_Announce : fspExists 47 32 = true ∧ up.job.active = false ∧ upJob.job.active = true ∧ (upJob.flock 47 31).logical = some 31
    ∧ (upJob.flock 47 31).slotOf 15 = some 15 ∧ (donatedSlots upJob.job.donation 31).contains 15 = false := by decide
theorem wit_MirrorBeats : fspExists 3 2 = true ∧ (up.flock 3 2).stream = none ∧ ((replaying tagOf .receiving).flock 3 2).stream = some 7
    ∧ (replaying tagOf .receiving).tagSt 3 2 7 = some tagOf ∧ tagOf.crook = some 1 := by decide
theorem wit_Digests : (replaying tagOf .awaitDigest).tagSt 3 2 7 = some tagOf ∧ tagOf.core = 4 ∧ tagOf.coreDig = none ∧ tagOf.coreBad = false
    ∧ tagOf.core ≠ 16 ∧ tagOf.twin = some 16 ∧ tagOf.twinDig = none ∧ tagOf.twinBad = false ∧ tagOf.twinDone = false ∧ (replaying tagOf .awaitDigest).tagSt 3 2 63 = none
    ∧ ((replaying tagOf .awaitDigest).crook 3 1).entry 2 7 = some (entryOf .awaitDigest) ∧ (entryOf .awaitDigest).closed = true
    ∧ tagOf.crook = some 1 ∧ (up.begun.toCycle 3 0).isSome = true := by decide
/-- A count of core cycles that has been reached is reached at once. -/
theorem toCycle_reached (s : State) (f n : Nat) (h : n ≤ s.cycleCount f) : s.toCycle f n = some s := if_pos h
/-- A wait whose end lies in the past of the field's core cycles. -/
def longRun : State := (replaying tagOf .awaitDigest).setField 3 { fieldOn with cycles := 2000000 }
theorem wit_DigestWaits : longRun.begun.toCycle 3 (tagOf.closedAt + 1048576) = some longRun.begun
    ∧ longRun.begun.toCycle 3 (match tagOf.firstAt with | some n => n + 1024 | none => tagOf.selAt + 1048576) = some longRun.begun :=
  ⟨toCycle_reached _ _ _ (by decide), toCycle_reached _ _ _ (by decide)⟩
theorem wit_Crooks : ((replaying tagOf .computing).crook 3 1).entry 2 7 = some (entryOf .computing) ∧ (entryOf .computing).state = .computing
    ∧ (confirming.crook 3 1).entry 2 7 = some (entryOf .confirming) ∧ (entryOf .confirming).state = .confirming
    ∧ confirming.mayConfirm 3 1 0 (entryOf .confirming) = true ∧ confirming.tagSt 3 2 7 = some tagOf ∧ tagOf.crook = some 1
    ∧ (replaying tagOf .computing).tagSt 3 2 7 = some tagOf := by decide
theorem wit_CrookFaults : crookExists 47 3 = true ∧ (up.crook 47 3).inService = true ∧ (up.crook 47 3).resetting = false := by decide

/-! Trackers, hurdles and the limits of the resets. -/

/-- Flock 2 of field 3 presents a tracker; all its trackers are taken; one is held, which is past its limit; its kill is raised. -/
def ready : State := (upField up 3).modFlock 3 2 (fun fl => { fl with ready := true })
def holding : State := up.modFlock 3 2 (fun fl => fl.modTracker 63 (fun t => { t with held := true, run := 60000000, limit := 50000000 }))
def killing : State := holding.modFlock 3 2 (fun fl => { fl with kill := true })
theorem wit_Trackers : fspExists 3 2 = true ∧ fspExists 48 2 = false ∧ ready.trkAvail 3 2 = true ∧ (ready.flock 3 2).freeTracker = some 0 ∧ up.trkAvail 3 2 = false
    ∧ ((holding.flock 3 2).tracker 63).held = true ∧ ((holding.flock 3 2).tracker 0).held = false ∧ 2 < 3 := by decide
theorem wit_ReservedClass : fspExists 3 2 = true ∧ 3 ≤ 3 := by decide
theorem wit_Kills : (killing.flock 3 2).kill = true ∧ (holding.flock 3 2).kill = false := by decide
/-- A hurdle that closes and one that drains. -/
def hurdleOf (p : HurdlePhase) : Hurdle := { dom := fieldUid 3, cause := 1, began := 900000, phase := p, closedAt := 900000 }
def hurdling (p : HurdlePhase) : State := { up with recovery := { up.recovery with hurdles := [hurdleOf p] } }
theorem wit_Hurdles : (hurdling .closing).hurdleIn (fieldUid 3) .closing = some (hurdleOf .closing) ∧ (hurdling .draining).hurdleIn (fieldUid 3) .closing = none
    ∧ (hurdling .draining).hurdleIn (fieldUid 3) .draining = some (hurdleOf .draining) ∧ up.hurdleIn (fieldUid 3) .draining = none
    ∧ (hurdleOf .draining).timedOut = false ∧ domHasFlock (fieldUid 3) 3 32 = true ∧ fspExists 3 32 = true := by decide
def capturing : State := { waiting with recovery := { waiting.recovery with capture := some { dom := fieldUid 3, began := 900000 } } }
def autoDue : State := { up with recovery := { up.recovery with autoDue := true } }
theorem wit_AutomaticAssembly : autoDue.autoReady = true ∧ autoDue.firmware = true ∧ up.autoReady = false := by decide
theorem wit_Captures : capturing.firmware = true ∧ capturing.recovery.capture = some { dom := fieldUid 3, began := 900000 }
    ∧ capturing.recovery.waitReqs = { ring := 1, dom := dieUid, len := 64 } :: []
    ∧ waitCycles (capturing.waitNodes dieUid []).length (waitEdges (capturing.waitNodes dieUid [])) = [] ∧ up.recovery.waitReqs = [] ∧ up.firmware = true := by decide
theorem wit_TrackerCheck : (holding.flock 3 2).expired = (63, (holding.flock 3 2).tracker 63) :: [] ∧ (up.flock 3 2).trackers = []
    ∧ (upField up 3).droverUp 3 = true ∧ up.droverUp 3 = false ∧ (upField up 3).trackedFlocks 3 = [] := by decide
def limiting (st : L0Step) : State := { up with recovery := { up.recovery with resets := [{ dom := fieldUid 3, step := st, waiting := [194] }] } }
def level1At (st : L1Step) : State := { up with recovery := { up.recovery with level1 := some { step := st } } }
theorem wit_RecoveryLimits : (limiting .reset).firmware = true
    ∧ (limiting .reset).recovery.resets.find? (fun r => r.dom == fieldUid 3) = some { dom := fieldUid 3, step := .reset, waiting := [194] }
    ∧ (limiting .drain).recovery.resets.find? (fun r => r.dom == fieldUid 3) = some { dom := fieldUid 3, step := .drain, waiting := [194] }
    ∧ L0Step.drain ≠ .kill ∧ L0Step.drain ≠ .reset ∧ (level1At .railHold).recovery.level1 = some { step := .railHold }
    ∧ (level1At .train).recovery.level1 = some { step := .train } ∧ L1Step.train ≠ .railHold := by decide

/-! Folds and shelters. -/

def copying : State := up.modFlock 3 2 (fun fl => { fl with copy := some { src := 4, dst := 16, slot := 4, started := 999000 } })
theorem wit_QuietAndCopies : fspExists 3 2 = true ∧ up.firmware = true ∧ off.firmware = false ∧ (up.flock 3 2).copy = none
    ∧ (up.begun.modFlock 3 2 (fun fl => { fl with quiet := false })).copyOwner 3 2 = none
    ∧ (copying.flock 3 2).copy = some { src := 4, dst := 16, slot := 4, started := 999000 } ∧ copying.copyOwner 3 2 = some (2, { src := 4, dst := 16, slot := 4, started := 999000 })
    ∧ up.copyOwner 3 2 = none ∧ (copying.begun.modFlock 3 2 (fun fl => { fl with quiet := false })).copyOwner 3 2
      = some (2, { src := 4, dst := 16, slot := 4, started := 999000 }) := by decide
/-- A copy into the spare flock's FSP belongs to the flock that it copies. -/
theorem wit_FlockCopies : (up.modFlock 3 2 (fun fl => { fl with copy := some { src := 0, dst := 0, slot := 0, started := 999000, flockCopy := true } })).copyOwner 3 32
    = some (2, { src := 0, dst := 0, slot := 0, started := 999000, flockCopy := true }) := by decide
def trimming (ok : Bool) : State :=
  (up.modFlock 3 2 (fun fl => { fl with ldoWait := some 5, ldoOk := ok })).modCore 3 2 4 (fun c => { c with
    st := .suspect, shelter := .trim, retest := some { deadline := 2000000, open_ := true } })
theorem wit_Shelters : ((trimming false).flock 3 2).ldoWait.isSome = true ∧ ((trimming false).flock 3 2).ldoOk = false ∧ (up.flock 3 2).ldoWait = none
    ∧ ((trimming true).flock 3 2).ldoOk = true ∧ ((trimming false).core 3 2 4).retest = some { deadline := 2000000, open_ := true } ∧ (up.core 3 2 4).retest = none := by decide
def committing : State := { up with folds := { waiting := [{ kind := 4, uid := coreUid 3 2 4 }] } }
theorem wit_FoldList : committing.firmware = true ∧ committing.pwrGood = true ∧ committing.folds.waiting = { kind := 4, uid := coreUid 3 2 4 } :: []
    ∧ committing.folds.entries.length < 2047 ∧ up.folds.waiting = [] := by decide

/-! Screening. -/

/-- A pack of one pattern, and a core of flock 2 in field 3 with a slice. -/
def packed : State := { upField up 3 with screen := { running := some { serial := 3, patterns := [{ runtime := 500, misr := 7 }] } } }
def sliced (sl : Slice) : State := packed.modCore 3 2 4 (fun c => { c with slice := some sl })
/-- A run with one window for slot 4, and the same with the window planned. -/
def runEntry : IdleEntry := { flock := 2, slot := 4, w := 1000, len := 80000 }
def windowed : State := packed.modFlock 3 2 (fun fl => { fl with windows := [runEntry] })
def planOf (w g : Bool) : Planned := { w := 1000, len := 80000, item := { guard := g }, written := w }
def planned (w g : Bool) : State := windowed.modCore 3 2 4 (fun c => { c with planned := [planOf w g] })
/-- The planned window as it opens. -/
def openPlan (s : State) : State := s.begun.modCore 3 2 4 (fun x => { x with planned := x.planned.map (fun p => if p.w = 1000 then { p with opened := true } else p) })
theorem wit_Windows : fspExists 3 2 = true ∧ packed.droverUp 3 = true ∧ (packed.flock 3 2).windows.find? (fun e => e.slot == 4 && e.w == 1000) = none
    ∧ windowed.droverUp 3 = true ∧ (windowed.flock 3 2).windows.find? (fun e => e.slot == 4 && e.w == 1000) = some runEntry ∧ windowed.patterns ≠ []
    ∧ 4 = (windowed.flock 3 2).coreOf 4 ∧ (windowed.flock 3 2).slotOf 4 = some 4 ∧ (windowed.core 3 2 4).planned.any (fun p => p.w == 1000) = false := by decide
/-- A window gets an item when the pattern fits, and none when its length is too short. -/
theorem wit_WindowItems : (∃ u, windowed.begun.choose 3 2 4 80000 false ((windowed.begun.candidates 3 2 4).take 8) = (u, some {}))
    ∧ ∃ u, windowed.begun.choose 3 2 4 10 false ((windowed.begun.candidates 3 2 4).take 8) = (u, none) := ⟨⟨_, rfl⟩, _, rfl⟩
theorem wit_WindowOpens : (planned true false).droverUp 3 = true ∧ ((planned true false).core 3 2 4).planned.find? (fun p => p.w == 1000 && !p.opened) = some (planOf true false)
    ∧ ((openPlan (planned true false)).core 3 2 4).slice = none ∧ (openPlan (planned true false)).windowBusy 3 2 = false
    ∧ ((planOf true false).item.guard && (openPlan (planned true false)).overFused 3 ((openPlan (planned true false)).core 3 2 4).step) = false
    ∧ ((planned false false).core 3 2 4).planned.find? (fun p => p.w == 1000 && !p.opened) = some (planOf false false) := by decide
/-- A guard item whose step would pass the fused maximum. -/
def fastField (s : State) : State := s.modField 3 (fun fd => { fd with freq := 1600 })
theorem wit_GuardWindow : ((fastField (planned true true)).core 3 2 4).planned.find? (fun p => p.w == 1000 && !p.opened) = some (planOf true true)
    ∧ ((openPlan (fastField (planned true true))).core 3 2 4).slice = none ∧ (openPlan (fastField (planned true true))).windowBusy 3 2 = false
    ∧ ((planOf true true).item.guard && (openPlan (fastField (planned true true))).overFused 3 ((openPlan (fastField (planned true true))).core 3 2 4).step) = true := by
  decide
theorem wit_RunStart : fspExists 3 2 = true ∧ fspExists 3 3 = true ∧ (3, 3) ≠ (3, 2) := by decide
theorem wit_Slices : ((sliced {}).core 3 2 4).slice = some {} ∧ ({} : Slice).phase = .entering ∧ ({} : Slice).step = ((sliced {}).core 3 2 4).step
    ∧ ((sliced { step := 1 }).core 3 2 4).slice = some { step := 1 } ∧ ({ step := 1 } : Slice).step ≠ ((sliced { step := 1 }).core 3 2 4).step
    ∧ ((sliced { phase := .stepping }).core 3 2 4).slice = some { phase := .stepping } ∧ ((sliced { phase := .returning }).core 3 2 4).slice = some { phase := .returning }
    ∧ (packed.core 3 2 4).slice = none := by decide
theorem wit_Verdicts : ((sliced { phase := .running }).core 3 2 4).slice = some { phase := .running }
    ∧ ({ phase := .running } : Slice).step = ((sliced { phase := .running }).core 3 2 4).step
    ∧ ((sliced { phase := .running, step := 1 }).core 3 2 4).slice = some { phase := .running, step := 1 }
    ∧ ({ phase := .running, step := 1 } : Slice).step ≠ ((sliced { phase := .running, step := 1 }).core 3 2 4).step := by decide
/-- The core-cycle count after the slice is cut lies inside the window that it entered. -/
theorem wit_LateSlices : fspExists 3 2 = true ∧ ((sliced { own := true }).core 3 2 4).slice = some { own := true } ∧ SlicePhase.entering ≠ .writing
    ∧ ((sliced { window := 8000000000 }).core 3 2 4).slice = some { window := 8000000000 }
    ∧ ((sliced { window := 8000000000 }).begun.cutSlice 3 2 4).cycleCount 3 < 8000000000
    ∧ ((sliced { phase := .exiting, exiting := true }).core 3 2 4).slice = some { phase := .exiting, exiting := true }
    ∧ ({ phase := .exiting, exiting := true } : Slice).lane = false ∧ ((sliced { exiting := true }).flock 3 2).spareCore ≠ some 4 := by decide
def selfTesting : State := packed.modCore 3 2 4 (fun c => { c with selfItems := [{}] })
/-- The same core when its slice of the Drover's own making opens, with the field's tests at their limit and below it. -/
def opening (n : Nat) : State :=
  (List.range n).foldl (fun s k => s.modCore 3 (k + 5) 0 (fun c => { c with slice := some { phase := .running } })) (sliced { phase := .writing, own := true })
def opened (n : Nat) : State := (opening n).begun.modCore 3 2 4 (fun x => { x with slice := none })
theorem wit_OwnWindows : fspExists 3 2 = true ∧ packed.droverUp 3 = true ∧ ((sliced {}).core 3 2 4).slice.isSome = true ∧ (sliced {}).droverUp 3 = true ∧ 4 < Config.cores
    ∧ (selfTesting.core 3 2 4).slice = none ∧ selfTesting.patterns ≠ [] ∧ (selfTesting.core 3 2 4).st.gone = false ∧ (selfTesting.flock 3 2).st.gone = false
    ∧ (selfTesting.core 3 2 4).selfItems = {} :: [] ∧ selfTesting.droverUp 3 = true := by decide
/-- The spare core of the flock, with an item and room for it, and with no pattern that any pack gives. -/
theorem wit_SpareWindows : (packed.core 3 2 16).slice = none ∧ (packed.core 3 2 16).selfItems = [] ∧ (packed.core 3 2 16).st.gone = false
    ∧ packed.ownWindows 3 2 16 = true ∧ (packed.field 3).bellCode = none ∧ 16 < Config.cores
    ∧ packed.spareRoom 3 2 16 (packed.sliceOf 3 2 16 {} 0 true).need = true := by decide
theorem wit_SpareItems : (∃ u, packed.begun.choose 3 2 16 4294967295 true ((packed.begun.candidates 3 2 16).take 8) = (u, some {})
      ∧ u.spareRoom 3 2 16 (u.sliceOf 3 2 16 {} 0 true).need = true) := ⟨_, rfl, by decide⟩
/-- A pattern that only the host gives, and no firmware to fetch it. -/
def unfetched : State := { packed with start := { packed.start with fwRun := false } }
theorem wit_NoSpareItem : ∃ u, unfetched.begun.choose 3 2 16 4294967295 true ((unfetched.begun.candidates 3 2 16).take 8) = (u, none) := ⟨_, rfl⟩
theorem wit_ScratchWritten : ((opening 0).core 3 2 4).slice = some { phase := .writing, own := true } ∧ ((opening 0).core 3 2 4).selfItems = []
    ∧ (opened 0).windowBusy 3 2 = false ∧ ((opening 8).core 3 2 4).slice = some { phase := .writing, own := true } ∧ ((opening 8).core 3 2 4).selfItems = []
    ∧ (opened 8).windowBusy 3 2 = true := by decide +kernel
theorem wit_RotationCheck : (upField up 47).droverUp 47 = true := by decide

/-! Reports and records. -/

def soundErr : FspErr := { grp := 0, cls := 1, scope := 0, core := 16, lane := 8, elem := 0, low := 1 }
theorem wit_ErrorReports : fspExists 47 32 = true ∧ ({ soundErr with parityOk := false } : FspErr).parityOk = false ∧ soundErr.parityOk = true
    ∧ ({ soundErr with core := 17 } : FspErr).malformed = true ∧ soundErr.malformed = false := by decide
theorem wit_SourceUids : soundErr.scope ≤ 2 ∧ soundErr.core < 32 ∧ soundErr.lane < 16 ∧ soundErr.elem < 256
    ∧ ({ soundErr with scope := 2, elem := 0x7F } : FspErr).malformed = false := by decide
theorem wit_InfrastructureErrors : codeDefined 0x0301 = true ∧ isDataPlane 0x0301 = false ∧ codeDefined 0x0105 = true ∧ codeDefined 0x010B = true
    ∧ isDataPlane 0x0105 = false ∧ 0x0301 ≠ 0x0305
    ∧ uidBelowZero dieUid = true ∧ uidBelowZero (coreUid 3 2 4) = true ∧ codeDefined 0x0305 = true ∧ isDataPlane 0x0305 = false
    ∧ uidLevel (mkUid 5 3 0 0 0 0x18) = 5 ∧ uidElem (mkUid 5 3 0 0 0 0x18) = 0x18 ∧ uidElem (mkUid 5 3 0 0 0 0x1F) = 0x1F
    ∧ uidBelowZero (mkUid 5 3 0 0 0 0x1F) = true ∧ isDataPlane 0x1231 = true := by decide
theorem wit_Latch : handling.windowUp = true ∧ handling.ferr.handling = true ∧ up.ferr.handling = false ∧ handling.ferr.valid = true ∧ up.ferr.valid = false
    ∧ up.pwrGood = true := by decide
def crookReset : State := (up.modCrook 3 1 (fun x => { x with resetting := true })).modTap 0 (fun x => { x with resetting := true })
def routerReset : State := up.setField 3 { fieldOn with routerResetting := [1] }
theorem wit_PartResets : partOf (crookUid 3 1) = some (.crook 3 1) ∧ (crookReset.crook 3 1).resetting = true ∧ crookReset.partResetting (.crook 3 1) = true
    ∧ partOf (engineUid 0) = some (.engine 0) ∧ (crookReset.tap 0).resetting = true ∧ partOf (partUid 3 2) = some (.router 3 1)
    ∧ (routerReset.field 3).routerResetting.contains 1 = true ∧ partOf dieUid = none ∧ up.partResetting (.crook 3 1) = false := by decide
def spentBucket : State := { up with tally := { spent := [(0x5003, 16)] } }
theorem wit_Records : (assoc up.tally.spent 0x5003).getD 0 < 16 ∧ up.tally.waiting.length < 4096 ∧ up.tally.regionFull false 1 = false
    ∧ clsEV ≠ clsFE ∧ bucketExempt 0x5003 = false ∧ 16 ≤ (assoc spentBucket.tally.spent 0x5003).getD 0 := by decide

/-! The Shepherd pair. -/

/-- A machine with a follower: two outputs held, of inputs 7 and 9, and the follower at input 8 of 10. -/
def pairUp : State :=
  { up with pair := { a := { status := .active, gate := true, lastHb := 999000 }, b := { status := .following }, active := some .a
                      order := 10, followed := 8, held := [(7, .ibi 1), (9, .ibi 2)] } }
theorem wit_PairKeepsItsOrder : (pairUp.pair.shc false).beats = true ∧ (off.pair.shc true).beats = false ∧ pairUp.follower.isSome = true
    ∧ pairUp.pair.followed < pairUp.pair.order ∧ up.follower = none ∧ pairUp.activeShc = some false
    ∧ ({ pairUp with start := { pairUp.start with fwRun := true } } : State).activeShc = some false := by decide
/-- Voter 0 has voted SHC-A lost in round 0; voter 1 is under reset; voter 2 may vote. -/
def voted : State :=
  { pairUp with pair := { pairUp.pair with voters := [{ vote := some (0, .loss false) }, { resetting := true }, {}] } }
theorem wit_Votes : (voted.pair.voters.getD 2 {}).inService = true ∧ (voted.pair.voters.getD 2 {}).resetting = false ∧ voted.pair.voters.length = 3
    ∧ (voted.pair.voters.getD 1 {}).resetting = true ∧ (voted.outside.castVote 2 0 (.loss false)).2 = true
    ∧ (voted.outside.castVote 2 1 (.loss false)).2 = false := by decide
def challenged (a b : Option Bool) : State := { pairUp with pair := { pairUp.pair with challenge := some { began := 999000, respA := a, respB := b } } }
theorem wit_Challenge : pairUp.pair.challenge = none ∧ (challenged none none).pair.challenge.isSome = true ∧ (challenged none none).pair.active = some .a
    ∧ (challenged none (some true)).pair.challenge = some { began := 999000, respB := some true }
    ∧ ({ challenged none (some true) with pair := { (challenged none (some true)).pair with active := some .b } } : State).pair.active = some .b
    ∧ (challenged (some true) none).pair.challenge = some { began := 999000, respA := some true } := by decide
/-- The swapped pair of a live update, and masters that differ by 11 ns. -/
def swapped : State := { pairUp with fw := { step := 6 } }
def apart : State := { pairUp with pair := { pairUp.pair with masterDiff := -11 } }
theorem wit_WardenEpochs : pairUp.pair.masterDiff.natAbs ≤ 10 ∧ pairUp.pair.active = some .a ∧ pairUp.follower.isSome = true ∧ pairUp.pair.challenge = none
    ∧ pairUp.pair.skew = false ∧ pairUp.fw.step ≠ 6 ∧ swapped.fw.step = 6 ∧ (1 : BitVec 64) ≠ 2 ∧ pairUp.pair.digestWait = none ∧ up.follower = none
    ∧ 10 < apart.pair.masterDiff.natAbs ∧ apart.activeShc = some false ∧ apart.follower.isSome = true
    ∧ ({ pairUp with pair := { pairUp.pair with digestWait := some (100, 990000, 1) } } : State).compares = true := by decide
theorem wit_WardenEpochOfB : ({ pairUp with pair := { a := { status := .following }, b := { status := .active, gate := true }, active := some .b } } : State).follower.isSome
    = true := by decide
def rejoining : State := { upField up 28 with pair := { up.pair with b := { status := .resetting }, order := 4, followed := 1 }, fw := { running := some {} } }
theorem wit_Rejoin : (rejoining.pair.shc true).status = .resetting ∧ (rejoining.field (Config.shcField true)).infraPg = true ∧ rejoining.fw.step = 0
    ∧ rejoining.firmware = true ∧ rejoining.activeShc = some (!true) ∧ rejoining.fw.running = some {} ∧ rejoining.pair.bothLost = false
    ∧ rejoining.fw.step ≠ 3 ∧ (rejoining.pair.shc false).status ≠ .resetting ∧ (rejoining.pair.shc false).status ≠ .catchingUp
    ∧ ({ rejoining with start := { rejoining.start with fwRun := false } } : State).firmware = false := by decide
def bothDown : State :=
  { upField up 28 with pair := { a := { status := .outOfService }, b := { status := .resetting, nmi := some 5 }, bothLost := true, lostAt := 10 } }
theorem wit_BothLost : bothDown.pair.bothLost = true ∧ bothDown.life.scanOpen = false ∧ (bothDown.pair.shc true).status ≠ .outOfService
    ∧ (bothDown.field (Config.shcField true)).infraPg = true ∧ (bothDown.pair.shc false).status = .outOfService := by decide
def trapped : State := { pairUp with pair := { pairUp.pair with a := { pairUp.pair.a with nmi := some 950000 } }, trace := { mask := 0 } }
theorem wit_Traps : (trapped.pair.shc false).beats = true ∧ trapped.start.fwRun = true ∧ (trapped.pair.shc false).nmi = some 950000
    ∧ trapped.trace.mask.getLsbD 2 = false ∧ (trapped.pair.shc true).nmi = none
    ∧ up.trace.mask.getLsbD 2 = true := by decide
def late : State := upField (up.setField 4 { fieldOn with tbaseSet := false }) 3
theorem wit_Takeover : late.firmware = true ∧ (late.field 3).tbaseSet = true ∧ (late.field 3).buffer = [] ∧ late.pair.swDue = none ∧ 3 < Config.fields
    ∧ late.activeShc.isSome = true ∧ (late.field 4).drover = true ∧ (late.field 4).infraPg = true ∧ (late.field 4).tbaseSet = false ∧ gap.activeShc = none := by decide
/-- A released output leaves, a held one stays (R346). -/
theorem test_release : (after .outputRelease pairUp).map (fun t => (t.out, t.pair.held)) = some ([Output.ibi 1], [(9, Output.ibi 2)]) := by decide

/-- A Drover, a router and a voter under reset, each under the UID that names it. -/
def droverReset : State := up.setField 3 { fieldOn with droverResetting := true }
theorem wit_OtherPartResets : partOf (engineUid 1) = some (.engine 1) ∧ partOf (droverUid 3) = some (.drover 3) ∧ (droverReset.field 3).droverResetting = true
    ∧ partOf (voterUid 1) = some (.voter 1) ∧ (voted.pair.voters.getD 1 {}).resetting = true := by decide

/-! Links. -/

/-- Every field of a machine with a job closed on both rails, one tap whose engine is out (tap 1), tap 2 with its link up. -/
def linkUp : State :=
  (((upField (upField (upField upJob (Config.linkField 0)) (Config.linkField 1)) (Config.linkField 2)).modTap 1 (fun x => { x with inService := false })).modTap 0
    (fun x => { x with trackers := [(3, { coll := 4, step := 7, lastAt := 5, frames := 2 })], linkUp := true })).modTap 2 (fun x => { x with linkUp := true })
/-- A frame descriptor of an epoch, a kind and a flag. -/
def fdOf (epoch kind flag : Nat) : BitVec 192 := BitVec.ofNat 192 (epoch * 2 ^ 32 + flag * 2 ^ 136 + kind * 2 ^ 138)
theorem wit_TxStart : linkUp.tapPowered 0 = true ∧ fdKind (fdOf 5 2 0) ≠ 1 ∧ fdKind (fdOf 5 1 1) = 1 ∧ linkUp.engineUp 1 = false ∧ linkUp.tapPowered 1 = true
    ∧ linkUp.engineUp 0 = true ∧ assoc (linkUp.tap 0).trackers 3 = some { coll := 4, step := 7, lastAt := 5, frames := 2 }
    ∧ linkUp.tapPowered 0 = true := by decide
/-- The frame takes a tracker, and one of another collective too. -/
theorem wit_TxTracker : ∃ u tr, (linkUp.begun.raiseStep (fdEpoch (fdOf 5 1 1)) (fdStep (fdOf 5 1 1))).takeTracker 0 (fdColl (fdOf 5 1 1)) (fdEpoch (fdOf 5 1 1))
    (fdStep (fdOf 5 1 1)) = (u, some tr) := ⟨_, _, rfl⟩
def sending (m : Bool) : State := linkUp.modTap 0 (fun x => { x with tx := some { fd := fdOf 5 1 1, tracker := if m then some 3 else none, marked := m } })
theorem wit_TxEnd : (linkUp.tap 0).tx = none ∧ (sending false).engineUp 0 = true ∧ (sending false).tapPowered 0 = true
    ∧ (sending false).tap 0 = { linkUp.tap 0 with tx := some { fd := fdOf 5 1 1 } }
    ∧ ((sending true).tap 0).tx = some { fd := fdOf 5 1 1, tracker := some 3, marked := true }
    ∧ assoc ((sending true).tap 0).trackers 3 = some { coll := 4, step := 7, lastAt := 5, frames := 2 }
    ∧ ((linkUp.modTap 1 (fun x => { x with tx := some {} })).tap 1).tx = some {} ∧ (linkUp.modTap 1 (fun x => { x with tx := some {} })).engineUp 1 = false
    ∧ (linkUp.modTap 1 (fun x => { x with tx := some {} })).tapPowered 1 = true := by decide
/-- An unmarked frame under its tracker, and a marked and an unmarked one whose tracker was released. -/
def sendingAs (x : TxFrame) : State := linkUp.modTap 0 (fun y => { y with tx := some x })
theorem wit_TxTrackers : ((sendingAs { tracker := some 3 }).tap 0).tx = some { tracker := some 3 } ∧ (sendingAs { tracker := some 3 }).engineUp 0 = true
    ∧ assoc ((sendingAs { tracker := some 3 }).tap 0).trackers 3 = some { coll := 4, step := 7, lastAt := 5, frames := 2 }
    ∧ ((sendingAs { tracker := some 4, marked := true }).tap 0).tx = some { tracker := some 4, marked := true }
    ∧ assoc ((sendingAs { tracker := some 4, marked := true }).tap 0).trackers 4 = none
    ∧ assoc ((sendingAs { tracker := some 4 }).tap 0).trackers 4 = none := by decide
theorem wit_InboundVerdicts : (1 ≤ (5 + 65536 - 4) % 65536 ∧ (5 + 65536 - 4) % 65536 ≤ 32767) ∧ (40000 + 65536 - 7233) % 65536 = 32767
    ∧ 32768 ≤ (5 + 65536 - 6) % 65536 ∧ epochVerdict 40000 7233 = some .stale ∧ epochVerdict 40000 7232 = some .early
    ∧ fdEpoch (fdOf 5 1 1) = linkUp.job.epoch.toNat ∧ fdKind (fdOf 5 0 0) = 0 ∧ fdKind (fdOf 5 3 0) = 3 ∧ fdKind (fdOf 5 1 2) ≠ 2
    ∧ fdFlag (fdOf 5 1 2) = 2 ∧ fdFlag (fdOf 5 1 1) = 1 ∧ rd (zeros 10 ++ [2]) 10 1 = 2 ∧ rd (zeros 10 ++ [1, 0] ++ le 4 128) 12 4 = (zeros 128).length
    ∧ rd (zeros 10 ++ [1]) 10 1 ≠ fdFlag (fdOf 5 1 2) ∧ linkUp.rxVerdict 0 (fdOf 5 1 2) [] (zeros 10 ++ [2]) = .unmarked
    ∧ linkUp.rxVerdict 0 (fdOf 5 1 2) [] [] = .bad ∧ linkUp.rxVerdict 1 (fdOf 5 1 2) [] [] = .unmarked
    ∧ linkUp.tapPowered 1 = true ∧ linkUp.engineUp 1 = false ∧ linkUp.engineUp 0 = true := by decide
def aFrame : SvcFrame := { ver := 0x10, typ := 3, dst := 0xFFFFFFFF }
def hopFrame : SvcFrame := { aFrame with routeLen := 1, route := [2] }
def farFrame : SvcFrame := { aFrame with routeLen := 17, routeIdx := 16 }
theorem wit_ServiceFrames : ((linkUp.tap 0).notices = [] ∧ (linkUp.tap 0).queue = [] ∧ (linkUp.tap 0).linkUp = true)
    ∧ ((linkUp.modTap 0 (fun x => { x with queue := [aFrame] })).tap 0).notices ++ ((linkUp.modTap 0 (fun x => { x with queue := [aFrame] })).tap 0).queue
      = [aFrame] := by decide
theorem wit_ReceivedFrames : (parseFrame []).2 = false ∧ (parseFrame aFrame.bytes).2 = true
    ∧ (parseFrame aFrame.bytes).1.routeLen ≤ (parseFrame aFrame.bytes).1.routeIdx := by decide +kernel
theorem wit_ForwardedFrames : (parseFrame hopFrame.bytes).2 = true ∧ (parseFrame hopFrame.bytes).1.routeIdx < (parseFrame hopFrame.bytes).1.routeLen
    ∧ ((parseFrame hopFrame.bytes).1.route.getD 0 0xFF).toNat = 2 ∧ linkUp.engineUp 2 = true ∧ (linkUp.tap 2).linkUp = true
    ∧ linkUp.engineUp 1 = false := by decide +kernel
theorem wit_FarFrames : (parseFrame farFrame.bytes).2 = true ∧ (parseFrame farFrame.bytes).1.routeIdx < (parseFrame farFrame.bytes).1.routeLen
    ∧ 16 ≤ (parseFrame farFrame.bytes).1.routeIdx := by decide +kernel
theorem wit_LinksDown : linkUp.tapPowered 2 = true ∧ (linkUp.tap 2).linkUp = true
    ∧ ((linkUp.modTap 2 (fun x => { x with retrain := some 1 })).tap 2).retrain.isSome = true
    ∧ linkUp.tapPowered 1 = true ∧ (linkUp.tap 1).linkUp = false := by decide
def accessing : State := (linkUp.modTap 2 (fun x => { x with sr := [(0x10, some 1), (0x11, none)], srLate := true })).modMem 1 (fun m => { m with sr := [(0x12, none)] })
theorem wit_ServiceRegisters : accessing.srOf false 2 = (0x10, some 1) :: [(0x11, none)] ∧ accessing.srOf true 1 = [(0x12, none)] ∧ accessing.srOf true 2 = []
    ∧ accessing.srOf false 1 = [] ∧ (accessing.tap 2).srLate = true ∧ (accessing.mem 1).srLate = false := by decide
def sweeping (closed : Bool) : State :=
  { linkUp with earmarks := { linkUp.earmarks with
      sweeps := [{ target := 40, number := 6, closed := closed, firstAt := 500 }], exchanges := [{ target := 2, closedAt := 5, wait := 20 }]
      fleece := { regions := [{ tensor := 1, target := 40, segs := 4 }], closes := [{ target := 40, number := 5, sent := closed }] } } }
/-- A Drover with a batch for one target. -/
def batching : State := up.setField 3 { fieldOn with sweeps := [{ target := 40, lastAt := 700 }] }
theorem wit_Sweeps : (sweeping false).firmware = true ∧ (sweeping false).droverUp (Config.linkField 0) = true
    ∧ (sweeping false).earmarks.sweep 40 = some { target := 40, number := 6, firstAt := 500 } ∧ (sweeping false).earmarks.sweep 2 = none
    ∧ (sweeping false).earmarks.exchanges.find? (fun x => x.target == 2) = some { target := 2, closedAt := 5, wait := 20 }
    ∧ (sweeping false).earmarks.exchanges.find? (fun x => x.target == 40) = none
    ∧ (sweeping true).earmarks.sweep 40 = some { target := 40, number := 6, closed := true, firstAt := 500 }
    ∧ (sweeping false).earmarks.fleece.closes.find? (fun c => !c.sent) = some { target := 40, number := 5 }
    ∧ (∀ c ∈ (sweeping true).earmarks.fleece.closes, c.sent = true) ∧ batching.droverUp 3 = true
    ∧ (batching.field 3).sweeps.find? (fun b => b.target == 40) = some { target := 40, lastAt := 700 }
    ∧ (batching.field 3).sweeps.find? (fun b => b.target == 41) = none := by decide
/-- The bypass's trailer on a tap whose engine is out (R211). -/
theorem test_bypass : (after (.txFrameEnd 1 []) (linkUp.modTap 1 (fun x => { x with tx := some {} }))).map (·.out) = some [.trailer 1 (zeros 10 ++ [2] ++ zeros 53)] := by
  decide

/-! Memory taps. -/

/-- A machine with a row table of one due row and one not due on memory tap 0, and a repair and a retraining under way on tap 1. -/
def memOn : State :=
  ((upField (upField up (Config.memField 0)) (Config.memField 1)).modMem 0 (fun m => { m with rows := [{ loc := 5, due := true }, { loc := 6 }] })).modMem 1
    (fun m => { m with repair := some { loc := 9, started := 100 }, retrain := some 1 })
theorem wit_MemoryEvents : memOn.memUp 0 = true ∧ 0 < 4 ∧ 3 < 4 ∧ memOn.droverUp (Config.memField 0) = true ∧ memOn.firmware = true := by decide
theorem wit_RowTable : (memOn.mem 0).rows.length ≤ 256 ∧ ((memOn.mem 0).rows.map (·.loc)).Nodup ∧ ((memOn.mem 0).rows.any (fun r => r.loc == 5)) = true
    ∧ (List.replicate 256 ({} : Row)).length ≤ 256 := by decide
/-- A full table gives up the row with the oldest last event among those not due (R262). -/
def fullTable : List Row := (List.range 256).map (fun i => { loc := BitVec.ofNat 32 i, lastAt := 1000 - i, due := i == 255 })
theorem test_rowVictim : rowVictim fullTable = some 254 ∧ (enterRow fullTable 700 2000).length = 256
    ∧ (enterRow fullTable 700 2000).getLast? = some { loc := 700, lastAt := 2000 } := by decide +kernel
theorem wit_Repairs : memOn.firmware = true ∧ 0 < Config.memTaps ∧ (memOn.mem 1).repair = some { loc := 9, started := 100 } ∧ (memOn.mem 0).repair = none
    ∧ (2 ≤ 4 ∧ 4 ≤ 4) := by decide
theorem wit_Retrained : 1 < Config.memTaps ∧ (memOn.mem 1).retrain.isSome = true := by decide

/-! Power, clocks and heat. -/

theorem wit_RailTrips : 5 < Config.fields ∧ ((upField up 5).field 5).compPg = true ∧ ((upField up 5).field 5).infraPg = true := by decide
def hotField : Field := { fieldOn with pad := .off, padCause := 2, compPg := false, compEn := false, openings := [500] }
theorem wit_Heat : (15 < Config.sensors) ∧ ((up.setField 5 hotField).field 5).infraPg = true ∧ 920 ≤ (920 : Int) ∧ ((up.setField 5 hotField).field 5).pad ≠ .inService
    ∧ up.pins.therm = false ∧ ({ up with pins := { therm := true } } : State).pins.therm = true ∧ ((up.setField 5 hotField).field 5).returning = none
    ∧ ((up.setField 5 hotField).field 5).pad = .off ∧ ((up.setField 5 hotField).field 5).coolMet = false ∧ ((up.setField 5 hotField).field 5).coolSince = none
    ∧ ((up.setField 5 hotField).field 5).openings ≠ [] ∧ ((up.setField 5 hotField).field 5).padCause = 2 := by decide
theorem wit_ThermTrip : ((upField up 5).field 5).pad = .inService ∧ ((upField up 5).field 5).infraPg = true := by decide
def throttled (mhz : Nat) : State := up.setField 5 { fieldOn with divider := true, freq := mhz, below100Since := some 7 }
theorem wit_Throttle : 840 ≤ (840 : Int) ∧ ((upField upJob 5).field 5).divider = false ∧ (upField upJob 5).job.active = true ∧ ((throttled 800).field 5).divider = true
    ∧ ((throttled 800).field 5).throttleEnd = false ∧ ((throttled 800).field 5).below100Since = some 7 ∧ ((throttled 800).field 5).freq = 800
    ∧ ((throttled 1500).field 5).freq ≠ 800
    ∧ ((throttled 800).field 5).infraPg = true ∧ ((upField upJob 5).field 5).infraPg = true := by decide
def deadSensor : State := up.setField 5 { fieldOn with sensors := [(2, { inService := false })] }
theorem wit_Sensors : (deadSensor.field 5).infraPg = true ∧ ((deadSensor.field 5).sensor 2).inService = false ∧ ((deadSensor.field 5).sensor 3).inService = true
    ∧ (-321 : Int) < -320 ∧ 1200 < (1201 : Int) := by decide
/-- The median of the sensors, and a sensor that has not moved for 10 s while the others have. -/
theorem wit_SensorMedian : medianInt (((deadSensor.takeReading 5 3 480).field 5).liveSensors.map (·.reading)) = 480
    ∧ 64 < ((545 : Int) - 480).natAbs ∧ ((544 : Int) - 480).natAbs ≤ 64 ∧ 16 < ((480 : Int) - 463).natAbs := by decide
def paddocked (infra : Bool) : State :=
  upField (up.setField 4 { fieldOn with pad := .off, compEn := false, compPg := false, infraPg := infra, attemptDue := some 2000000 }) 5
theorem wit_PaddockReturn : (paddocked true).firmware = true ∧ ((paddocked true).field 4).pad = .off ∧ ((paddocked true).field 4).returning = none
    ∧ (paddocked true).job.active = false ∧ (paddocked true).job.starting = none ∧ (paddocked true).recovery.level1 = none
    ∧ ((paddocked true).fields.filter (fun p => p.2.returning.isSome)).length < 8 ∧ ((paddocked true).field 4).returnDue = some 2000000
    ∧ ((paddocked true).field 4).infraPg = true ∧ ((paddocked false).field 4).infraPg = false ∧ partner 4 = 5 ∧ ((paddocked false).field 5).infraPg = true := by
  decide
def slewingIf (raise : Bool) : State := up.setField 5 { fieldOn with slewing := true, target := 1400, freq := 1500, lowerDue := some 3000000, voutWait := true, volt := 800, raisePending := raise }
def slewing : State := slewingIf false
theorem wit_Slews : ((slewingIf true).field 5).raisePending = true ∧ ((slewingIf true).field 5).voutWait = true ∧ slewing.slewOpen 5 = true ∧ (slewing.field 5).lowerDue = some 3000000 ∧ (slewing.field 5).voutWait = true
    ∧ (785 ≤ (slewing.field 5).volt + 15 ∧ (slewing.field 5).volt ≤ 785 + 15) ∧ (815 ≤ (slewing.field 5).volt + 15) ∧ (slewing.field 5).raisePending = false
    ∧ (slewing.field 5).volt + 15 < 816 ∧ 784 + 15 < (slewing.field 5).volt := by decide
def stormy : State := up.setField 5 { fieldOn with storm := true, stormStart := 500, stretch := 8 }
theorem wit_Gusts : 63 < Config.gusts ∧ ((upField up 5).field 5).compPg = true ∧ ((upField up 5).field 5).deadDetectors.contains 63 = false
    ∧ 0 < ((up.setField 5 { fieldOn with stretch := 8 }).field 5).stretch ∧ ((up.setField 5 { fieldOn with stretch := 8 }).field 5).storm = false
    ∧ (stormy.field 5).storm = true ∧ 0 < (stormy.field 5).stretch := by decide
theorem wit_Sequencers : up.firmware = true ∧ off.firmware = false := by decide
theorem wit_Calibration : 4 / 5 ≤ ((upField up 5).field 5).calib ∧ ((upField up 5).field 5).calib ≤ 5 / 4 := by decide +kernel
def heldBus : State := { up with power := { segHeld := [(0, 2)], segLost := [1] } }
theorem wit_Telemetry : heldBus.firmware = true ∧ 0 < Config.rows ∧ heldBus.power.segLost.contains 0 = false ∧ 2 ≤ (assoc heldBus.power.segHeld 0).getD 0
    ∧ (assoc heldBus.power.segHeld 2).getD 0 < 2 ∧ heldBus.power.segLost.contains 1 = true := by decide
/-- A round that reads every rail of segment 0 once, one that a fault has stopped, and one that is not whole. -/
def roundOf (g : Nat) : List RailReading :=
  ((List.range Config.fields).filter (fun f => segmentOf f == g)).flatMap (fun f => [{ field := f, page := 0, milliVolt := 750, milliAmp := 9 }, { field := f, page := 1 }])
theorem wit_WholeRound : wholeRound 0 (roundOf 0) false = true ∧ wholeRound 0 [] true = true ∧ wholeRound 0 [] false = false := by decide

/-! The start and the scan. -/

def startTests (a b : ShcStatus) : State := { off with pwrGood := true, start := { phase := .selfTest }, pair := { a := { status := a }, b := { status := b } } }
theorem wit_Power : off.pwrGood = false ∧ up.pwrGood = true ∧ ({ up with start := { coldLow := true } } : State).start.coldLow = true ∧ up.start.coldLow = false := by
  decide
theorem wit_SelfTests : (startTests .off .off).life.scanOpen = false ∧ (startTests .off .off).pair.bothLost = false ∧ (startTests .off .off).start.phase = .selfTest
    ∧ ((startTests .off .off).pair.shc false).status = .off ∧ ((startTests .off .off).pair.shc true).status = .off
    ∧ (startTests .off .catchingUp).life.otpFault = none ∧ ((startTests .off .catchingUp).pair.shc true).status = .catchingUp
    ∧ ((startTests .off .outOfService).pair.shc true).status = .outOfService := by decide
/-- Both Shepherds lost, one of them under reset, after the start's self-tests and before their end. -/
def bothOut (p : StartPhase) : State :=
  { off with pwrGood := true, start := { phase := p }, pair := { a := { status := .outOfService }, b := { status := .resetting }, bothLost := true } }
theorem wit_LostSelfTests : (bothOut .selfTest).life.scanOpen = false ∧ (bothOut .selfTest).pair.bothLost = true ∧ ((bothOut .ready).pair.shc true).status = .resetting
    ∧ (bothOut .ready).pair.active = none ∧ (bothOut .ready).pair.active ≠ some (shcOf true) ∧ (bothOut .selfTest).start.phase = .selfTest
    ∧ (bothOut .ready).start.phase ≠ .selfTest := by decide
def waitingFw : State := { up with start := { phase := .firmware } }
def goodImage : FwImage := { sigOk := true, serial := 3 }
theorem wit_FirmwareLoads : waitingFw.start.fwRun = false ∧ waitingFw.activeShc.isSome = true ∧ waitingFw.start.phase = .firmware ∧ waitingFw.pair.bothLost = false
    ∧ badSlot (if waitingFw.fw.committed = 0 then some goodImage else none) waitingFw.fw.floor = none ∧ waitingFw.fw.committed ≤ 1
    ∧ badSlot (some { goodImage with sigOk := false }) waitingFw.fw.floor ≠ none ∧ badSlot none waitingFw.fw.floor ≠ none ∧ up.start.fwRun = true
    ∧ 1 = 1 - waitingFw.fw.committed ∧ badSlot (if (1 : Nat) = 0 then none else some goodImage) waitingFw.fw.floor = none
    ∧ badSlot (if waitingFw.fw.committed = 0 then none else some goodImage) waitingFw.fw.floor ≠ none := by decide
/-- A field that the start waits for, and the reset of one of its flocks. -/
def releasing (retried : List Nat) : State :=
  { up.setField 5 { compEn := true, infraEn := true, infraPg := true, drover := true } with
    start := { phase := .release, fwRun := true, pgWait := [5], waiting := [flockKey 5 32], retried := retried } }
theorem wit_Release : ((releasing []).field 5).compEn = true ∧ ((releasing []).field 5).compPg = false ∧ ((releasing []).field 5).returning = none
    ∧ (releasing []).recovery.level1 = none ∧ (releasing []).start.pgWait.contains 5 = true ∧ (releasing []).firmware = true
    ∧ (releasing []).start.waiting.contains (flockKey 5 32) = true ∧ (releasing []).start.retried.contains (flockKey 5 32) = false
    ∧ (releasing [flockKey 5 32]).start.retried.contains (flockKey 5 32) = true ∧ (releasing []).start.waiting.contains (flockKey 5 31) = false
    ∧ (((releasing []).modField 5 (fun fd => { fd with returning := some 2 })).field 5).returning.isSome = true := by decide
theorem wit_RailsRise : ((up.setField 5 { infraEn := true }).field 5).infraEn = true ∧ ((up.setField 5 { infraEn := true }).field 5).infraPg = false
    ∧ ((up.setField 5 { infraEn := true }).field 5).returning ≠ some 0 ∧ ((upField up 5).field 5).compPg = true := by decide
/-- A field in a return attempt whose compute rail, or whose infrastructure rail, is awaited, and one that level 1 waits for. -/
def attempting (n : Nat) (infra : Bool) : State :=
  up.setField 5 { compEn := true, infraEn := true, infraPg := !infra, drover := true, returning := some n }
def raising : State := { up.setField 5 { compEn := true, infraEn := true, infraPg := true, drover := true } with
  recovery := { hurdles := [], level1 := some { pgWait := [5] } } }
theorem wit_OtherRails : ((attempting 1 false).field 5).compEn = true ∧ ((attempting 1 false).field 5).compPg = false ∧ ((attempting 1 false).field 5).returning = some 1
    ∧ ((attempting 0 true).field 5).infraEn = true ∧ ((attempting 0 true).field 5).infraPg = false ∧ ((attempting 0 true).field 5).returning = some 0
    ∧ (raising.field 5).compEn = true ∧ (raising.field 5).compPg = false ∧ (raising.field 5).returning = none
    ∧ raising.recovery.level1 = some { pgWait := [5] } ∧ (raising.recovery.level1.map (·.pgWait)) = some [5] := by decide
def readyNext : State := { up with start := { phase := .release, fwRun := true, shipped := true }, tally := { scanned := true } }
theorem wit_Ready : readyNext.firmware = true ∧ readyNext.start.phase = .release ∧ readyNext.start.shipped = true ∧ readyNext.tally.scanned = true
    ∧ readyNext.start.ready = false ∧ readyNext.start.graceful = false ∧ readyNext.hif.startHeld = false
    ∧ (up.firmware && up.start.phase == .release && up.start.shipped && up.tally.scanned && !up.start.ready) = false := by decide
theorem wit_Scan : up.life.scanReq = none ∧ ({ up with life := { scanReq := some 5 } } : State).life.scanReq = some 5 ∧ up.life.scanOpen = false := by decide
/-- A power-up begins the self-tests and counts a power cycle (R33, R390). -/
theorem test_powerUp : (after (.pwrGoodRise none) off).map (fun t => (t.start.phase, t.tally.powerCycles, t.tbase)) = some (.selfTest, 1, 0) := by decide +kernel

/-! The Tally, the governor and the packs. -/

def tallyOn : State := { up with tally := { up.tally with scanned := true, waiting := [{ sequence := 5, cls := clsEV }], next := 6 } }
theorem wit_TallyCommits : tallyOn.pwrGood = true ∧ tallyOn.tally.scanned = true ∧ tallyOn.tally.reclaim = none
    ∧ tallyOn.tally.batch = some ([{ sequence := 5, cls := clsEV }], 0, 0) ∧ ({ up with tally := { scanned := true } } : State).tally.batch = none
    ∧ up.tally.scanned = false ∧ up.tally.pendingRead = []
    ∧ ({ up with tally := { reclaim := some { sector := 9 } } } : State).tally.reclaim = some { sector := 9 } := by decide
theorem wit_Epochs : (off.pwrGood && (off.firmware || !off.emulated)) = false ∧ up.pwrGood = true ∧ up.firmware = true
    ∧ ({ up with start := {} } : State).firmware = false ∧ ({ up with start := {} } : State).emulated = false ∧ ({ up with start := {} } : State).pwrGood = true
    ∧ gap.firmware = false ∧ gap.emulated = true := by decide
theorem wit_Seconds : up.firmware = true ∧ up.pwrGood = true ∧ off.firmware = false ∧ up.gov.bins.length ≤ 90112 := by decide
theorem wit_Bisection : (0 : Rat) ≤ 1 ∧ (fun x : Rat => decide (1 / 2 ≤ x)) 1 = true ∧ (1 : Rat) ≤ 1 ∧ (0 : Rat) ≤ 0 ∧ bisect (fun x : Rat => decide (1 / 2 ≤ x)) 3 0 1 = 1 / 2 := by
  decide +kernel
def exposed : State := { gov := { open_ := { exposure := 1 } } }
theorem wit_Bound : (({} : State).estimate []).gov.e0 + (({} : State).estimate []).gov.ct = 0
    ∧ (exposed.estimate []).gov.e0 + (exposed.estimate []).gov.ct ≠ 0 := by decide +kernel
def snapping : State := { up with trace := { snapMs := 10 } }
theorem wit_Snapshots : snapping.firmware = true ∧ snapping.trace.snapMs ≠ 0 ∧ up.trace.snapMs = 0 := by decide
def copyingPack : State := { up with screen := { slot1 := some { id := 7, key := 0, sigMaker := true }, copying := some 1 } }
theorem wit_Copies : up.screen.copying = none ∧ copyingPack.firmware = true ∧ copyingPack.screen.copying = some 1
    ∧ copyingPack.screen.slot 1 = some { id := 7, key := 0, sigMaker := true } ∧ copyingPack.packVerifies { id := 7, key := 0, sigMaker := true } = true
    ∧ copyingPack.packVerifies {} = false ∧ copyingPack.screen.floor ≤ 0 := ⟨by decide, by decide, by decide, rfl, rfl, rfl, by decide⟩
/-- A copy whose serial has fallen below the floor, and a copy of a pack that does not verify. -/
def oldCopy : State := { up with screen := { slot1 := some { id := 7, key := 0, sigMaker := true }, copying := some 1, floor := 5 } }
def badCopy : State := { up with screen := { slot1 := some {}, copying := some 1 } }
theorem wit_OldCopies : oldCopy.screen.slot 1 = some { id := 7, key := 0, sigMaker := true } ∧ oldCopy.packVerifies { id := 7, key := 0, sigMaker := true } = true
    ∧ 0 < oldCopy.screen.floor ∧ badCopy.screen.slot 1 = some {} ∧ badCopy.packVerifies {} = false := ⟨rfl, rfl, by decide, rfl, rfl⟩

/-! The reference clocks and the mesh. -/

/-- What a voter sees of a reference that is good, that has stopped, and that is 1 ppm too fast. -/
def ok1 : RefView := {}
def ko : RefView := { edges := 0 }
theorem wit_RefGood : refGood { edges := 1, ppm := -1000 } = true ∧ refGood { edges := 1, ppm := 1001 } = false ∧ refGood ko = false := by decide
theorem wit_Reference : off.pwrGood = false ∧ up.pwrGood = true ∧ (up.votersFind up.refclk.sel false [ok1, ok1, ko] []).length < 2
    ∧ 2 ≤ ((up.votersFind up.refclk.sel false [ko, ko, ok1] [ok1, ok1, ok1]).filter (fun v =>
        !((up.votersFind (1 - up.refclk.sel) false [ko, ko, ok1] [ok1, ok1, ok1]).contains v))).length
    ∧ (up.votersFind up.refclk.sel false [ko, ko, ko] [ko, ko, ok1]).length = 3
    ∧ 2 ≤ ((up.votersFind up.refclk.sel false [ko, ko, ko] [ko, ko, ok1]).filter (fun v =>
        (up.votersFind (1 - up.refclk.sel) false [ko, ko, ko] [ko, ko, ok1]).contains v)).length
    ∧ ((up.votersFind up.refclk.sel false [ko, ko, ok1] [ko, ok1, ok1]).filter (fun v =>
        (up.votersFind (1 - up.refclk.sel) false [ko, ko, ok1] [ko, ok1, ok1]).contains v)).length = 1
    ∧ up.refclk.holdSince = none ∧ ({ up with refclk := { holdSince := some 3 } } : State).refclk.holdSince.isSome = true
    ∧ ((up.setField 5 { fieldOn with relock := true }).field 5).relock = true ∧ (up.field 5).relock = false := by decide
/-- A dual message of one flit from the Drover of field 3 to SHC-A, its seventh, over plane 0. -/
def dualHead (n : Nat) : BitVec 128 := meshHead (shcUid false) (droverUid 3) 0 1 true n 0
def dualMsg : MeshMsg := { head := dualHead 7 }
def oneMsg : MeshMsg := { head := meshHead (shcUid false) (droverUid 3) 0 1 false 7 0 }
def meshed : State :=
  { up with mesh := { seen := [(droverUid 3, 7)], down := [(1, 5, 3)], detourDue := true, planeLost := [1], resend := [{ head := dualHead 9, plane := 1 }] } }
theorem wit_Messages : meshOk dualMsg = true ∧ meshOk oneMsg = true ∧ meshOk { oneMsg with flits := .uncorrectable 47 4 } = true
    ∧ meshOk { oneMsg with flits := .corrected 47 4 } = true ∧ meshOk { dualMsg with body := .counts 3 } = true ∧ meshOk {} = false
    ∧ dualMsg.dual = true ∧ oneMsg.dual = false ∧ meshed.undeliverable dualMsg = false
    ∧ meshed.mesh.seen.contains (dualMsg.src, dualMsg.sn) = true ∧ up.mesh.seen.contains (dualMsg.src, dualMsg.sn) = false ∧ up.undeliverable dualMsg = false
    ∧ meshed.firmware = true ∧ meshed.mesh.down.contains (1, 5, 3) = true ∧ meshed.mesh.down.contains (0, 5, 3) = false ∧ meshed.mesh.detourDue = true
    ∧ up.mesh.detourDue = false := by decide
/-- The first hop of the message is down, and no detour leads round it. -/
theorem wit_Undeliverable : ∃ h ∈ meshHops 0 3 (Config.shcField false), ({ up with mesh := { down := [(0, h.1, h.2)] } } : State).undeliverable dualMsg = true := by
  decide
def downOne : State :=
  ({ meshed.begun with mesh := { meshed.mesh with down := meshed.mesh.down ++ [(0, 5, 3)], detourDue := true } } : State).report 0x0203 (partUid 5 1) [3]
theorem wit_LinkDown : downOne.planeGone 0 = false ∧ downOne.mesh.planeLost.contains 0 = false := by decide +kernel
/-- With every router of the die out of plane 0 the plane has failed as a whole. -/
def noRouters : State := { up with fields := (List.range Config.fields).map (fun f => (f, { fieldOn with routers := false })) }
theorem wit_PlaneGone : noRouters.planeGone 0 = true := by decide +kernel
/-- The header of Table 1.7 bit by bit: destination, source, type, length less one, dual, sequence number and word. -/
theorem test_meshHead : meshHead 0xC0000001 0xA0030000 0x5A 3 true 0x1234 0xDEADBEEF = 0xC0000001A00300005A501234DEADBEEF
    ∧ (meshHead (shcUid true) (droverUid 9) 0x5A 8 false 0xFFFF 1).extractLsb' 48 4 = 0 := by decide
/-- A returned message whose plane is lost goes out on the other one (R28). -/
theorem test_detour : (after .detourTables meshed).map (fun t => (t.out.head?, t.mesh.resend)) = some (some (.mesh 0 (dualHead 9) []), []) := by decide

/-! Debug access. -/

def debugging (fuses : Nat) (owners : List (BitVec 384)) : State := { owned fuses owners with jtag := .instnet }
theorem wit_TestPort : (JtagIns.extest.drivesPins && !({ up with start := { coldLow := true } } : State).start.coldLow) = false ∧ JtagIns.extest.drivesPins = true
    ∧ up.start.coldLow = false ∧ up.pwrGood = true ∧ off.pwrGood = false ∧ off.start.coldLow = false ∧ (JtagIns.bypass.drivesPins && !up.start.coldLow) = false
    ∧ up.network = false ∧ (debugging 2 [5]).network = true ∧ (debugging 2 [5]).instrumentOpen .readOnly = false
    ∧ (debugging 1 [5]).instrumentOpen .readOnly = true ∧ Instrument.readOnly ≠ .authorisation
    ∧ Instrument.write ≠ .authorisation ∧ Instrument.write ≠ .readOnly ∧ ({ debugging 3 [5] with life := { fuses := 3, wrOpen := true } } : State).instrumentOpen .write = true := by decide
/-- An attempt with a whole block that fails no check verifies. -/
theorem verify_whole (s : State) (o : Option (List Byte)) (b : List Byte) (x : AuthFact) (allowed : Nat → Bool) (op q : Nat)
    (h1 : s.lockedOut = false) (h2 : o = some b) (h3 : s.authFails b x allowed op q = 0) : s.verify [(o, x, allowed)] op q = (s.newChallenge, true) := by
  simp [State.verify, h1, h2, h3]
theorem wit_OwnerDebug : (debugging 2 [5]).firmware = true ∧ (debugging 2 [5]).lcs = 2
    ∧ ∃ u, (debugging 2 [5]).begun.verify [(wholeBlock (authBytes 0 77 0 0), { keyHash := 5, digestOk := true, sigOk := true }, (debugging 2 [5]).begun.ownerAllowed)] 0 0
        = (u, true) :=
  ⟨by decide, by decide, _, verify_whole _ _ (authBytes 0 77 0 0) _ _ _ _ (by decide) rfl
    (authFails_none _ _ _ _ _ _ _ (by decide) rfl (by decide) (by decide) (by decide) (by decide) (by decide))⟩
theorem wit_MakerDebug : (debugging 3 [5]).lcs = 3 ∧ (debugging 3 [5]).life.wrOpen = false ∧ (debugging 3 [5]).life.scanReq = none
    ∧ (debugging 3 [5]).life.scanOpen = false
    ∧ ∃ u, (debugging 3 [5]).begun.verify [(wholeBlock (authBytes 1 77 0 0), { keyHash := Config.makerHash, digestOk := true, sigOk := true }, makerAllowed)] 0 0
        = (u, true) :=
  ⟨by decide, by decide, by decide, by decide, _, verify_whole _ _ (authBytes 1 77 0 0) _ _ _ _ (by decide) rfl
    (authFails_none _ _ _ _ _ _ _ (by decide) rfl (by decide) (by decide) (by decide) (by decide) (by decide))⟩
theorem wit_DebugRefused : (∃ u, (debugging 2 [5]).begun.verify [(wholeBlock [], {}, (debugging 2 [5]).begun.ownerAllowed)] 0 0 = (u, false))
    ∧ (∃ u, (debugging 3 [5]).begun.verify [(wholeBlock [], {}, makerAllowed)] 0 0 = (u, false))
    ∧ (debugging 0 []).lcs = 0 ∧ (debugging 1 [5]).lcs = 1
    ∧ ({ debugging 3 [5] with life := { fuses := 3, wrOpen := true } } : State).life.wrOpen = true := ⟨⟨_, rfl⟩, ⟨_, rfl⟩, by decide, by decide, rfl⟩

/-! The management target. -/

def target (dyn : Option Nat) : State := { up with i3c := { dyn := dyn } }
theorem wit_Target : (target none).i3cUp = true ∧ (target none).i3c.dyn = none ∧ (target (some 9)).i3c.dyn.isSome = true ∧ off.i3cUp = false
    ∧ (Instr.getpid ∈ [Instr.rstdaa, .getpid]) := by decide
theorem wit_TargetLengths : (69 ≤ 65535) ∧ (65535 ≤ 65535) ∧ (target (some 9)).i3cUp = true := by decide
theorem wit_Management : (target (some 9)).firmware = true ∧ ({ target (some 9) with start := {} } : State).firmware = false
    ∧ ({ target (some 9) with start := {} } : State).i3cUp = true ∧ 2 ≠ 0 ∧ 2 ≠ 1 ∧ 2 ≠ 0x7F ∧ ((target (some 9)).sensorReading 0x205).isSome = true
    ∧ (target (some 9)).sensorReading 0x2FF = none ∧ (target (some 9)).hif.st ≠ .hostLost
    ∧ ({ target (some 9) with hif := { up.hif with st := .hostLost } } : State).hif.st = .hostLost := by decide
/-- The lengths stay at 69 bytes at least (R85). -/
theorem test_setmwl : (after (.setmwl 68) (target (some 9))).map (fun t => t.i3c.mwl) = some 69 := by decide

/-! Firmware updates. -/

def updating (step : Nat) (st : ShcStatus) : State :=
  { up with pair := { up.pair with b := { status := st } }, fw := { slotB := some {}, staged := true, step := step, calmSince := some 0, s1 := .a } }
theorem wit_Deferred : ({ updating 0 .following with fw := { deferred := some 1, calmSince := some 5 } } : State).fw.deferred = some 1
    ∧ (updating 0 .following).emergency = 0 ∧ ((updating 0 .following).fw.deferJob && (updating 0 .following).job.active) = false
    ∧ (updating 0 .following).follower.isSome = true ∧ (updating 0 .following).fw.calmSince = some 0 ∧ (updating 0 .following).fw.deferred = none
    ∧ (updating 0 .following).firmware = true := by decide +kernel
theorem wit_UpdateSteps : (updating 1 .following).fw.step = 1 ∧ (updating 0 .following).fw.step ≠ 1 ∧ (updating 3 .following).fw.step = 3
    ∧ (updating 3 .following).follower = some (updating 3 .following).newShc ∧ (updating 3 .following).recovery.level1 = none
    ∧ ((updating 3 .catchingUp).pair.shc (updating 3 .catchingUp).newShc).status = .catchingUp ∧ (updating 0 .following).fw.step ≠ 3 := by decide

/-! The machine as a whole. -/

theorem wit_Stops : exec (.commandIssue 0 0 3 true) up = .fault (.undefinedByR2 48) := rfl
theorem wit_Queue : ({ up with pending := [.outputRelease] } : State).pending = .outputRelease :: []
    ∧ step { up with pending := [.outputRelease] } = .next (({ up with pending := [] } : State).ends ({ up with pending := [] } : State).outside) := ⟨rfl, rfl⟩
theorem wit_Canonical : up.canonical = true ∧ linkUp.canonical = true ∧ flockKey 3 4 ≠ flockKey 3 5 ∧ coreKey 3 4 5 ≠ coreKey 3 5 5 := by decide +kernel

/-! The statements of numbered rules. -/

theorem wit_Coverage : (0 : Rat) ≤ ({ cR := 1 / 2, cT := 1 } : GovFlock).cR ∧ ({ cR := 1 / 2, cT := 1 } : GovFlock).cR ≤ 1 ∧ (0 : Rat) ≤ ({ cR := 1 / 2, cT := 1 } : GovFlock).cT
    ∧ ({ cR := 1 / 2, cT := 1 } : GovFlock).cT ≤ 1 ∧ 1 ≤ 1 := by decide +kernel
theorem wit_RepairStatus : (memOn.mem 0).repair = none ∧ (memOn.mem 1).repair = some { loc := 9, started := 100 } ∧ 1 < Config.memTaps ∧ (2 ≤ 2 ∧ 2 ≤ 4) := by decide
def announcing : State :=
  ((upField upJob 3).modFlock 3 4 (fun fl => { fl with latched := some (5, 0) }))
theorem wit_Sampler : (announcing.flock 3 4).latched = some (5, 0) ∧ 5 < (announcing.flock 3 4).counters.length ∧ (31 < 64 ∧ 31 < 32) ∧ fspExists 3 4 = true
    ∧ announcing.job.active = true ∧ (((announcing.begun.breach 3 4 2 7).modFlock 3 4 (fun fl => fl.count 0)).flock 3 4).logical = some 4
    ∧ (((announcing.begun.breach 3 4 2 7).modFlock 3 4 (fun fl => fl.count 0)).flock 3 4).slotOf 2 = some 2 := by decide
/-- The sampler's worked example (R178): key 0x30007 and n 0x30007 with L = 1. -/
theorem test_sampler : samplerHash 0x30007 0x30007 0 0 1 = (0x5692161D, 0x100B05E5) := by decide +kernel

/-! An ill-formed command for each check of WellFormed, which the check refuses. -/

theorem smoke_fields : (wellFormed (.quietRise 48 0 true) || wellFormed (.rotationCheck 48) || wellFormed (.trackerCheck 48) || wellFormed (.railTrip 48 false)
    || wellFormed (.paddockReturn 48) || wellFormed (.pspPowerGood 48 true) || wellFormed (.takeover 48) || wellFormed (.meshLinkDown 0 48 0)
    || wellFormed (.sweepReport 48 0) || wellFormed (.crookSelftest 48 0 none)) = false := by decide
theorem smoke_flocksAndCores : (wellFormed (.quietRise 0 33 true) || wellFormed (.opAnnounce 0 0 17 0 true 0 true) || wellFormed (.guardGo 0 0 17)
    || wellFormed (.retestDeadline 0 33 0) || wellFormed (.resetStatus 0 33 true)) = false := by decide
theorem smoke_slotsAndCrooks : (wellFormed (.windowPlan 0 0 16 0) || wellFormed (.windowOpen 0 0 16 0) || wellFormed (.crookSelftest 0 4 none)) = false := by decide
theorem smoke_taps : (wellFormed (.mtpDrainDone 24) || wellFormed (.txFrameStart 32 0) || wellFormed (.serviceRegisterLate true 24)
    || wellFormed (.serviceRegisterLate false 32) || wellFormed (.linkRetrainFailed 32 0) || wellFormed (.memoryEvent 24 0 0 0)) = false := by decide
theorem smoke_window : (wellFormed (.windowWrite 0x101 4 0) || wellFormed (.windowWrite 0x100 2 0) || wellFormed (.windowWrite 4092 8 0)
    || wellFormed (.apertureWrite 65536 4 0) || wellFormed (.windowError 0x100 4 true)) = false := by decide
theorem smoke_descriptors : (wellFormed (.negotiate {}) || wellFormed (.jobEnd { ring := 64, bytes := zeros 64 }) || wellFormed (.doorbellPoll [])) = false := by decide
theorem smoke_fsp : (wellFormed (.mirrorBeat 0 0 4 false (zeros 64) none) || wellFormed (.mirrorBeat 0 0 0 false [] none) || wellFormed (.digestArrival 0 0 0 64 0 true)
    || wellFormed (.commandIssue 0 0 4 true) || wellFormed (.commandRetire 0 0 64 true) || wellFormed (.opAnnounce 0 0 0 0 true 8193 true)
    || wellFormed (.errorReport 0 0 { core := 32 }) || wellFormed (.errorReport 0 0 { lane := 16 })) = false := by decide
theorem smoke_uids : (wellFormed (.hurdleClosed (crookUid 3 1) none) || wellFormed (.resetLimit (engineUid 0)) || wellFormed (.partResetDone dieUid true)
    || wellFormed (.infrastructureError { uid := fieldUid 3 + 0x20000 })) = false := by decide
theorem smoke_ranges : (wellFormed (.moderationEnd 128) || wellFormed (.nmiOverrun false 4) || wellFormed (.trackerIdle 0 256) || wellFormed (.memoryEvent 0 4 0 0)
    || wellFormed (.rowRepair 0 5) || wellFormed (.hwThrottle 0 16 0) || wellFormed (.telemetryRound 8 [] none) || wellFormed (.vote 3 0 .swap)
    || wellFormed (.gustRise 0 64) || wellFormed (.sweepWait 64) || wellFormed (.entdaa 128) || wellFormed (.setmwl 65536) || wellFormed (.i3cCcc 256 true)
    || wellFormed (.mctpOtherMessage 128 true) || wellFormed (.getSensorReading 65536) || wellFormed (.meshLinkDown 2 0 0) || wellFormed (.meshMessage {}) || wellFormed (.writeResponse 128)) = false := by
  decide
theorem smoke_sound : (wellFormed (.quietRise 47 32 true) && wellFormed (.opAnnounce 47 32 16 0 true 8192 true) && wellFormed (.windowOpen 47 32 15 0)
    && wellFormed (.txFrameStart 31 0) && wellFormed (.windowWrite 4088 8 0) && wellFormed (.windowError 0x101 4 true)
    && wellFormed (.negotiate { ring := 63, bytes := zeros 64 })) = true := by decide

/-! The spec's worked examples. -/

/-- Two UIDs (worked example of the block chapter). -/
theorem test_uids : mkUid 1 28 5 16 0 3 = 0x2E0B0003 ∧ shcUid false = 0xC9800000 := by decide
/-- EM64 of the single byte 0x00 (worked example of the Earmark chapter), and CRC-32C of the digits 1 to 9. -/
theorem test_digests : em64 [0] = 0x9AFCE626CE85B5F8 ∧ le 8 (em64 [0]).toNat = [0xF8, 0xB5, 0x85, 0xCE, 0x26, 0xE6, 0xFC, 0x9A]
    ∧ crc32c [0x31, 0x32, 0x33, 0x34, 0x35, 0x36, 0x37, 0x38, 0x39] = 0xE3069283 := by decide +kernel
/-- The negotiation of the host interface chapter: HRP 3.2, GPK 2.2, EMF 1.1, TRF 1.1, SVF 1.1. -/
def negotiating : State :=
  { up with hif := { up.hif with neg := none }, fw := { running := some { sup := [0x30, 0x32, 0x20, 0x24, 0x10, 0x12, 0x10, 0x11, 0x10, 0x13] } } }
def negotiation : Desc := desc 0x01 [0x31, 0x34, 0x20, 0x22, 0x10, 0x11, 0x10, 0x13, 0x11, 0x11]
theorem test_negotiation : (after (.negotiate negotiation) negotiating).map (fun t => t.hif.neg) = some (some [0x32, 0x22, 0x11, 0x11, 0x11]) := by decide +kernel
/-- The fit of a pattern of 9,500 cycles at nominal and at guard (worked example of the screen-content chapter). -/
theorem test_needs : needOf 9500 0 0 = 9597 ∧ durOf 9500 1 = 8942 ∧ needOf 9500 1 0 = 9055 := by decide
/-- The identification registers of RI-48 (Table of the register chapter). -/
theorem test_params : param0 = 0x11218630 ∧ param1 = 0x18200409 ∧ param2Fixed + param2 = 0xED044010 ∧ place = 0x000000221D0A1C13 := by decide
/-- The latch as the register chapter's example reads it: at t0 + 5 ms and at t0 + 35 ms. -/
theorem test_latchReads : ({ valid := true, feMerged := true, fence := true, cls := 1, code := 0x1002 } : Ferr).ctl = 0x10020115
    ∧ ({ valid := true, overflow := true, feMerged := true, cls := 1, code := 0x1002 } : Ferr).ctl = 0x10020107 := by decide
/-- A BF16 chunk with a halfway sum: products 2^24, 1 and six more, cut to the window, round to 0x4B80_0000 (R162). -/
def chunkA : List Byte := [0x80, 0x45, 0x80, 0x3F, 0x80, 0x35, 0x40, 0x36, 0x90, 0x36, 0x80, 0xB6, 0x00, 0x3F, 0x80, 0x3E]
def chunkB : List Byte := [0x80, 0x45, 0x80, 0x3F, 0x80, 0x35, 0x80, 0x36, 0x00, 0x37, 0x00, 0x37, 0x00, 0xBF, 0x80, 0x3F]
def chunkDesc : CraDesc := { op := 1, fa := 1, fb := 1, fo := 0, sr := false, ovNan := false, hasC := true, m := 1, n := 1, k := 8, seed := 0, inst := 0, epoch := 0 }
theorem test_chunk : craOutput chunkDesc chunkA chunkB [0x00, 0x00, 0x00, 0x40] = le 4 0x4B800001
    ∧ craOutput { chunkDesc with hasC := false } chunkA chunkB [] = le 4 0x4B800000 := by decide +kernel
/-- The MXFP4 block: in range, far below, beyond the range, and with a NaN scale. -/
def mxA (s : Byte) : List Byte := [0x67, 0x3D, 0x41, 0x2F, 0x11, 0x11, 0x11, 0x11] ++ zeros 8 ++ [s]
def mxB (s : Byte) : List Byte := [0x32, 0xE4, 0x17, 0x51, 0x99, 0x99, 0x99, 0x99] ++ zeros 8 ++ [s]
def mxDesc : CraDesc := { op := 1, fa := 9, fb := 9, fo := 1, sr := false, ovNan := false, hasC := true, m := 1, n := 1, k := 32, seed := 0, inst := 0, epoch := 0 }
def mxOut (x y : Byte) : List Byte := craOutput mxDesc (mxA x) (mxB y) [0x00, 0x00, 0x40, 0x3F]
theorem test_mxBlock : mxOut 0x84 0x79 = le 2 0x3FE0 ∧ mxOut 0x01 0x10 = le 2 0x3F40 ∧ mxOut 0xFE 0x80 = le 2 0x7FC0 ∧ mxOut 0xFF 0x79 = le 2 0x7FC0 := by
  decide +kernel
/-- A stochastic rounding: element 5, value 0x3F81_9000, gives 0x3F81, where round-to-nearest would give 0x3F82 (R173). -/
def srDesc (sr : Bool) : CraDesc :=
  { op := 1, fa := 0, fb := 0, fo := 1, sr := sr, ovNan := false, hasC := false, m := 2, n := 4, k := 1, seed := 0x300004, inst := 3, epoch := 0 }
theorem test_stochastic : srWord 0x300004 3 5 = 0x5692 ∧ stage2 (srDesc true) (.flt (decodeElem (fmtD 0) 0x3F819000)) 5 = 0x3F81
    ∧ stage2 (srDesc false) (.flt (decodeElem (fmtD 0) 0x3F819000)) 5 = 0x3F82 := by decide +kernel

/-! Witness of the latch's invariant: an FE held, its field's hurdle closed. -/

def latched9 : State :=
  { up with
      ferr := { valid := true, fence := true, fences := [fieldUid 9] }
      recovery := { hurdles := [{ dom := fieldUid 9 }] } }
theorem wit_HandlingFlags : latched9.latchLive = true ∧ latched9.ferr.fence = true ∧ handling.latchLive = false := by decide
theorem wit_HandlingFlags_step : ∃ t, step latched9 = .next t := ⟨_, rfl⟩
theorem wit_HandlingFlags_exec : ∃ t, exec .ferrOverflowClear handling = .next t := ⟨_, rfl⟩

end Sys2Proof.Tests
end

section
/-!
Integer reductions of the reference arithmetic (R166): every partial sum is clamped, so it stays in the symmetric range.
-/
namespace Sys2Proof.Machine

/-- The symmetric range of an INT32 value that R166's clamp leaves: all codes but the most negative. -/
def InInt31 (v : Int) : Prop := -(2 ^ 31 - 1) ≤ v ∧ v ≤ 2 ^ 31 - 1

theorem inInt31_zero : InInt31 0 := by simp [InInt31]

theorem inInt31_clamp31 (v : Int) : InInt31 (clamp31 v) :=
  ⟨le_max_left _ _, max_le (by decide) (min_le_left _ _)⟩

/-- A sum clamped after every addition stays in range from a start in range, whatever its terms are. -/
theorem inInt31_foldl_clamp31 (ts : List Int) {start : Int} (h : InInt31 start) :
    InInt31 (ts.foldl (fun acc t => clamp31 (acc + t)) start) := by
  induction ts generalizing start with
  | nil => exact h
  | cons t ts ih => exact ih (inInt31_clamp31 (start + t))

/-- The value that an integer reduction starts at. -/
def reduceStart (d : CraDesc) (c : List Byte) (i j : Nat) : Int :=
  if d.hasC then clamp31 (fromTwos 32 (elemBits c 32 (i * d.n + j))) else 0

/-- The term that index `k` of an integer reduction adds: the exact product, or the A element of a sum-reduction. -/
def reduceTerm (d : CraDesc) (a b : List Byte) (i j k : Nat) : Int :=
  (operand a d.fa (d.m * d.k) (i * d.k + k) 0).1.int
    * (if d.op = 7 then 1 else (operand b d.fb (d.k * d.n) (k * d.n + j) 0).1.int)

theorem inInt31_reduceStart (d : CraDesc) (c : List Byte) (i j : Nat) : InInt31 (reduceStart d c i j) := by
  unfold reduceStart
  split
  · exact inInt31_clamp31 _
  · exact inInt31_zero

theorem reduceInt_eq_foldl (d : CraDesc) (a b c : List Byte) (i j : Nat) :
    reduceInt d a b c i j =
      ((List.range d.k).map (reduceTerm d a b i j)).foldl (fun acc t => clamp31 (acc + t)) (reduceStart d c i j) := by
  rw [List.foldl_map]
  rfl

theorem inInt31_reduceInt (d : CraDesc) (a b c : List Byte) (i j : Nat) : InInt31 (reduceInt d a b c i j) := by
  rw [reduceInt_eq_foldl]
  exact inInt31_foldl_clamp31 _ (inInt31_reduceStart d c i j)

/-- Settles O32: the reduction is the clamped sum of its terms in ascending K (R166), and the range is kept at every
addition. -/
theorem integerSumsAreClampedInOrder : Obligations.IntegerSumsAreClampedInOrder := by
  unfold Obligations.IntegerSumsAreClampedInOrder
  intro d a b c i j
  exact ⟨reduceInt_eq_foldl d a b c i j, inInt31_reduceInt d a b c i j⟩

end Sys2Proof.Machine
end

section
/-!
The replay sampler (R178): its hash words, what a selection counts, and the logical slot that an announce selects under.
-/
namespace Sys2Proof.Machine

/-! Counters of a flock. -/

theorem modifyAt_eq_modify {α : Type} (l : List α) (i : Nat) (g : α → α) : modifyAt l i g = l.modify i g := by
  induction l generalizing i with
  | nil => cases i <;> rfl
  | cons a t ih =>
    cases i with
    | zero => rfl
    | succ j => simp [modifyAt, ih]

@[simp] theorem length_bump (l : List Nat) (i n : Nat) : (bump l i n).length = l.length := by
  simp [bump, modifyAt_eq_modify]

/-- Of the counters that a list holds, raising one changes that one alone. -/
theorem getD_bump (l : List Nat) (i n : Nat) {j : Nat} (hj : j < l.length) :
    (bump l i n).getD j 0 = l.getD j 0 + if i = j then n else 0 := by
  simp only [bump, modifyAt_eq_modify, List.getD_eq_getElem?_getD, List.getElem?_modify, List.getElem?_eq_getElem hj]
  split <;> simp

/-- Raise checking counter `i` of a flock when `b` holds. -/
def Flock.countIf (fl : Flock) (b : Bool) (i : Nat) : Flock := if b then fl.count i else fl

@[simp] theorem Flock.length_countIf (fl : Flock) (b : Bool) (i : Nat) :
    (fl.countIf b i).counters.length = fl.counters.length := by
  cases b
  · rfl
  · exact length_bump ..

theorem Flock.getD_countIf (fl : Flock) (b : Bool) (i : Nat) {j : Nat} (hj : j < fl.counters.length) :
    (fl.countIf b i).counters.getD j 0 = fl.counters.getD j 0 + if b = true ∧ i = j then 1 else 0 := by
  cases b
  · simp [Flock.countIf]
  · simp only [true_and]
    exact getD_bump fl.counters i 1 hj

/-! The hash words (R178). -/

/-- The three fields of L do not overlap, so that joining them is adding them. -/
theorem sampler_place_eq (f l j : Nat) (hl : l < 64) (hj : j < 32) :
    (f <<< 11) ||| (l <<< 5) ||| j = f * 2 ^ 11 + l * 2 ^ 5 + j := by
  have hlow : l <<< 5 ||| j = l <<< 5 + j := (Nat.shiftLeft_add_eq_or_of_lt (i := 5) hj l).symm
  have hbound : l <<< 5 + j < 2 ^ 11 := by rw [Nat.shiftLeft_eq]; omega
  rw [Nat.or_assoc, hlow, ← Nat.shiftLeft_add_eq_or_of_lt hbound, Nat.shiftLeft_eq, Nat.shiftLeft_eq, Nat.add_assoc]

theorem samplerHash_eq_halves (key : BitVec 64) (n : BitVec 48) (f l j : Nat) (hl : l < 64) (hj : j < 32) :
    samplerHash key n f l j =
      (mix64 (mix64 (key.toNat ^^^ n.toNat) ^^^ ((f <<< 11) ||| (l <<< 5) ||| j)) >>> 32,
        mix64 (mix64 (key.toNat ^^^ n.toNat) ^^^ ((f <<< 11) ||| (l <<< 5) ||| j)) % 2 ^ 32) := by
  rw [sampler_place_eq f l j hl hj, Nat.shiftRight_eq_div_pow]
  rfl

/-! What a selection counts (R178, R199). -/

@[simp] theorem State.answer_flock (s : State) (f k : Nat) (mir twin : Bool) (tag core g j : Nat) :
    (s.answer f k mir twin tag core).flock g j = s.flock g j := rfl

@[simp] theorem State.useForced_counters (s : State) (f k slot : Nat) :
    ((s.useForced f k slot).flock f k).counters = (s.flock f k).counters := by
  rw [State.useForced, State.modFlock_self]
  split <;> rfl

/-- Changing watch points changes no flock. -/
theorem State.forEach_modWatch_flock (s : State) (keys : List Nat) (hit : State → Nat → Bool) (g : Watch → Watch) (f k : Nat) :
    (s.forEach keys (fun s i => if hit s i then s.modWatch i g else s)).flock f k = s.flock f k :=
  State.forEach_frame s (fun t => t.flock f k) keys _ (fun t i => by split <;> rfl)

/-- A selection raises the counters of its flock one after another: wanted replays and wanted twins as the hash words say,
and five others that also depend on capacity and on forcing. -/
theorem State.select_counters (s : State) (f k c l slot : Nat) (n : BitVec 48) (beats pr pt : Nat)
    (h : (s.flock f k).latched = some (pr, pt)) :
    ∃ noCrook forcedIn noTwin spareTwin giftTwin : Bool,
      ((s.select f k c l slot n beats).flock f k).counters =
        ((((((((s.flock f k).countIf (decide ((samplerHash s.job.key n f l slot).1 < pr)) 1).countIf noCrook 2).countIf
          forcedIn 3).countIf (decide ((samplerHash s.job.key n f l slot).2 < pt)) 4).countIf noTwin 5).countIf
          spareTwin 6).countIf giftTwin 7).counters := by
  generalize hx : s.select f k c l slot n beats = x
  unfold State.select at hx
  extract_lets fl forced watched tag add t at hx
  -- The counters only compare the hash words, so what the words are made of stays out of the proof.
  generalize samplerHash s.job.key n f l slot = words at hx ⊢
  obtain ⟨hr, ht⟩ := words
  simp -zeta only [fl, h, Option.getD_some] at hx
  extract_lets wantR wantT crook twin spare counted used withheld step st tagged mirrored twinned at hx
  clear_value crook twin
  have hused : (used.flock f k).counters = (counted.flock f k).counters := State.useForced_counters ..
  have hwithheld : withheld.flock f k = used.flock f k := by
    unfold withheld
    split
    · exact State.forEach_modWatch_flock ..
    · rfl
  have htagged : (tagged.flock f k).counters = (withheld.flock f k).counters := by
    unfold tagged
    rw [State.modFlock_self]
  have hmirrored : mirrored.flock f k = tagged.flock f k := by unfold mirrored; split <;> rfl
  have htwinned : twinned.flock f k = mirrored.flock f k := by unfold twinned; split <;> rfl
  have hcounted : (x.flock f k).counters = (counted.flock f k).counters := by
    subst hx
    split
    · rw [State.answer_flock, hwithheld, hused]
    · rw [State.answer_flock, htwinned, hmirrored, htagged, hwithheld, hused]
  refine ⟨wantR && crook.isNone, forced && crook.isSome, wantT && twin.isNone, spare, twin.isSome && !spare, ?_⟩
  rw [hcounted]
  unfold counted
  rw [State.modFlock_self]
  rfl

/-- A selection counts a wanted replay by the first hash word and a wanted twin by the second, each alone. -/
theorem State.select_counts_wanted (s : State) (f k c l slot : Nat) (n : BitVec 48) (beats pr pt : Nat)
    (h : (s.flock f k).latched = some (pr, pt)) (hlen : 5 < (s.flock f k).counters.length) :
    ((s.select f k c l slot n beats).flock f k).counters.getD 1 0
        = (s.flock f k).counters.getD 1 0 + (if (samplerHash s.job.key n f l slot).1 < pr then 1 else 0)
    ∧ ((s.select f k c l slot n beats).flock f k).counters.getD 4 0
        = (s.flock f k).counters.getD 4 0 + (if (samplerHash s.job.key n f l slot).2 < pt then 1 else 0) := by
  obtain ⟨noCrook, forcedIn, noTwin, spareTwin, giftTwin, hcounters⟩ := s.select_counters f k c l slot n beats pr pt h
  have h1 : 1 < (s.flock f k).counters.length := by omega
  have h4 : 4 < (s.flock f k).counters.length := by omega
  rw [hcounters]
  constructor <;> simp [Flock.getD_countIf, h1, h4, -List.getD_eq_getElem?_getD]

/-! The slot that an announce selects under (R19, R178). -/

/-- A replayable operation of good parity, of a core that serves a slot of a serving flock under the current map, goes to the
selection of that flock and slot. -/
theorem exec_opAnnounce_selects (s u : State) (f k c l j beats : Nat) (n : BitVec 48) (hfsp : fspExists f k = true)
    (hjob : s.job.active = true) (hu : u = (s.begun.breach f k c n).modFlock f k (fun fl => fl.count 0))
    (hl : (u.flock f k).logical = some l) (hj : (u.flock f k).slotOf c = some j) :
    exec (.opAnnounce f k c n true beats true) s = .next (s.ends (u.select f k c l j n beats)) := by
  have hann : s.begun.announce f k c n true beats = u.select f k c l j n beats := by
    simp [State.announce, hjob, ← hu, hl, hj]
  calc exec (.opAnnounce f k c n true beats true) s
      = execOpAnnounce f k c n true beats true s := rfl
    _ = .next (s.ends (s.begun.announce f k c n true beats)) := actIf_pos s _ _ hfsp
    _ = .next (s.ends (u.select f k c l j n beats)) := by rw [hann]

/-- Settles O31: the hash words by their definition, the wanted counts by what a selection counts, and the slot by the map that
the announce reads (R178). -/
theorem samplerFollowsKeyInstanceAndSlot : Obligations.SamplerFollowsKeyInstanceAndSlot := by
  unfold Obligations.SamplerFollowsKeyInstanceAndSlot
  refine ⟨samplerHash_eq_halves, ?_, exec_opAnnounce_selects⟩
  intro s f k c l j beats pr pt n hlatched hlen
  exact s.select_counts_wanted f k c l j n beats pr pt hlatched hlen

end Sys2Proof.Machine
end

section
/-!
The checking coverage of the governor (R226): the unchecked share of a flock, its powers, and their bounds.
-/
namespace Sys2Proof.Machine

/-- The fractions of a flock that the checking counters give are fractions of a whole (R225). -/
def GovFlock.Fractions (g : GovFlock) : Prop := g.cR ∈ Set.Icc 0 1 ∧ g.cT ∈ Set.Icc 0 1

theorem GovFlock.fractions_half_full : ({ cR := 1 / 2, cT := 1 } : GovFlock).Fractions := by
  norm_num [GovFlock.Fractions]

/-- An operation stays unchecked when it is neither replayed nor twinned (R225). -/
theorem GovFlock.one_sub_check (g : GovFlock) : 1 - g.check = (1 - g.cR) * (1 - g.cT) := sub_sub_cancel 1 _

@[simp] theorem GovFlock.cX_one (g : GovFlock) : g.cX 1 = g.check := by
  rw [GovFlock.cX, pow_one, sub_sub_cancel]

theorem GovFlock.Fractions.one_sub_check_mem {g : GovFlock} (h : g.Fractions) : 1 - g.check ∈ Set.Icc (0 : Rat) 1 := by
  obtain ⟨hR, hT⟩ := h
  obtain ⟨hR0, hR1⟩ := Set.Icc.one_sub_mem hR
  obtain ⟨hT0, hT1⟩ := Set.Icc.one_sub_mem hT
  rw [g.one_sub_check]
  exact ⟨mul_nonneg hR0 hT0, mul_le_one₀ hR1 hT0 hT1⟩

/-- A power of the unchecked share is a share again, and so is what it leaves covered. -/
theorem GovFlock.Fractions.cX_mem {g : GovFlock} (h : g.Fractions) (k : Nat) : g.cX k ∈ Set.Icc (0 : Rat) 1 := by
  obtain ⟨h0, h1⟩ := h.one_sub_check_mem
  exact Set.Icc.one_sub_mem ⟨pow_nonneg h0 k, pow_le_one₀ h0 h1⟩

/-- Each further independently sampled operation can only lower the chance that an event escapes every check. -/
theorem GovFlock.Fractions.cX_monotone {g : GovFlock} (h : g.Fractions) : Monotone g.cX := by
  intro k l hkl
  obtain ⟨h0, h1⟩ := h.one_sub_check_mem
  exact sub_le_sub_left (pow_le_pow_of_le_one h0 h1 hkl) 1

/-- Settles O57: the coverage by its definition, its range and its growth by the powers of the unchecked share (R226). -/
theorem checkingCoverageGrowsWithMultiplicity : Obligations.CheckingCoverageGrowsWithMultiplicity := by
  unfold Obligations.CheckingCoverageGrowsWithMultiplicity
  intro g k
  refine ⟨rfl, g.cX_one, ?_⟩
  intro hR0 hR1 hT0 hT1
  have hg : g.Fractions := ⟨⟨hR0, hR1⟩, ⟨hT0, hT1⟩⟩
  obtain ⟨hnonneg, hle⟩ := hg.cX_mem k
  exact ⟨hnonneg, hle, fun hk => hg.cX_monotone hk⟩

end Sys2Proof.Machine
end

section
/-!
The end of a row repair (R265): what it leaves at the memory tap, in the fold list and in the fields, and the event it records.
-/
namespace Sys2Proof.Machine

/-! The stages of a repair's end. `repairEnded_of_some` puts them together. -/

/-- The tap's repair is over, and its row waits for no repair after a start (R263). -/
def Repair.over (r : Repair) (m : MemTap) : MemTap := { m with repair := none, redoRows := without m.redoRows r.loc }

/-- The repaired row leaves the row table; a soft repair awaits its hard one, which ends that wait (R262, R263). -/
def Repair.mended (r : Repair) (m : MemTap) : MemTap :=
  { m with
    rows := m.rows.filter (fun q => q.loc ≠ r.loc)
    softRows := if r.hard then without m.softRows r.loc else insertNew m.softRows r.loc }

/-- A row that the fold list does not hold yet counts among the rows repaired (Table 10.8). -/
def State.countRepaired (s : State) (t : Nat) (r : Repair) : State :=
  if (s.folds.entries ++ s.folds.waiting).any (fun e => decide (10 ≤ e.kind) && e.uid == memUid t && e.row == r.loc) then s
  else s.modField (Config.memField t) (fun fd => { fd with rowsRepaired := fd.rowsRepaired + 1 })

/-- A shut-down keeps the rows whose hard repair has failed, and does not try them again (R263). -/
def State.keepTried (s : State) (t : Nat) (r : Repair) : State :=
  match s.life.shut with
  | some d => if r.hard then { s with life := { s.life with shut := some { d with tried := d.tried ++ [(t, r.loc)] } } } else s
  | none => s

/-- Payload of event 0x2020 (Table 10.11): the row, the kind of repair and the status. -/
def Repair.payload (r : Repair) (status : Nat) : List Byte :=
  le 4 r.loc.toNat ++ [if r.hard then 2 else 1, BitVec.ofNat 8 status]

/-- The state in which the end of a repair is recorded. -/
def State.repairTaken (s : State) (t : Nat) (r : Repair) (status : Nat) : State :=
  if status = 2 then
    (((s.modMem t r.over).modMem t r.mended).countRepaired t r).foldEntry (if r.hard then 11 else 10) 0 0xFF 0 (memUid t) r.loc
  else (s.modMem t r.over).keepTried t r

/-! What each stage leaves unchanged, and the entry that the fold list gains (R258). -/

@[simp] theorem State.foldEntry_mem (s : State) (kind state slot value : Nat) (u : Uid) (row : BitVec 32) (t : Nat) :
    (s.foldEntry kind state slot value u row).mem t = s.mem t := rfl

theorem State.foldEntry_appends (s : State) (kind state slot value : Nat) (u : Uid) (row : BitVec 32) :
    ∃ e : FoldEntry, (s.foldEntry kind state slot value u row).folds.waiting = s.folds.waiting ++ [e]
      ∧ e.kind = kind ∧ e.uid = u ∧ e.row = row :=
  ⟨_, rfl, rfl, rfl, rfl⟩

@[simp] theorem State.countRepaired_mem (s : State) (t : Nat) (r : Repair) (x : Nat) : (s.countRepaired t r).mem x = s.mem x := by
  unfold State.countRepaired; split <;> rfl

@[simp] theorem State.countRepaired_folds (s : State) (t : Nat) (r : Repair) : (s.countRepaired t r).folds = s.folds := by
  unfold State.countRepaired; split <;> rfl

/-- Keeping a failed row changes the shut-down alone. -/
theorem State.keepTried_frame {γ : Type} (p : State → γ) (hp : ∀ (s : State) (l : Life), p { s with life := l } = p s)
    (s : State) (t : Nat) (r : Repair) : p (s.keepTried t r) = p s := by
  unfold State.keepTried
  split
  · split
    · exact hp ..
    · rfl
  · rfl

/-! What `repairEnded` does, by the repair under way and the status (R265). -/

theorem State.repairEnded_of_none (s : State) (t status : Nat) (h : (s.mem t).repair = none) : s.repairEnded t status = s := by
  unfold State.repairEnded
  rw [h]

/-- Every outcome of a repair records event 0x2020 on what the outcome leaves. -/
theorem State.repairEnded_of_some (s : State) (t status : Nat) {r : Repair} (h : (s.mem t).repair = some r) :
    s.repairEnded t status = (s.repairTaken t r status).note 0x2020 (memUid t) (r.payload status) := by
  unfold State.repairEnded
  rw [h]
  rfl

theorem State.repairTaken_done_mem (s : State) (t : Nat) (r : Repair) :
    (s.repairTaken t r 2).mem t = r.mended (r.over (s.mem t)) := by
  simp [State.repairTaken]

theorem State.repairTaken_done_appends (s : State) (t : Nat) (r : Repair) :
    ∃ e : FoldEntry, (s.repairTaken t r 2).folds.waiting = s.folds.waiting ++ [e]
      ∧ e.kind = (if r.hard then 11 else 10) ∧ e.uid = memUid t ∧ e.row = r.loc := by
  have happ := State.foldEntry_appends (((s.modMem t r.over).modMem t r.mended).countRepaired t r)
    (if r.hard then 11 else 10) 0 0xFF 0 (memUid t) r.loc
  rwa [State.countRepaired_folds] at happ

/-- A repair that has not succeeded ends at the tap, and touches neither the fold list nor a field. -/
theorem State.repairTaken_failed (s : State) (t : Nat) (r : Repair) {status : Nat} (hst : status ≠ 2) :
    (s.repairTaken t r status).mem t = r.over (s.mem t)
      ∧ (s.repairTaken t r status).folds = s.folds ∧ (s.repairTaken t r status).fields = s.fields := by
  rw [State.repairTaken, if_neg hst]
  refine ⟨?_, ?_, ?_⟩
  · rw [State.keepTried_frame (fun s => s.mem t) (fun _ _ => rfl), State.modMem_self]
  · exact State.keepTried_frame (fun s => s.folds) (fun _ _ => rfl) ..
  · exact State.keepTried_frame (fun s => s.fields) (fun _ _ => rfl) ..

/-- Whatever its outcome, a repair is over at its tap, and the stack stays in service. -/
theorem State.repairTaken_over (s : State) (t : Nat) (r : Repair) (status : Nat) :
    ((s.repairTaken t r status).mem t).repair = none ∧ ((s.repairTaken t r status).mem t).inService = (s.mem t).inService := by
  by_cases hst : status = 2
  · subst hst
    rw [State.repairTaken_done_mem]
    exact ⟨rfl, rfl⟩
  · obtain ⟨hmem, -, -⟩ := s.repairTaken_failed t r hst
    rw [hmem]
    exact ⟨rfl, rfl⟩

/-! The command (R265). -/

theorem exec_rowRepair (s : State) (t st : Nat) (hfw : s.firmware = true) (ht : t < Config.memTaps) (h2 : 2 ≤ st) (h4 : st ≤ 4) :
    exec (.rowRepair t st) s = .next (s.ends (s.begun.repairEnded t st)) :=
  calc exec (.rowRepair t st) s
      = execRowRepair t st s := rfl
    _ = .next (s.ends (s.begun.repairEnded t st)) := actIf_pos s _ _ (by simp [hfw, ht, h2, h4])

/-- Settles O50: every outcome is recorded on the state in which the repair is taken, and the status decides what that state holds. -/
theorem rowRepairStatusDecides : Obligations.RowRepairStatusDecides := by
  unfold Obligations.RowRepairStatusDecides
  intro t st s hfw ht h2 h4
  rw [exec_rowRepair s t st hfw ht h2 h4]
  constructor
  · intro hnone
    rw [s.begun.repairEnded_of_none t st hnone]
  · intro r hr
    obtain ⟨hover, hservice⟩ := s.begun.repairTaken_over t r st
    refine ⟨s.begun.repairTaken t r st, ?_, hover, hservice, ?_, ?_⟩
    · rw [s.begun.repairEnded_of_some t st hr]
      rfl
    · rintro rfl
      exact s.begun.repairTaken_done_appends t r
    · intro hst
      obtain ⟨hmem, hfolds, hfields⟩ := s.begun.repairTaken_failed t r hst
      rw [hmem]
      exact ⟨hfolds, rfl, rfl, hfields⟩

end Sys2Proof.Machine
end

section
/-!
Authorities and the life cycle (R406, R407): reporting keeps the life-cycle state and the entropy source, so a verification
attempt changes of them the challenge, the draws and the lock-out alone; and what an attempt that succeeds has checked.
-/
namespace Sys2Proof.Machine

section

variable (s : State)

/-- The part of the state that an authorisation rests on and that no report changes: the life cycle and the entropy source. -/
def State.lifeAndDraws : Life × Nat := (s.life, s.draws)

/-! Outputs, the pins and the trap. -/

@[simp] theorem State.send_lifeAndDraws (o : Output) : (s.send o).lifeAndDraws = s.lifeAndDraws := by
  simp [State.lifeAndDraws]

@[simp] theorem State.sendAll_lifeAndDraws (os : List Output) : (s.sendAll os).lifeAndDraws = s.lifeAndDraws := by
  unfold State.sendAll; split <;> rfl

@[simp] theorem State.modPin_lifeAndDraws (b : Bool) (g : Pin → Pin) : (s.modPin b g).lifeAndDraws = s.lifeAndDraws := by
  simp [State.lifeAndDraws]

@[simp] theorem State.modShc_lifeAndDraws (b : Bool) (g : Shc → Shc) : (s.modShc b g).lifeAndDraws = s.lifeAndDraws := by
  simp [State.lifeAndDraws]

@[simp] theorem State.modHif_lifeAndDraws (g : Hif → Hif) : (s.modHif g).lifeAndDraws = s.lifeAndDraws := rfl

@[simp] theorem State.forEach_lifeAndDraws {β : Type} (l : List β) (g : State → β → State)
    (hg : ∀ t x, (g t x).lifeAndDraws = t.lifeAndDraws) : (s.forEach l g).lifeAndDraws = s.lifeAndDraws :=
  s.forEach_frame State.lifeAndDraws l g hg

@[simp] theorem State.drivePin_lifeAndDraws (fatal : Bool) (v : Nat) : (s.drivePin fatal v).lifeAndDraws = s.lifeAndDraws :=
  s.send_lifeAndDraws _

@[simp] theorem State.assertPin_lifeAndDraws (fatal : Bool) : (s.assertPin fatal).lifeAndDraws = s.lifeAndDraws := by
  simp only [State.assertPin]
  split_ifs <;> simp

@[simp] theorem State.raiseNmi_lifeAndDraws : s.raiseNmi.lifeAndDraws = s.lifeAndDraws := by
  have trap (t : State) (b : Bool) (g : Shc → Shc) : ((t.modShc b g).sig .shcNmi (b2n b) 1).lifeAndDraws = t.lifeAndDraws :=
    t.modShc_lifeAndDraws b g
  unfold State.raiseNmi
  split
  · rfl
  · dsimp only
    split <;> split <;> simp [trap]

/-! The host: interrupt vectors, host memory and the event rings (R77, R110 to R113). -/

@[simp] theorem State.nextVector_lifeAndDraws : s.nextVector.lifeAndDraws = s.lifeAndDraws := by
  unfold State.nextVector
  split
  · exact State.send_lifeAndDraws ..
  · rfl

@[simp] theorem State.vector_lifeAndDraws (v : Nat) : (s.vector v).lifeAndDraws = s.lifeAndDraws := by
  unfold State.vector
  split
  · rfl
  · exact State.nextVector_lifeAndDraws _

@[simp] theorem State.signalRing_lifeAndDraws (j : Nat) : (s.signalRing j).lifeAndDraws = s.lifeAndDraws := by
  unfold State.signalRing State.sendVector
  split
  · rfl
  · split <;> simp

@[simp] theorem State.hostWrite_lifeAndDraws (a : Nat) (b : List Byte) : (s.hostWrite a b).lifeAndDraws = s.lifeAndDraws :=
  s.sendAll_lifeAndDraws _

@[simp] theorem State.statusWords_lifeAndDraws (st : HifState) (l : List (Nat × Nat)) :
    (s.statusWords st l).lifeAndDraws = s.lifeAndDraws := by
  unfold State.statusWords
  split
  · rfl
  · simp

@[simp] theorem State.statusWord_lifeAndDraws (w v : Nat) : (s.statusWord w v).lifeAndDraws = s.lifeAndDraws := by
  unfold State.statusWord
  split
  · rfl
  · exact State.statusWords_lifeAndDraws ..

@[simp] theorem State.placeRec_lifeAndDraws (j : Nat) (r : Rec) : (s.placeRec j r).lifeAndDraws = s.lifeAndDraws := by
  unfold State.placeRec
  split
  · rfl
  · dsimp only
    split
    · rfl
    · simp

@[simp] theorem State.offerRec_lifeAndDraws (r : Rec) (j : Nat) : (s.offerRec r j).lifeAndDraws = s.lifeAndDraws := by
  unfold State.offerRec
  split
  · rfl
  · split_ifs <;> simp

@[simp] theorem State.postRec_lifeAndDraws (r : Rec) (int : Bool) : (s.postRec r int).lifeAndDraws = s.lifeAndDraws := by
  unfold State.postRec
  dsimp only
  split_ifs <;> simp

/-! Records and reports (R274, R354, R377). -/

@[simp] theorem State.formOne_lifeAndDraws (e : Ev) (exempt : Bool) : (s.formOne e exempt).1.lifeAndDraws = s.lifeAndDraws := by
  unfold State.formOne
  dsimp only
  split_ifs <;> rfl

@[simp] theorem State.form_lifeAndDraws (e : Ev) (exempt int : Bool) : (s.form e exempt int).lifeAndDraws = s.lifeAndDraws := by
  have formed {t u : State} {d : Ev} {x : Bool} {r : Option Rec} (h : t.formOne d x = (u, r)) :
      u.lifeAndDraws = t.lifeAndDraws := by
    rw [← t.formOne_lifeAndDraws d x, h]
  unfold State.form
  dsimp only
  split
  next u hnone => exact formed hnone
  next u r hrec =>
    split
    · rw [State.postRec_lifeAndDraws, formed hrec]
    · split
      next w r' hdrops =>
        refine (State.postRec_lifeAndDraws ..).trans ?_
        calc w.lifeAndDraws = _ := formed hdrops
          _ = u.lifeAndDraws := State.postRec_lifeAndDraws ..
          _ = s.lifeAndDraws := formed hrec
      next w hdrops => rw [formed hdrops, State.postRec_lifeAndDraws, formed hrec]

@[simp] theorem State.event_lifeAndDraws (code : Nat) (u : Uid) (payload : List Byte) (opId : BitVec 64) :
    (s.event code u payload opId).lifeAndDraws = s.lifeAndDraws := by
  simp only [State.event, State.form_lifeAndDraws]
  split <;> simp


@[simp] theorem State.takeReport_lifeAndDraws (e : Ev) (latched parted : Bool) :
    (s.takeReport e latched parted).lifeAndDraws = s.lifeAndDraws := by
  unfold State.takeReport
  extract_lets m dp err react fence pin nmi part sram reset mine captured ovf ferr sLatch sPin sTrap sRecord sOvf sPart sReset
  have latch : sLatch.lifeAndDraws = s.lifeAndDraws := by
    unfold sLatch; split_ifs <;> rfl
  have pins : sPin.lifeAndDraws = sLatch.lifeAndDraws := by
    unfold sPin; split <;> simp
  have trap : sTrap.lifeAndDraws = sPin.lifeAndDraws := by
    unfold sTrap; split <;> simp
  have record : sRecord.lifeAndDraws = sTrap.lifeAndDraws := State.form_lifeAndDraws ..
  have overflow : sOvf.lifeAndDraws = sRecord.lifeAndDraws := by
    unfold sOvf; split <;> simp
  have ordered : sReset.lifeAndDraws = sOvf.lifeAndDraws := by
    unfold sReset sPart; split_ifs <;> rfl
  have fenced (d : List Due) : (if fence then { sReset with due := d } else sReset).lifeAndDraws = sReset.lifeAndDraws := by
    split <;> rfl
  rw [fenced, ordered, overflow, record, trap, pins, latch]

@[simp] theorem State.bufferReport_lifeAndDraws (f : Nat) (e : Ev) (latched parted : Bool) :
    (s.bufferReport f e latched parted).lifeAndDraws = s.lifeAndDraws := rfl

@[simp] theorem State.reportEv_lifeAndDraws (e : Ev) : (s.reportEv e).lifeAndDraws = s.lifeAndDraws := by
  unfold State.reportEv
  extract_lets f m parted stamped sPart err fence sLatch sPin
  have partReset : sPart.lifeAndDraws = s.lifeAndDraws := by
    unfold sPart; split <;> rfl
  have latch : sLatch.lifeAndDraws = sPart.lifeAndDraws := by
    unfold sLatch; split <;> rfl
  have pins : sPin.lifeAndDraws = sLatch.lifeAndDraws := by
    unfold sPin; split <;> simp
  split_ifs
  · exact State.takeReport_lifeAndDraws ..
  · rw [State.bufferReport_lifeAndDraws, pins, latch, partReset]
  · rw [State.bufferReport_lifeAndDraws, partReset]

theorem State.note_lifeAndDraws (code : Nat) (u : Uid) (payload : List Byte) (opId : BitVec 64) :
    (s.note code u payload opId).lifeAndDraws = s.lifeAndDraws :=
  s.reportEv_lifeAndDraws _

@[simp] theorem State.note_life (code : Nat) (u : Uid) (payload : List Byte) (opId : BitVec 64) :
    (s.note code u payload opId).life = s.life :=
  congrArg Prod.fst (s.note_lifeAndDraws code u payload opId)

@[simp] theorem State.note_draws (code : Nat) (u : Uid) (payload : List Byte) (opId : BitVec 64) :
    (s.note code u payload opId).draws = s.draws :=
  congrArg Prod.snd (s.note_lifeAndDraws code u payload opId)

/-! Authorities by the life-cycle state (R407). -/

theorem State.ownerAllowed_iff (a : Nat) :
    s.ownerAllowed a = true ↔ (a = 0 ∧ (s.lcs = 1 ∨ s.lcs = 2)) ∨ (a = 1 ∧ (s.lcs = 0 ∨ s.lcs = 3)) := by
  unfold State.ownerAllowed
  by_cases ha : a = 0
  · subst ha
    simp
  · simp [ha]

theorem makerAllowed_iff (a : Nat) : makerAllowed a = true ↔ a = 1 := by
  simp [makerAllowed]

/-! The checks of one block, and what an attempt leaves (R406). -/

/-- What R406 asks of a block: its authority, its key, the part and die, the challenge, the opcode and qualifier, the digest and
the signature. -/
def State.AuthPasses (b : List Byte) (x : AuthFact) (allowed : Nat → Bool) (op q : Nat) : Prop :=
  allowed (rd b 0 1) = true ∧ rd b 24 8 = s.life.challenge.toNat ∧ rd b 4 4 = Config.partNumber.toNat
    ∧ fromBe ((b.drop 8).take 16) = Config.dieId.toNat ∧ rd b 32 1 = op ∧ rd b 34 2 = q ∧ x.digestOk = true ∧ x.sigOk = true
    ∧ (if rd b 0 1 = 0 then s.ownerSlot else some Config.makerHash) = some x.keyHash

/-- A block none of whose checks fails has passed them all. -/
theorem State.authPasses_of_authFails_zero {b : List Byte} {x : AuthFact} {allowed : Nat → Bool} {op q : Nat}
    (h : s.authFails b x allowed op q = 0) : s.AuthPasses b x allowed op q := by
  unfold State.authFails at h
  unfold State.AuthPasses
  dsimp only at h
  generalize (if rd b 0 1 = 0 then s.ownerSlot else some Config.makerHash) = key at h ⊢
  split_ifs at h with hallowed hkey hdie hchallenge hop hdigest hsig
  simp only [Bool.not_eq_true', Bool.not_eq_false, ne_eq, not_not, not_or] at hallowed hkey hdie hchallenge hop hdigest hsig
  obtain ⟨hpart, hid⟩ := hdie
  obtain ⟨hcode, hqual⟩ := hop
  exact ⟨hallowed, hchallenge, hpart, hid, hcode, hqual, hdigest, hsig, hkey⟩

/-- An attempt that succeeds is outside the lock-out, and its block has passed its checks. -/
theorem State.verify_true {b : List Byte} {x : AuthFact} {allowed : Nat → Bool} {op q : Nat} {u : State}
    (h : s.verify [(some b, x, allowed)] op q = (u, true)) : s.lockedOut = false ∧ s.AuthPasses b x allowed op q := by
  unfold State.verify at h
  cases hlock : s.lockedOut with
  | true => simp [hlock] at h
  | false =>
    by_cases hchecks : s.authFails b x allowed op q = 0
    · exact ⟨rfl, s.authPasses_of_authFails_zero hchecks⟩
    · simp [hlock, hchecks] at h

/-- An attempt changes the challenge and the draws, after a failed check has been counted or none has failed. -/
theorem State.verify_fst (blocks : List (Option (List Byte) × AuthFact × (Nat → Bool))) (op q : Nat) :
    (∃ c a, (s.verify blocks op q).1 = (s.authFailed c a op).newChallenge) ∨ (s.verify blocks op q).1 = s.newChallenge := by
  unfold State.verify
  dsimp only
  split
  next c a _ => exact .inl ⟨c, a, rfl⟩
  next => exact .inr rfl

/-- A new challenge is the entropy source's next value, and the rest of the life cycle is as it was. -/
theorem State.newChallenge_life : s.newChallenge.life = { s.life with challenge := Config.entropy s.draws } := rfl

theorem State.newChallenge_draws : s.newChallenge.draws = s.draws + 1 := rfl

/-- A failed attempt counts toward the lock-out, and leaves the rest of the life cycle. -/
theorem State.authFailed_life (c a op : Nat) :
    ∃ fails lockEnd, (s.authFailed c a op).life = { s.life with fails := fails, lockEnd := lockEnd } :=
  ⟨_, _, State.note_life ..⟩

theorem State.authFailed_draws (c a op : Nat) : (s.authFailed c a op).draws = s.draws :=
  State.note_draws ..

/-- Whatever it finds, an attempt draws the next challenge, and burns no fuse and changes neither owner nor pack key. -/
theorem State.verify_keeps {blocks : List (Option (List Byte) × AuthFact × (Nat → Bool))} {op q : Nat} {u : State} {ok : Bool}
    (h : s.verify blocks op q = (u, ok)) :
    u.life.challenge = Config.entropy s.draws ∧ u.draws = s.draws + 1
      ∧ u.life.fuses = s.life.fuses ∧ u.life.owners = s.life.owners ∧ u.life.packKey = s.life.packKey := by
  have hu : (s.verify blocks op q).1 = u := by rw [h]
  rw [← hu]
  rcases s.verify_fst blocks op q with ⟨c, a, hfail⟩ | hpass
  · obtain ⟨fails, lockEnd, hlife⟩ := s.authFailed_life c a op
    rw [hfail, State.newChallenge_life, State.newChallenge_draws, State.authFailed_draws, hlife]
    exact ⟨rfl, rfl, rfl, rfl, rfl⟩
  · rw [hpass]
    exact ⟨rfl, rfl, rfl, rfl, rfl⟩

end

/-- Settles O28: the authorities by the life-cycle state (R407); an attempt that succeeds has passed every check of R406, the
first of which is its authority, and every attempt draws the next challenge. -/
theorem authoritiesFollowTheLifeCycle : Obligations.AuthoritiesFollowTheLifeCycle := by
  unfold Obligations.AuthoritiesFollowTheLifeCycle
  intro s
  refine ⟨s.ownerAllowed_iff, makerAllowed_iff, ?_, ?_, ?_⟩
  · intro b x op q u h
    obtain ⟨-, hallowed, -⟩ := s.verify_true h
    exact (s.ownerAllowed_iff _).1 hallowed
  · intro b x op q u h
    obtain ⟨-, hallowed, -⟩ := s.verify_true h
    exact (makerAllowed_iff _).1 hallowed
  · intro u b x allowed op q ok h
    refine ⟨?_, s.verify_keeps h⟩
    rintro rfl
    exact s.verify_true h

end Sys2Proof.Machine
end

section
/-!
What forming a record and reporting an error leave as they were, said once for all parts of the state: a record changes the
outputs, the event rings, the interrupt port and the Tally's counts; a report changes the latch, the pins, the traps, the ordered
reactions and the event buffers besides.
-/
namespace Sys2Proof.Machine

/-- An event ring without what posting to it changes (R110 to R113). -/
def EvRing.unposted (q : EvRing) : EvRing :=
  { q with tail := 0, unconf := [], lost := 0, firstLost := 0, intervalEnd := none, signal := false }

/-- The state without what forming and posting a record can change (R110 to R113, R375 to R383). -/
def State.unrecorded (s : State) : State :=
  { s with
    out := [], due := [], pair := { s.pair with held := [] }
    hif := { s.hif with evs := s.hif.evs.map EvRing.unposted, impQueue := [], impVld := none }
    tally := { s.tally with
      next := 0, waiting := [], spent := [], withheld := [], dropped := 0, newDrops := 0, dropCause := 0, beforeDrop := 0 } }

/-- The state without what a report can change (R274, R354): the latch, the pins, the traps and the event buffers too. -/
def State.unreported (s : State) : State :=
  { s.unrecorded with
    ferr := {}, pins := {}, fields := []
    pair := { s.pair with held := [], a := { s.pair.a with nmi := none }, b := { s.pair.b with nmi := none } } }

section

variable (s : State)

/-! Outputs, the host's memory and the event rings. -/

@[simp] theorem State.send_unrecorded (o : Output) : (s.send o).unrecorded = s.unrecorded := by
  unfold State.send; split <;> rfl

@[simp] theorem State.sendAll_unrecorded (os : List Output) : (s.sendAll os).unrecorded = s.unrecorded := by
  unfold State.sendAll; split <;> rfl

@[simp] theorem State.forEach_unrecorded {β : Type} (l : List β) (g : State → β → State)
    (hg : ∀ t x, (g t x).unrecorded = t.unrecorded) : (s.forEach l g).unrecorded = s.unrecorded :=
  s.forEach_frame State.unrecorded l g hg

theorem State.modEv_unrecorded (j : Nat) {g : EvRing → EvRing} (hg : ∀ q, (g q).unposted = q.unposted) :
    (s.modHif (·.modEv j g)).unrecorded = s.unrecorded := by
  have hevs : (s.hif.evs.map (fun q => if q.num == j then g q else q)).map EvRing.unposted = s.hif.evs.map EvRing.unposted := by
    rw [List.map_map]
    refine List.map_congr_left fun q _ => ?_
    simp only [Function.comp_apply]
    split
    · exact hg q
    · rfl
  simp only [State.unrecorded, State.modHif, Hif.modEv, hevs]

@[simp] theorem State.nextVector_unrecorded : s.nextVector.unrecorded = s.unrecorded := by
  unfold State.nextVector
  split
  · exact State.send_unrecorded ..
  · rfl

@[simp] theorem State.vector_unrecorded (v : Nat) : (s.vector v).unrecorded = s.unrecorded := by
  unfold State.vector
  split
  · rfl
  · exact State.nextVector_unrecorded _

@[simp] theorem State.sendVector_unrecorded (j : Nat) : (s.sendVector j).unrecorded = s.unrecorded :=
  (State.vector_unrecorded ..).trans (s.modEv_unrecorded j fun _ => rfl)

@[simp] theorem State.signalRing_unrecorded (j : Nat) : (s.signalRing j).unrecorded = s.unrecorded := by
  unfold State.signalRing
  split
  · rfl
  · split
    · exact s.modEv_unrecorded j fun _ => rfl
    · simp

@[simp] theorem State.hostWrite_unrecorded (a : Nat) (b : List Byte) : (s.hostWrite a b).unrecorded = s.unrecorded :=
  s.sendAll_unrecorded _

@[simp] theorem State.statusWords_unrecorded (st : HifState) (l : List (Nat × Nat)) :
    (s.statusWords st l).unrecorded = s.unrecorded := by
  unfold State.statusWords
  split
  · rfl
  · simp

@[simp] theorem State.statusWord_unrecorded (w v : Nat) : (s.statusWord w v).unrecorded = s.unrecorded := by
  unfold State.statusWord
  split
  · rfl
  · exact State.statusWords_unrecorded ..

@[simp] theorem State.placeRec_unrecorded (j : Nat) (r : Rec) : (s.placeRec j r).unrecorded = s.unrecorded := by
  unfold State.placeRec
  split
  · rfl
  · dsimp only
    split
    · rfl
    · refine (State.signalRing_unrecorded ..).trans ((State.statusWord_unrecorded ..).trans ?_)
      refine (State.modEv_unrecorded _ _ ?_).trans ?_
      · exact fun _ => rfl
      · simp

@[simp] theorem State.offerRec_unrecorded (r : Rec) (j : Nat) : (s.offerRec r j).unrecorded = s.unrecorded := by
  unfold State.offerRec
  split
  · rfl
  · split_ifs
    · rfl
    · simp
    · exact s.modEv_unrecorded j fun _ => rfl

@[simp] theorem State.postRec_unrecorded (r : Rec) (int : Bool) : (s.postRec r int).unrecorded = s.unrecorded := by
  unfold State.postRec
  dsimp only
  split_ifs <;> simp

/-! Records. -/

@[simp] theorem State.formOne_unrecorded (e : Ev) (exempt : Bool) : (s.formOne e exempt).1.unrecorded = s.unrecorded := by
  unfold State.formOne
  dsimp only
  split_ifs <;> rfl

@[simp] theorem State.form_unrecorded (e : Ev) (exempt int : Bool) : (s.form e exempt int).unrecorded = s.unrecorded := by
  have formed {t u : State} {d : Ev} {x : Bool} {r : Option Rec} (h : t.formOne d x = (u, r)) : u.unrecorded = t.unrecorded := by
    rw [← t.formOne_unrecorded d x, h]
  unfold State.form
  dsimp only
  split
  next u hnone => exact formed hnone
  next u r hrec =>
    split
    · rw [State.postRec_unrecorded, formed hrec]
    · split
      next w r' hdrops =>
        refine (State.postRec_unrecorded ..).trans ?_
        calc w.unrecorded = _ := formed hdrops
          _ = u.unrecorded := State.postRec_unrecorded ..
          _ = s.unrecorded := formed hrec
      next w hdrops => rw [formed hdrops, State.postRec_unrecorded, formed hrec]

/-- Two states that differ in what recording changes differ in what reporting changes alone. -/
theorem State.unreported_of_unrecorded {t u : State} (h : t.unrecorded = u.unrecorded) : t.unreported = u.unreported := by
  have key (v : State) : v.unreported = { v.unrecorded with
      ferr := {}, pins := {}, fields := []
      pair := { v.unrecorded.pair with a := { v.unrecorded.pair.a with nmi := none }, b := { v.unrecorded.pair.b with nmi := none } } } := rfl
  rw [key, key, h]

/-! The pins and the traps. -/

@[simp] theorem State.send_unreported (o : Output) : (s.send o).unreported = s.unreported :=
  State.unreported_of_unrecorded (s.send_unrecorded o)

@[simp] theorem State.modPin_unreported (b : Bool) (g : Pin → Pin) : (s.modPin b g).unreported = s.unreported := by
  unfold State.modPin; split <;> rfl

@[simp] theorem State.assertPin_unreported (fatal : Bool) : (s.assertPin fatal).unreported = s.unreported := by
  unfold State.assertPin State.drivePin
  dsimp only
  split_ifs <;> simp

@[simp] theorem State.raiseNmi_unreported : s.raiseNmi.unreported = s.unreported := by
  have trap (t : State) (b : Bool) (n : Nat) :
      ((t.modShc b (fun x => { x with nmi := some n })).sig .shcNmi (b2n b) 1).unreported = t.unreported := by
    cases b <;> rfl
  unfold State.raiseNmi
  split
  · rfl
  · dsimp only
    split <;> split <;> simp [trap]

/-! Reports. -/

@[simp] theorem State.form_unreported (e : Ev) (exempt int : Bool) : (s.form e exempt int).unreported = s.unreported :=
  State.unreported_of_unrecorded (s.form_unrecorded e exempt int)

@[simp] theorem State.event_unreported (code : Nat) (u : Uid) (payload : List Byte) (opId : BitVec 64) :
    (s.event code u payload opId).unreported = s.unreported := by
  simp only [State.event, State.form_unreported]
  split <;> simp

@[simp] theorem State.takeReport_unreported (e : Ev) (latched parted : Bool) :
    (s.takeReport e latched parted).unreported = s.unreported := by
  unfold State.takeReport
  extract_lets m dp err react fence pin nmi part sram reset mine captured ovf ferr sLatch sPin sTrap sRecord sOvf sPart sReset
  have latch : sLatch.unreported = s.unreported := by
    unfold sLatch; split_ifs <;> rfl
  have pins : sPin.unreported = sLatch.unreported := by
    unfold sPin; split <;> simp
  have trap : sTrap.unreported = sPin.unreported := by
    unfold sTrap; split <;> simp
  have record : sRecord.unreported = sTrap.unreported := State.form_unreported ..
  have overflow : sOvf.unreported = sRecord.unreported := by
    unfold sOvf; split <;> simp
  have ordered : sReset.unreported = sOvf.unreported := by
    unfold sReset sPart; split_ifs <;> rfl
  have fenced (d : List Due) : (if fence then { sReset with due := d } else sReset).unreported = sReset.unreported := by
    split <;> rfl
  rw [fenced, ordered, overflow, record, trap, pins, latch]

@[simp] theorem State.bufferReport_unreported (f : Nat) (e : Ev) (latched parted : Bool) :
    (s.bufferReport f e latched parted).unreported = s.unreported := rfl

@[simp] theorem State.reportEv_unreported (e : Ev) : (s.reportEv e).unreported = s.unreported := by
  unfold State.reportEv
  extract_lets f m parted stamped sPart err fence sLatch sPin
  have partReset : sPart.unreported = s.unreported := by
    unfold sPart; split <;> rfl
  have latch : sLatch.unreported = sPart.unreported := by
    unfold sLatch; split <;> rfl
  have pins : sPin.unreported = sLatch.unreported := by
    unfold sPin; split <;> simp
  split_ifs
  · exact State.takeReport_unreported ..
  · rw [State.bufferReport_unreported, pins, latch, partReset]
  · rw [State.bufferReport_unreported, partReset]

@[simp] theorem State.report_unreported (code : Nat) (u : Uid) (payload : List Byte) (opId : BitVec 64) :
    (s.report code u payload opId).unreported = s.unreported := s.reportEv_unreported _

@[simp] theorem State.reportCls_unreported (code cls : Nat) (u : Uid) (payload : List Byte) (opId : BitVec 64) :
    (s.reportCls code cls u payload opId).unreported = s.unreported := s.reportEv_unreported _

@[simp] theorem State.note_unreported (code : Nat) (u : Uid) (payload : List Byte) (opId : BitVec 64) :
    (s.note code u payload opId).unreported = s.unreported := s.reportEv_unreported _

/-! The latch takes no CE and no EV (R281). -/

@[simp] theorem State.form_ferr (e : Ev) (exempt int : Bool) : (s.form e exempt int).ferr = s.ferr :=
  (congrArg State.ferr (s.form_unrecorded e exempt int) :)

@[simp] theorem State.assertPin_ferr (fatal : Bool) : (s.assertPin fatal).ferr = s.ferr := by
  unfold State.assertPin State.drivePin
  dsimp only
  split_ifs <;> simp

@[simp] theorem State.raiseNmi_ferr : s.raiseNmi.ferr = s.ferr := by
  unfold State.raiseNmi
  split
  · rfl
  · dsimp only
    split <;> split <;> simp

@[simp] theorem State.bufferReport_ferr (f : Nat) (e : Ev) (latched parted : Bool) :
    (s.bufferReport f e latched parted).ferr = s.ferr := rfl

theorem State.takeReport_ferr_of_minor (e : Ev) (parted : Bool) (h : (e.cls == clsUC || e.cls == clsFE) = false) :
    (s.takeReport e false parted).ferr = s.ferr := by
  unfold State.takeReport
  extract_lets m dp err react fence pin nmi part sram reset mine captured ovf ferr sLatch sPin sTrap sRecord sOvf sPart sReset
  have herr : err = false := h
  have latch : sLatch = s := by simp [sLatch, herr, mine]
  have pins : sPin.ferr = s.ferr := by
    unfold sPin; rw [latch]; split <;> simp
  have trap : sTrap.ferr = sPin.ferr := by
    unfold sTrap; split <;> simp
  have overflow : sOvf.ferr = sTrap.ferr := by
    simp [sOvf, ovf, herr, sRecord]
  have ordered : sReset.ferr = sOvf.ferr := by
    unfold sReset sPart; split_ifs <;> rfl
  have fenced (d : List Due) : (if fence then { sReset with due := d } else sReset).ferr = sReset.ferr := by
    split <;> rfl
  rw [fenced, ordered, overflow, trap, pins]

theorem State.reportEv_ferr_of_minor (e : Ev) (h : (e.cls == clsUC || e.cls == clsFE) = false) :
    (s.reportEv e).ferr = s.ferr := by
  unfold State.reportEv
  extract_lets f m parted stamped sPart err fence sLatch sPin
  have herr : err = false := h
  have partReset : sPart.ferr = s.ferr := by
    unfold sPart; split <;> rfl
  have pins : sPin.ferr = s.ferr := by
    unfold sPin
    have latch : sLatch = sPart := by simp [sLatch, herr]
    rw [latch]
    split <;> simp [partReset]
  split_ifs
  · exact s.takeReport_ferr_of_minor e false h
  · rw [State.bufferReport_ferr, pins]
  · rw [State.bufferReport_ferr, partReset]

@[simp] theorem State.note_ferr (code : Nat) (u : Uid) (payload : List Byte) (opId : BitVec 64) :
    (s.note code u payload opId).ferr = s.ferr := s.reportEv_ferr_of_minor _ rfl

end

end Sys2Proof.Machine
end

section
/-!
How every command ends: the next state is one that `State.ends` gives, so the queue is the one it was given, and the handling
flags of the first-error latch have their work under way (R281).
-/
namespace Sys2Proof.Machine

/-- Every command ends as `State.ends` says, but for an issue of good parity and of a reserved class (R48), which stops. -/
theorem exec_ends_or_stops (c : Instr) (s : State) :
    (∃ t, exec c s = .next (s.ends t))
    ∨ (∃ f k cls, c = .commandIssue f k cls true ∧ 3 ≤ cls ∧ exec c s = .fault (.undefinedByR2 48)) := by
  cases c with
  | commandIssue f k cls parityOk =>
    by_cases hstop : (parityOk && decide (3 ≤ cls) && fspExists f k) = true
    · obtain ⟨⟨hparity, hcls⟩, -⟩ : (parityOk = true ∧ 3 ≤ cls) ∧ fspExists f k = true := by simpa using hstop
      subst hparity
      exact .inr ⟨f, k, cls, rfl, hcls, if_pos hstop⟩
    · exact .inl ⟨_, if_neg hstop⟩
  | _ => exact .inl ⟨_, rfl⟩

/-- A next state that a command answers is one in which the command ends. -/
theorem exec_next_ends {c : Instr} {s t : State} (h : exec c s = .next t) : ∃ u, t = s.ends u := by
  rcases exec_ends_or_stops c s with ⟨u, hu⟩ | ⟨f, k, cls, -, -, hstop⟩
  · exact ⟨u, Host.Outcome.next.inj (h.symm.trans hu)⟩
  · rw [hstop] at h
    cases h

/-- Settles O3: every command ends, or stops by the name that log 19 gives. -/
theorem everyCommandAnswersOrStopsByName : Obligations.EveryCommandAnswersOrStopsByName := by
  unfold Obligations.EveryCommandAnswersOrStopsByName
  intro c s
  exact (exec_ends_or_stops c s).imp_left fun ⟨t, h⟩ => ⟨s.ends t, h⟩

/-! The queue. -/

theorem exec_pending {c : Instr} {s t : State} (h : exec c s = .next t) : t.pending = s.pending := by
  obtain ⟨u, rfl⟩ := exec_next_ends h
  rfl

theorem step_of_cons {c : Instr} {rest : List Instr} {s : State} (h : s.pending = c :: rest) :
    step s = exec c { s with pending := rest } := by
  unfold step
  rw [h]

theorem step_of_nil {s : State} (h : s.pending = []) : step s = .next s.idle := by
  unfold step
  rw [h]

/-- Commands at the front of the queue run in their order, each on what the one before it left. -/
theorem steps_eq_runInOrder (cs rest : List Instr) (s : State) :
    steps cs.length { s with pending := cs ++ rest } = runInOrder rest cs s := by
  induction cs generalizing s with
  | nil => rfl
  | cons c cs ih =>
    have hstep : step { s with pending := c :: cs ++ rest } = exec c { s with pending := cs ++ rest } := rfl
    rw [List.length_cons, steps, runInOrder, hstep]
    cases hexec : exec c { s with pending := cs ++ rest } with
    | next t =>
      have hqueue : ({ t with pending := cs ++ rest } : State) = t := by
        rw [← show t.pending = cs ++ rest from exec_pending hexec]
      simpa only [hqueue] using ih t
    | fault r => rfl
    | refused r => rfl

/-- Settles O4: a command leaves the queue it is given, and a run of a queue is the run of its commands in order. -/
theorem queuedCommandsRunFirstInFirstOut : Obligations.QueuedCommandsRunFirstInFirstOut := by
  unfold Obligations.QueuedCommandsRunFirstInFirstOut
  refine ⟨⟨fun c s t => exec_pending, ?_⟩, steps_eq_runInOrder⟩
  intro c rest s t hqueue hstep
  rw [step_of_cons hqueue] at hstep
  exact exec_pending hstep

/-! The handling flags. -/

/-- A latch that handles nothing has no flag whose work could be missing. -/
theorem State.latchLive_of_idle {s : State} (h : s.ferr.handling = false) : s.latchLive = true := by
  simp only [Ferr.handling, Bool.or_eq_false_iff] at h
  obtain ⟨⟨⟨hfence, hnmi⟩, hpart⟩, hreset⟩ := h
  simp [State.latchLive, hfence, hnmi, hpart, hreset]

/-- A flag that is kept only with an entry of a filtered list has an entry that passes the filter. -/
theorem flag_has_entry {α : Type} (b : Bool) (l : List α) (p : α → Bool) :
    (!(b && !(l.filter p).isEmpty) || (l.filter p).any p) = true := by
  cases hl : l.filter p with
  | nil => simp
  | cons x xs =>
    have hx : p x = true := List.of_mem_filter (a := x) (by rw [hl]; exact List.mem_cons_self)
    simp [hx]

theorem flag_has_work (b w : Bool) : (!(b && w) || w) = true := by
  cases w <;> simp

/-- The flags that `ferrFlags` leaves set have their work under way. -/
theorem State.latchLive_ferrFlags (s : State) : ({ s with ferr := s.ferrFlags } : State).latchLive = true := by
  unfold State.latchLive
  simp only [Bool.and_eq_true]
  refine ⟨⟨⟨flag_has_entry .., flag_has_entry ..⟩, ?_⟩, ?_⟩
  · exact (Bool.or_assoc ..).trans (flag_has_work ..)
  · exact ((Bool.or_assoc ..).trans (Bool.or_assoc ..)).trans <|
      (congrArg (!s.ferrFlags.reset || ·) (Bool.or_assoc ..).symm).trans (flag_has_work ..)

theorem State.latchLive_ferrSettle (s : State) : s.ferrSettle.latchLive = true := by
  unfold State.ferrSettle
  split
  next h => exact State.latchLive_of_idle (by simpa using h)
  next =>
    dsimp only
    split
    next => exact s.latchLive_ferrFlags
    next h =>
      refine State.latchLive_of_idle ?_
      rw [State.note_ferr]
      simp only [Bool.or_eq_true, not_or, Bool.not_eq_true] at h
      exact h.1

theorem State.latchLive_settle (s : State) : s.settle.latchLive = true := State.latchLive_ferrSettle _

/-- A command leaves the flags live whatever they were before it. -/
theorem exec_latchLive {c : Instr} {s t : State} (h : exec c s = .next t) : t.latchLive = true := by
  obtain ⟨u, rfl⟩ := exec_next_ends h
  exact u.latchLive_settle

/-- An idle tick changes nothing that the flags are about. -/
theorem State.latchLive_idle (s : State) : s.idle.latchLive = s.latchLive := by
  unfold State.idle
  split <;> rfl

/-- Settles O5: what ends a command clears each handling flag whose work is over, and an idle tick leaves the flags and their work. -/
theorem handlingFlagsHaveTheirWork : Obligations.HandlingFlagsHaveTheirWork := by
  unfold Obligations.HandlingFlagsHaveTheirWork
  refine ⟨?_, fun c s t => exec_latchLive⟩
  intro s t hlive hstep
  cases hqueue : s.pending with
  | nil =>
    rw [step_of_nil hqueue] at hstep
    cases hstep
    rwa [State.latchLive_idle]
  | cons c rest =>
    rw [step_of_cons hqueue] at hstep
    exact exec_latchLive hstep

end Sys2Proof.Machine
end

section
/-!
What follows a command in a calm state (R274, R281), the state at reset, and the canonical form of the unit maps.
-/
namespace Sys2Proof.Machine

/-! A step on an empty queue, and the state at reset. -/

/-- Settles O1: a step is the command at the front, or the idle tick (log 1). -/
theorem stepTakesTheFrontCommand : Obligations.StepTakesTheFrontCommand := by
  unfold Obligations.StepTakesTheFrontCommand
  refine ⟨fun c rest s => step_of_cons rfl, ?_⟩
  intro s hqueue
  refine ⟨s.idle, step_of_nil hqueue, ?_⟩
  by_cases hpower : s.pwrGood = true
  · rw [State.idle, if_pos hpower, if_pos hpower]
    exact ⟨rfl, rfl, rfl⟩
  · rw [State.idle, if_neg hpower, if_neg hpower]
    exact ⟨rfl, rfl, rfl⟩

/-- Settles O6: every field of the reset state by its default. -/
theorem resetLeavesTheInterfaceDown : Obligations.ResetLeavesTheInterfaceDown := by
  unfold Obligations.ResetLeavesTheInterfaceDown
  decide

/-! Canonical maps. -/

theorem State.canonical_iff (s : State) :
    s.canonical = true ↔
      mapWf (fun _ => {}) s.fields = true ∧ mapWf flockDefault s.flocks = true ∧ mapWf (fun _ => {}) s.cores = true
      ∧ mapWf (fun _ => {}) s.lanes = true ∧ mapWf (fun _ => {}) s.crooks = true ∧ mapWf (fun _ => {}) s.taps = true
      ∧ mapWf (fun _ => {}) s.mems = true ∧ mapWf (fun _ => {}) s.govFlocks = true ∧ mapWf (fun _ => {}) s.watches = true := by
  simp only [State.canonical, Bool.and_eq_true, and_assoc]

/-- Settles O7: every write of a unit is a write of its map, which keeps the canonical form and reads back. -/
theorem unitMapsStayCanonical : Obligations.UnitMapsStayCanonical := by
  unfold Obligations.UnitMapsStayCanonical
  intro s
  refine ⟨?_, ?_, ?_, ?_⟩
  · intro h
    obtain ⟨hfields, hflocks, hcores, hlanes, hcrooks, htaps, hmems, hgov, hwatches⟩ := s.canonical_iff.1 h
    refine ⟨?_, ?_, ?_, ?_, ?_, ?_, ?_, ?_, ?_⟩
    all_goals intros; rw [State.canonical_iff]
    · exact ⟨mapWf_set _ _ _ _ hfields, hflocks, hcores, hlanes, hcrooks, htaps, hmems, hgov, hwatches⟩
    · exact ⟨hfields, mapWf_set _ _ _ _ hflocks, hcores, hlanes, hcrooks, htaps, hmems, hgov, hwatches⟩
    · exact ⟨hfields, hflocks, mapWf_set _ _ _ _ hcores, hlanes, hcrooks, htaps, hmems, hgov, hwatches⟩
    · exact ⟨hfields, hflocks, hcores, mapWf_set _ _ _ _ hlanes, hcrooks, htaps, hmems, hgov, hwatches⟩
    · exact ⟨hfields, hflocks, hcores, hlanes, mapWf_set _ _ _ _ hcrooks, htaps, hmems, hgov, hwatches⟩
    · exact ⟨hfields, hflocks, hcores, hlanes, hcrooks, mapWf_set _ _ _ _ htaps, hmems, hgov, hwatches⟩
    · exact ⟨hfields, hflocks, hcores, hlanes, hcrooks, htaps, mapWf_set _ _ _ _ hmems, hgov, hwatches⟩
    · exact ⟨hfields, hflocks, hcores, hlanes, hcrooks, htaps, hmems, mapWf_set _ _ _ _ hgov, hwatches⟩
    · exact ⟨hfields, hflocks, hcores, hlanes, hcrooks, htaps, hmems, hgov, mapWf_set _ _ _ _ hwatches⟩
  · exact fun f v => ⟨s.setField_self f v, fun g hg => (s.setField_get f g v).trans (if_neg hg)⟩
  · exact fun f k v => ⟨s.setFlock_self f k v, fun g j hg => (s.setFlock_get f k g j v).trans (if_neg hg)⟩
  · exact fun f k c v => ⟨s.setCore_self f k c v, fun g j d hg => (s.setCore_get f k c g j d v).trans (if_neg hg)⟩

/-! What follows a command in a calm state. -/

/-- What holds of the default and of every entry of a map holds of what the map answers. -/
theorem mapGet_of_forall {α : Type} {d : Nat → α} {m : List (Nat × α)} {P : α → Prop} (k : Nat) (hd : P (d k))
    (hm : ∀ p ∈ m, P p.2) : P (mapGet d m k) := by
  induction m with
  | nil => exact hd
  | cons p m ih =>
    obtain ⟨j, v⟩ := p
    unfold mapGet
    split
    · exact hm (j, v) List.mem_cons_self
    · exact ih fun q hq => hm q (List.mem_cons_of_mem _ hq)

theorem State.drain_of_nil (s : State) (n : Nat) (h : s.due = []) : s.drain n = s := by
  cases n with
  | zero => rfl
  | succ n => unfold State.drain; rw [h]; rfl

theorem State.answerHeld_of_nil (s : State) (h : s.hif.waiting = []) : s.answerHeld = s := by
  unfold State.answerHeld
  rw [h]
  rfl

theorem foldl_of_fixed {α β : Type} {g : β → α → β} {b : β} (l : List α) (h : ∀ x ∈ l, g b x = b) : l.foldl g b = b := by
  induction l with
  | nil => rfl
  | cons x l ih =>
    rw [List.foldl_cons, h x List.mem_cons_self]
    exact ih fun y hy => h y (List.mem_cons_of_mem _ hy)

theorem State.pump_of_none (s : State) (hresets : s.recovery.resets = []) (hlevel1 : s.recovery.level1 = none) : s.pump = s :=
  foldl_of_fixed _ fun _ _ => by simp [hresets, hlevel1]

/-- No fold is looked at again where no flock's fold is pending. -/
theorem State.recheckFolds_of_none (s : State) (h : ∀ p ∈ s.flocks, p.2.foldPending = false) : s.recheckFolds = s := by
  have hpending (f k : Nat) : (s.flock f k).foldPending = false :=
    mapGet_of_forall (P := fun fl : Flock => fl.foldPending = false) _ rfl h
  exact foldl_of_fixed _ fun p _ => by simp [hpending]

theorem State.endMusters_of_nil (s : State) (h : s.musters = []) : s.endMusters = s := by
  unfold State.endMusters
  rw [h]
  rfl

theorem State.jobMove_of_none (s : State) (h : s.job.starting = none) : s.jobMove = s := by
  unfold State.jobMove
  rw [h]

theorem State.shutMove_of_none (s : State) (h : s.life.shut = none) : s.shutMove = s :=
  foldl_of_fixed _ fun _ _ => by simp [h]

theorem State.updateMove_of_none (s : State) (hstep : s.fw.step = 0) (hdeferred : s.fw.deferred = none) : s.updateMove = s := by
  unfold State.updateMove
  simp [hstep, hdeferred]

theorem State.noteSwitch_of_none (s : State) (h : s.pair.swDue = none) : s.noteSwitch = s := by
  unfold State.noteSwitch
  rw [h]

theorem State.ferrSettle_of_idle (s : State) (h : s.ferr.handling = false) : s.ferrSettle = s := by
  unfold State.ferrSettle
  simp [h]

/-- Settles O2: none of the parts of what follows a command finds work. -/
theorem calmStateSettlesToItself : Obligations.CalmStateSettlesToItself := by
  unfold Obligations.CalmStateSettlesToItself
  intro t hcalm
  simp only [State.calm, Bool.and_eq_true, List.isEmpty_iff, Option.isNone_iff_eq_none, beq_iff_eq, Bool.not_eq_true',
    List.all_eq_true] at hcalm
  obtain ⟨⟨⟨⟨⟨⟨⟨⟨⟨⟨⟨hdue, hresets⟩, hlevel1⟩, hmusters⟩, hjob⟩, hshut⟩, hstep⟩, hdeferred⟩, hwaiting⟩, hswitch⟩, hlatch⟩, hfolds⟩ := hcalm
  have hmoves : ((((((t.pump).drain 64).recheckFolds).endMusters).jobMove).shutMove).updateMove = t := by
    rw [t.pump_of_none hresets hlevel1, t.drain_of_nil 64 hdue, t.recheckFolds_of_none hfolds, t.endMusters_of_nil hmusters,
      t.jobMove_of_none hjob, t.shutMove_of_none hshut, t.updateMove_of_none hstep hdeferred]
  unfold State.settle
  dsimp only
  rw [t.drain_of_nil 64 hdue, t.answerHeld_of_nil hwaiting, hmoves, ite_self, t.noteSwitch_of_none hswitch,
    t.ferrSettle_of_idle hlatch]

end Sys2Proof.Machine
end

section
/-!
The set-up window and the alarm pins (R94, R95, R100, R284, R424 to R430): an access of a hardware offset, of an emulated one,
and of a form that the window refuses; and a pin's clear, low time and high time.
-/
namespace Sys2Proof.Machine

/-! A command ends in the state that its effect leaves. -/

theorem act_answers {s t : State} {g : State → State} (h : g s.begun = t) : act s g = .next (s.ends t) := by
  rw [← h]
  rfl

theorem actIf_answers {b : Bool} {s t : State} {g : State → State} (hb : b = true) (h : g s.begun = t) :
    actIf b s g = .next (s.ends t) := (actIf_pos s b g hb).trans (by rw [h])

theorem actIf_eq_act {b : Bool} {s : State} {g : State → State} (hb : b = true) : actIf b s g = act s g := by
  unfold actIf
  simp only [hb, if_true]

/-- A command of a ring that is accepted ends in what its own effect leaves. -/
theorem act_takeCmd_answers {s t : State} {d : Desc} {op : Nat} {used : List (Nat × Nat)} {maxLen : Nat} {bad : State → Bool}
    {k : State → State} (h : s.accepts d op used maxLen = true) (hbad : bad s.begun = false) (ht : k (s.begun.taken d op) = t) :
    act s (fun s => s.takeCmd d op used maxLen (bad s) k) = .next (s.ends t) := by
  rw [act_takeCmd s d op used maxLen bad k h hbad, ht]

theorem actOutside_answers {s t : State} {g : State → State} (h : g s.outside = t) : actOutside s g = .next (s.ends t) := by
  rw [← h]
  rfl

/-! An access of a hardware offset (R424), and one of an emulated offset (R100). -/

@[simp] theorem State.begun_windowUp (s : State) : s.begun.windowUp = s.windowUp := by simp [State.windowUp]

@[simp] theorem State.begun_emulated (s : State) : s.begun.emulated = s.emulated := by simp [State.emulated]

theorem State.windowUp_of_bothLost {s : State} (h : s.pair.bothLost = true) : s.windowUp = false := by simp [State.windowUp, h]

theorem State.emulated_of_bothLost {s : State} (h : s.pair.bothLost = true) : s.emulated = false := by simp [State.emulated, h]

theorem State.hardware_up {s : State} (g : State → State) (h : s.windowUp = true) : s.hardware g = (g s).drive (.window false) :=
  if_pos h

theorem State.hardware_down {s : State} (g : State → State) (h : s.windowUp = false) : s.hardware g = s.drive (.window true) :=
  if_neg (by simp [h])

theorem State.emulate_off {s : State} (a : WinAccess) (h : s.emulated = false) : s.emulate a = s.drive (.window true) :=
  if_pos (by simp [h])

theorem State.emulate_active {s : State} (a : WinAccess) (h : s.emulated = true) (hactive : s.activeShc.isSome = true) :
    s.emulate a = (s.windowDo a).drive (.window false) := by
  simp [State.emulate, h, hactive]

theorem State.emulate_gap {s : State} (a : WinAccess) (h : s.emulated = true) (hgap : s.activeShc = none) :
    s.emulate a = s.modHif (fun h => { h with waiting := h.waiting ++ [a] }) := by
  simp [State.emulate, h, hgap]

/-- A command of a hardware offset has its effect and answers OK. -/
theorem act_hardware_up {s t : State} {g : State → State} (h : s.windowUp = true)
    (ht : (g s.begun).drive (.window false) = t) : act s (fun s => s.hardware g) = .next (s.ends t) :=
  act_answers ((State.hardware_up g (by simpa using h)).trans ht)

/-- A command of a hardware offset that does not answer ends with ERROR alone. -/
theorem act_hardware_down {s : State} {g : State → State} (h : s.windowUp = false) :
    act s (fun s => s.hardware g) = .next (s.ends { s.begun with out := [.window true] }) :=
  act_answers (State.hardware_down g (by simpa using h))

theorem act_emulate_off {s : State} {a : WinAccess} (h : s.emulated = false) :
    act s (fun s => s.emulate a) = .next (s.ends { s.begun with out := [.window true] }) :=
  act_answers (State.emulate_off a (by simpa using h))

theorem act_emulate_active {s t : State} {a : WinAccess} (h : s.emulated = true) (hactive : s.activeShc.isSome = true)
    (ht : (s.begun.windowDo a).drive (.window false) = t) : act s (fun s => s.emulate a) = .next (s.ends t) :=
  act_answers ((State.emulate_active a (by simpa using h) (by simpa using hactive)).trans ht)

theorem act_emulate_gap {s : State} {a : WinAccess} (h : s.emulated = true) (hgap : s.activeShc = none) :
    act s (fun s => s.emulate a) = .next (s.ends { s.begun with hif := { s.hif with waiting := s.hif.waiting ++ [a] } }) :=
  act_answers (State.emulate_gap a (by simpa using h) (by simpa using hgap))

/-! The commands. -/

/-- APERTURE_WRITE of an access that the window accepts is an access of an emulated offset. -/
theorem exec_apertureWrite {off size : Nat} (v : BitVec 64) (s : State) (h : windowOk off size = true) :
    exec (.apertureWrite off size v) s = act s (fun s => s.emulate (.aperture off size v)) :=
  calc exec (.apertureWrite off size v) s
      = execApertureWrite off size v s := rfl
    _ = act s (fun s => s.emulate (.aperture off size v)) := actIf_eq_act h

/-- WINDOW_WRITE below the bootstrap registers is an access of a hardware offset that holds no register. -/
theorem exec_windowWrite_low {off size : Nat} (v : BitVec 64) (s : State) (h : windowOk off size = true) (hoff : off < 0x100) :
    exec (.windowWrite off size v) s = act s (fun s => s.hardware (fun s => s)) :=
  calc exec (.windowWrite off size v) s
      = execWindowWrite off size v s := rfl
    _ = act s (fun s => s.hardware (fun s => s)) := by rw [execWindowWrite, actIf_eq_act h]; simp only [hoff, if_true]

theorem exec_windowWrite_boot {off size : Nat} (v : BitVec 64) (s : State) (h : windowOk off size = true) (hoff : 0x100 ≤ off) :
    exec (.windowWrite off size v) s = act s (fun s => s.emulate (.boot off size v)) :=
  calc exec (.windowWrite off size v) s
      = execWindowWrite off size v s := rfl
    _ = act s (fun s => s.emulate (.boot off size v)) := by
      rw [execWindowWrite, actIf_eq_act h]; simp only [Nat.not_lt.2 hoff, if_false]

theorem exec_windowError {off size : Nat} (write : Bool) (s : State) (hform : windowOk off size = false) (hpower : s.pwrGood = true) :
    exec (.windowError off size write) s = .next (s.ends (({ s.begun with out := [.window true] } : State).note 0x5007 dieUid
      ([0, 0, 0, 0] ++ le 4 off ++ [BitVec.ofNat 8 size]))) :=
  calc exec (.windowError off size write) s
      = execWindowError off size write s := rfl
    _ = .next _ := actIf_pos s _ _ (by simp [hform, hpower])

/-- A mode that is written while no pin is held changes the mode registers alone (R427). -/
theorem State.pinMode_of_not_held (s : State) (fatal hold : Bool) (h : (s.pin fatal).held = false) :
    s.pinMode fatal hold = s.modPin fatal (fun p => { p with modeReg := hold }) := by
  have hheld : ((s.modPin fatal (fun p => { p with modeReg := hold })).pin fatal).held = false := by cases fatal <;> exact h
  simp [State.pinMode, hheld]

/-- Settles O8: each write is an access of a hardware offset, of an emulated one, or of a form that the window refuses. -/
theorem windowWritesTakeEffect : Obligations.WindowWritesTakeEffect := by
  unfold Obligations.WindowWritesTakeEffect
  refine ⟨?_, ?_, ?_, ?_⟩
  · intro s hup
    refine ⟨act_hardware_up hup rfl, act_hardware_up hup rfl, ?_, ?_, ?_, ?_⟩
    · intro hidle
      exact act_hardware_up hup (by rw [if_neg (by simp [hidle])]; rfl)
    · intro hhandling
      exact act_hardware_up hup (by rw [if_pos (by simpa using hhandling)]; rfl)
    · intro e f hlock herr hfatal
      refine act_hardware_up hup ?_
      rw [if_neg (by simp [hlock]), s.begun.pinMode_of_not_held false e herr, State.pinMode_of_not_held _ true f (by exact hfatal)]
      rfl
    · intro e f hlock
      exact act_hardware_up hup (by rw [if_pos (by simpa using hlock)]; rfl)
  · intro s hlost
    have hdown := State.windowUp_of_bothLost hlost
    have hoff := State.emulated_of_bothLost hlost
    refine ⟨?_, fun e f => ⟨act_hardware_down hdown, act_hardware_down hdown⟩, ?_⟩
    · intro c hc
      simp only [List.mem_cons, List.not_mem_nil, or_false] at hc
      rcases hc with rfl | rfl | rfl | rfl | rfl
      · exact act_emulate_off hoff
      · exact act_emulate_off hoff
      · exact act_hardware_down hdown
      · exact act_hardware_down hdown
      · exact act_hardware_down hdown
    · intro off size v hform
      refine ⟨(exec_apertureWrite v s hform).trans (act_emulate_off hoff), ?_⟩
      rcases Nat.lt_or_ge off 0x100 with hlow | hboot
      · exact (exec_windowWrite_low v s hform hlow).trans (act_hardware_down hdown)
      · exact (exec_windowWrite_boot v s hform hboot).trans (act_emulate_off hoff)
  · intro off size v s hform
    refine ⟨?_, ?_, ?_, ?_, ?_, ?_, ?_⟩
    · exact fun hemu hactive => (exec_apertureWrite v s hform).trans (act_emulate_active hemu hactive rfl)
    · exact fun hemu hactive hoff => (exec_windowWrite_boot v s hform hoff).trans (act_emulate_active hemu hactive rfl)
    · exact fun hemu hgap => (exec_apertureWrite v s hform).trans (act_emulate_gap hemu hgap)
    · exact fun hemu hgap hoff => (exec_windowWrite_boot v s hform hoff).trans (act_emulate_gap hemu hgap)
    · exact fun hemu => (exec_apertureWrite v s hform).trans (act_emulate_off hemu)
    · exact fun hemu hoff => (exec_windowWrite_boot v s hform hoff).trans (act_emulate_off hemu)
    · exact fun hoff hup => (exec_windowWrite_low v s hform hoff).trans (act_hardware_up hup rfl)
  · exact fun off size wr s => exec_windowError wr s

/-! The pins (R94, R95, R284). -/

@[simp] theorem State.send_pin (s : State) (o : Output) (fatal : Bool) : (s.send o).pin fatal = s.pin fatal := by
  unfold State.send; split <;> rfl

@[simp] theorem State.drivePin_pin (s : State) (fatal : Bool) (v : Nat) (b : Bool) : (s.drivePin fatal v).pin b = s.pin b :=
  s.send_pin _ b

@[simp] theorem State.modPin_pin_self (s : State) (fatal : Bool) (g : Pin → Pin) : (s.modPin fatal g).pin fatal = g (s.pin fatal) := by
  cases fatal <;> rfl

@[simp] theorem State.modPin_pin_not (s : State) (fatal : Bool) (g : Pin → Pin) : (s.modPin fatal g).pin (!fatal) = s.pin (!fatal) := by
  cases fatal <;> rfl

@[simp] theorem State.drivePin_tbase (s : State) (fatal : Bool) (v : Nat) : (s.drivePin fatal v).tbase = s.tbase := by
  simp [State.drivePin]

/-- What a pin holds after it has risen (R95). -/
theorem State.raisePin_pin (s : State) (fatal release : Bool) :
    (s.raisePin fatal release).pin fatal =
      { s.pin fatal with low := false, held := false, clear := false, lowEnd := none
                         highEnd := if release then some (s.tbase + 1000) else none } := by
  simp [State.raisePin]

/-- A pin that rises changes the outputs and the alarm pins alone, of the two its own. -/
theorem State.raisePin_frame (s : State) (fatal release : Bool) :
    (s.raisePin fatal release).tbase = s.tbase ∧ (s.raisePin fatal release).pin (!fatal) = s.pin (!fatal) := by
  simp [State.raisePin]

@[simp] theorem State.advanceTo_pin (s : State) (t : Nat) (b : Bool) : (s.advanceTo t).pin b = s.pin b := rfl

/-- The clear of a held pin (R284): noted during its low time, else the pin rises. -/
def Pin.cleared (p : Pin) : Pin :=
  if p.held = false then p
  else if p.lowEnd.isSome then { p with clear := true }
  else { p with low := false, held := false, clear := false, lowEnd := none, highEnd := none }

theorem State.drivePin_pins (s : State) (fatal : Bool) (v : Nat) : (s.drivePin fatal v).pins = s.pins := s.send_pins _

theorem State.modPin_pins_congr (s : State) (fatal : Bool) {g h : Pin → Pin} (hgh : g (s.pin fatal) = h (s.pin fatal)) :
    (s.modPin fatal g).pins = (s.modPin fatal h).pins := by
  cases fatal
  · exact congrArg (fun p => ({ s.pins with err := p } : Pins)) hgh
  · exact congrArg (fun p => ({ s.pins with fatal := p } : Pins)) hgh

theorem State.modPin_pins_self (s : State) (fatal : Bool) {g : Pin → Pin} (hg : g (s.pin fatal) = s.pin fatal) :
    (s.modPin fatal g).pins = s.pins := by
  rw [s.modPin_pins_congr fatal (h := id) hg]
  cases fatal <;> rfl

theorem State.clearPin_of_not_warden (s : State) (fatal : Bool) (h : s.pins.wardenFatal = false) :
    s.clearPin fatal =
      if (s.pin fatal).held = false then s
      else if (s.pin fatal).lowEnd.isSome then s.modPin fatal (fun p => { p with clear := true })
      else s.raisePin fatal false := by
  simp only [State.clearPin, h, Bool.and_false, Bool.false_eq_true, if_false, Bool.not_eq_true']

/-- While the Warden does not hold FATAL_N, clearing a pin clears that pin alone. -/
theorem State.clearPin_pins (s : State) (fatal : Bool) (h : s.pins.wardenFatal = false) :
    (s.clearPin fatal).pins = (s.modPin fatal Pin.cleared).pins := by
  rw [s.clearPin_of_not_warden fatal h]
  by_cases hheld : (s.pin fatal).held = false
  · rw [if_pos hheld, s.modPin_pins_self fatal (g := Pin.cleared) (if_pos hheld)]
  · rw [if_neg hheld]
    by_cases hlow : (s.pin fatal).lowEnd.isSome = true
    · rw [if_pos hlow]
      exact s.modPin_pins_congr fatal (by rw [Pin.cleared, if_neg hheld, if_pos hlow])
    · rw [if_neg hlow, State.raisePin, State.drivePin_pins]
      exact s.modPin_pins_congr fatal (by rw [Pin.cleared, if_neg hheld, if_neg hlow]; rfl)

/-- Driving or changing a pin touches the outputs, the pins and the pair alone. -/
theorem State.modPin_rest (s : State) (fatal : Bool) (g : Pin → Pin) (o : List Output) (p : Pins) (q : Pair) :
    ({ s.modPin fatal g with out := o, pins := p, pair := q } : State) = { s with out := o, pins := p, pair := q } := by
  cases fatal <;> rfl

theorem State.send_rest (s : State) (x : Output) (o : List Output) (p : Pins) (q : Pair) :
    ({ s.send x with out := o, pins := p, pair := q } : State) = { s with out := o, pins := p, pair := q } := by
  unfold State.send; split <;> rfl

theorem State.clearPin_rest (s : State) (fatal : Bool) (h : s.pins.wardenFatal = false) (o : List Output) (p : Pins) (q : Pair) :
    ({ s.clearPin fatal with out := o, pins := p, pair := q } : State) = { s with out := o, pins := p, pair := q } := by
  rw [s.clearPin_of_not_warden fatal h]
  split_ifs
  · rfl
  · exact s.modPin_rest ..
  · exact (State.send_rest ..).trans (s.modPin_rest ..)

theorem exec_pinLowTimeEnd (s : State) (fatal : Bool) (e : Nat) (hend : (s.pin fatal).lowEnd = some e) (hlow : (s.pin fatal).low = true) :
    exec (.pinLowTimeEnd fatal) s = .next (s.ends
      (if (s.pin fatal).mode then
        (if (s.pin fatal).clear then (s.begun.advanceTo e).raisePin fatal false
          else (s.begun.advanceTo e).modPin fatal (fun p => { p with lowEnd := none }))
       else (s.begun.advanceTo e).raisePin fatal true)) :=
  calc exec (.pinLowTimeEnd fatal) s
      = execPinLowTimeEnd fatal s := rfl
    _ = .next _ := act_answers (by
        have hpin (b : Bool) : (s.begun.advanceTo e).pin b = s.pin b := rfl
        simp only [show (s.begun.pin fatal).lowEnd = some e from hend, hpin, hlow, Bool.not_true, Bool.false_eq_true, if_false])

/-- The end of a low time (R95, R284): in release mode the pin rises and stays high for 1 us, in hold mode only one that is cleared. -/
theorem State.lowTimeEnded (s : State) (fatal : Bool) (e : Nat) (hend : (s.pin fatal).lowEnd = some e) (hlow : (s.pin fatal).low = true) :
    ∃ t, exec (.pinLowTimeEnd fatal) s = .next (s.ends t) ∧ t.tbase = max s.tbase e
      ∧ t.pin fatal = (if (s.pin fatal).mode = false
          then { s.pin fatal with low := false, held := false, clear := false, lowEnd := none, highEnd := some (max s.tbase e + 1000) }
          else if (s.pin fatal).clear
          then { s.pin fatal with low := false, held := false, clear := false, lowEnd := none, highEnd := none }
          else { s.pin fatal with lowEnd := none })
      ∧ t.pin (!fatal) = s.pin (!fatal) := by
  refine ⟨_, exec_pinLowTimeEnd s fatal e hend hlow, ?_⟩
  have hpin (b : Bool) : (s.begun.advanceTo e).pin b = s.pin b := rfl
  cases hmode : (s.pin fatal).mode with
  | false =>
    rw [if_neg Bool.false_ne_true, if_pos rfl]
    obtain ⟨htbase, hother⟩ := (s.begun.advanceTo e).raisePin_frame fatal true
    exact ⟨htbase, by rw [State.raisePin_pin, hpin]; simp [State.advanceTo, hmode], hother⟩
  | true =>
    simp only [if_true, Bool.true_eq_false, if_false]
    by_cases hclear : (s.pin fatal).clear = true
    · rw [if_pos hclear, if_pos hclear]
      obtain ⟨htbase, hother⟩ := (s.begun.advanceTo e).raisePin_frame fatal false
      exact ⟨htbase, by rw [State.raisePin_pin, hpin]; simp [hmode], hother⟩
    · rw [if_neg hclear, if_neg hclear]
      refine ⟨by simp [State.advanceTo], ?_, ?_⟩
      · rw [State.modPin_pin_self, hpin]
      · rw [State.modPin_pin_not, hpin]

/-- The end of a high time (R95): the pin may fall again, and does when an event is held. -/
theorem exec_pinHighTimeEnd (s : State) (fatal : Bool) (e : Nat) (hend : (s.pin fatal).highEnd = some e) :
    exec (.pinHighTimeEnd fatal) s = .next (s.ends
      (let t := (s.begun.advanceTo e).modPin fatal (fun p => { p with highEnd := none, waiting := false })
       if (s.pin fatal).waiting then t.assertPin fatal else t)) :=
  calc exec (.pinHighTimeEnd fatal) s
      = execPinHighTimeEnd fatal s := rfl
    _ = .next _ := act_answers (by rw [show (s.begun.pin fatal).highEnd = some e from hend]; rfl)

/-- A pin that is neither low nor in its high time falls (R95). -/
theorem State.assertPin_falls (s : State) (fatal : Bool) (hboth : s.pair.bothLost = false) (hlow : (s.pin fatal).low = false)
    (hhigh : (s.pin fatal).highEnd = none) :
    (s.assertPin fatal).pin fatal =
      { s.pin fatal with low := true, mode := (s.pin fatal).modeReg, held := (s.pin fatal).modeReg, clear := false
                         lowEnd := some (s.tbase + 1000) } := by
  simp [State.assertPin, hboth, hlow, hhigh]

/-- Settles O9: the clear, the low time and the high time of a pin. -/
theorem alarmPinsFollowTheirTimes : Obligations.AlarmPinsFollowTheirTimes := by
  unfold Obligations.AlarmPinsFollowTheirTimes
  refine ⟨?_, fun fatal s e => s.lowTimeEnded fatal e, ?_, ?_⟩
  · intro s hup hwarden
    refine ⟨⟨_, act_hardware_up hup rfl, ?_, ?_⟩, ⟨_, act_hardware_up hup rfl, ?_, ?_⟩⟩
    · exact s.begun.clearPin_pins false hwarden
    · exact s.begun.clearPin_rest false hwarden ..
    · exact s.begun.clearPin_pins true hwarden
    · exact s.begun.clearPin_rest true hwarden ..
  · intro fatal s e hend hwait
    refine ⟨_, exec_pinHighTimeEnd s fatal e hend, ?_⟩
    have hadvance (b : Bool) : (s.begun.advanceTo e).pin b = s.pin b := rfl
    refine ⟨?_, ?_, ?_⟩
    · simp [hwait, State.advanceTo]
    · simp [hwait, hadvance]
    · simp [hwait, hadvance]
  · intro fatal s e hend hwait hlow hboth
    refine ⟨_, exec_pinHighTimeEnd s fatal e hend, ?_⟩
    have hadvance (b : Bool) : (s.begun.advanceTo e).pin b = s.pin b := rfl
    simp only [hwait, if_true]
    rw [State.assertPin_falls _ fatal (by simpa using hboth) (by simp [hadvance, hlow]) (by simp)]
    refine ⟨rfl, ?_, ?_⟩
    · simp only [State.modPin_tbase]
      rfl
    · simp only [State.modPin_pin_self]
      rfl

end Sys2Proof.Machine
end

section
/-!
The host interface as a whole (R103, R127 to R129, R393): it comes up or fails, resumes, and is lost when the heartbeat stays out.
-/
namespace Sys2Proof.Machine

/-- What bringing the interface up does to its registers before they are checked (R103). -/
def Hif.cleared (h : Hif) : Hif :=
  { h with cmds := [], evs := [], neg := none, startHeld := false, reason := 0, lostSeq := none, hbOn := false
           dbFailed := false, stFailed := false }

/-- The interface with the ring-0 pair that the bootstrap registers give, its heartbeat timer started at `now` (R103, R127). -/
def Hif.up (h : Hif) (now : Nat) : Hif :=
  { h.cleared with
    st := .running, dbCur := h.dbAddr.toNat, stCur := h.stAddr.toNat, hbOn := true, hbLast := now, hbLate := false
    cmds := [{ num := 0, base := h.cr0Base.toNat, log2 := h.cr0Size.toNat % 16, paired := 0 }]
    evs := [{ num := 0, base := h.er0Base.toNat, log2 := h.er0Size.toNat % 16, minSev := 0, mask := 0xFFFF, moderation := 20 }] }

theorem Hif.bootReason_cleared (h : Hif) : h.cleared.bootReason = h.bootReason := rfl

theorem State.bringUp_ok (s : State) (hreason : s.hif.bootReason = 0) (hst : s.hif.st ≠ .hostLost) :
    s.bringUp = { s.orphan with hif := s.hif.up s.tbase } := by
  have hst' : (s.hif.st == .hostLost) = false := by simpa using hst
  have hreason' : (s.orphan.modHif Hif.cleared).hif.bootReason = 0 := hreason
  unfold State.bringUp
  simp only [hst', Bool.false_eq_true, if_false]
  exact if_neg (not_not.2 hreason')

theorem State.bringUp_fails (s : State) (hreason : s.hif.bootReason ≠ 0) :
    s.bringUp = ({ s.orphan with hif := { s.hif.cleared with st := .bootFailed, reason := s.hif.bootReason } } : State).report 0x5008 dieUid
      [BitVec.ofNat 8 s.hif.bootReason] := if_pos hreason

theorem State.resume_of_no_rings (s : State) (hcmds : s.hif.cmds = []) :
    ∃ u : State, u.hif.hbOn = true ∧ u.hif.hbLast = s.tbase ∧ u.hif.hbLate = false
      ∧ s.resume = (u.note 0x5005 dieUid ([1, 0] ++ le 6 (s.hif.lostSeq.getD s.tally.next) ++ zeros 4)).hostBack := by
  let v : State := s.modHif (fun h => { h with st := .running, hbOn := true, hbLast := s.tbase, hbLate := false, lostSeq := none })
  have hv : v.hif.cmds = [] := hcmds
  have hhif := congrArg State.hif (v.statusWords_unrecorded .hostLost v.hif.counts)
  refine ⟨v.statusWords .hostLost v.hif.counts, ?_, ?_, ?_, ?_⟩
  · exact (congrArg Hif.hbOn hhif :)
  · exact (congrArg Hif.hbLast hhif :)
  · exact (congrArg Hif.hbLate hhif :)
  · change (((v.forEach (v.hif.cmds.filter _) _).statusWords _ (v.forEach (v.hif.cmds.filter _) _).hif.counts).note _ _ _).hostBack = _
    simp only [hv, List.filter_nil, State.forEach_nil]

theorem exec_heartbeatLate (s : State) (hfw : s.firmware = true) (hon : s.hif.hbOn = true) (hrun : s.hif.st = .running)
    (hlate : s.hif.hbLate = false) :
    exec .heartbeatLate s = .next (s.ends
        (({ s.begun with tbase := max s.tbase (s.hif.hbLast + 1000000000), hif := { s.hif with hbLate := true } } : State).note 0x5003 dieUid
          ([0, 0, 0, 0] ++ le 8 s.hif.hbLast))) :=
  calc exec .heartbeatLate s
      = execHeartbeatLate s := rfl
    _ = .next _ := actIf_pos s _ _ (by simp [hfw, hon, hrun, hlate])

/-- The first lapse of the timer is recorded once (R127). -/
theorem exec_heartbeatLate_again (s : State) (hlate : s.hif.hbLate = true) : exec .heartbeatLate s = .next (s.ends s.begun) :=
  calc exec .heartbeatLate s
      = execHeartbeatLate s := rfl
    _ = .next _ := actIf_neg s _ _ (by simp [hlate])

theorem exec_hostLost (s : State) (hfw : s.firmware = true) (hon : s.hif.hbOn = true) (hrun : s.hif.st = .running) {u : State}
    (hu : u = { s.begun with tbase := max s.tbase (s.hif.hbLast + 5000000000),
                             hif := { s.hif with st := .hostLost, hbOn := false, impQueue := s.hif.impQueue.filter (· == 8) } }) :
    exec .hostLost s = .next (s.ends (((u.report 0x5004 dieUid ([0, 0, 0, 0] ++ le 8 s.hif.hbLast)).modHif
      (fun h => { h with lostSeq := some (u.report 0x5004 dieUid ([0, 0, 0, 0] ++ le 8 s.hif.hbLast)).tally.next })).platformEvent 2)) :=
  calc exec .hostLost s
      = execHostLost s := rfl
    _ = .next _ := actIf_answers (by simp [hfw, hon, hrun]) (by rw [hu]; rfl)

/-! START and KEEP (R103, R129). -/

theorem State.windowDo_start {s : State} (h : s.start.ready = true) : s.windowDo (.start false) = s.bringUp := if_pos h

theorem State.windowDo_start_early {s : State} (h : s.start.ready = false) :
    s.windowDo (.start false) = s.modHif (fun h => { h with startHeld := true }) := if_neg (by simp [h])

theorem State.windowDo_keep {s : State} (h : s.hif.st = .hostLost) : s.windowDo (.start true) = s.resume := if_pos (by simp [h])

theorem State.windowDo_keep_ignored {s : State} (h : s.hif.st ≠ .hostLost) : s.windowDo (.start true) = s := if_neg (by simpa using h)

theorem exec_heartbeat (d : Desc) (s : State) (h : s.accepts d 0x04 [] 0 = true) :
    exec (.heartbeat d) s = .next (s.ends
      (((s.begun.taken d 0x04).modHif (fun h => { h with hbLast := s.tbase, hbLate := false })).complete d.ring 0x00 (le 8 s.tbase))) :=
  calc exec (.heartbeat d) s
      = execHeartbeat d s := rfl
    _ = .next _ := act_takeCmd s d 0x04 [] 0 (fun _ => false) _ h rfl

/-- Settles O10: START and KEEP by what the interface's state makes of them, the two lapses of the heartbeat timer, and its restart. -/
theorem interfaceComesUpAndRecovers : Obligations.InterfaceComesUpAndRecovers := by
  unfold Obligations.InterfaceComesUpAndRecovers
  refine ⟨?_, ?_, ?_, ⟨?_, ?_, exec_heartbeat⟩⟩
  · intro s hemu
    refine ⟨?_, ?_, act_emulate_gap hemu⟩
    · intro hactive hready hst hreason
      refine ⟨_, act_emulate_active hemu hactive rfl, ?_⟩
      rw [State.windowDo_start (s := s.begun) hready, s.begun.bringUp_ok hreason hst]
      exact ⟨rfl, rfl, rfl, rfl, rfl, rfl, rfl, rfl, rfl, rfl⟩
    · intro hactive hready
      exact act_emulate_active hemu hactive (by rw [State.windowDo_start_early (s := s.begun) hready]; rfl)
  · intro s hemu hactive hready hreason
    refine ⟨{ s.begun.orphan with hif := { s.hif.cleared with st := .bootFailed, reason := s.hif.bootReason } },
      rfl, rfl, rfl, rfl, rfl, rfl, act_emulate_active hemu hactive ?_⟩
    rw [State.windowDo_start (s := s.begun) hready, s.begun.bringUp_fails hreason]
    rfl
  · intro s hemu
    refine ⟨?_, ?_, act_emulate_gap hemu⟩
    · intro hactive hst
      exact act_emulate_active hemu hactive (by rw [State.windowDo_keep (s := s.begun) hst])
    · intro hactive hst
      exact act_emulate_active hemu hactive (by rw [State.windowDo_keep_ignored (s := s.begun) hst]; rfl)
  · intro s hfw hon hrun
    refine ⟨exec_heartbeatLate s hfw hon hrun, ?_, _, _, exec_hostLost s hfw hon hrun rfl, rfl, rfl⟩
    intro hlate
    exact exec_heartbeatLate_again s hlate
  · intro s hst hemu hactive hcmds
    obtain ⟨u, hon, hlast, hlate, hresume⟩ := s.begun.resume_of_no_rings hcmds
    refine ⟨_, u, act_emulate_active hemu hactive rfl, hon, hlast, hlate, ?_⟩
    rw [State.windowDo_keep (s := s.begun) hst, hresume]
    rfl

end Sys2Proof.Machine
end

section
/-!
What the host's memory and its interrupt port hand over (R77, R106 to R108, R113, R117): acknowledges, doorbells, the end of a
moderation interval, and failed accesses.
-/
namespace Sys2Proof.Machine

/-! What a report leaves of the interface. -/

@[simp] theorem State.note_cmds (s : State) (code : Nat) (u : Uid) (payload : List Byte) (opId : BitVec 64) :
    (s.note code u payload opId).hif.cmds = s.hif.cmds :=
  (congrArg (fun t => t.hif.cmds) (s.note_unreported code u payload opId) :)

/-- A report leaves the head counts of the event rings. -/
theorem State.note_heads (s : State) (code : Nat) (u : Uid) (payload : List Byte) (opId : BitVec 64) (j : Nat) :
    ((s.note code u payload opId).hif.ev j).map (·.head) = (s.hif.ev j).map (·.head) := by
  have hevs : (s.note code u payload opId).hif.evs.map EvRing.unposted = s.hif.evs.map EvRing.unposted :=
    (congrArg (fun t => t.hif.evs) (s.note_unreported code u payload opId) :)
  have find (l : List EvRing) :
      ((l.map EvRing.unposted).find? (fun q => q.num == j)).map (·.head) = (l.find? (fun q => q.num == j)).map (·.head) := by
    rw [List.find?_map, Option.map_map]
    rfl
  rw [Hif.ev, Hif.ev, ← find s.hif.evs, ← find (s.note code u payload opId).hif.evs, hevs]

/-! Doorbells (R108). -/

theorem State.postLoss_of_none {s : State} {j : Nat} {q : EvRing} (h : s.hif.ev j = some q) (hlost : q.lost = 0) : s.postLoss j = s := by
  unfold State.postLoss
  rw [h]
  exact if_pos (.inl hlost)

@[simp] theorem State.postLoss_cmds (s : State) (j : Nat) : (s.postLoss j).hif.cmds = s.hif.cmds := by
  have cmds {t u : State} (h : t.unrecorded = u.unrecorded) : t.hif.cmds = u.hif.cmds := (congrArg (fun t => t.hif.cmds) h :)
  refine cmds ?_
  unfold State.postLoss
  split
  · rfl
  · split
    · rfl
    · dsimp only
      split
      next u hform => exact (congrArg (fun p => p.1.unrecorded) hform).symm.trans (s.formOne_unrecorded _ _)
      next u r hform =>
        have hu : u.unrecorded = s.unrecorded := (congrArg (fun p => p.1.unrecorded) hform).symm.trans (s.formOne_unrecorded _ _)
        have hplaced (v : State) (hv : v.unrecorded = u.unrecorded) : (v.placeRec j r).unrecorded = s.unrecorded := by
          rw [State.placeRec_unrecorded, hv, hu]
        split
        · rw [State.forEach_unrecorded _ _ _ fun _ _ => State.offerRec_unrecorded ..]
          exact hplaced _ (State.modEv_unrecorded _ _ fun _ => rfl)
        · exact hplaced _ (State.modEv_unrecorded _ _ fun _ => rfl)

@[simp] theorem State.pollEv_cmds (s : State) (j head : Nat) : (s.pollEv j head).hif.cmds = s.hif.cmds := by
  unfold State.pollEv
  split
  · rfl
  · split_ifs <;> simp [State.modHif, Hif.modEv]

/-- A tail count in range is taken (R108). -/
theorem State.pollCmd_in_range {s : State} {i tail : Nat} {r : CmdRing} (h : s.hif.cmd i = some r) (hstop : r.stopped = false)
    (htail : (tail + 2 ^ 32 - r.head) % 2 ^ 32 ≤ 2 ^ r.log2) :
    s.pollCmd i tail = s.modHif (·.modCmd i (fun r => { r with tail := tail, dbErr := false })) := by
  unfold State.pollCmd
  rw [h]
  exact (if_neg (by simp [hstop])).trans (if_pos htail)

/-- A tail count out of range changes no count of its ring (R108). -/
theorem State.pollCmd_out_of_range {s : State} {tail : Nat} {r : CmdRing} (hcmds : s.hif.cmds = [r]) (hnum : r.num = 0)
    (hstop : r.stopped = false) (htail : 2 ^ r.log2 < (tail + 2 ^ 32 - r.head) % 2 ^ 32) :
    (s.pollCmd 0 tail).hif.cmds = [{ r with dbErr := true }] := by
  have hr : s.hif.cmd 0 = some r := by simp [Hif.cmd, hcmds, hnum]
  unfold State.pollCmd
  rw [hr]
  dsimp only
  rw [if_neg (by simp [hstop]), if_neg (Nat.not_le.2 htail)]
  split
  next herr => rw [hcmds, ← herr]
  next => simp [State.modHif, Hif.modCmd, hcmds, hnum]

theorem State.pollEv_in_range {s : State} {head : Nat} {q : EvRing} (hevs : s.hif.evs = [q]) (hnum : q.num = 0) (hstop : q.stopped = false)
    (hlost : q.lost = 0) (hhead : (head + 2 ^ 32 - q.head) % 2 ^ 32 ≤ q.used) :
    (s.pollEv 0 head).hif.evs = [{ q with head := head, dbErr := false }] := by
  have hq : s.hif.ev 0 = some q := by simp [Hif.ev, hevs, hnum]
  have hq' : (s.modHif (·.modEv 0 (fun q => { q with head := head, dbErr := false }))).hif.ev 0
      = some { q with head := head, dbErr := false } := by
    simp [State.modHif, Hif.ev, Hif.modEv, hevs, hnum]
  unfold State.pollEv
  rw [hq]
  dsimp only
  rw [if_neg (by simp [hstop]), if_pos hhead, State.postLoss_of_none hq' hlost]
  simp [State.modHif, Hif.modEv, hevs, hnum]

theorem State.pollEv_out_of_range {s : State} {head : Nat} {q : EvRing} (hevs : s.hif.evs = [q]) (hnum : q.num = 0)
    (hhead : q.used < (head + 2 ^ 32 - q.head) % 2 ^ 32) : ((s.pollEv 0 head).hif.ev 0).map (·.head) = some q.head := by
  have hq : s.hif.ev 0 = some q := by simp [Hif.ev, hevs, hnum]
  unfold State.pollEv
  rw [hq]
  dsimp only
  rw [if_neg (Nat.not_le.2 hhead)]
  split_ifs
  · rw [hq]; rfl
  · rw [hq]; rfl
  · rw [State.note_heads]
    simp [State.modHif, Hif.ev, Hif.modEv, hevs, hnum]

/-- One poll of the ring-0 pair (R106, R108). -/
theorem exec_doorbellPoll (ws : List Nat) (s : State) (r : CmdRing) (hfw : s.firmware = true) (hrun : s.hif.st = .running)
    (hinside : s.hif.inside s.hif.dbCur 1024 = true) (hcmds : s.hif.cmds = [r]) (hr : r.num = 0) {t : State}
    (ht : t = (s.begun.modHif (fun h => { h with dbFailed := false })).pollCmd 0 (ws.getD 0 0 % 2 ^ 32)) :
    exec (.doorbellPoll ws) s = .next (s.ends
      (t.forEach (t.hif.evs.map (·.num)) (fun s j => s.pollEv j (ws.getD (64 + j) 0 % 2 ^ 32)))) :=
  calc exec (.doorbellPoll ws) s
      = execDoorbellPoll ws s := rfl
    _ = .next _ := actIf_answers (by simp [hfw, hrun]) (by
        rw [if_neg (by simpa using hinside)]
        have hnums : (s.begun.modHif (fun h => { h with dbFailed := false })).hif.cmds.map (·.num) = [0] := by
          simp [State.modHif, hcmds, hr]
        dsimp only
        rw [hnums, ht]
        rfl)

theorem State.forEach_single {β : Type} (s : State) (x : β) (g : State → β → State) : s.forEach [x] g = g s x := rfl

theorem State.forEach_pollEv_cmds (s : State) (l : List Nat) (w : Nat → Nat) :
    (s.forEach l (fun s j => s.pollEv j (w j))).hif.cmds = s.hif.cmds :=
  s.forEach_frame (fun t => t.hif.cmds) l _ fun t j => t.pollEv_cmds j (w j)

/-! Acknowledges, the end of an interval, and failed accesses (R77, R113, R117). -/

theorem exec_interruptAck (s : State) (v : Nat) (h : s.hif.impVld = some v) :
    exec .interruptAck s = .next (s.ends (({ s.begun with hif := { s.hif with impVld := none } } : State).driveImp none).nextVector) :=
  calc exec .interruptAck s
      = execInterruptAck s := rfl
    _ = .next _ := actIf_pos s _ _ (by simp [h])

theorem State.nextVector_of_nil {s : State} (h : s.hif.impQueue = []) : s.nextVector = s := by
  unfold State.nextVector
  split
  next hq => simp [h] at hq
  next => rfl

theorem State.nextVector_of_cons {s : State} {w : Nat} {q : List Nat} (hvld : s.hif.impVld = none) (hq : s.hif.impQueue = w :: q) :
    s.nextVector.hif.impVld = some w ∧ s.nextVector.hif.impQueue = q := by
  simp [State.nextVector, hvld, hq, State.driveImp]

theorem exec_moderationEnd (s : State) (j e : Nat) (q : EvRing) (hfw : s.firmware = true) (hq : s.hif.ev j = some q)
    (he : q.intervalEnd = some e) :
    exec (.moderationEnd j) s = .next (s.ends
      (if q.signal then ({ s.begun with tbase := max s.tbase e } : State).sendVector j
       else ({ s.begun with tbase := max s.tbase e } : State).modHif (·.modEv j (fun q => { q with intervalEnd := none })))) :=
  calc exec (.moderationEnd j) s
      = execModerationEnd j s := rfl
    _ = .next _ := actIf_answers (by simp [hfw]) (by rw [show s.begun.hif.ev j = some q from hq]; dsimp only; rw [he]; rfl)

/-- What a failed access does by its kind (R117, Table 4.8): to a ring that exists, to an output buffer that is being written, and to
the doorbell and status blocks. -/
def State.dmaFailed (u : State) (a : BitVec 64) : HostAccess → State
  | .fetch i => if (u.hif.cmd i).isSome then u.accessFailed (.fetch i) a.toNat else u
  | .completion i => if (u.hif.cmd i).isSome then u.accessFailed (.completion i) a.toNat else u
  | .event j => if (u.hif.ev j).isSome then u.accessFailed (.event j) a.toNat else u
  | .buffer i => if (u.hif.cmd i).any (fun r => r.stage.any (fun p => p.1 == 0)) then (u.accessFailed (.buffer i) a.toNat).bufferFailed i else u
  | .doorbell => u.accessFailed .doorbell a.toNat
  | .status => u.accessFailed .status a.toNat

/-- DMA_ERROR on the state that stands when the failure is known. -/
theorem exec_dmaError (h : HostAccess) (a : BitVec 64) (late : Bool) (s u : State) (hfw : s.firmware = true) (hrun : s.hif.st = .running)
    (hu : u = (if late then { s.begun with tbase := s.tbase + 100000 } else s.begun)) :
    exec (.dmaError h a late) s = .next (s.ends (u.dmaFailed a h)) := by
  have hlate : (if late then s.begun.advanceTo (s.begun.tbase + 100000) else s.begun) = u := by
    rw [hu]
    cases late
    · rfl
    · simp [State.advanceTo]
  calc exec (.dmaError h a late) s
      = execDmaError h a late s := rfl
    _ = .next _ := actIf_answers (by simp [hfw, hrun]) (by
        dsimp only
        rw [hlate]
        cases h with
        | buffer i =>
          cases hcmd : u.hif.cmd i with
          | none => simp [State.dmaFailed, hcmd]
          | some r => rcases hstage : r.stage with _ | ⟨_ | n, c⟩ <;> simp [State.dmaFailed, hcmd, hstage]
        | _ => rfl)

/-- Settles O11: acknowledges, the end of an interval, a poll of the ring-0 pair, and the five kinds of failed access. -/
theorem hostPortsHandOver : Obligations.HostPortsHandOver := by
  unfold Obligations.HostPortsHandOver
  refine ⟨⟨?_, ?_, exec_moderationEnd⟩, ?_, ?_⟩
  · intro s v hvld hqueue
    rw [exec_interruptAck s v hvld, State.nextVector_of_nil]
    simpa [State.driveImp] using hqueue
  · intro s v w q hvld hqueue
    refine ⟨_, exec_interruptAck s v hvld, rfl, ?_⟩
    exact State.nextVector_of_cons (by simp [State.driveImp]) (by simpa [State.driveImp] using hqueue)
  · intro ws s r q hfw hrun hinside hcmds hevs hr hq hrstop hqstop hlost
    have hnums : [q].map (·.num) = [0] := by simp [hq]
    refine ⟨_, exec_doorbellPoll ws s r hfw hrun hinside hcmds hr rfl, ?_, ?_⟩
    · intro htail
      have hcmd : (s.begun.modHif (fun h => { h with dbFailed := false })).hif.cmd 0 = some r := by
        simp [State.modHif, Hif.cmd, hcmds, hr]
      rw [State.pollCmd_in_range hcmd hrstop htail]
      refine ⟨?_, ?_, ?_⟩
      · rw [State.forEach_pollEv_cmds _ _ (fun j => ws.getD (64 + j) 0 % 2 ^ 32)]
        simp [State.modHif, Hif.modCmd, hcmds, hr]
      · intro hhead
        have hevs' : ((s.begun.modHif (fun h => { h with dbFailed := false })).modHif
            (·.modCmd 0 (fun r => { r with tail := ws.getD 0 0 % 2 ^ 32, dbErr := false }))).hif.evs = [q] := hevs
        rw [hevs', hnums, State.forEach_single]
        exact State.pollEv_in_range hevs' hq hqstop hlost hhead
      · intro hhead
        have hevs' : ((s.begun.modHif (fun h => { h with dbFailed := false })).modHif
            (·.modCmd 0 (fun r => { r with tail := ws.getD 0 0 % 2 ^ 32, dbErr := false }))).hif.evs = [q] := hevs
        rw [hevs', hnums, State.forEach_single]
        exact State.pollEv_out_of_range hevs' hq hhead
    · intro htail
      rw [State.forEach_pollEv_cmds _ _ (fun j => ws.getD (64 + j) 0 % 2 ^ 32)]
      exact State.pollCmd_out_of_range hcmds hr hrstop htail
  · intro a late s u i hfw hrun hu
    have hhif : u.hif = s.hif := by rw [hu]; split <;> rfl
    have hexec (h : HostAccess) := exec_dmaError h a late s u hfw hrun hu
    refine ⟨?_, ?_, ?_, ?_, ?_⟩
    · rintro hcmd h (rfl | rfl)
      · rw [hexec, show u.dmaFailed a (.fetch i) = _ from if_pos (by rwa [hhif])]
        rfl
      · rw [hexec, show u.dmaFailed a (.completion i) = _ from if_pos (by rwa [hhif])]
        rfl
    · intro hev
      rw [hexec, show u.dmaFailed a (.event i) = _ from if_pos (by rwa [hhif])]
      rfl
    · intro r c hcmd hstage
      rw [hexec, show u.dmaFailed a (.buffer i) = _ from if_pos (by simp [hhif, hcmd, hstage])]
      rfl
    · rw [hexec, ← hhif]; rfl
    · rw [hexec, ← hhif]; rfl

end Sys2Proof.Machine
end

section
/-!
The taking of a descriptor (R107, R114, R116, R117, R123): every command of the command rings is one, so the common checks come before
what the command does.
-/
namespace Sys2Proof.Machine

/-- The outcome of a command is the taking of its descriptor, for some check and some effect of the command's own. -/
def Takes (o : State → Host.Outcome State Fault Refusal) (d : Desc) (op : Nat) (used : List (Nat × Nat)) (maxLen : Nat) : Prop :=
  ∃ (bad : State → Bool) (k : State → State), ∀ s, o s = act s (fun s => s.takeCmd d op used maxLen (bad s) k)

/-- A POLICY_SET whose row serves the item takes the descriptor: an item of the row by the row's ranges, one of no row as a breach. -/
theorem takes_of_servesItem {row : PolicyRow} {d : Desc} (bad : Nat → Nat → Bool) (k : State → Nat → Nat → State)
    (h : servesItem row d = true) : Takes (fun s => act s (fun s => s.policySet d row bad k)) d 0x14 [(8, 2), (16, 8)] 304 := by
  cases hrow : policyRow (d.arg 8 2) with
  | none =>
    refine ⟨fun _ => true, id, fun s => ?_⟩
    simp only [State.policySet, hrow]
  | some r =>
    have hr : r = row := by simpa [servesItem, hrow] using h
    refine ⟨fun _ => bad (d.arg 8 2) (d.arg 16 8), fun s => k s (d.arg 8 2) (d.arg 16 8), fun s => ?_⟩
    simp only [State.policySet, hrow, hr, ne_eq, not_true_eq_false, if_false]

/-- A life-cycle request whose row serves the request takes the descriptor. -/
theorem takes_of_lifeRow {row : Bool} {d : Desc} {maxLen : Nat} (bad : State → Bool) (k : State → State) (h : row = true) :
    Takes (fun s => actIf row s (fun s => s.takeCmd d 0xA0 [(8, 1)] maxLen (bad s) k)) d 0xA0 [(8, 1)] maxLen :=
  ⟨bad, k, fun _ => actIf_eq_act h⟩

theorem takes_screenPolicy (d : Desc) (h : servesItem .screen d = true) : Takes (execScreenPolicy d) d 0x14 [(8, 2), (16, 8)] 304 :=
  takes_of_servesItem _ _ h
theorem takes_governorPolicy (d : Desc) (h : servesItem .governor d = true) : Takes (execGovernorPolicy d) d 0x14 [(8, 2), (16, 8)] 304 :=
  takes_of_servesItem _ _ h
theorem takes_sparingPolicy (d : Desc) (h : servesItem .sparing d = true) : Takes (execSparingPolicy d) d 0x14 [(8, 2), (16, 8)] 304 :=
  takes_of_servesItem _ _ h
theorem takes_reactionPolicy (d : Desc) (h : servesItem .reaction d = true) : Takes (execReactionPolicy d) d 0x14 [(8, 2), (16, 8)] 304 :=
  takes_of_servesItem _ _ h
theorem takes_reactionDefaults (d : Desc) (h : servesItem .defaults d = true) : Takes (execReactionDefaults d) d 0x14 [(8, 2), (16, 8)] 304 :=
  takes_of_servesItem _ _ h
theorem takes_recoveryPolicy (d : Desc) (h : servesItem .recovery d = true) : Takes (execRecoveryPolicy d) d 0x14 [(8, 2), (16, 8)] 304 :=
  takes_of_servesItem _ _ h
theorem takes_powerPolicy (d : Desc) (h : servesItem .power d = true) : Takes (execPowerPolicy d) d 0x14 [(8, 2), (16, 8)] 304 :=
  takes_of_servesItem _ _ h
theorem takes_lifecyclePolicy (d : Desc) (h : servesItem .life d = true) : Takes (execLifecyclePolicy d) d 0x14 [(8, 2), (16, 8)] 304 :=
  takes_of_servesItem _ _ h
theorem takes_lifecycleProvisioned (d : Desc) (h : lifeRow d 1 = true) : Takes (execLifecycleProvisioned d) d 0xA0 [(8, 1)] 400 :=
  takes_of_lifeRow _ _ h
theorem takes_lifecycleField (d : Desc) (h : lifeRow d 2 = true) : Takes (execLifecycleField d) d 0xA0 [(8, 1)] 304 :=
  takes_of_lifeRow _ _ h
theorem takes_lifecycleReturn (d : Desc) (h : lifeRow d 3 = true) : Takes (execLifecycleReturn d) d 0xA0 [(8, 1)] 608 :=
  takes_of_lifeRow _ _ h
theorem takes_shutDown (d : Desc) (h : lifeRow d 4 = true) : Takes (execShutDown d) d 0xA0 [(8, 1)] 0 :=
  takes_of_lifeRow _ _ h
theorem takes_setOwnerPackKey (d : Desc) (h : lifeRow d 5 = true) : Takes (execSetOwnerPackKey d) d 0xA0 [(8, 1)] 400 :=
  takes_of_lifeRow _ _ h
theorem takes_negotiate (d : Desc) : Takes (execNegotiate d) d 0x01 [(8, 10)] 64 := ⟨_, _, fun _ => rfl⟩
theorem takes_ringCreate (d : Desc) : Takes (execRingCreate d) d 0x02 [(8, 1), (9, 1), (10, 1), (12, 2), (14, 2), (16, 8)] 0 := ⟨_, _, fun _ => rfl⟩
theorem takes_ringDestroy (d : Desc) : Takes (execRingDestroy d) d 0x03 [(8, 1), (9, 1)] 0 := ⟨_, _, fun _ => rfl⟩
theorem takes_heartbeat (d : Desc) : Takes (execHeartbeat d) d 0x04 [] 0 := ⟨_, _, fun _ => rfl⟩
theorem takes_jobBegin (d : Desc) : Takes (execJobBegin d) d 0x10 [(8, 1)] 576 := ⟨_, _, fun _ => rfl⟩
theorem takes_jobEnd (d : Desc) : Takes (execJobEnd d) d 0x11 [] 0 := ⟨_, _, fun _ => rfl⟩
theorem takes_musterPoint (d : Desc) : Takes (execMusterPoint d) d 0x12 [(12, 4)] 0 := ⟨_, _, fun _ => rfl⟩
theorem takes_rampSet (d : Desc) : Takes (execRampSet d) d 0x15 [(8, 4), (12, 4)] 0 := ⟨_, _, fun _ => rfl⟩
theorem takes_packStage (d : Desc) : Takes (execPackStage d) d 0x20 [(8, 1)] 16777216 := ⟨_, _, fun _ => rfl⟩
theorem takes_packActivate (d : Desc) : Takes (execPackActivate d) d 0x21 [(8, 1)] 0 := ⟨_, _, fun _ => rfl⟩
theorem takes_watchSet (d : Desc) : Takes (execWatchSet d) d 0x30 [(8, 1)] 64 := ⟨_, _, fun _ => rfl⟩
theorem takes_earmarkConfig (d : Desc) : Takes (execEarmarkConfig d) d 0x31 [] 1040 := ⟨_, _, fun _ => rfl⟩
theorem takes_replicaDigest (d : Desc) : Takes (execReplicaDigest d) d 0x32 [] 1056 := ⟨_, _, fun _ => rfl⟩
theorem takes_queryBound (d : Desc) : Takes (execQueryBound d) d 0x40 [] 4294967295 := ⟨_, _, fun _ => rfl⟩
theorem takes_queryHealth (d : Desc) : Takes (execQueryHealth d) d 0x41 [(12, 4)] 4294967295 := ⟨_, _, fun _ => rfl⟩
theorem takes_domainReset (d : Desc) : Takes (execDomainReset d) d 0x60 [(12, 4)] 0 := ⟨_, _, fun _ => rfl⟩
theorem takes_recover (d : Desc) : Takes (execRecover d) d 0x61 [] 0 := ⟨_, _, fun _ => rfl⟩
theorem takes_tallyRead (d : Desc) : Takes (execTallyRead d) d 0x70 [(8, 6), (16, 4)] 4294967295 := ⟨_, _, fun _ => rfl⟩
theorem takes_tallyClear (d : Desc) : Takes (execTallyClear d) d 0x71 [] 368 := ⟨_, _, fun _ => rfl⟩
theorem takes_fwStage (d : Desc) : Takes (execFwStage d) d 0x80 [] 2097152 := ⟨_, _, fun _ => rfl⟩
theorem takes_fwActivate (d : Desc) : Takes (execFwActivate d) d 0x81 [] 0 := ⟨_, _, fun _ => rfl⟩
theorem takes_traceConfig (d : Desc) : Takes (execTraceConfig d) d 0x90 [] 64 := ⟨_, _, fun _ => rfl⟩
theorem takes_waitgraphReq (d : Desc) : Takes (execWaitgraphReq d) d 0x91 [(12, 4)] 4294967295 := ⟨_, _, fun _ => rfl⟩
theorem takes_foldRequest (d : Desc) : Takes (execFoldRequest d) d 0x50 [(12, 4), (16, 1)] 0 :=
  ⟨_, _, fun s => by dsimp only [execFoldRequest]⟩
theorem takes_unfold (d : Desc) : Takes (execUnfold d) d 0x51 [(12, 4), (16, 1)] 304 :=
  ⟨_, _, fun s => by dsimp only [execUnfold]⟩
theorem takes_idleTableLoad (d : Desc) : Takes (execIdleTableLoad d) d 0x13 [(8, 2), (12, 4)] 2097168 :=
  ⟨_, _, fun s => by dsimp only [execIdleTableLoad]⟩

/-- Every command of the command rings takes its descriptor, and its opcode is none of the reserved ones. -/
theorem hostCommand_takes {c : Instr} {d : Desc} {op : Nat} {used : List (Nat × Nat)} {maxLen : Nat}
    (h : hostCommand c = some (d, op, used, maxLen)) : opcodes.contains op = true ∧ Takes (exec c) d op used maxLen := by
  cases c with
  | foldRequest e => cases h; exact ⟨rfl, takes_foldRequest d⟩
  | unfold e => cases h; exact ⟨rfl, takes_unfold d⟩
  | idleTableLoad e => cases h; exact ⟨rfl, takes_idleTableLoad d⟩
  | screenPolicy e =>
    obtain ⟨hserves, heq⟩ := Option.ite_none_right_eq_some.1 h
    cases heq
    exact ⟨rfl, takes_screenPolicy d hserves⟩
  | governorPolicy e =>
    obtain ⟨hserves, heq⟩ := Option.ite_none_right_eq_some.1 h
    cases heq
    exact ⟨rfl, takes_governorPolicy d hserves⟩
  | sparingPolicy e =>
    obtain ⟨hserves, heq⟩ := Option.ite_none_right_eq_some.1 h
    cases heq
    exact ⟨rfl, takes_sparingPolicy d hserves⟩
  | reactionPolicy e =>
    obtain ⟨hserves, heq⟩ := Option.ite_none_right_eq_some.1 h
    cases heq
    exact ⟨rfl, takes_reactionPolicy d hserves⟩
  | reactionDefaults e =>
    obtain ⟨hserves, heq⟩ := Option.ite_none_right_eq_some.1 h
    cases heq
    exact ⟨rfl, takes_reactionDefaults d hserves⟩
  | recoveryPolicy e =>
    obtain ⟨hserves, heq⟩ := Option.ite_none_right_eq_some.1 h
    cases heq
    exact ⟨rfl, takes_recoveryPolicy d hserves⟩
  | powerPolicy e =>
    obtain ⟨hserves, heq⟩ := Option.ite_none_right_eq_some.1 h
    cases heq
    exact ⟨rfl, takes_powerPolicy d hserves⟩
  | lifecyclePolicy e =>
    obtain ⟨hserves, heq⟩ := Option.ite_none_right_eq_some.1 h
    cases heq
    exact ⟨rfl, takes_lifecyclePolicy d hserves⟩
  | lifecycleProvisioned e =>
    obtain ⟨hserves, heq⟩ := Option.ite_none_right_eq_some.1 h
    cases heq
    exact ⟨rfl, takes_lifecycleProvisioned d hserves⟩
  | lifecycleField e =>
    obtain ⟨hserves, heq⟩ := Option.ite_none_right_eq_some.1 h
    cases heq
    exact ⟨rfl, takes_lifecycleField d hserves⟩
  | lifecycleReturn e =>
    obtain ⟨hserves, heq⟩ := Option.ite_none_right_eq_some.1 h
    cases heq
    exact ⟨rfl, takes_lifecycleReturn d hserves⟩
  | shutDown e =>
    obtain ⟨hserves, heq⟩ := Option.ite_none_right_eq_some.1 h
    cases heq
    exact ⟨rfl, takes_shutDown d hserves⟩
  | setOwnerPackKey e =>
    obtain ⟨hserves, heq⟩ := Option.ite_none_right_eq_some.1 h
    cases heq
    exact ⟨rfl, takes_setOwnerPackKey d hserves⟩
  | negotiate e => cases h; exact ⟨rfl, takes_negotiate d⟩
  | ringCreate e => cases h; exact ⟨rfl, takes_ringCreate d⟩
  | ringDestroy e => cases h; exact ⟨rfl, takes_ringDestroy d⟩
  | heartbeat e => cases h; exact ⟨rfl, takes_heartbeat d⟩
  | jobBegin e => cases h; exact ⟨rfl, takes_jobBegin d⟩
  | jobEnd e => cases h; exact ⟨rfl, takes_jobEnd d⟩
  | musterPoint e => cases h; exact ⟨rfl, takes_musterPoint d⟩
  | rampSet e => cases h; exact ⟨rfl, takes_rampSet d⟩
  | packStage e => cases h; exact ⟨rfl, takes_packStage d⟩
  | packActivate e => cases h; exact ⟨rfl, takes_packActivate d⟩
  | watchSet e => cases h; exact ⟨rfl, takes_watchSet d⟩
  | earmarkConfig e => cases h; exact ⟨rfl, takes_earmarkConfig d⟩
  | replicaDigest e => cases h; exact ⟨rfl, takes_replicaDigest d⟩
  | queryBound e => cases h; exact ⟨rfl, takes_queryBound d⟩
  | queryHealth e => cases h; exact ⟨rfl, takes_queryHealth d⟩
  | domainReset e => cases h; exact ⟨rfl, takes_domainReset d⟩
  | recover e => cases h; exact ⟨rfl, takes_recover d⟩
  | tallyRead e => cases h; exact ⟨rfl, takes_tallyRead d⟩
  | tallyClear e => cases h; exact ⟨rfl, takes_tallyClear d⟩
  | fwStage e => cases h; exact ⟨rfl, takes_fwStage d⟩
  | fwActivate e => cases h; exact ⟨rfl, takes_fwActivate d⟩
  | traceConfig e => cases h; exact ⟨rfl, takes_traceConfig d⟩
  | waitgraphReq e => cases h; exact ⟨rfl, takes_waitgraphReq d⟩
  | _ => exact nomatch h

/-! What taking a descriptor does when Beyja does not take it, and when its opcode is reserved (R107, R114, Table 4.7). -/

theorem State.takeCmd_no_ring {s : State} {d : Desc} (op : Nat) (used : List (Nat × Nat)) (maxLen : Nat) (bad : Bool) (k : State → State)
    (h : s.hif.cmd d.ring = none) : s.takeCmd d op used maxLen bad k = s := by
  unfold State.takeCmd
  rw [h]

theorem State.takeCmd_no_firmware {s : State} (d : Desc) (op : Nat) (used : List (Nat × Nat)) (maxLen : Nat) (bad : Bool)
    (k : State → State) (h : s.firmware = false) : s.takeCmd d op used maxLen bad k = s := by
  unfold State.takeCmd
  split
  · rfl
  · exact if_pos (by simp [h])

/-- A descriptor with a reserved opcode is taken by any command of the table and breaks its checks. -/
theorem State.takeCmd_reserved {s : State} {d : Desc} {op : Nat} (used : List (Nat × Nat)) (maxLen : Nat) (bad : Bool) (k : State → State)
    {r : CmdRing} (hfw : s.firmware = true) (hpower : s.pwrGood = true) (hrun : s.hif.st = .running) (hturn : s.hif.nextRing = some d.ring)
    (hr : s.hif.cmd d.ring = some r) (hinside : s.hif.inside r.base (64 * 2 ^ r.log2) = true) (hlen : d.bytes.length = 64)
    (hop : opcodes.contains op = true) (hres : opcodes.contains (d.bytes.getD 0 0).toNat = false) :
    s.takeCmd d op used maxLen bad k = (s.taken d op).complete d.ring 0x05 := by
  have hne : ((d.bytes.getD 0 0).toNat != op) = true := by
    rw [bne_iff_ne]
    rintro heq
    rw [heq, hop] at hres
    exact absurd hres (by decide)
  unfold State.takeCmd
  rw [hr]
  dsimp only
  rw [if_neg (by simp only [hfw, hrun, hturn, hlen, hpower, hres]; simp), if_neg (by simp [hinside]), hne, Bool.or_true]
  rfl

/-- Settles O14: every command of the rings takes its descriptor, and the taking of a descriptor puts the common checks first. -/
theorem commonChecksComeFirst : Obligations.CommonChecksComeFirst := by
  unfold Obligations.CommonChecksComeFirst
  intro c d op used maxLen s hhost
  obtain ⟨hop, bad, k, hexec⟩ := hostCommand_takes hhost
  have ends {t : State} (ht : s.begun.takeCmd d op used maxLen (bad s.begun) k = t) : exec c s = .next (s.ends t) :=
    (hexec s).trans (act_answers ht)
  have takes {t : State} (htakes : s.takes d op = true) (ht : _ = t) : exec c s = .next (s.ends t) :=
    ends ((s.begun.takeCmd_takes d op used maxLen (bad s.begun) k (by simpa using htakes)).trans ht)
  refine ⟨?_, ?_, ?_, ?_, ?_, ?_⟩
  · intro htakes hbad
    exact takes htakes (if_pos hbad)
  · intro htakes hbad hlost
    exact takes htakes ((if_neg (Bool.not_eq_true _ ▸ hbad)).trans (if_pos hlost))
  · intro htakes hlost h1 h4 hneg
    have hearly : (op == 0x01 || op == 0x04 || s.hif.neg.isSome) = false := by simp [h1, h4, hneg]
    by_cases hbad : s.badDesc d used maxLen = true ∨ bad s.begun = true
    · refine ⟨0x05, by simp, takes htakes ?_⟩
      rw [hlost]
      rcases hbad with hbad | hbad
      · exact if_pos hbad
      · rw [hbad]
        exact ite_self _
    · obtain ⟨hdesc, hown⟩ := not_or.1 hbad
      refine ⟨0x02, by simp, takes htakes ?_⟩
      rw [hlost, s.begun_hif, hearly]
      exact (if_neg hdesc).trans ((if_neg Bool.false_ne_true).trans ((if_neg hown).trans (if_neg Bool.false_ne_true)))
  · intro r hfw hpower hrun hturn hr hinside hlen hres
    exact ends (State.takeCmd_reserved used maxLen _ k (by simpa using hfw) hpower hrun hturn hr hinside hlen hop hres)
  · intro hr
    exact ends (State.takeCmd_no_ring op used maxLen _ k hr)
  · intro hfw
    exact ends (State.takeCmd_no_firmware d op used maxLen _ k (by simpa using hfw))

end Sys2Proof.Machine
end

section
/-!
Completions (R109, R119): the writes of a command's result in their order, and what the responses to them do.
-/
namespace Sys2Proof.Machine

theorem chunks_of_short {α : Type} {n : Nat} {l : List α} (hne : l ≠ []) (hn : l.length ≤ n) : chunks l.length n l = [l] := by
  cases l with
  | nil => exact absurd rfl hne
  | cons x t =>
    have hdone : chunks t.length n ([] : List α) = [] := by cases t <;> rfl
    rw [List.length_cons, chunks, List.take_of_length_le hn, List.drop_of_length_le hn, hdone]
    exact List.cons_ne_nil x t

/-- With no follower in service a write to host memory goes out at once, in requests of at most 256 bytes (R76, R346). -/
theorem State.hostWrite_out {s : State} (a : Nat) (b : List Byte) (h : s.follower = none) :
    s.hostWrite a b = { s with out := s.out ++ (chunks b.length 256 b).mapIdx (fun i l => .host (a + 256 * i) l true) } :=
  if_neg (by simp [h])

theorem State.hostWrite_out_short {s : State} (a : Nat) {b : List Byte} (h : s.follower = none) (hne : b ≠ []) (hlen : b.length ≤ 256) :
    s.hostWrite a b = { s with out := s.out ++ [.host a b true] } := by
  rw [State.hostWrite_out a b h, chunks_of_short hne hlen]
  rfl

theorem Hif.cmd_num {h : Hif} {i : Nat} {r : CmdRing} (hr : h.cmd i = some r) : r.num = i := by
  simpa using List.find?_some hr

/-- What a command in progress whose ring can complete it writes (R109). -/
theorem State.complete_writes {s : State} {i st : Nat} {res buf : List Byte} {neg : Option (List Byte)} {r : CmdRing} (hr : s.hif.cmd i = some r)
    (hbusy : r.busy.isSome = true) (hstage : r.stage = none) (hheld : r.held = none) (hstop : r.stopped = false) (hrun : s.hif.st = .running) :
    s.complete i st res buf neg = s.writeCompletion r
      { ring := i, status := st, result := res, returned := buf.length, buffer := buf, notify := r.notify, neg := neg } := by
  have hbusy' : r.busy.isNone = false := by rw [← Option.not_isSome, hbusy]; rfl
  unfold State.complete
  rw [hr]
  simp [hbusy', hstage, hheld, hstop, hrun]

/-- Two short writes to host memory follow one another. -/
theorem State.hostWrite_hostWrite_out {s : State} (a a' : Nat) {b b' : List Byte} (h : s.follower = none) (hne : b ≠ []) (hlen : b.length ≤ 256)
    (hne' : b' ≠ []) (hlen' : b'.length ≤ 256) :
    (s.hostWrite a b).hostWrite a' b' = { s with out := s.out ++ [.host a b true, .host a' b' true] } := by
  rw [State.hostWrite_out_short a h hne hlen, State.hostWrite_out_short a' (by exact h) hne' hlen']
  simp only [List.append_assoc, List.singleton_append]

/-- The result of a completion: bytes 48-63 with the done byte clear, then the done byte (R109 steps 2 and 3). -/
theorem State.writeResult_out {s : State} {r : CmdRing} {c : Completion} (hrun : s.hif.st = .running) (hfollower : s.follower = none)
    (hinside : s.hif.inside r.base (64 * 2 ^ r.log2) = true) :
    s.writeResult r c = { s with
      out := s.out ++ [.host (r.slot + 48) (fit 8 c.result ++ le 1 c.status ++ zeros 3 ++ le 4 c.returned) true, .host (r.slot + 57) [1] true]
      hif := { s.hif.modCmd r.num (fun q => { q with stage := some (1, c), issued := s.hif.issues }) with
        issues := s.hif.issues + 1, neg := if c.neg.isSome then c.neg else s.hif.neg } } := by
  have hlen : (fit 8 c.result ++ le 1 c.status ++ zeros 3 ++ le 4 c.returned).length = 16 := by simp
  have hne : fit 8 c.result ++ le 1 c.status ++ zeros 3 ++ le 4 c.returned ≠ [] := List.ne_nil_of_length_pos (by omega)
  unfold State.writeResult
  dsimp only
  rw [if_neg (by simp [hrun]), if_neg (by simp [hinside]),
    State.hostWrite_hostWrite_out _ _ hfollower hne (by omega) (List.cons_ne_nil 1 []) (by simp)]
  rfl

/-- The output buffer of a completion is written first, in requests of at most 256 bytes (R109 step 1). -/
theorem State.writeCompletion_buffer {s : State} {r : CmdRing} {c : Completion} (hne : c.buffer ≠ []) (hfollower : s.follower = none)
    (hinside : s.hif.inside r.bufAddr c.buffer.length = true) :
    s.writeCompletion r c = { s with
      out := s.out ++ (chunks c.buffer.length 256 c.buffer).mapIdx (fun n l => .host (r.bufAddr + 256 * n) l true)
      hif := { s.hif.modCmd r.num (fun q => { q with stage := some (0, c), issued := s.hif.issues }) with issues := s.hif.issues + 1 } } := by
  unfold State.writeCompletion
  rw [if_neg (by simpa using hne), if_neg (by simp [hinside]), State.hostWrite_out _ _ hfollower]
  rfl

/-! Responses (R109). -/

/-- A response to a write of a command ring, by the stage that the ring's completion has reached. -/
theorem exec_writeResponse {s : State} {i : Nat} {r : CmdRing} {n : Nat} {c : Completion} (hfw : s.firmware = true) (hi : i < 64)
    (hr : s.hif.cmd i = some r) (hstage : r.stage = some (n, c)) :
    exec (.writeResponse i) s = .next (s.ends (if n = 0 then s.begun.writeResult r c else s.begun.finish r c)) :=
  calc exec (.writeResponse i) s
      = execWriteResponse i s := rfl
    _ = .next _ := actIf_answers hfw (by
        rw [if_neg (Nat.not_le.2 hi), show s.begun.hif.cmd i = some r from hr]
        dsimp only
        rw [hstage]
        cases n <;> rfl)

theorem exec_writeResponse_status {s : State} {i : Nat} (hfw : s.firmware = true) (hi : 64 ≤ i) :
    exec (.writeResponse i) s = .next (s.ends
      { s.begun with hif := { s.hif with stFailed := false, evs := s.hif.evs.map (fun q => { q with unconf := [] }) } }) :=
  calc exec (.writeResponse i) s
      = execWriteResponse i s := rfl
    _ = .next _ := actIf_answers hfw ((if_pos hi).trans rfl)

/-- The head count of a ring moves on, and its ring is not destroyed: nothing else of the command rings changes (R109). -/
theorem State.finish_cmds {s : State} {r : CmdRing} (c : Completion) (hdying : r.dying = none) :
    (s.finish r c).hif.cmds =
      (s.hif.modCmd r.num (fun q => { q with head := (r.head + 1) % 2 ^ 32, busy := none, stage := none, notify := false, bufAddr := 0 })).cmds := by
  have cmds {t u : State} (h : t.unrecorded = u.unrecorded) : t.hif.cmds = u.hif.cmds := (congrArg (fun t => t.hif.cmds) h :)
  unfold State.finish
  rw [hdying]
  dsimp only
  split
  · exact (cmds (State.signalRing_unrecorded ..)).trans (cmds (State.statusWord_unrecorded ..))
  · exact cmds (State.statusWord_unrecorded ..)

/-- Settles O13: the writes of a completion in their order, and the responses that move it on. -/
theorem completionsAreWrittenInOrder : Obligations.CompletionsAreWrittenInOrder := by
  unfold Obligations.CompletionsAreWrittenInOrder
  refine ⟨?_, ?_, ?_, fun s i hfw hi => exec_writeResponse_status hfw hi⟩
  · intro s i st res buf r hr hbusy hstage hheld hstop hrun hfollower
    have hnum := Hif.cmd_num hr
    have hwrites := State.complete_writes (st := st) (res := res) (buf := buf) (neg := none) hr hbusy hstage hheld hstop hrun
    refine ⟨?_, ?_⟩
    · rintro rfl hinside
      rw [hwrites, State.writeCompletion, if_pos List.isEmpty_nil, State.writeResult_out hrun hfollower hinside, hnum]
      exact ⟨rfl, rfl, rfl⟩
    · intro hne hinside
      rw [hwrites, State.writeCompletion_buffer hne hfollower hinside, hnum]
      exact ⟨rfl, rfl, rfl⟩
  · intro s i r c hfw hi hr hstage
    rw [exec_writeResponse hfw hi hr hstage, if_pos rfl]
  · intro s i r c hfw hi hr hstage hdying
    refine ⟨_, exec_writeResponse hfw hi hr hstage, ?_⟩
    rw [if_neg (by decide), State.finish_cmds c hdying, Hif.cmd_num hr]
    rfl

end Sys2Proof.Machine
end

section
/-!
Negotiation, and the rings that the host creates and destroys (R119, R121 to R123).
-/
namespace Sys2Proof.Machine

theorem length_chooseVersions (own host : List Byte) : (chooseVersions own host).length = 5 := by simp [chooseVersions]

/-- The version chosen for an interface: the highest that both sides have, or 0 (R122). -/
theorem chooseVersions_getD (own host : List Byte) {i : Nat} (hi : i < 5) :
    ((chooseVersions own host).getD i 0).toNat =
      (if max (own.getD (2 * i) 0).toNat (host.getD (2 * i) 0).toNat ≤ min (own.getD (2 * i + 1) 0).toNat (host.getD (2 * i + 1) 0).toNat
       then min (own.getD (2 * i + 1) 0).toNat (host.getD (2 * i + 1) 0).toNat else 0) := by
  have hlt : min (own.getD (2 * i + 1) 0).toNat (host.getD (2 * i + 1) 0).toNat < 2 ^ 8 :=
    Nat.lt_of_le_of_lt (Nat.min_le_left _ _) (BitVec.isLt _)
  rw [chooseVersions, List.getD_eq_getElem _ _ (by simpa using hi)]
  simp only [List.getElem_map, List.getElem_range]
  split
  · rw [BitVec.toNat_ofNat, Nat.mod_eq_of_lt hlt]
  · rfl

theorem exec_negotiate {d : Desc} {s : State} {c : List Byte} {meets : Bool} (h : s.accepts d 0x01 [(8, 10)] 64 = true)
    (hc : c = chooseVersions s.ownRanges ((d.bytes.drop 8).take 10))
    (hmeets : meets = (c.all (· != 0) && (!s.job.active || s.job.ver == some c))) :
    exec (.negotiate d) s = .next (s.ends
      ((s.begun.taken d 0x01).complete d.ring (if meets then 0x00 else 0x02) c (if d.len = 0 then [] else fit (min 64 d.len) s.ownRanges)
        (if meets then some c else none))) := by
  subst hc hmeets
  exact act_takeCmd s d 0x01 [(8, 10)] 64 (fun _ => false) _ h rfl

/-! Rings (R119). -/

theorem Hif.modCmd_nums (h : Hif) (i : Nat) {g : CmdRing → CmdRing} (hg : ∀ r, (g r).num = r.num) :
    (h.modCmd i g).cmds.map (·.num) = h.cmds.map (·.num) := by
  rw [Hif.modCmd, List.map_map]
  refine List.map_congr_left fun r _ => ?_
  simp only [Function.comp_apply]
  split
  · exact hg r
  · rfl

@[simp] theorem State.taken_cmd_nums (s : State) (d : Desc) (op : Nat) : (s.taken d op).hif.cmds.map (·.num) = s.hif.cmds.map (·.num) :=
  Hif.modCmd_nums _ d.ring fun _ => rfl

theorem exec_ringCreate_command {d : Desc} {s : State} (h : s.accepts d 0x02 [(8, 1), (9, 1), (10, 1), (12, 2), (14, 2), (16, 8)] 0 = true)
    (hrange : s.badCreate d = false) (htype : d.arg 8 1 = 0) :
    exec (.ringCreate d) s = .next (s.ends
      (match freeNum 64 (s.hif.cmds.map (·.num)) with
       | none => (s.begun.taken d 0x02).complete d.ring 0x04
       | some i => ((s.begun.taken d 0x02).modHif (fun h => { h with cmds := sortOn (fun q => (q.num : Int)) (h.cmds ++
           [{ num := i, base := d.arg 16 8, log2 := d.arg 9 1, paired := d.arg 10 1 }]) })).complete d.ring 0x00 (le 1 i))) :=
  calc exec (.ringCreate d) s
      = execRingCreate d s := rfl
    _ = .next _ := act_takeCmd_answers (bad := fun s => s.badCreate d) h hrange (by
        rw [if_pos htype, State.taken_cmd_nums]
        cases hfree : freeNum 64 (s.hif.cmds.map (·.num)) <;> simp only [State.begun_hif, hfree] <;> rfl)

theorem exec_ringCreate_event {d : Desc} {s : State} (h : s.accepts d 0x02 [(8, 1), (9, 1), (10, 1), (12, 2), (14, 2), (16, 8)] 0 = true)
    (hrange : s.badCreate d = false) (htype : d.arg 8 1 = 1) :
    exec (.ringCreate d) s = .next (s.ends
      (match freeNum 8 (s.hif.evs.map (·.num)) with
       | none => (s.begun.taken d 0x02).complete d.ring 0x04
       | some j => ((s.begun.taken d 0x02).modHif (fun h => { h with evs := sortOn (fun q => (q.num : Int)) (h.evs ++
           [{ num := j, base := d.arg 16 8, log2 := d.arg 9 1, minSev := d.arg 10 1, mask := BitVec.ofNat 16 (d.arg 12 2), moderation := d.arg 14 2 }]) })).complete
             d.ring 0x00 (le 1 j))) :=
  calc exec (.ringCreate d) s
      = execRingCreate d s := rfl
    _ = .next _ := act_takeCmd_answers (bad := fun s => s.badCreate d) h hrange (by
        have hevs : (s.begun.taken d 0x02).hif.evs = s.hif.evs := rfl
        rw [if_neg (by omega), hevs]
        cases hfree : freeNum 8 (s.hif.evs.map (·.num)) <;> simp only [hfree] <;> rfl)

theorem exec_ringDestroy_event {d : Desc} {s : State} (h : s.accepts d 0x03 [(8, 1), (9, 1)] 0 = true) (hrange : s.badDestroy d = false)
    (htype : d.arg 8 1 = 1) :
    exec (.ringDestroy d) s = .next (s.ends
      (((s.begun.taken d 0x03).modHif (fun h => { h with evs := h.evs.filter (fun r => r.num != d.arg 9 1) })).complete d.ring 0x00)) :=
  calc exec (.ringDestroy d) s
      = execRingDestroy d s := rfl
    _ = .next _ := act_takeCmd_answers (bad := fun s => s.badDestroy d) h hrange ((if_pos htype).trans rfl)

/-- Changing a command ring leaves the other rings. -/
theorem Hif.cmd_modCmd_other (h : Hif) {i n : Nat} {g : CmdRing → CmdRing} (hg : ∀ r, (g r).num = r.num) (hn : n ≠ i) :
    (h.modCmd i g).cmd n = h.cmd n := by
  simp only [Hif.cmd, Hif.modCmd]
  induction h.cmds with
  | nil => rfl
  | cons r l ih =>
    rw [List.map_cons, List.find?_cons, List.find?_cons, ih]
    by_cases hr : r.num = i
    · have hin : (i == n) = false := by simpa using hn.symm
      simp [hr, hg, hin]
    · simp [hr]

/-- RING_DESTROY of a command ring: a command in progress on it, which is not stopped, completes first. -/
theorem exec_ringDestroy_command {d : Desc} {s : State} {r : CmdRing} (h : s.accepts d 0x03 [(8, 1), (9, 1)] 0 = true)
    (hrange : s.badDestroy d = false) (htype : d.arg 8 1 = 0) (hr : s.hif.cmd (d.arg 9 1) = some r) :
    exec (.ringDestroy d) s = .next (s.ends
      (if r.busy.isSome && !r.stopped then (s.begun.taken d 0x03).modHif (·.modCmd (d.arg 9 1) (fun r => { r with dying := some d.ring, tail := r.head }))
       else ((s.begun.taken d 0x03).modHif (fun h => { h with cmds := h.cmds.filter (fun r => r.num != d.arg 9 1) })).complete d.ring 0x00)) := by
  have hother : d.arg 9 1 ≠ d.ring := by
    intro heq
    simp [State.badDestroy, htype, heq] at hrange
  have htaken : (s.begun.taken d 0x03).hif.cmd (d.arg 9 1) = some r :=
    (Hif.cmd_modCmd_other { s.hif with turn := d.ring + 1 } (by exact fun _ => rfl) hother).trans hr
  calc exec (.ringDestroy d) s
      = execRingDestroy d s := rfl
    _ = .next _ := act_takeCmd_answers (bad := fun s => s.badDestroy d) h hrange (by
        dsimp only
        rw [if_neg (by omega), htaken]
        rfl)

/-- Settles O12: the chosen versions, and the rings by type. -/
theorem ringsAndVersionsAreNegotiated : Obligations.RingsAndVersionsAreNegotiated := by
  unfold Obligations.RingsAndVersionsAreNegotiated
  refine ⟨fun d s c meets => exec_negotiate, fun own host => ⟨length_chooseVersions own host, fun i => chooseVersions_getD own host⟩, ?_, ?_⟩
  · intro d s h hrange
    exact ⟨exec_ringCreate_command h hrange, exec_ringCreate_event h hrange⟩
  · intro d s h hrange
    exact ⟨exec_ringDestroy_event h hrange, fun r => exec_ringDestroy_command h hrange⟩

end Sys2Proof.Machine
end

section
/-!
Records (R398 to R404), and the scan that opens over cleared stores (R403).

`State.sansUnits` is a state without its unit maps and its outputs: what the updates of units and the signals leave alone.
-/
namespace Sys2Proof.Machine

theorem assoc_assocSet_self {β : Type} (l : List (Nat × β)) (k : Nat) (v : β) : assoc (assocSet l k v) k = some v := by
  unfold assocSet
  by_cases hk : l.any (fun p => p.1 == k)
  · rw [if_pos hk]
    induction l with
    | nil => simp at hk
    | cons p t ih =>
      by_cases hp : p.1 = k
      · simp [assoc, hp]
      · have ht : t.any (fun p => p.1 == k) := by simpa [hp] using hk
        have := ih ht
        simp_all [assoc]
  · rw [if_neg hk]
    have hnone : l.find? (fun p => p.1 == k) = none := List.find?_eq_none.2 fun p hp hpk => hk (List.any_eq_true.2 ⟨p, hp, hpk⟩)
    simp [assoc, List.find?_append, hnone]

@[simp] theorem State.mkRec_spent (s : State) (l : List (Nat × Nat)) (e : Ev) :
    ({ s with tally := { s.tally with spent := l } } : State).mkRec e = s.mkRec e := rfl

theorem State.formOne_accepted (s : State) (e : Ev) (htoken : (assoc s.tally.spent e.code).getD 0 < 16) (hfull : s.tally.waiting.length < 4096)
    (hregion : s.tally.regionFull (e.cls == clsFE) e.sev = false) :
    (s.formOne e false).2 = some (s.mkRec e) ∧ (s.formOne e false).1.tally.waiting = s.tally.waiting ++ [s.mkRec e]
      ∧ (s.formOne e false).1.tally.next = s.tally.next + 1 := by
  have htokens : decide (16 ≤ (assoc s.tally.spent e.code).getD 0) = false := by simpa using htoken
  have hwaiting : decide (4096 ≤ s.tally.waiting.length) = false := by simpa using hfull
  cases hfree : bucketExempt e.code || e.cls == clsFE with
  | true => simp [State.formOne, hfree, hwaiting, hregion]
  | false =>
    have hspent : ({ s.tally with spent := assocSet s.tally.spent e.code ((assoc s.tally.spent e.code).getD 0 + 1) } : Tally).regionFull
        (e.cls == clsFE) e.sev = false := hregion
    simp [State.formOne, hfree, htokens, hwaiting, hspent]

theorem State.formOne_withheld (s : State) (e : Ev) (hclass : e.cls ≠ clsFE) (hexempt : bucketExempt e.code = false)
    (htokens : 16 ≤ (assoc s.tally.spent e.code).getD 0) :
    s.formOne e false = (s.modTally (fun t =>
      { t with withheld := assocSet t.withheld e.code ((assoc t.withheld e.code).getD 0 + 1) }), none) := by
  simp [State.formOne, hclass, hexempt, htokens, State.modTally]

/-- Settles O41: a token is there or none is needed, and neither drop condition holds; or every token is spent. -/
theorem recordsCarryTheirReport : Obligations.RecordsCarryTheirReport := by
  refine ⟨fun s e htoken hfull hregion => ?_, fun s e hclass hexempt htokens => ?_⟩
  · obtain ⟨hrec, hwaiting, hnext⟩ := s.formOne_accepted e htoken hfull hregion
    exact ⟨s.mkRec e, hrec, hwaiting, hnext, rfl, rfl, rfl, rfl, rfl, rfl, rfl, rfl, rfl⟩
  · rw [s.formOne_withheld e hclass hexempt htokens]
    exact ⟨rfl, rfl, rfl, assoc_assocSet_self _ _ _⟩

/-! What the updates of units leave alone. -/

/-- A state without its fields, flocks, cores, lanes, Crooks, taps, governor's flocks and outputs. -/
def State.sansUnits (s : State) : State :=
  { s with fields := [], flocks := [], cores := [], lanes := [], crooks := [], taps := [], mems := [], govFlocks := [], out := [] }

variable (s : State)

@[simp] theorem State.sansUnits_modField (f : Nat) (g : Field → Field) : (s.modField f g).sansUnits = s.sansUnits := rfl
@[simp] theorem State.sansUnits_modFlock (f k : Nat) (g : Flock → Flock) : (s.modFlock f k g).sansUnits = s.sansUnits := rfl
@[simp] theorem State.sansUnits_modCore (f k c : Nat) (g : Core → Core) : (s.modCore f k c g).sansUnits = s.sansUnits := rfl
@[simp] theorem State.sansUnits_modLane (f k c l : Nat) (g : Lane → Lane) : (s.modLane f k c l g).sansUnits = s.sansUnits := rfl
@[simp] theorem State.sansUnits_modCrook (f i : Nat) (g : Crook → Crook) : (s.modCrook f i g).sansUnits = s.sansUnits := rfl
@[simp] theorem State.sansUnits_modTap (t : Nat) (g : LinkTap → LinkTap) : (s.modTap t g).sansUnits = s.sansUnits := rfl
@[simp] theorem State.sansUnits_modMem (t : Nat) (g : MemTap → MemTap) : (s.modMem t g).sansUnits = s.sansUnits := rfl
@[simp] theorem State.sansUnits_sig (n : Sig) (a v : Nat) : (s.sig n a v).sansUnits = s.sansUnits := rfl
@[simp] theorem State.sansUnits_drive (o : Output) : (s.drive o).sansUnits = s.sansUnits := rfl
@[simp] theorem State.sansUnits_presentTracker (f k : Nat) : (s.presentTracker f k).sansUnits = s.sansUnits := rfl

theorem State.sansUnits_forEach {β : Type} (l : List β) (g : State → β → State) (hg : ∀ t x, (g t x).sansUnits = t.sansUnits) :
    (s.forEach l g).sansUnits = s.sansUnits := s.forEach_frame State.sansUnits l g hg

@[simp] theorem State.sansUnits_syncField (f : Nat) : (s.syncField f).sansUnits = s.sansUnits := by
  simp only [State.syncField, State.sansUnits_modField]
  rw [State.sansUnits_forEach]
  exact fun _ _ => rfl

@[simp] theorem State.sansUnits_stopField (f : Nat) : (s.stopField f).sansUnits = s.sansUnits := by
  unfold State.stopField
  dsimp only
  rw [State.sansUnits_forEach, State.sansUnits_sig, State.sansUnits_modField, State.sansUnits_forEach, State.sansUnits_syncField] <;>
    exact fun _ _ => rfl

/-! The scan (R403). -/

theorem State.tbase_of_sansUnits {s t : State} (h : s.sansUnits = t.sansUnits) : s.tbase = t.tbase := (congrArg State.tbase h :)
theorem State.life_of_sansUnits {s t : State} (h : s.sansUnits = t.sansUnits) : s.life = t.life := (congrArg State.life h :)

theorem State.pair_of_sansUnits {s t : State} (h : s.sansUnits = t.sansUnits) : s.pair = t.pair := (congrArg State.pair h :)

theorem State.clearTraces_tbase : s.clearTraces.tbase = s.tbase := by
  rw [State.clearTraces, State.modShc_tbase, State.modShc_tbase]
  refine State.tbase_of_sansUnits ?_
  rw [State.sansUnits_forEach]
  exact fun _ _ => rfl

theorem State.clearTraces_life : s.clearTraces.life = s.life := by
  rw [State.clearTraces, State.modShc_life, State.modShc_life]
  refine State.life_of_sansUnits ?_
  rw [State.sansUnits_forEach]
  exact fun _ _ => rfl

/-- What clearing empties before it clears the traces. -/
theorem State.clearUnits_sansUnits (g : Nat → Field → Field) (l : List Nat) (c : Crook → Crook) :
    ((s.forEach (List.range Config.fields) (fun s f => s.modField f (g f))).forEach l (fun s key => s.modCrook (key / 8) (key % 8) c)).sansUnits
      = s.sansUnits := by
  rw [State.sansUnits_forEach, State.sansUnits_forEach] <;> exact fun _ _ => rfl

theorem State.clearSecrets_tbase : s.clearSecrets.tbase = s.tbase := by
  simp only [State.clearSecrets, State.modPair_tbase, State.modLife_tbase, State.clearTraces_tbase]
  exact State.tbase_of_sansUnits (s.clearUnits_sansUnits ..)

theorem State.clearSecrets_scanOpen : s.clearSecrets.life.scanOpen = s.life.scanOpen := by
  simp only [State.clearSecrets, State.modPair_life, State.modLife_life, State.clearTraces_life]
  exact congrArg Life.scanOpen (State.life_of_sansUnits (s.clearUnits_sansUnits ..))

/-- What opens the scan paths over cleared stores: both Shepherds are reset, their order ends, and every field stops. -/
def State.scanOpened (s : State) : State :=
  let resetBoth := s.forEach [false, true] (fun s b =>
    ((s.modShc b (fun x => { x with status := if x.status = .outOfService then .outOfService else .resetting, gate := false, nmi := none })).sig .shcGate (b2n b) 0).sig .shcReset (b2n b) 1)
  let noOrder := resetBoth.modPair (fun p => { p with active := none, challenge := none, digestWait := none, gapFrom := none })
  (noOrder.forEach (List.range Config.fields) State.stopField).modLife (fun l => { l with scanOpen := true })

theorem State.stopFields_sansUnits : (s.forEach (List.range Config.fields) State.stopField).sansUnits = s.sansUnits := by
  rw [State.sansUnits_forEach]
  exact fun _ f => State.sansUnits_stopField _ f

/-- What the scan's opening leaves of the stores, and the time. -/
def State.scanStores (s : State) : BitVec 64 × BitVec 64 × List Rec × Bool × Nat :=
  (s.life.challenge, s.job.key, s.tally.waiting, s.start.fwRun, s.tbase)

theorem State.scanStores_of_sansUnits {s t : State} (h : s.sansUnits = t.sansUnits) : s.scanStores = t.scanStores := (congrArg State.scanStores h :)

theorem State.scanOpened_scanStores : s.scanOpened.scanStores = s.scanStores := by
  have hlife (t : State) : (t.modLife (fun l => { l with scanOpen := true })).scanStores = t.scanStores := rfl
  have hpair (t : State) (g : Pair → Pair) : (t.modPair g).scanStores = t.scanStores := rfl
  simp only [State.scanOpened, hlife]
  rw [State.scanStores_of_sansUnits (State.stopFields_sansUnits _), hpair]
  exact s.forEach_frame State.scanStores _ _ fun t b => by simp [State.scanStores]

theorem State.scanOpened_scanOpen : s.scanOpened.life.scanOpen = true := by rw [State.scanOpened, State.modLife_life]

theorem State.scanOpened_active : s.scanOpened.pair.active = none := by
  simp only [State.scanOpened, State.modLife_pair]
  rw [State.pair_of_sansUnits (State.stopFields_sansUnits _), State.modPair_pair]

theorem exec_scanEnable {s : State} {at_ : Nat} (zero : Bool) (h : s.life.scanReq = some at_) :
    exec (.scanEnable zero) s = .next (s.ends
      (if zero then (s.outside.advanceTo (at_ + 10000000)).clearSecrets.scanOpened else (s.outside.advanceTo (at_ + 10000000)).clearSecrets)) := by
  calc exec (.scanEnable zero) s = execScanEnable zero s := rfl
    _ = .next _ := actOutside_answers (by cases zero <;> simp only [State.outside, h] <;> rfl)

theorem exec_scanEnable_none {s : State} (zero : Bool) (h : s.life.scanReq = none) : exec (.scanEnable zero) s = .next (s.ends s.outside) :=
  calc exec (.scanEnable zero) s = execScanEnable zero s := rfl
    _ = .next _ := actOutside_answers (by simp only [State.outside, h])

/-- Settles O30: the stores are cleared before the read-back is looked at, and what opens the scan paths touches none of them. -/
theorem scanOpensOnlyOverClearedStores : Obligations.ScanOpensOnlyOverClearedStores := by
  intro s
  refine ⟨fun h zero => exec_scanEnable_none zero h, fun at_ zero h hclosed => ⟨_, exec_scanEnable zero h, ?_⟩⟩
  generalize hv : s.outside.advanceTo (at_ + 10000000) = v
  have hstores : v.clearSecrets.scanStores = (0, 0, [], false, max s.tbase (at_ + 10000000)) := by
    rw [State.scanStores, State.clearSecrets_tbase, ← hv]
    rfl
  have hopen : v.clearSecrets.life.scanOpen = false := by
    rw [State.clearSecrets_scanOpen, ← hv]
    exact hclosed
  cases zero with
  | false =>
    simp only [State.scanStores, Prod.mk.injEq] at hstores
    obtain ⟨hchallenge, hkey, hwaiting, hstopped, htime⟩ := hstores
    exact ⟨hchallenge, hkey, hwaiting, hstopped, htime, hopen, fun h => nomatch h⟩
  | true =>
    rw [← State.scanOpened_scanStores] at hstores
    simp only [State.scanStores, Prod.mk.injEq] at hstores
    obtain ⟨hchallenge, hkey, hwaiting, hstopped, htime⟩ := hstores
    exact ⟨hchallenge, hkey, hwaiting, hstopped, htime, State.scanOpened_scanOpen _, fun _ => State.scanOpened_active _⟩

end Sys2Proof.Machine
end

section
/-!
The queries of the host (R118, R241, R268, R382).

`State.offHost` is a state without its host interface, its outputs and the accesses that failed: what a completion leaves alone.
-/
namespace Sys2Proof.Machine

/-- A state without its host interface, its outputs, the pair's order and held outputs, and the failed accesses. -/
def State.offHost (s : State) : State := { s with hif := {}, out := [], due := [], pair := { s.pair with held := [], order := 0 } }

section

variable (s : State)

@[simp] theorem State.modHif_offHost (g : Hif → Hif) : (s.modHif g).offHost = s.offHost := rfl
@[simp] theorem State.taken_offHost (d : Desc) (op : Nat) : (s.taken d op).offHost = s.offHost := rfl
@[simp] theorem State.begun_offHost : s.begun.offHost = s.offHost := by
  unfold State.begun; split <;> rfl

@[simp] theorem State.send_offHost (o : Output) : (s.send o).offHost = s.offHost := by
  unfold State.send; split <;> rfl

@[simp] theorem State.sendAll_offHost (os : List Output) : (s.sendAll os).offHost = s.offHost := by
  unfold State.sendAll; split <;> rfl

@[simp] theorem State.hostWrite_offHost (a : Nat) (b : List Byte) : (s.hostWrite a b).offHost = s.offHost := s.sendAll_offHost _

@[simp] theorem State.writeResult_offHost (r : CmdRing) (c : Completion) : (s.writeResult r c).offHost = s.offHost := by
  unfold State.writeResult
  split
  · rfl
  · split
    · rfl
    · simp

@[simp] theorem State.writeCompletion_offHost (r : CmdRing) (c : Completion) : (s.writeCompletion r c).offHost = s.offHost := by
  unfold State.writeCompletion
  split
  · simp
  · split
    · exact s.writeResult_offHost r _
    · simp

@[simp] theorem State.complete_offHost (i st : Nat) (res buf : List Byte) (neg : Option (List Byte)) :
    (s.complete i st res buf neg).offHost = s.offHost := by
  unfold State.complete
  split
  · rfl
  · split
    · rfl
    · dsimp only
      split
      · rfl
      · split
        · rfl
        · simp

theorem State.unchanged_of_offHost {s t : State} (h : t.offHost = s.offHost) :
    { t with hif := s.hif, out := s.out, pair := s.pair, due := s.due } = s :=
  (congrArg (fun u : State => { u with hif := s.hif, out := s.out, pair := s.pair, due := s.due }) h :)

@[simp] theorem State.serveRead_offHost (ring first n len top : Nat) : (s.serveRead ring first n len top).offHost = s.offHost :=
  s.complete_offHost ..

/-- The ring that takes a command does not wait for itself. -/
theorem State.taken_readInProgress (d : Desc) (op : Nat) : (s.taken d op).readInProgress d.ring = s.readInProgress d.ring := by
  have hcmds : (s.taken d op).hif.cmds = s.hif.cmds.map (fun r => if r.num == d.ring then
      { r with busy := some op, notify := bit (d.bytes.getD 1 0).toNat 0, bufAddr := d.addr } else r) := rfl
  simp only [State.readInProgress, hcmds, List.any_map]
  congr 2
  funext r
  simp only [Function.comp_apply]
  split
  · next h => simp [h, bne]
  · rfl

end

theorem exec_tallyRead {d : Desc} {s : State} (h : s.accepts d 0x70 [(8, 6), (16, 4)] 4294967295 = true) (hcount : d.arg 16 4 ≠ 0)
    (hlen : 64 ≤ d.len) (hwhole : d.len % 64 = 0) :
    exec (.tallyRead d) s = .next (s.ends
      (if s.readInProgress d.ring then (s.begun.taken d 0x70).complete d.ring 0x04
       else if s.tally.scanned then (s.begun.taken d 0x70).serveRead d.ring (d.arg 8 6) (d.arg 16 4) d.len s.tally.next
       else (s.begun.taken d 0x70).modTally
         (fun t => { t with pendingRead := t.pendingRead ++ [(d.ring, d.arg 8 6, d.arg 16 4, d.len, t.next)] }))) := by
  have hbad : (d.arg 16 4 == 0 || decide (d.len < 64) || d.len % 64 != 0) = false := by simp [hcount, hlen, hwhole]
  have hread : (s.begun.taken d 0x70).readInProgress d.ring = s.readInProgress d.ring := s.begun.taken_readInProgress d 0x70
  calc exec (.tallyRead d) s
      = execTallyRead d s := rfl
    _ = .next _ := act_takeCmd_answers (bad := fun _ => d.arg 16 4 == 0 || decide (d.len < 64) || d.len % 64 != 0) h hbad (by
        rw [hread]
        rfl)

theorem exec_queryBound {d : Desc} {s : State} (h : s.accepts d 0x40 [] 4294967295 = true) (hlen : 128 ≤ d.len) :
    exec (.queryBound d) s = .next (s.ends
      ((s.begun.taken d 0x40).complete d.ring 0x00 (le 8 (bits64 s.gov.u)) ((s.begun.taken d 0x40).boundBytes ((d.len - 128) / 16)))) :=
  act_takeCmd_answers (bad := fun _ => decide (d.len < 128)) h (by simpa using hlen) rfl

theorem exec_queryHealth {d : Desc} {s : State} (h : s.accepts d 0x41 [(12, 4)] 4294967295 = true) (hdomain : isDomain (d.uid 12) = true)
    (hlen : 64 ≤ d.len) :
    exec (.queryHealth d) s = .next (s.ends
      (({ s.begun.taken d 0x41 with free := s.free + 1048576 } : State).complete d.ring 0x00 []
        ((s.begun.taken d 0x41).healthBytes (d.uid 12) d.len))) :=
  act_takeCmd_answers (bad := fun _ => !isDomain (d.uid 12) || decide (d.len < 64)) h (by simpa [hdomain] using hlen) rfl

/-- Settles O23: what each query completes with, and that a completion leaves all else alone. -/
theorem queriesAnswerAndChangeNothing : Obligations.QueriesAnswerAndChangeNothing := by
  refine fun d s => ⟨fun h hlen => ?_, fun h hdomain hlen => ?_, fun h hcount hlen hwhole hread hscanned => ?_,
    fun h hcount hlen hwhole hread hscanned => ?_, fun h hcount hlen hwhole hread => ?_⟩
  · exact ⟨_, exec_queryBound h hlen, rfl, State.unchanged_of_offHost (by simp)⟩
  · refine ⟨_, exec_queryHealth h hdomain hlen, rfl, ?_⟩
    have hleft := State.complete_offHost ({ s.begun.taken d 0x41 with free := s.free + 1048576 } : State) d.ring 0x00 []
      ((s.begun.taken d 0x41).healthBytes (d.uid 12) d.len) none
    exact (congrArg (fun u : State => { u with hif := s.hif, out := s.out, pair := s.pair, due := s.due, free := s.free }) hleft :)
  · refine ⟨_, exec_tallyRead h hcount hlen hwhole, ?_, State.unchanged_of_offHost ?_⟩ <;> simp [hread, hscanned]
  · rw [exec_tallyRead h hcount hlen hwhole]
    simp [hread, hscanned]
  · rw [exec_tallyRead h hcount hlen hwhole]
    simp [hread]

end Sys2Proof.Machine
end

section
/-! The first-error latch takes the first error, and the part resets it handles end (R278 to R283, R290). -/
namespace Sys2Proof.Machine

/-- A latch that captures keeps what it captured, whatever error it takes next. -/
theorem Ferr.take_valid {l : Ferr} (e : Ev) (sq : Nat) (fence nmi part reset : Bool) (h : l.valid = true) :
    (l.take e sq fence nmi part reset).valid = true ∧ (l.take e sq fence nmi part reset).code = l.code
      ∧ (l.take e sq fence nmi part reset).cls = l.cls ∧ (l.take e sq fence nmi part reset).uid = l.uid
      ∧ (l.take e sq fence nmi part reset).tbase = l.tbase ∧ (l.take e sq fence nmi part reset).sequence = l.sequence := by
  unfold Ferr.take
  dsimp only
  rw [if_neg (by simp [h])]
  split
  · exact ⟨h, rfl, rfl, rfl, rfl, rfl⟩
  · exact ⟨h, rfl, rfl, rfl, rfl, rfl⟩

/-- A latch that captures nothing captures the error it takes. -/
theorem Ferr.take_not_valid {l : Ferr} (e : Ev) (sq : Nat) (fence nmi part reset : Bool) (h : l.valid = false) :
    (l.take e sq fence nmi part reset).valid = true ∧ (l.take e sq fence nmi part reset).code = e.code
      ∧ (l.take e sq fence nmi part reset).cls = e.cls ∧ (l.take e sq fence nmi part reset).uid = e.uid
      ∧ (l.take e sq fence nmi part reset).tbase = e.tbase ∧ (l.take e sq fence nmi part reset).sequence = sq
      ∧ (l.take e sq fence nmi part reset).merges = 0 := by
  unfold Ferr.take
  dsimp only
  rw [if_pos (by simp [h])]
  exact ⟨rfl, rfl, rfl, rfl, rfl, rfl, rfl⟩

theorem exec_ferrClear {s : State} (h : s.windowUp = true) :
    exec .ferrClear s = .next (s.ends
      ((if s.ferr.handling then s.begun else { s.begun with ferr := { overflow := s.ferr.overflow } }).drive (.window false))) :=
  calc exec .ferrClear s = execFerrClear s := rfl
    _ = .next _ := act_hardware_up h rfl

theorem exec_ferrOverflowClear {s : State} (h : s.windowUp = true) :
    exec .ferrOverflowClear s = .next (s.ends (({ s.begun with ferr := { s.ferr with overflow := false } } : State).drive (.window false))) :=
  calc exec .ferrOverflowClear s = execFerrOverflowClear s := rfl
    _ = .next _ := act_hardware_up h rfl

/-- A start from cold leaves the latch as reset leaves it. -/
theorem State.fresh_ferr (s : State) (heat : Bool) : (s.fresh heat).ferr = {} := by
  have hsig (t : State) (n : Sig) (a v : Nat) : (t.sig n a v).ferr = t.ferr := rfl
  simp only [State.fresh, hsig]
  refine State.forEach_keeps _ (fun t => t.ferr = {}) _ _ (fun t f ht => ?_) rfl
  split <;> exact ht

theorem exec_coldReset {s : State} (h : s.pwrGood = true) :
    exec .coldReset s = .next (s.ends
      { s.outside.fresh true with start := { (s.outside.fresh true).start with phase := .held, coldLow := true } }) :=
  calc exec .coldReset s = execColdReset s := rfl
    _ = .next _ := actOutside_answers (by
        have hup (t : State) : (t.fresh true).pwrGood = true := by
          have hsig (u : State) (n : Sig) (a v : Nat) : (u.sig n a v).pwrGood = u.pwrGood := rfl
          simp only [State.fresh, hsig]
          refine State.forEach_keeps _ (fun u => u.pwrGood = true) _ _ (fun u f hu => ?_) rfl
          split <;> exact hu
        rw [if_pos (show s.outside.pwrGood = true from h)]
        simp only [hup, if_true])

/-! Part resets (R283). -/

theorem State.begun_partResetting (s : State) (p : Part) : s.begun.partResetting p = s.partResetting p := by
  cases p <;> simp [State.partResetting]

theorem State.begun_partTimes (s : State) (p : Part) : s.begun.partTimes p = s.partTimes p := by
  cases p <;> simp [State.partTimes]

theorem exec_partResetDone {s : State} (u : Uid) (pass : Bool) {t : State} (h : s.begun.partReturn u pass = t) :
    exec (.partResetDone u pass) s = .next (s.ends t) :=
  calc exec (.partResetDone u pass) s = execPartResetDone u pass s := rfl
    _ = .next _ := act_answers h

theorem State.partReturn_failed {s : State} {u : Uid} {p : Part} (hpart : partOf u = some p) (hreset : s.partResetting p = true) :
    s.begun.partReturn u false = s.begun.partOut p := by
  simp [State.partReturn, hpart, State.begun_partResetting, hreset]

/-- What a part gets back when its self-test passes (Table 11.6). -/
def State.partBack (s : State) : Part → State
  | .drover f =>
    let t := s.modField f (fun fd => { fd with droverResetting := false, drover := true })
    { t with due := t.due ++ [.level0 (fieldUid f) 3 0] }
  | .router f n => (s.modField f (fun fd => { fd with routerResetting := without fd.routerResetting n })).linksBack f [n]
  | .crook f i => s.modCrook f i (fun x => ({ x with resetting := false, selfTestAt := s.tbase } : Crook).kick)
  | .engine t => s.modTap t (fun x => { x with resetting := false })
  | .shc _ => s
  | .voter v => s.modPair (fun q => { q with voters := modifyAt q.voters v (fun x => { x with resetting := false }) })

theorem State.partReturn_passed {s : State} {u : Uid} {p : Part} (hpart : partOf u = some p) (hreset : s.partResetting p = true) :
    s.begun.partReturn u true = s.begun.partBack p := by
  simp only [State.partReturn, hpart, State.begun_partResetting, hreset]
  cases p <;> rfl

theorem State.partReturn_idle {s : State} {u : Uid} (h : ∀ p : Part, partOf u = some p → s.partResetting p = false) (pass : Bool) :
    s.begun.partReturn u pass = s.begun := by
  unfold State.partReturn
  split
  · rfl
  · next p hpart => rw [if_pos (by simp [State.begun_partResetting, h p hpart])]

theorem exec_partResetLimit {s : State} {u : Uid} {p : Part} (hpart : partOf u = some p) (hreset : s.partResetting p = true) :
    exec (.partResetLimit u) s = .next (s.ends
      (({ s.begun with tbase := max s.tbase ((s.partTimes p).getLastD s.tbase + partLimit p) } : State).partOut p)) :=
  calc exec (.partResetLimit u) s = execPartResetLimit u s := rfl
    _ = .next _ := act_answers (by
        simp only [hpart, State.begun_partResetting, hreset, State.begun_partTimes]
        rfl)

theorem exec_partResetLimit_idle {s : State} {u : Uid} (h : ∀ p : Part, partOf u = some p → s.partResetting p = false) :
    exec (.partResetLimit u) s = .next (s.ends s.begun) :=
  calc exec (.partResetLimit u) s = execPartResetLimit u s := rfl
    _ = .next _ := act_answers (by
        split
        · rfl
        · next p hpart => rw [if_neg (by simp [State.begun_partResetting, h p hpart])])

/-- Settles O40: the latch's two clears, what it takes, and the part resets by the part that the UID names. -/
theorem latchTakesTheFirstError : Obligations.LatchTakesTheFirstError := by
  refine ⟨⟨fun s hup => ⟨fun hbusy => ⟨_, exec_ferrClear hup, ?_⟩, fun hidle => ⟨_, exec_ferrClear hup, ?_⟩,
      _, exec_ferrOverflowClear hup, rfl, rfl⟩,
    fun l e sq a b c d h => Ferr.take_valid e sq a b c d h, fun l e sq a b c d h => Ferr.take_not_valid e sq a b c d h,
    fun s hpower => ⟨_, exec_coldReset hpower, s.outside.fresh_ferr true⟩⟩, fun u s => ?_⟩
  · rw [if_pos hbusy]
    rfl
  · rw [if_neg (by simp [hidle])]
    exact ⟨rfl, rfl⟩
  refine ⟨fun p hpart hreset => ⟨exec_partResetDone u false (State.partReturn_failed hpart hreset), exec_partResetLimit hpart hreset⟩,
    fun f i hpart hreset => exec_partResetDone u true (State.partReturn_passed hpart hreset), fun t hpart hreset => exec_partResetDone u true (State.partReturn_passed hpart hreset),
    fun f n hpart hreset => exec_partResetDone u true (State.partReturn_passed hpart hreset), fun v hpart hreset => exec_partResetDone u true (State.partReturn_passed hpart hreset),
    fun f t hpart hreset ht => exec_partResetDone u true (ht ▸ State.partReturn_passed hpart hreset),
    fun hidle => ⟨fun b => exec_partResetDone u b (State.partReturn_idle hidle b), exec_partResetLimit_idle hidle⟩⟩

end Sys2Proof.Machine
end

section
/-! Memory events, the row table, row repair and retraining (R72, R262 to R265, R296). -/
namespace Sys2Proof.Machine

/-- What is chosen by a measure is one of those it is chosen from. -/
theorem mem_of_maxOn {α : Type} {g : α → Int} {l : List α} {a : α} (h : maxOn g l = some a) : a ∈ l := by
  have hfold (l : List α) (acc : Option α) (P : α → Prop) (hacc : ∀ b, acc = some b → P b) (hl : ∀ b ∈ l, P b) (b : α)
      (hb : l.foldl (fun acc a => match acc with
        | none => some a
        | some b => if g b < g a then some a else some b) acc = some b) : P b := by
    induction l generalizing acc with
    | nil => exact hacc b hb
    | cons x t ih =>
      refine ih _ (fun c hc => ?_) (fun c hc => hl c (List.mem_cons_of_mem x hc)) hb
      cases acc with
      | none => exact Option.some.inj hc ▸ hl x List.mem_cons_self
      | some y =>
        dsimp only at hc
        split at hc
        · exact Option.some.inj hc ▸ hl x List.mem_cons_self
        · exact hacc c hc
  exact hfold l none (· ∈ l) nofun (fun _ hb => hb) a h

theorem mem_of_minOn {α : Type} {g : α → Int} {l : List α} {a : α} (h : minOn g l = some a) : a ∈ l := mem_of_maxOn h

/-- The row that makes room is one of the table that is not due. -/
theorem rowVictim_spec {l : List Row} {v : BitVec 32} (h : rowVictim l = some v) : ∃ r ∈ l, r.due = false ∧ r.loc = v := by
  obtain ⟨r, hr, rfl⟩ := Option.map_eq_some_iff.1 h
  obtain ⟨hmem, hdue⟩ := List.mem_filter.1 (mem_of_minOn hr)
  exact ⟨r, hmem, by simpa using hdue, rfl⟩

theorem enterRow_of_present {l : List Row} {loc : BitVec 32} (now : Nat) (h : l.any (fun r => r.loc == loc) = true) : enterRow l loc now = l :=
  if_pos h

/-- A table with room takes the row at its end. -/
theorem enterRow_of_room {l : List Row} {loc : BitVec 32} (now : Nat) (h : l.any (fun r => r.loc == loc) = false) (hroom : l.length < 256) :
    enterRow l loc now = l ++ [{ loc := loc, lastAt := now }] := by
  rw [enterRow, if_neg (by simp [h]), if_pos hroom]

/-- Without that row, locations stay distinct. -/
theorem nodup_append_row {l : List Row} {loc : BitVec 32} (now : Nat) (hnodup : (l.map (·.loc)).Nodup)
    (h : ∀ r ∈ l, r.loc ≠ loc) : ((l ++ [({ loc := loc, lastAt := now } : Row)]).map (·.loc)).Nodup := by
  rw [List.map_append, List.nodup_append]
  refine ⟨hnodup, by simp, fun a ha b hb => ?_⟩
  obtain ⟨r, hr, rfl⟩ := List.mem_map.1 ha
  simp only [List.map_cons, List.map_nil, List.mem_singleton] at hb
  exact hb ▸ h r hr

/-- What entering a row does: nothing, or the table keeps a part that holds every row that is due, and the row goes behind it. -/
theorem enterRow_cases (l : List Row) (loc : BitVec 32) (now : Nat) (hlen : l.length ≤ 256) :
    enterRow l loc now = l ∨ ∃ kept : List Row, enterRow l loc now = kept ++ [{ loc := loc, lastAt := now }] ∧ kept.Sublist l
      ∧ kept.length < 256 ∧ (∀ r ∈ l, r.loc ≠ loc) ∧ ((l.map (·.loc)).Nodup → ∀ r ∈ l, r.due = true → r ∈ kept) := by
  by_cases hpresent : l.any (fun r => r.loc == loc) = true
  · exact .inl (enterRow_of_present now hpresent)
  have habsent : ∀ r ∈ l, r.loc ≠ loc := fun r hr hloc => hpresent (List.any_eq_true.2 ⟨r, hr, by simpa using hloc⟩)
  by_cases hroom : l.length < 256
  · exact .inr ⟨l, enterRow_of_room now (by simpa using hpresent) hroom, List.Sublist.refl l, hroom, habsent, fun _ r hr _ => hr⟩
  cases hvictim : rowVictim l with
  | none => exact .inl (by rw [enterRow, if_neg hpresent, if_neg hroom, hvictim])
  | some v =>
    obtain ⟨victim, hmem, hdue, rfl⟩ := rowVictim_spec hvictim
    refine .inr ⟨l.filter (fun r => r.loc != victim.loc), by rw [enterRow, if_neg hpresent, if_neg hroom, hvictim], List.filter_sublist, ?_, habsent, fun hnodup r hr hrdue => ?_⟩
    · have hlt : (l.filter (fun r => r.loc != victim.loc)).length < l.length :=
        List.length_filter_lt_length_iff_exists.2 ⟨victim, hmem, by simp⟩
      omega
    · refine List.mem_filter.2 ⟨hr, ?_⟩
      have hne : r ≠ victim := fun heq => by simp [heq, hdue] at hrdue
      simpa using fun hloc => hne (List.inj_on_of_nodup_map hnodup hr hmem hloc)

/-- Entering a row keeps the bound of the table, its distinct locations and its due rows. -/
theorem enterRow_keeps {l : List Row} (loc : BitVec 32) (now : Nat) (hlen : l.length ≤ 256) (hnodup : (l.map (·.loc)).Nodup) :
    (enterRow l loc now).length ≤ 256 ∧ ((enterRow l loc now).map (·.loc)).Nodup ∧ ∀ r ∈ l, r.due = true → r ∈ enterRow l loc now := by
  rcases enterRow_cases l loc now hlen with heq | ⟨kept, heq, hsub, hroom, habsent, hdue⟩ <;> rw [heq]
  · exact ⟨hlen, hnodup, fun r hr _ => hr⟩
  · refine ⟨by simpa using hroom, ?_, fun r hr hrdue => List.mem_append_left _ (hdue hnodup r hr hrdue)⟩
    exact nodup_append_row now ((hsub.map _).nodup hnodup) fun r hr => habsent r (hsub.subset hr)

/-! The commands. -/

theorem exec_memoryEvent {t cls : Nat} {s : State} (loc line : BitVec 32) (hup : s.memUp t = true) (hcls : cls < 4)
    (hdrover : s.droverUp (Config.memField t) = true) :
    exec (.memoryEvent t cls loc line) s = .next (s.ends
      (((s.begun.sig .mtpEvAck t 1).countRow t cls loc).report (0x2001 + cls) (memUid t) (le 4 loc.toNat ++ le 4 line.toNat))) :=
  calc exec (.memoryEvent t cls loc line) s = execMemoryEvent t cls loc line s := rfl
    _ = .next _ := actIf_pos s _ _ (by simp [hup, hcls, hdrover])

theorem State.countRow_class3 (s : State) (t : Nat) (loc : BitVec 32) : s.countRow t 3 loc = s := rfl

/-- A counted event keeps the locations of the table that the row has entered, and class 1 or 2 makes its row due. -/
theorem State.countRow_rows {cls : Nat} (s : State) (t : Nat) (loc : BitVec 32) (h : cls < 3) :
    ((s.countRow t cls loc).mem t).rows.map (·.loc) = (enterRow (s.mem t).rows loc s.tbase).map (·.loc)
      ∧ ∀ r ∈ ((s.countRow t cls loc).mem t).rows, r.loc = loc → cls ≠ 0 → r.due = true := by
  rw [State.countRow, if_neg (Nat.not_le.2 h), State.modMem_self]
  constructor
  · rw [List.map_map]
    refine List.map_congr_left fun r _ => ?_
    simp only [Function.comp_apply]
    split <;> rfl
  · intro r hr hloc hcls
    obtain ⟨q, _, rfl⟩ := List.mem_map.1 hr
    by_cases hq : q.loc != loc
    · rw [if_pos hq] at hloc
      exact absurd hloc (by simpa using hq)
    · rw [if_neg hq]
      simp [hcls]

theorem exec_rowRepairStart {t : Nat} {s : State} (hfw : s.firmware = true) (hup : s.memUp t = true) :
    exec (.rowRepairStart t) s = .next (s.ends (s.begun.startRepair t)) :=
  calc exec (.rowRepairStart t) s = execRowRepairStart t s := rfl
    _ = .next _ := actIf_pos s _ _ (by simp [hfw, hup])

theorem exec_rowRepairLimit {t : Nat} {s : State} {r : Repair} (hfw : s.firmware = true) (ht : t < Config.memTaps)
    (hr : (s.mem t).repair = some r) :
    exec (.rowRepairLimit t) s = .next (s.ends (({ s.begun with tbase := max s.tbase (r.started + 5000000) } : State).repairEnded t 3)) :=
  calc exec (.rowRepairLimit t) s = execRowRepairLimit t s := rfl
    _ = .next _ := actIf_answers (by simp [hfw, ht]) (by
        simp only [State.begun_mem, hr]
        rfl)

theorem exec_rowRepairLimit_idle {t : Nat} {s : State} (hfw : s.firmware = true) (ht : t < Config.memTaps)
    (hr : (s.mem t).repair = none) : exec (.rowRepairLimit t) s = .next (s.ends s.begun) :=
  calc exec (.rowRepairLimit t) s = execRowRepairLimit t s := rfl
    _ = .next _ := actIf_answers (by simp [hfw, ht]) (by simp only [State.begun_mem, hr])

theorem exec_retrainDone {t : Nat} {s : State} (ok : Bool) (n : Nat) (hfw : s.firmware = true) (ht : t < Config.memTaps)
    (hretrain : (s.mem t).retrain.isSome = true) :
    exec (.retrainDone t ok n) s = .next (s.ends
      (let u := (s.begun.modMem t (fun m => { m with retrain := none })).modL1 (fun l => { l with stackWait := without l.stackWait t })
       if ok then u
       else ((u.modMem t (fun m => { m with inService := false })).report 0x2006 (memUid t) [BitVec.ofNat 8 n]).placeCopies)) :=
  calc exec (.retrainDone t ok n) s = execRetrainDone t ok n s := rfl
    _ = .next _ := actIf_pos s _ _ (by simp [hfw, ht, hretrain])

/-- Settles O49: the commands of the memory taps, and what counting an event does to the row table. -/
theorem memoryStacksAreCountedAndRepaired : Obligations.MemoryStacksAreCountedAndRepaired := by
  refine ⟨fun t cls loc line s hup hcls hdrover => ⟨exec_memoryEvent loc line hup hcls hdrover, fun h => h ▸ s.countRow_class3 t loc,
      fun h => s.countRow_rows t loc h⟩,
    fun l loc now hlen hnodup => ?_,
    fun t s hfw ht => ⟨fun hup => exec_rowRepairStart hfw hup, fun st h2 h4 => exec_rowRepair s t st hfw ht h2 h4,
      fun r hr => exec_rowRepairLimit hfw ht hr, fun hr => exec_rowRepairLimit_idle hfw ht hr⟩,
    fun t n s u hfw ht hretrain hu => ?_⟩
  · obtain ⟨hbound, hdistinct, hdue⟩ := enterRow_keeps loc now hlen hnodup
    exact ⟨hbound, hdistinct, hdue, enterRow_of_present now⟩
  · subst hu
    exact ⟨exec_retrainDone true n hfw ht hretrain, exec_retrainDone false n hfw ht hretrain⟩

end Sys2Proof.Machine
end

section
/-! Run starts, planned windows and slices (R61, R141, R144, R147, R149, R177). -/
namespace Sys2Proof.Machine

section

variable (s : State)

/-! What a screening pass leaves of the flocks. -/

@[simp] theorem State.note_flocks (code : Nat) (uid : Uid) (payload : List Byte) (opId : BitVec 64) :
    (s.note code uid payload opId).flocks = s.flocks := (congrArg State.flocks (s.note_unreported ..) :)

@[simp] theorem State.coreTo_flocks (f k c : Nat) (st : UnitState) (cause : Nat) : (s.coreTo f k c st cause).flocks = s.flocks := by
  unfold State.coreTo
  dsimp only
  split
  · rfl
  · exact State.note_flocks ..

@[simp] theorem State.endPass_flocks (f k c : Nat) : (s.endPass f k c).flocks = s.flocks := by
  unfold State.endPass
  split
  · rfl
  · dsimp only
    split <;> split <;> simp

@[simp] theorem State.useItem_flocks (f k c : Nat) (it : Item) (skip : Bool) : (s.useItem f k c it skip).flocks = s.flocks := by
  simp [State.useItem]

@[simp] theorem State.slotCount_flocks (f k c i n : Nat) : (s.slotCount f k c i n).flocks = s.flocks := rfl

@[simp] theorem State.countUnfit_flocks (f k c : Nat) (ws : List IdleEntry) : (s.countUnfit f k c ws).flocks = s.flocks := by
  unfold State.countUnfit
  exact State.forEach_frame _ State.flocks _ _ fun t it => t.useItem_flocks ..

/-! A run start. -/

/-- What a run start offers a slot's core of the run's windows (R147, R154). -/
def State.offerWindows (s : State) (f k : Nat) (es : List IdleEntry) (j : Nat) : State :=
  let ws := es.filter (fun e => e.slot == j)
  let c := (s.flock f k).coreOf j
  if (s.flock f k).slotOf c != some j then s
  else
    let s := s.modCore f k c (fun x => { x with planned := [] })
    if ws.isEmpty then s
    else
      let s := (s.slotCount f k c 0 ws.length).slotCount f k c 1 (ws.foldl (fun n w => n + w.len) 0)
      s.countUnfit f k c ws

theorem State.offerWindows_flocks (f k : Nat) (es : List IdleEntry) (j : Nat) : (s.offerWindows f k es j).flocks = s.flocks := by
  unfold State.offerWindows
  dsimp only
  split
  · rfl
  · split
    · rfl
    · simp

/-- What a run start latches in its flock (R141, R177). -/
def State.runLatched (s : State) (f k id : Nat) : State :=
  (s.syncField f).modFlock f k (fun fl => { fl with
    latched := some ((s.syncField f).gflock f k).thresholds, runId := some id, runStart := (s.syncField f).cycleCount f, quiet := false
    windows := (s.syncField f).runEntries f k id })

theorem State.runStart_eq (f k id : Nat) :
    s.runStart f k id = (s.runLatched f k id).forEach (List.range Config.slots) (fun t j => t.offerWindows f k ((s.syncField f).runEntries f k id) j) :=
  rfl

theorem State.runStart_flock (f k id g j : Nat) : (s.runStart f k id).flock g j = (s.runLatched f k id).flock g j := by
  have hflocks : (s.runStart f k id).flocks = (s.runLatched f k id).flocks := by
    rw [State.runStart_eq]
    exact State.forEach_frame _ State.flocks _ _ fun t j => t.offerWindows_flocks ..
  rw [State.flock, State.flock, hflocks]

/-- A change of one flock that keeps a part of it keeps that part of every flock. -/
theorem State.modFlock_flock_frame {γ : Type} (p : Flock → γ) {g : Flock → Flock} (hg : ∀ fl, p (g fl) = p fl) (f k a b : Nat) :
    p ((s.modFlock f k g).flock a b) = p (s.flock a b) := by
  rw [State.modFlock_get]
  split
  · next h => rw [hg, State.flock, State.flock, h]
  · rfl

/-- Bringing a field's counts up to date keeps what its flocks have latched. -/
theorem State.syncField_latched (f a b : Nat) : ((s.syncField f).flock a b).latched = (s.flock a b).latched := by
  simp only [State.syncField, State.modField_flock]
  exact State.forEach_frame _ (fun t => (t.flock a b).latched) _ _ fun t k => t.modFlock_flock_frame Flock.latched (by exact fun _ => rfl) ..

theorem State.syncField_gflock (f a b : Nat) : (s.syncField f).gflock a b = s.gflock a b := by
  simp only [State.syncField, State.modField_gflock]
  exact State.forEach_frame _ (fun t => t.gflock a b) _ _ fun t k => rfl

theorem State.runStart_latches (f k id : Nat) :
    ((s.runStart f k id).flock f k).latched = some (s.gflock f k).thresholds ∧ ((s.runStart f k id).flock f k).runId = some id
      ∧ ((s.runStart f k id).flock f k).quiet = false ∧ ((s.runStart f k id).flock f k).windows = (s.syncField f).runEntries f k id := by
  rw [State.runStart_flock, State.runLatched, State.modFlock_self, State.syncField_gflock]
  exact ⟨rfl, rfl, rfl, rfl⟩

theorem State.runStart_latched_other {f k g j : Nat} (id : Nat) (hfsp : fspExists f k = true) (hfsp' : fspExists g j = true)
    (hne : (g, j) ≠ (f, k)) : ((s.runStart f k id).flock g j).latched = (s.flock g j).latched := by
  have hkey : ¬ flockKey g j = flockKey f k := by
    simp only [fspExists, Bool.and_eq_true, decide_eq_true_eq] at hfsp hfsp'
    obtain ⟨-, hk⟩ := hfsp
    obtain ⟨-, hj⟩ := hfsp'
    have hflocks : Config.flocks ≤ 64 := by decide
    rw [flockKey_inj g j f k (by omega) (by omega)]
    exact fun ⟨hg, hj⟩ => hne (by rw [hg, hj])
  rw [State.runStart_flock, State.runLatched, State.modFlock_get, if_neg hkey, State.syncField_latched]

end

theorem exec_runStart {f k : Nat} {s : State} (id : Nat) (hfsp : fspExists f k = true) (hdrover : s.droverUp f = true) (ok : Bool) :
    exec (.runStart f k id ok) s = .next (s.ends (if ok then s.begun.runStart f k id else s.begun.fspParity f k 5)) :=
  calc exec (.runStart f k id ok) s = execRunStart f k id s ok := rfl
    _ = .next _ := actIf_pos s _ _ (by simp [hfsp, hdrover])

/-! Planned windows (R144). -/

theorem exec_windowPlan {f k : Nat} {s : State} (j w : Nat) (hfsp : fspExists f k = true) (hdrover : s.droverUp f = true) :
    exec (.windowPlan f k j w) s = .next (s.ends (s.begun.planWindow f k j w)) :=
  calc exec (.windowPlan f k j w) s = execWindowPlan f k j w s := rfl
    _ = .next _ := actIf_pos s _ _ (by simp [hfsp, hdrover])

theorem State.planWindow_unnamed {f k j w : Nat} {s : State}
    (h : (s.flock f k).windows.find? (fun e => e.slot == j && e.w == w) = none) : s.planWindow f k j w = s := by
  simp only [State.planWindow, h]

/-- The plan of a window, once an item has been chosen for it. -/
def State.planItem (u : State) (f k c w len : Nat) (it : Item) : State :=
  let planned := u.modCore f k c (fun x => { x with planned := x.planned ++
    [{ w := w, len := len, item := it, slice := u.sliceOf f k c it len false, pat := u.patternOf it.pattern }] })
  (planned.refill f (it.pattern :: planned.nextPatterns f k c)).beginWrite f k c

theorem State.planWindow_named {f k j w c : Nat} {s : State} {e : IdleEntry} {u : State} {o : Option Item} (hc : c = (s.flock f k).coreOf j)
    (hwindow : (s.flock f k).windows.find? (fun e => e.slot == j && e.w == w) = some e) (hpack : s.patterns ≠ [])
    (hslot : (s.flock f k).slotOf c = some j) (hnew : (s.core f k c).planned.any (fun p => p.w == w) = false)
    (hchoose : s.choose f k c e.len e.quiet ((s.candidates f k c).take 8) = (u, o)) :
    s.planWindow f k j w = (match o with
      | none => u.slotCount f k c 5 1
      | some it => u.planItem f k c w e.len it) := by
  subst hc
  have hskip : ¬ (s.patterns.isEmpty || (s.flock f k).slotOf ((s.flock f k).coreOf j) != some j
      || (s.core f k ((s.flock f k).coreOf j)).planned.any (fun p => p.w == w)) = true := by simp [hpack, hslot, hnew]
  simp only [State.planWindow, hwindow]
  rw [if_neg hskip]
  simp only [hchoose]
  cases o <;> rfl

theorem exec_windowOpen {f k : Nat} {s : State} (j w : Nat) (hfsp : fspExists f k = true) (hdrover : s.droverUp f = true) :
    exec (.windowOpen f k j w) s = .next (s.ends (s.begun.openWindow f k j w)) :=
  calc exec (.windowOpen f k j w) s = execWindowOpen f k j w s := rfl
    _ = .next _ := actIf_pos s _ _ (by simp [hfsp, hdrover])

/-- What opening a planned window does, by whether its slice may enter. -/
theorem State.openWindow_planned {f k j w c : Nat} {s u : State} {pl : Planned} (hc : c = (s.flock f k).coreOf j)
    (hplanned : (s.core f k c).planned.find? (fun p => p.w == w && !p.opened) = some pl)
    (hu : u = s.modCore f k c (fun x => { x with planned := x.planned.map (fun p => if p.w = w then { p with opened := true } else p) })) :
    s.openWindow f k j w =
      (if !pl.written || (u.core f k c).slice.isSome || u.windowBusy f k then (u.slotCount f k c 4 1).beginWrite f k c
       else if pl.item.guard && u.overFused f (u.core f k c).step then (u.guardSkip f k c pl.item).beginWrite f k c
       else u.enterSlice f k c pl.slice) := by
  subst hc hu
  simp only [State.openWindow, hplanned]

/-! Slices in windows of the Drover's own making (R149, R302). -/

theorem exec_spareSlicePlan {f k c : Nat} {s : State} (hfsp : fspExists f k = true) (hcore : c < Config.cores) (hdrover : s.droverUp f = true) :
    exec (.spareSlicePlan f k c) s = .next (s.ends (s.begun.planOwn f k c)) :=
  calc exec (.spareSlicePlan f k c) s = execSpareSlicePlan f k c s := rfl
    _ = .next _ := actIf_pos s _ _ (by simp [hfsp, hcore, hdrover])

theorem State.planOwn_busy {f k c : Nat} {s : State} (h : (s.core f k c).slice.isSome = true) : s.planOwn f k c = s := by
  rw [State.planOwn]
  exact if_pos (by simp [h])

/-- What a chosen item makes of a core with room for it: the slice, its pattern paged and its scratch write. -/
def State.ownSlice (u : State) (f k c : Nat) (it : Item) (bell : Option Int) (self : Bool) : State :=
  let sl := u.sliceOf f k c it 0 true
  let planned := u.modCore f k c (fun x => { x with
    slice := some { sl with window := sl.need + 192, phase := .writing, bell := bell, retest := sl.retest && bell.isNone && !self } })
  (planned.refill f (it.pattern :: planned.nextPatterns f k c)).writeScratch f k c (planned.patternOf it.pattern)

/-- A state without what a message on the mesh changes: the fields, the mesh, the outputs and those held for the follower. -/
def State.offMesh (s : State) : State := { s with fields := [], mesh := {}, out := [], pair := { s.pair with held := [] } }

@[simp] theorem State.sendAll_offMesh (s : State) (os : List Output) : (s.sendAll os).offMesh = s.offMesh := by
  unfold State.sendAll; split <;> rfl

@[simp] theorem State.nextMeshSn_offMesh (s : State) (src : Uid) : (s.nextMeshSn src).1.offMesh = s.offMesh := by
  unfold State.nextMeshSn; split <;> rfl

@[simp] theorem State.message_offMesh (s : State) (src dst : Uid) (kind : MeshKind) (arg : Nat) :
    (s.message src dst kind arg).offMesh = s.offMesh := by
  rw [← s.nextMeshSn_offMesh src, State.message]
  generalize s.nextMeshSn src = numbered
  dsimp only
  split
  · simp
  · rfl

theorem State.messages_offMesh (s : State) (src dst : Uid) (kind : MeshKind) (args : List Nat) :
    (s.forEach args (fun s arg => s.message src dst kind arg)).offMesh = s.offMesh :=
  s.forEach_frame State.offMesh args _ fun t arg => t.message_offMesh src dst kind arg

@[simp] theorem State.modField_offMesh (s : State) (f : Nat) (g : Field → Field) : (s.modField f g).offMesh = s.offMesh := rfl

@[simp] theorem State.refill_offMesh (s : State) (f : Nat) (want : List Nat) : (s.refill f want).offMesh = s.offMesh := by
  unfold State.refill
  split
  · split
    · rfl
    · dsimp only
      rw [State.modField_offMesh, State.messages_offMesh]
  · rfl

theorem State.refill_cores (s : State) (f : Nat) (want : List Nat) : (s.refill f want).cores = s.cores :=
  (congrArg State.cores (s.refill_offMesh f want) :)

theorem State.ownSlice_slice (u : State) (f k c : Nat) (it : Item) (bell : Option Int) (self : Bool) :
    ∃ sl, ((u.ownSlice f k c it bell self).core f k c).slice = some sl ∧ sl.phase = .writing ∧ sl.own = true
      ∧ sl.pattern = it.pattern ∧ sl.guard = it.guard := by
  have hcore (p : Pattern) (want : List Nat) (t : State) : ((t.refill f want).writeScratch f k c p).core f k c = t.core f k c :=
    congrArg (fun l => mapGet (fun _ => ({} : Core)) l (coreKey f k c)) (t.refill_cores f want)
  rw [State.ownSlice, hcore, State.modCore_self]
  exact ⟨_, rfl, rfl, rfl, rfl, rfl⟩

section

variable {s : State} {f k c : Nat} (hfree : (s.core f k c).slice = none) (hpack : s.patterns ≠ []) (hcore : (s.core f k c).st.gone = false)
  (hflock : (s.flock f k).st.gone = false)
include hfree hpack hcore hflock

theorem State.planOwn_self {it : Item} {its : List Item} (hself : (s.core f k c).selfItems = it :: its) :
    s.planOwn f k c = s.ownSlice f k c it none true := by
  have hroom (n : Nat) : s.spareRoom f k c n = true := by simp [State.spareRoom, hself]
  simp only [State.planOwn]
  rw [if_neg (by simp [hfree, hpack, hcore, hflock, State.ownWindows, hself])]
  simp only [hself, hroom]
  rfl

theorem State.planOwn_chosen {u : State} {o : Option Item} (hself : (s.core f k c).selfItems = []) (hown : s.ownWindows f k c = true)
    (hbell : (s.field f).bellCode = none) (hchoose : s.choose f k c 4294967295 true ((s.candidates f k c).take 8) = (u, o)) :
    (o = none → s.planOwn f k c = u)
    ∧ ∀ it, o = some it → u.spareRoom f k c (u.sliceOf f k c it 0 true).need = true → s.planOwn f k c = u.ownSlice f k c it none false := by
  have hplan : ¬ ((s.core f k c).slice.isSome || s.patterns.isEmpty || (s.core f k c).st.gone || (s.flock f k).st.gone
      || !s.ownWindows f k c) = true := by simp [hfree, hpack, hcore, hflock, hown]
  refine ⟨fun ho => ?_, fun it ho hroom => ?_⟩
  · subst ho
    simp only [State.planOwn]
    rw [if_neg hplan]
    simp only [hself, hbell, hchoose]
  · subst ho
    simp only [State.planOwn]
    rw [if_neg hplan]
    simp only [hself, hbell, hchoose, hroom]
    rfl

end

/-! A slice whose scratch is written (R61, R144). -/

theorem exec_scratchWriteDone {f k : Nat} {s : State} (c : Nat) (hfsp : fspExists f k = true) (hdrover : s.droverUp f = true) :
    exec (.scratchWriteDone f k c) s = .next (s.ends (s.begun.scratchWritten f k c)) :=
  calc exec (.scratchWriteDone f k c) s = execScratchWriteDone f k c s := rfl
    _ = .next _ := actIf_pos s _ _ (by simp [hfsp, hdrover])

section

variable {s u : State} {f k c : Nat} {sl : Slice} (hslice : (s.core f k c).slice = some sl) (hphase : sl.phase = .writing)
  (hself : (s.core f k c).selfItems = []) (hu : u = s.modCore f k c (fun x => { x with slice := none }))
include hslice hphase hself hu

theorem State.scratchWritten_busy (hbusy : u.windowBusy f k = true) : s.scratchWritten f k c = u.slotCount f k c 4 1 := by
  have hself' : (u.core f k c).selfItems = [] := by rw [hu, State.modCore_self]; exact hself
  simp only [State.scratchWritten, hslice]
  rw [if_neg (by simp [hphase]), ← hu]
  simp [hself', hbusy]

theorem State.scratchWritten_enters (hfree : u.windowBusy f k = false) (hlane : sl.lane = false)
    (hguard : sl.guard = true → u.overFused f (u.core f k c).step = false) : s.scratchWritten f k c = u.enterSlice f k c sl := by
  have hself' : (u.core f k c).selfItems = [] := by rw [hu, State.modCore_self]; exact hself
  simp only [State.scratchWritten, hslice]
  rw [if_neg (by simp [hphase]), ← hu]
  simp [hself', hfree, hlane]
  exact fun h hover => by simp [hguard h] at hover

end

/-- Settles O37: run starts, planned windows, and windows of the Drover's own making. -/
theorem runsLatchPlanAndOpenSlices : Obligations.RunsLatchPlanAndOpenSlices := by
  refine ⟨fun f k s hfsp hdrover => ⟨fun id => exec_runStart id hfsp hdrover true, fun id => exec_runStart id hfsp hdrover false,
      fun j w hnone => ?_, fun j w c e u o hc hwindow hpack hslot hnew hchoose => ?_, fun j w c pl u hc hplanned hu => ?_⟩,
    fun f k id s hfsp => ?_, fun f k c s hfsp hdrover hcore => ⟨fun hbusy => ?_, fun hfree hpack hgone hflock => ⟨fun it its hself => ?_,
      fun u o hself hown hbell hchoose => ?_⟩, fun sl u hslice hphase hself hu => ⟨fun hbusy => ?_, fun hfree hlane hguard => ?_⟩⟩⟩
  · rw [exec_windowPlan j w hfsp hdrover, State.planWindow_unnamed (by exact hnone)]
  · rw [exec_windowPlan j w hfsp hdrover, State.planWindow_named (s := s.begun) hc hwindow hpack hslot hnew hchoose]
    cases o <;> rfl
  · have hopen := State.openWindow_planned (s := s.begun) hc hplanned hu
    refine ⟨fun hwritten hfree hcalm => ⟨fun hfused => ?_, fun hover => ?_⟩, fun hskip => ?_⟩ <;> rw [exec_windowOpen j w hfsp hdrover, hopen]
    · simp [hwritten, hfree, hcalm, hfused]
    · simp [hwritten, hfree, hcalm, hover]
    · rw [if_pos (by simpa [or_assoc] using hskip)]
  · obtain ⟨hlatched, hrun, hquiet, hwindows⟩ := s.runStart_latches f k id
    exact ⟨hlatched, hrun, hquiet, hwindows, fun f' k' hfsp' hne => s.runStart_latched_other id hfsp hfsp' hne⟩
  · rw [exec_spareSlicePlan hfsp hcore hdrover, State.planOwn_busy (by exact hbusy)]
  · obtain ⟨sl, hslice⟩ := s.begun.ownSlice_slice f k c it none true
    exact ⟨_, sl, (exec_spareSlicePlan hfsp hcore hdrover).trans (by rw [State.planOwn_self (s := s.begun) hfree hpack hgone hflock hself]), hslice⟩
  · obtain ⟨hnone, hsome⟩ := State.planOwn_chosen (s := s.begun) hfree hpack hgone hflock hself hown hbell hchoose
    refine ⟨fun ho => by rw [exec_spareSlicePlan hfsp hcore hdrover, hnone ho], fun it ho hroom => ?_⟩
    obtain ⟨sl, hslice⟩ := u.ownSlice_slice f k c it none false
    exact ⟨_, sl, (exec_spareSlicePlan hfsp hcore hdrover).trans (by rw [hsome it ho hroom]), hslice⟩
  · rw [exec_scratchWriteDone c hfsp hdrover, State.scratchWritten_busy (s := s.begun) hslice hphase hself hu hbusy]
  · rw [exec_scratchWriteDone c hfsp hdrover, State.scratchWritten_enters (s := s.begun) hslice hphase hself hu hfree hlane hguard]

end Sys2Proof.Machine
end

section
/-! Gusts, the power sequencers, telemetry and calibration (R324 to R328, R331 to R342). -/
namespace Sys2Proof.Machine

/-! Gusts and storms (R326, R328). -/

theorem State.syncField_policy (s : State) (f : Nat) : (s.syncField f).policy = s.policy := (congrArg State.policy (s.sansUnits_syncField f) :)
@[simp] theorem State.syncField_tbase (s : State) (f : Nat) : (s.syncField f).tbase = s.tbase := State.tbase_of_sansUnits (s.sansUnits_syncField f)

@[simp] theorem State.syncField_out (s : State) (f : Nat) : (s.syncField f).out = s.out := by
  simp only [State.syncField, State.modField_out]
  exact s.forEach_frame State.out _ _ (by exact fun _ _ => rfl)

theorem Field.advance_storm (fd : Field) (held : Bool) (now : Nat) : (fd.advance held now).storm = fd.storm := by
  unfold Field.advance
  split <;> rfl

/-- Bringing a field's counts up to date only advances the field. -/
theorem State.syncField_field (s : State) (f : Nat) : ∃ held now, (s.syncField f).field f = (s.field f).advance held now := by
  have hflocks (t : State) (l : List Nat) (g : State → Flock → Flock) : (t.forEach l (fun t k => t.modFlock f k (g t))).field f = t.field f :=
    t.forEach_frame (fun t => t.field f) l _ (by exact fun _ _ => rfl)
  simp only [State.syncField, State.modField_self]
  rw [hflocks]
  exact ⟨_, _, rfl⟩

theorem State.syncField_storm (s : State) (f : Nat) : ((s.syncField f).field f).storm = (s.field f).storm := by
  obtain ⟨held, now, h⟩ := s.syncField_field f
  rw [h, Field.advance_storm]

theorem exec_gustRise {f i : Nat} {s u : State} {m : Nat} (hf : f < Config.fields) (hi : i < Config.gusts) (hpg : (s.field f).compPg = true)
    (hlive : (s.field f).deadDetectors.contains i = false)
    (hm : m = (if ((s.begun.syncField f).field f).storm then 1 else s.policy.gustMode))
    (hu : u = (s.begun.syncField f).traceDrover f 0x13 (le 8 ((s.begun.syncField f).cycleCount f) ++ le 1 i ++ le 1 m ++ zeros 6)) :
    exec (.gustRise f i) s = .next (s.ends (((if m = 0 then u.skipEdge f else u.stretchClock f).addRise f).stormBegin f)) := by
  have hmode : (s.begun.syncField f).policy.gustMode = s.policy.gustMode := congrArg Policy.gustMode (s.begun.syncField_policy f)
  subst hu hm
  calc exec (.gustRise f i) s = execGustRise f i s := rfl
    _ = .next _ := actIf_answers (by simp [hf, hi, hpg]; simpa using hlive) (by simp only [hmode])

/-- What ends a stretch of the clock, when its time has come. -/
def State.stretchEnded (s : State) (f : Nat) : State :=
  let s := s.syncField f
  let s := s.modField f (fun fd => { fd with stretch := 0, counters := bump fd.counters 2 (if fd.storm then 0 else fd.stretch) })
  if (s.field f).storm then s else s.sig .cclkStretch f 0

theorem exec_stretchEnd {f : Nat} {s : State} (hf : f < Config.fields) (hstretch : 0 < (s.field f).stretch) :
    exec (.stretchEnd f) s = .next (s.ends
      ((if (s.field f).cycleRate = 0 then s.begun
        else s.begun.advanceTo ((s.field f).lastRise.getD s.tbase + ceilDiv ((s.field f).stretch * 48000) (s.field f).cycleRate)).stretchEnded f)) :=
  calc exec (.stretchEnd f) s = execStretchEnd f s := rfl
    _ = .next _ := actIf_pos s _ _ (by simp [hf, hstretch])

theorem State.stretchEnded_stretch (s : State) (f : Nat) : ((s.stretchEnded f).field f).stretch = 0 := by
  unfold State.stretchEnded
  dsimp only
  split
  · rw [State.modField_self]
  · rw [State.sig_field, State.modField_self]

theorem State.stretchEnded_out (s : State) (f : Nat) :
    (s.stretchEnded f).out = if (s.field f).storm then s.out else s.out ++ [.sig .cclkStretch f 0] := by
  unfold State.stretchEnded
  dsimp only
  rw [State.modField_self, State.syncField_storm]
  split
  · rw [State.modField_out, State.syncField_out]
  · rw [State.sig, State.drive, State.modField_out, State.syncField_out]

theorem exec_stretchEnd_spec {f : Nat} {s : State} (hf : f < Config.fields) (hstretch : 0 < (s.field f).stretch) :
    ∃ t, exec (.stretchEnd f) s = .next (s.ends t) ∧ (t.field f).stretch = 0
      ∧ t.out = if (s.field f).storm then [] else [.sig .cclkStretch f 0] := by
  refine ⟨_, exec_stretchEnd hf hstretch, State.stretchEnded_stretch .., ?_⟩
  rw [State.stretchEnded_out]
  split <;> rfl

/-- A field after a storm hold, at its time. -/
def State.stormEnded (s : State) (f : Nat) (fd : Field) : State :=
  let now := max s.tbase (fd.calmFrom + 10000000)
  let s := (s.advanceTo now).syncField f
  let n := (now - fd.stormStart) * (s.field f).cycleRate / 48000
  let s := s.modField f (fun fd => { fd with storm := false, counters := bump fd.counters 2 n })
  if (s.field f).stretch = 0 then s.sig .cclkStretch f 0 else s

theorem State.stormEnded_storm (s : State) (f : Nat) (fd : Field) : ((s.stormEnded f fd).field f).storm = false := by
  unfold State.stormEnded
  dsimp only
  split
  · rw [State.sig_field, State.modField_self]
  · rw [State.modField_self]

theorem State.stormEnded_tbase (s : State) (f : Nat) (fd : Field) : (s.stormEnded f fd).tbase = max s.tbase (fd.calmFrom + 10000000) := by
  unfold State.stormEnded
  dsimp only
  split <;> simp

theorem exec_stormHoldEnd {f : Nat} {s : State} (hf : f < Config.fields) (hstorm : (s.field f).storm = true) :
    ∃ u : State, (u.field f).storm = false ∧ u.tbase = max s.tbase ((s.field f).calmFrom + 10000000)
      ∧ exec (.stormHoldEnd f) s = .next (s.ends ((u.report 0x3003 (fieldUid f) ([1, 0, 0, 0] ++ le 4 (s.field f).worstMs
          ++ le 4 ((u.tbase - (s.field f).stormStart) / 1000000))).exempt)) := by
  refine ⟨s.begun.stormEnded f (s.field f), State.stormEnded_storm .., State.stormEnded_tbase .., ?_⟩
  calc exec (.stormHoldEnd f) s = execStormHoldEnd f s := rfl
    _ = .next _ := actIf_answers (by simp [hf, hstorm]) (by rw [State.stormEnded_tbase]; rfl)

theorem exec_gustDetectorStuck {f i : Nat} {s : State} (hf : f < Config.fields) (hi : i < Config.gusts)
    (hlive : (s.field f).deadDetectors.contains i = false) :
    exec (.gustDetectorStuck f i) s = .next (s.ends
      ((s.begun.modField f (fun fd => { fd with deadDetectors := insertNew fd.deadDetectors i })).report 0x0305 (partUid f (0x40 + i)) [0])) :=
  calc exec (.gustDetectorStuck f i) s = execGustDetectorStuck f i s := rfl
    _ = .next _ := actIf_pos s _ _ (by simp [hf, hi]; simpa using hlive)

/-! The sequencers (R335, R336, R342). -/

theorem exec_leeRun {s : State} (hfw : s.firmware = true) :
    ∃ u : State, u = { s.begun with tbase := max s.tbase (s.power.leeRuns + 1000000) }
      ∧ exec .leeRun s = .next (s.ends (({ u with power := { s.power with leeRuns := u.tbase } } : State).leeRun)) :=
  ⟨_, rfl, calc exec .leeRun s = execLeeRun s := rfl
    _ = .next _ := actIf_pos s _ _ hfw⟩

theorem exec_breezeRun {s : State} (hfw : s.firmware = true) (acts : List Activity) :
    ∃ u : State, u = { s.begun with tbase := max s.tbase (s.power.breezeRuns + 100000) }
      ∧ exec (.breezeRun acts) s = .next (s.ends (({ u with power := { s.power with breezeRuns := u.tbase } } : State).breezeRun acts)) :=
  ⟨_, rfl, calc exec (.breezeRun acts) s = execBreezeRun acts s := rfl
    _ = .next _ := actIf_pos s _ _ hfw⟩

theorem exec_calibration {s : State} (hfw : s.firmware = true) :
    ∃ u : State, u = { s.begun with tbase := max s.tbase (s.power.calibrated + 1000000000) }
      ∧ exec .calibration s = .next (s.ends
        (({ u with power := { s.power with calibrated := u.tbase } } : State).forEach (List.range Config.fields) State.calibrate)) :=
  ⟨_, rfl, calc exec .calibration s = execCalibration s := rfl
    _ = .next _ := actIf_pos s _ _ hfw⟩

theorem exec_sequencers_without_firmware {s : State} (hfw : s.firmware = false) :
    exec .leeRun s = .next (s.ends s.begun) ∧ (∀ l, exec (.breezeRun l) s = .next (s.ends s.begun)) ∧ exec .calibration s = .next (s.ends s.begun) :=
  ⟨calc exec .leeRun s = execLeeRun s := rfl
      _ = .next _ := actIf_neg s _ _ hfw,
    fun acts => calc exec (.breezeRun acts) s = execBreezeRun acts s := rfl
      _ = .next _ := actIf_neg s _ _ hfw,
    calc exec .calibration s = execCalibration s := rfl
      _ = .next _ := actIf_neg s _ _ hfw⟩

/-! Telemetry (R337, R338). -/

/-- What a round does once its time has come and its fault, if any, is reported. -/
def State.roundRead (s : State) (g : Nat) (rails : List RailReading) (whole : Bool) : State :=
  let y := (s.forEach rails (fun t r => t.railRead g r)).forEach ((List.range Config.fields).filter (fun f => segmentOf f == g))
    (fun t f => t.fieldRead rails f)
  { y with power := { y.power with
    measuredMode := y.power.measuredMode || (y.normalService && whole)
    readings := assocSet y.power.readings (0x200 + g) (((rails.filter (fun r => !(y.power.badRows.any (fun p => p.1 == r.field)))).map
      (fun r => r.milliVolt * r.milliAmp / 1000)).foldl (· + ·) 0) } }

/-- A round starts at its period after the last one of its segment (R337). -/
def State.atRound (s : State) (g : Nat) : State :=
  { s with tbase := match assoc s.power.rounds g with | some t => max s.tbase (t + 1000000 * roundMs g) | none => s.tbase }

/-- The fault that stops a round, reported. -/
def State.roundFault (s : State) (g : Nat) : Option (Nat × Nat × Nat) → State
  | some (a, c, k) => s.report 0x3004 dieUid [BitVec.ofNat 8 g, BitVec.ofNat 8 a, BitVec.ofNat 8 c, BitVec.ofNat 8 k]
  | none => s

theorem exec_telemetryRound {g : Nat} {s w : State} {rails : List RailReading} {fault : Option (Nat × Nat × Nat)} (hfw : s.firmware = true)
    (hg : g < Config.rows) (hlive : s.power.segLost.contains g = false) (hwhole : wholeRound g rails fault.isSome = true)
    (hw : w = { s.begun.atRound g with power := { s.power with rounds := assocSet s.power.rounds g (s.begun.atRound g).tbase } }) :
    exec (.telemetryRound g rails fault) s = .next (s.ends ((w.roundFault g fault).roundRead g rails fault.isNone)) := by
  have htime : s.begun.atRound g
      = (match assoc s.begun.power.rounds g with | some t => s.begun.advanceTo (t + 1000000 * roundMs g) | none => s.begun) := by
    cases h : assoc s.power.rounds g <;> simp only [State.atRound, State.begun_power, h] <;> rfl
  calc exec (.telemetryRound g rails fault) s = execTelemetryRound g rails fault s := rfl
    _ = .next _ := actIf_answers (by simp [hfw, hg, hwhole]; simpa using hlive) (by
        subst hw
        rw [htime]
        cases assoc s.begun.power.rounds g <;> cases fault <;> rfl)

theorem exec_telemetryRound_broken {g : Nat} {s : State} {rails : List RailReading} {fault : Option (Nat × Nat × Nat)}
    (hwhole : wholeRound g rails fault.isSome = false) : exec (.telemetryRound g rails fault) s = .next (s.ends s.begun) :=
  calc exec (.telemetryRound g rails fault) s = execTelemetryRound g rails fault s := rfl
    _ = .next _ := actIf_neg s _ _ (by simp [hwhole])

/-- What a held bus reports, before its failed clears are counted. -/
def State.busReported (s : State) (g : Nat) : State := (s.send (.busClear g)).report 0x3004 dieUid [BitVec.ofNat 8 g, 0, 0, 2]

/-- The count of failed clears in a row of a segment. -/
def State.busCounted (s : State) (g n : Nat) : State := { s with power := { s.power with segHeld := assocSet s.power.segHeld g n } }

theorem exec_busHeld {g : Nat} {s : State} (cleared : Bool) (hfw : s.firmware = true) (hg : g < Config.rows)
    (hlive : s.power.segLost.contains g = false) :
    exec (.busHeld g cleared) s = .next (s.ends
      (let n := if cleared then 0 else (assoc s.power.segHeld g).getD 0 + 1
       let t := (s.begun.busReported g).busCounted g n
       if n < 3 then t
       else ({ t with power := { t.power with segLost := insertNew t.power.segLost g } } : State).report 0x3007 dieUid [BitVec.ofNat 8 g])) :=
  calc exec (.busHeld g cleared) s = execBusHeld g cleared s := rfl
    _ = .next _ := actIf_pos s _ _ (by simp [hfw, hg]; simpa using hlive)

theorem exec_lost_segment {g : Nat} {s : State} (hlost : s.power.segLost.contains g = true) :
    (∀ l o, exec (.telemetryRound g l o) s = .next (s.ends s.begun)) ∧ ∀ b, exec (.busHeld g b) s = .next (s.ends s.begun) :=
  ⟨fun l o => calc exec (.telemetryRound g l o) s = execTelemetryRound g l o s := rfl
      _ = .next _ := actIf_neg s _ _ (by simp; intro _ _ h; simp_all),
    fun b => calc exec (.busHeld g b) s = execBusHeld g b s := rfl
      _ = .next _ := actIf_neg s _ _ (by simp; intro _ _; simpa using hlost)⟩

/-! Calibration (R342). -/

/-- The calibration factor that a measured field goes to. -/
def calibrated (fd : Field) : Rat := min (5 / 4) (max (4 / 5) (fd.calib * 9 / 10 + fd.measSum / fd.modSum / 10))

theorem calibrated_bounds (fd : Field) : 4 / 5 ≤ calibrated fd ∧ calibrated fd ≤ 5 / 4 :=
  ⟨le_min (by norm_num) (le_max_left _ _), min_le_left _ _⟩

/-- A field with its factor set and the sums of the second at zero. -/
def State.calibratedTo (s : State) (f : Nat) (c : Rat) : State := s.modField f (fun fd => { fd with calib := c, measSum := 0, modSum := 0 })

theorem State.calibrate_unmeasured {s : State} {f : Nat} (h : (!s.measuredField f || (s.field f).modSum == 0) = true) :
    s.calibrate f = s.calibratedTo f (s.field f).calib := by
  rw [State.calibrate]
  exact if_pos h

theorem State.calibrate_measured {s : State} {f : Nat} (h : (!s.measuredField f || (s.field f).modSum == 0) = false) :
    s.calibrate f = (if ((calibrated (s.field f) == 4 / 5 || calibrated (s.field f) == 5 / 4) && (s.field f).calib != calibrated (s.field f)) then
      (s.calibratedTo f (calibrated (s.field f))).report 0x300A (fieldUid f)
        (zeros 4 ++ le 4 (encode32 ((s.field f).measSum / (s.field f).modSum)).toNat)
    else s.calibratedTo f (calibrated (s.field f))) := by
  rw [State.calibrate]
  exact if_neg (by simp only [h]; exact Bool.false_ne_true)

theorem State.calibratedTo_other (s : State) {f g : Nat} (c : Rat) (hg : g ≠ f) : (s.calibratedTo f c).field g = s.field g := by
  rw [State.calibratedTo, State.modField_get, if_neg hg]

theorem State.calibratedTo_calib (s : State) (f : Nat) (c : Rat) : ((s.calibratedTo f c).field f).calib = c := by
  rw [State.calibratedTo, State.modField_self]

/-- Settles O53: gusts and storms, the sequencers, telemetry rounds and held buses, and the factor that calibration leaves. -/
theorem gustsAndGovernorsShapePower : Obligations.GustsAndGovernorsShapePower := by
  refine ⟨fun f i s hf hi => ⟨fun hpg hlive => ⟨_, _, rfl, rfl, exec_gustRise hf hi hpg hlive rfl rfl⟩, fun hstretch hcalm => ?_,
      fun hstretch hstorm => ?_, fun hstorm => exec_stormHoldEnd hf hstorm, fun hlive => exec_gustDetectorStuck hf hi hlive⟩,
    fun s => ⟨fun hfw => ⟨exec_leeRun hfw, exec_breezeRun hfw, exec_calibration hfw⟩, exec_sequencers_without_firmware⟩,
    fun g s hfw hg => ⟨fun hlive => ⟨fun rails fault v w x y hwhole hv hw hx hy => ?_, fun rails fault => exec_telemetryRound_broken,
      _, rfl, exec_busHeld true hfw hg hlive, fun hfew => ?_, fun hmany => ?_⟩, exec_lost_segment⟩,
    fun f s _ hlow hhigh => ?_⟩
  · simpa [hcalm] using exec_stretchEnd_spec hf hstretch
  · simpa [hstorm] using exec_stretchEnd_spec hf hstretch
  · have hround : w = { s.begun.atRound g with power := { s.power with rounds := assocSet s.power.rounds g (s.begun.atRound g).tbase } } := by
      rw [hw, hv]
      rfl
    have hfault : x = w.roundFault g fault := by
      rw [hx]
      cases fault <;> rfl
    rw [exec_telemetryRound hfw hg hlive hwhole hround, hy, hfault]
    rfl
  · rw [exec_busHeld false hfw hg hlive]
    exact congrArg (fun t => Host.Outcome.next (s.ends t)) (if_pos (by simp; omega))
  · rw [exec_busHeld false hfw hg hlive]
    exact congrArg (fun t => Host.Outcome.next (s.ends t)) (if_neg (by simp; omega))
  · cases hmeasured : !s.measuredField f || (s.field f).modSum == 0 with
    | true =>
      exact ⟨_, _, hlow, hhigh, rfl, fun g hg => s.calibratedTo_other _ hg, s.calibratedTo_calib f _, .inl (State.calibrate_unmeasured hmeasured)⟩
    | false =>
      obtain ⟨hlow', hhigh'⟩ := calibrated_bounds (s.field f)
      refine ⟨_, _, hlow', hhigh', rfl, fun g hg => s.calibratedTo_other _ hg, s.calibratedTo_calib f _, ?_⟩
      rw [State.calibrate_measured hmeasured]
      split
      · next hhit =>
        simp only [Bool.and_eq_true, Bool.or_eq_true, beq_iff_eq, bne_iff_ne] at hhit
        exact .inr ⟨rfl, hhit.1, hhit.2⟩
      · exact .inl rfl

end Sys2Proof.Machine
end

section
/-! The governor's epochs: the estimate of the bound, the search for the scale, and the thresholds (R229 to R238). -/
namespace Sys2Proof.Machine

/-! The search for the scale and the threshold of a probability (R230, R234). -/

/-- A bisection from an end that reaches the aim stays between its ends and reaches the aim. -/
theorem bisect_spec (good : Rat → Bool) (n : Nat) {lo hi : Rat} (hle : lo ≤ hi) (hgood : good hi = true) :
    lo ≤ bisect good n lo hi ∧ bisect good n lo hi ≤ hi ∧ good (bisect good n lo hi) = true := by
  induction n generalizing lo hi with
  | zero => exact ⟨hle, le_refl hi, hgood⟩
  | succ n ih =>
    have hlo : lo ≤ (lo + hi) / 2 := by linarith
    have hhi : (lo + hi) / 2 ≤ hi := by linarith
    rw [bisect]
    split
    · next hmid =>
      obtain ⟨hl, hh, hg⟩ := ih hlo hmid
      exact ⟨hl, hh.trans hhi, hg⟩
    · obtain ⟨hl, hh, hg⟩ := ih hhi hgood
      exact ⟨hlo.trans hl, hh, hg⟩

theorem threshold_mono {p q : Rat} (h : p ≤ q) : threshold p ≤ threshold q := by
  have hscaled : min 1 p * ((2 ^ 32 : Nat) : Rat) ≤ min 1 q * ((2 ^ 32 : Nat) : Rat) := by gcongr
  have hfloor := Rat.floor_monotone hscaled
  unfold threshold
  omega

theorem threshold_of_one_le {p : Rat} (h : 1 ≤ p) : threshold p = 4294967295 := by
  have hfloor : (((2 ^ 32 : Nat) : Rat)).floor = ((2 ^ 32 : Nat) : Int) := Int.floor_natCast (R := ℚ) _
  rw [threshold, min_eq_left h, one_mul, hfloor]
  rfl

theorem threshold_of_nonpos {p : Rat} (h : p ≤ 0) : threshold p = 0 := by
  have hzero : threshold 0 = 0 := by
    rw [threshold, min_eq_right zero_le_one, zero_mul]
    rfl
  have := threshold_mono h
  omega

/-! The estimate (R229, R231). -/

theorem State.measureFlocks_frame {γ : Type} (p : State → γ) (s : State) (keys : List (Nat × Nat))
    (hp : ∀ t f k g, p (State.modGflock t f k g) = p t) : p (s.forEach keys (fun t q => t.measureFlock q.1 q.2)) = p s :=
  s.forEach_frame p keys _ fun t q => by
    rw [State.measureFlock]
    exact hp ..

/-- The rate that a number of detections, a prior and an exposure bound (R231). -/
def rateOf (det prior : Nat) (exposure : Rat) : Option Rat := if exposure = 0 then none else some (q95 (2 * (det + prior) + 2) / (2 * exposure))

/-- What the estimate adds to the measured flocks, whose epoch has been counted. -/
theorem State.estimate_eq (s : State) (keys : List (Nat × Nat)) :
    ∃ t : State, ∃ e0 ct : Rat, ∃ det : Nat, t.policy = s.policy ∧ t.gov.epochs = s.gov.epochs + 1 ∧ t.gov.endAt = s.gov.boundary
      ∧ s.estimate keys = t.modGov (fun g => { g with
        e0 := e0, ct := ct, det := det, lambda := rateOf det t.policy.prior (e0 + ct), u := (rateOf det t.policy.prior (e0 + ct)).map (fun r => r * (1 - g.ce)) }) := by
  have hpolicy := s.measureFlocks_frame State.policy keys (by exact fun _ _ _ _ => rfl)
  have hgov := s.measureFlocks_frame State.gov keys (by exact fun _ _ _ _ => rfl)
  refine ⟨_, _, _, _, ?_, ?_, ?_, rfl⟩
  · exact hpolicy
  · exact congrArg (fun g => g.epochs + 1) hgov
  · exact congrArg Gov.boundary hgov

theorem rateOf_zero {e : Rat} (det prior : Nat) (h : e = 0) : rateOf det prior e = none := if_pos h
theorem rateOf_ne_zero {e : Rat} (det prior : Nat) (h : e ≠ 0) : rateOf det prior e = some (q95 (2 * (det + prior) + 2) / (2 * e)) := if_neg h

/-- The rate and the bound that an estimate leaves (R231, R232). -/
theorem State.estimate_bound (s : State) (keys : List (Nat × Nat)) :
    (s.estimate keys).gov.lambda = rateOf (s.estimate keys).gov.det s.policy.prior ((s.estimate keys).gov.e0 + (s.estimate keys).gov.ct)
      ∧ (s.estimate keys).gov.u = (s.estimate keys).gov.lambda.map (fun r => r * (1 - (s.estimate keys).gov.ce)) := by
  obtain ⟨t, e0, ct, det, hpolicy, -, -, heq⟩ := s.estimate_eq keys
  rw [heq, ← hpolicy]
  exact ⟨rfl, rfl⟩

theorem State.estimate_epoch (s : State) (keys : List (Nat × Nat)) :
    (s.estimate keys).gov.epochs = s.gov.epochs + 1 ∧ (s.estimate keys).gov.endAt = s.gov.boundary := by
  obtain ⟨t, e0, ct, det, -, hepochs, hend, heq⟩ := s.estimate_eq keys
  rw [heq]
  exact ⟨hepochs, hend⟩

/-! The end of an epoch (R233). -/

/-- The instant that an epoch ends at, as the new boundary. -/
def State.atBoundary (s : State) : State :=
  (s.advanceTo (s.gov.boundary + 10000000000)).modGov (fun g => { g with boundary := s.gov.boundary + 10000000000 })

theorem exec_epochEnd_idle {s : State} (h : (s.pwrGood && (s.firmware || !s.emulated)) = false) : exec .epochEnd s = .next (s.ends s.begun) :=
  calc exec .epochEnd s = execEpochEnd s := rfl
    _ = .next _ := actIf_neg s _ _ h

theorem exec_epochEnd_snapshots {s : State} (hpower : s.pwrGood = true) (hfw : s.firmware = false) (hgap : s.emulated = false) :
    exec .epochEnd s = .next (s.ends (s.begun.atBoundary.snapRest [])) :=
  calc exec .epochEnd s = execEpochEnd s := rfl
    _ = .next _ := actIf_answers (by simp [hpower, hgap]) (if_pos (by simpa using hfw))

/-- What the governor does at an epoch's end, while firmware runs. -/
def State.epochRun (s : State) : State :=
  let keys := s.govKeys
  let s := (((s.estimate keys).snapRest keys).moveScale keys).updateMet
  let s := s.modGov (fun g => { g with last := s.boundHead, report := keys.map (fun q => s.flockEntry q.1 q.2) })
  (s.traceShc 3 s.gov.last).forEach s.upTaps State.readLanes

theorem execEpochEnd_eq (s : State) : execEpochEnd s = actIf (s.pwrGood && (s.firmware || !s.emulated)) s
    (fun s => if !s.atBoundary.firmware then s.atBoundary.snapRest [] else s.atBoundary.epochRun) := rfl

theorem exec_epochEnd {s : State} (hpower : s.pwrGood = true) (hfw : s.firmware = true) :
    exec .epochEnd s = .next (s.ends s.begun.atBoundary.epochRun) :=
  calc exec .epochEnd s = execEpochEnd s := rfl
    _ = _ := execEpochEnd_eq s
    _ = .next _ := actIf_answers (by simp [hpower, hfw]) (by
        have hfw' : s.begun.atBoundary.firmware = true := by simp [State.atBoundary, hfw]
        exact if_neg (by simp [hfw']))

/-! What a Shepherd's trace leaves alone. -/

/-- A state without the Shepherd pair and the trace settings. -/
def State.untraced (s : State) : State := { s with pair := {}, trace := {} }

@[simp] theorem State.modShc_untraced (s : State) (b : Bool) (g : Shc → Shc) : (s.modShc b g).untraced = s.untraced := by
  cases b <;> rfl

@[simp] theorem State.traceOne_untraced (s : State) (b : Bool) (typ : Nat) (body : List Byte) : (s.traceOne b typ body).untraced = s.untraced := by
  have hcount (t : State) (i n : Nat) : (t.dieCount i n).untraced = t.untraced := rfl
  unfold State.traceOne
  dsimp only
  split
  · rw [hcount, State.modShc_untraced]
  · rw [State.modShc_untraced]

@[simp] theorem State.traceShc_untraced (s : State) (typ : Nat) (body : List Byte) : (s.traceShc typ body).untraced = s.untraced := by
  unfold State.traceShc
  split
  · rfl
  · dsimp only
    split <;> split <;> simp

theorem State.traceShc_upTaps (s : State) (typ : Nat) (body : List Byte) : (s.traceShc typ body).upTaps = s.upTaps :=
  (congrArg State.upTaps (s.traceShc_untraced typ body) :)

/-- Settles O58: the end of an epoch by who runs, the bound that the estimate gives, and the search for the scale. -/
theorem epochsEstimateTheBound : Obligations.EpochsEstimateTheBound := by
  refine ⟨fun s u v w => ⟨exec_epochEnd_idle, fun hu => ⟨fun hpower hfw hgap => ?_, fun hpower hfw hv hw => ?_, ?_⟩⟩,
    ⟨fun s keys => ⟨fun hzero => ?_, fun hne => ?_⟩, fun lim => rfl⟩,
    fun good n lo hi hle hgood => bisect_spec good n hle hgood, fun p => threshold_of_one_le, fun p => threshold_of_nonpos,
    fun p q => threshold_mono⟩
  · exact (exec_epochEnd_snapshots hpower hfw hgap).trans (by rw [hu]; rfl)
  · have hrun : u.epochRun = (w.traceShc 3 w.gov.last).forEach (w.traceShc 3 w.gov.last).upTaps State.readLanes := by
      rw [State.traceShc_upTaps, hw, hv]
      rfl
    rw [exec_epochEnd hpower hfw, ← hrun, hu]
    rfl
  · subst hu
    exact State.estimate_epoch _ _
  · obtain ⟨hrate, hbound⟩ := s.estimate_bound keys
    rw [rateOf_zero _ _ hzero] at hrate
    exact ⟨hrate, by rw [hbound, hrate]; rfl⟩
  · obtain ⟨hrate, hbound⟩ := s.estimate_bound keys
    rw [rateOf_ne_zero _ _ hne] at hrate
    exact ⟨hrate, hbound⟩

end Sys2Proof.Machine
end

section
/-!
The beginning of a job (R39, R309), in a state whose map of fields holds two entries of one key.

A read takes the first entry of a key, and a write of a field at its default takes every entry of the key away. The test whether a clock
is disturbed looks at every entry, also at one that no read reaches; restarting the cycle counts then takes that entry away before the new
job's values are loaded. A state whose maps are canonical (O7) has no such entry.
-/
namespace Sys2Proof.Machine

/-- Field 0 has its default in front and a storm behind, which no read reaches; the drains of a job's beginning are over. -/
def hiddenStorm : State := { fields := [(0, {}), (0, { storm := true })], job := { starting := some (0, [], true), startPhase := 2 } }

theorem hiddenStorm_disturbed : hiddenStorm.disturbed = true := by decide

theorem hiddenStorm_drained : hiddenStorm.upMems.all (fun t => (hiddenStorm.mem t).drainDone) = true := by decide +kernel

theorem hiddenStorm_jobMove_clean : hiddenStorm.jobMove.job.clean = true := by decide +kernel

/-- Refutes O15: the job that begins from a disturbed state is timing-clean, where the disturbance is a hidden entry of the field map. -/
theorem not_jobsBeginAndEnd : ¬ Obligations.JobsBeginAndEnd := by
  rintro ⟨-, hbegins, -⟩
  have hjob := hbegins hiddenStorm 0 [] true rfl rfl hiddenStorm_drained
  obtain ⟨-, -, -, -, -, -, -, -, -, -, -, -, -, -, hclean, -⟩ := hjob
  exact Bool.noConfusion (hiddenStorm_jobMove_clean.symm.trans (hclean hiddenStorm_disturbed))

end Sys2Proof.Machine
end

section
/-! Muster points, quiet flocks, and the copies between them (R248 to R252). -/
namespace Sys2Proof.Machine

/-! The checks of a host command, one after another (R118). -/

@[simp] theorem State.checked_nil (s : State) (ring : Nat) (k : State → State) : s.checked ring [] k = k s := rfl
@[simp] theorem State.checked_cons_true (s : State) (ring st : Nat) (cs : List (Bool × Nat)) (k : State → State) :
    s.checked ring ((true, st) :: cs) k = s.complete ring st := rfl
@[simp] theorem State.checked_cons_false (s : State) (ring st : Nat) (cs : List (Bool × Nat)) (k : State → State) :
    s.checked ring ((false, st) :: cs) k = s.checked ring cs k := rfl

/-- A closed hurdle covers a serving flock of a domain that is in service. -/
def State.musterCovered (s : State) (u : Uid) : Bool :=
  (domFlocks u).any (fun p => s.fieldUp p.1 && (s.flock p.1 p.2).logical.isSome && !(s.flock p.1 p.2).st.gone && s.fenced p.1 p.2)

theorem exec_musterPoint {d : Desc} {s : State} (h : s.accepts d 0x12 [(12, 4)] 0 = true) (hdomain : isDomain (d.uid 12) = true) :
    exec (.musterPoint d) s = .next (s.ends
      ((s.begun.taken d 0x12).checked d.ring
        [(s.musters.any (fun m => domOverlap m.dom (d.uid 12)), 0x04), (s.musterCovered (d.uid 12), 0x06)]
        fun t => t.beginMuster d.ring (d.uid 12))) :=
  calc exec (.musterPoint d) s = execMusterPoint d s := rfl
    _ = .next _ := act_takeCmd_answers (bad := fun _ => !isDomain (d.uid 12)) h (by simp [hdomain]) rfl

theorem exec_musterQuietTimeout {u : Uid} {s : State} {m : Muster} (hfw : s.firmware = true)
    (hm : s.musters.find? (fun m => m.dom == u && !m.folding) = some m) :
    exec (.musterQuietTimeout u) s = .next (s.ends (({ s.begun with tbase := max s.tbase (m.began + 10000000) } : State).beginFolds u)) :=
  calc exec (.musterQuietTimeout u) s = execMusterQuietTimeout u s := rfl
    _ = .next _ := actIf_answers hfw (by simp only [State.begun_musters, hm]; rfl)

/-! The signals of a flock (R52, R248). -/

section

variable {f k : Nat} {s : State} (hfsp : fspExists f k = true)
include hfsp

theorem exec_quietRise (ok : Bool) :
    exec (.quietRise f k ok) s = .next (s.ends (if ok then s.begun.quietRise f k else s.begun.fspParity f k 3)) :=
  calc exec (.quietRise f k ok) s = execQuietRise f k s ok := rfl
    _ = .next _ := actIf_pos s _ _ hfsp

theorem exec_quietFall (ok : Bool) :
    exec (.quietFall f k ok) s = .next (s.ends (if ok then s.begun.quietFall f k else s.begun.fspParity f k 3)) :=
  calc exec (.quietFall f k ok) s = execQuietFall f k s ok := rfl
    _ = .next _ := actIf_pos s _ _ hfsp

theorem exec_copyDone (err ok : Bool) :
    exec (.copyDone f k err ok) s = .next (s.ends (if ok then s.begun.copyDone f k err else s.begun.fspParity f k 3)) :=
  calc exec (.copyDone f k err ok) s = execCopyDone f k err s ok := rfl
    _ = .next _ := actIf_pos s _ _ hfsp

theorem exec_copyLimit {c : CopySt} (hcopy : (s.flock f k).copy = some c) :
    exec (.copyLimit f k) s = .next (s.ends
      (({ s.begun with tbase := max s.tbase (c.started + (if c.flockCopy then 1000000 else 100000)) } : State).copyFailed f k c 1)) :=
  calc exec (.copyLimit f k) s = execCopyLimit f k s := rfl
    _ = .next _ := actIf_answers hfsp (by simp only [State.begun_flock, hcopy]; rfl)

theorem exec_copyLimit_idle (hcopy : (s.flock f k).copy = none) : exec (.copyLimit f k) s = .next (s.ends s.begun) :=
  calc exec (.copyLimit f k) s = execCopyLimit f k s := rfl
    _ = .next _ := actIf_answers hfsp (by simp only [State.begun_flock, hcopy])

end

theorem State.quietRise_firmware {s : State} (f k : Nat) (hfw : s.firmware = true) :
    s.begun.quietRise f k = (s.begun.modFlock f k (fun fl => { fl with quiet := true })).quietMusters := if_pos (by simp [hfw])

theorem State.quietRise_no_firmware {s : State} (f k : Nat) (hfw : s.firmware = false) :
    s.begun.quietRise f k = s.begun.modFlock f k (fun fl => { fl with quiet := true }) := if_neg (by simp [hfw])

theorem State.quietFall_no_copy {s u : State} {f k : Nat} (hu : u = s.modFlock f k (fun fl => { fl with quiet := false }))
    (hcopy : u.copyOwner f k = none) : s.quietFall f k = u := by
  simp only [State.quietFall, ← hu, hcopy]

theorem State.quietFall_copy {s u : State} {f k j : Nat} {c : CopySt} (hu : u = s.modFlock f k (fun fl => { fl with quiet := false }))
    (hcopy : u.copyOwner f k = some (j, c)) : s.quietFall f k = u.copyFailed f j c 2 := by
  simp only [State.quietFall, ← hu, hcopy]

theorem State.copyDone_none {s : State} {f k : Nat} (err : Bool) (hcopy : s.copyOwner f k = none) : s.copyDone f k err = s := by
  simp only [State.copyDone, hcopy]

theorem State.copyDone_some {s : State} {f k j : Nat} {c : CopySt} (err : Bool) (hcopy : s.copyOwner f k = some (j, c)) :
    s.copyDone f k err = if err then s.copyFailed f j c 0 else if j = k then s.copyClean f j c else s := by
  simp only [State.copyDone, hcopy]

/-- Settles O16: the checks of MUSTER_POINT, and the answers of an FSP by the copy under way. -/
theorem musterPointsFoldQuietFlocks : Obligations.MusterPointsFoldQuietFlocks := by
  refine ⟨⟨fun d s h hdomain => ?_, fun u s m hfw hm => exec_musterQuietTimeout hfw hm⟩, fun f k s hfsp =>
    ⟨fun hfw => ?_, fun hfw => ?_, fun u hu => ⟨fun hcopy => ?_, fun j c hcopy => ?_⟩, fun j c hcopy => ⟨?_, ?_⟩,
      fun c hcopy => exec_copyLimit hfsp hcopy, fun c hc => ?_, fun hcopy err => ?_, fun hcopy => exec_copyLimit_idle hfsp hcopy⟩⟩
  · have hpoint := exec_musterPoint h hdomain
    refine ⟨fun hoverlap => ?_, fun hapart => ⟨fun hcovered => ?_, fun hopen => ?_⟩⟩ <;> rw [hpoint]
    · rw [hoverlap, State.checked_cons_true]
    · rw [hapart, show s.musterCovered (d.uid 12) = true from hcovered, State.checked_cons_false, State.checked_cons_true]
    · rw [hapart, show s.musterCovered (d.uid 12) = false from hopen, State.checked_cons_false, State.checked_cons_false, State.checked_nil]
  · exact (exec_quietRise hfsp true).trans (by rw [if_pos rfl, State.quietRise_firmware f k hfw])
  · exact (exec_quietRise hfsp true).trans (by rw [if_pos rfl, State.quietRise_no_firmware f k hfw])
  · exact (exec_quietFall hfsp true).trans (by rw [if_pos rfl, State.quietFall_no_copy hu hcopy])
  · exact (exec_quietFall hfsp true).trans (by rw [if_pos rfl, State.quietFall_copy hu hcopy])
  · exact (exec_copyDone hfsp true true).trans (by rw [if_pos rfl, State.copyDone_some (s := s.begun) true hcopy, if_pos rfl])
  · exact (exec_copyDone hfsp false true).trans (by rw [if_pos rfl, State.copyDone_some (s := s.begun) false hcopy, if_neg Bool.false_ne_true])
  · rcases hc with rfl | rfl | rfl | rfl
    · exact exec_quietRise hfsp false
    · exact exec_quietFall hfsp false
    · exact exec_copyDone hfsp false false
    · exact exec_copyDone hfsp true false
  · exact (exec_copyDone hfsp err true).trans (by rw [if_pos rfl, State.copyDone_none (s := s.begun) err hcopy])

end Sys2Proof.Machine
end

section
/-! Idle-slot tables, watch points, earmarks and replica groups (R141, R212, R215, R218). -/
namespace Sys2Proof.Machine

/-! Idle-slot tables (R141). -/

/-- A field's tables once the entries of an identifier are loaded. -/
def Field.loadTable (fd : Field) (runId : Nat) (es : List IdleEntry) : Field :=
  if fd.tables.any (fun t => t.runId == runId) then
    { fd with tables := fd.tables.map (fun t => if t.runId = runId then { t with entries := es } else t) }
  else { fd with tables := fd.tables ++ [{ runId := runId, entries := es }] }

/-- A field takes its entries, unless it has no table of the identifier and gets none. -/
def State.loadIdle (s : State) (runId : Nat) (p : Nat × List IdleEntry) : State :=
  if p.2.isEmpty && !((s.field p.1).tables.any (fun t => t.runId == runId)) then s else s.modField p.1 (fun fd => fd.loadTable runId p.2)

theorem State.loadIdle_other (s : State) (runId : Nat) {p : Nat × List IdleEntry} {f : Nat} (h : f ≠ p.1) :
    (s.loadIdle runId p).field f = s.field f := by
  unfold State.loadIdle
  split
  · rfl
  · rw [State.modField_get, if_neg h]

theorem State.loadIdle_field (s t : State) (runId : Nat) (p : Nat × List IdleEntry) (h : s.field p.1 = t.field p.1) :
    (s.loadIdle runId p).field p.1 = (t.loadIdle runId p).field p.1 := by
  unfold State.loadIdle
  rw [h]
  split
  · exact h
  · rw [State.modField_self, State.modField_self, h]

/-- Loading a plan in which each field stands once gives each field what loading it alone gives. -/
theorem State.loadPlan_field (s : State) (runId : Nat) (plan : List (Nat × List IdleEntry)) (hnodup : (plan.map (·.1)).Nodup)
    {p : Nat × List IdleEntry} (hp : p ∈ plan) :
    (s.forEach plan (fun s p => s.loadIdle runId p)).field p.1 = (s.loadIdle runId p).field p.1 := by
  have hlater (t : State) (l : List (Nat × List IdleEntry)) (f : Nat) (h : f ∉ l.map (·.1)) :
      (t.forEach l (fun s p => s.loadIdle runId p)).field f = t.field f := by
    induction l generalizing t with
    | nil => rfl
    | cons q l ih =>
      simp only [List.map_cons, List.mem_cons, not_or] at h
      exact (ih _ h.2).trans (t.loadIdle_other runId h.1)
  induction plan generalizing s with
  | nil => simp at hp
  | cons q plan ih =>
    obtain ⟨hq, hplan⟩ := List.nodup_cons.1 hnodup
    rcases List.mem_cons.1 hp with rfl | hmem
    · exact hlater _ plan _ hq
    · have hne : p.1 ≠ q.1 := fun h => hq (List.mem_map.2 ⟨p, hmem, h⟩)
      exact (ih _ hplan hmem).trans (State.loadIdle_field _ _ runId p (s.loadIdle_other runId hne))

theorem domFields_nodup (u : Uid) : (domFields u).Nodup := by
  unfold domFields
  split
  · exact List.nodup_range
  · exact List.nodup_singleton _

/-- The entries of one field in the table that a command carries. -/
def idleNew (d : Desc) (f : Nat) : List IdleEntry :=
  (((List.range (rd d.buf 0 4)).map (idleEntry d.buf)).filter (fun p => p.1 == f)).map (·.2)

/-- What IDLE_TABLE_LOAD loads into each field of its domain. -/
def State.idlePlan (s : State) (d : Desc) : List (Nat × List IdleEntry) :=
  (domFields (d.uid 12)).map (fun f => (f, s.idleAfter f (d.arg 8 2) (d.uid 12) (idleNew d f)))

theorem exec_idleTableLoad {d : Desc} {s : State} (h : s.accepts d 0x13 [(8, 2), (12, 4)] 2097168 = true) (hsound : s.badIdle d.buf (d.uid 12) = false)
    (hroom : (s.idlePlan d).any (fun p => !p.2.isEmpty && decide (64 < (insertNew (s.field p.1).identifiers (d.arg 8 2)).length)) = false) :
    exec (.idleTableLoad d) s = .next (s.ends
      (((s.begun.taken d 0x13).forEach (s.idlePlan d) (fun s p => s.loadIdle (d.arg 8 2) p)).complete d.ring 0x00)) :=
  calc exec (.idleTableLoad d) s = execIdleTableLoad d s := rfl
    _ = .next _ := act_takeCmd_answers (bad := fun s => s.badIdle d.buf (d.uid 12)) h hsound
      ((State.checked_pass _ _ _ _ (fun p hp => by obtain rfl := List.mem_singleton.1 hp; exact hroom)).trans rfl)

/-- Loading a plan changes fields only. -/
theorem State.loadPlan_rest (s : State) (runId : Nat) (plan : List (Nat × List IdleEntry)) :
    { s.forEach plan (fun s p => s.loadIdle runId p) with fields := [] } = { s with fields := [] } :=
  s.forEach_frame (fun t => ({ t with fields := [] } : State)) plan _ fun t p => by
    unfold State.loadIdle
    split <;> rfl

theorem State.complete_fields (s : State) (i st : Nat) (res buf : List Byte) (neg : Option (List Byte)) :
    (s.complete i st res buf neg).fields = s.fields := (congrArg State.fields (s.complete_offHost i st res buf neg) :)

/-- A field of the domain holds what loading its entries alone gives it. -/
theorem State.idleLoaded_field (s : State) (d : Desc) {f : Nat} (hf : f ∈ domFields (d.uid 12)) :
    ((((s.begun.taken d 0x13).forEach (s.idlePlan d) (fun s p => s.loadIdle (d.arg 8 2) p)).complete d.ring 0x00).field f)
      = (s.loadIdle (d.arg 8 2) (f, s.idleAfter f (d.arg 8 2) (d.uid 12) (idleNew d f))).field f := by
  have hkeys : ((s.idlePlan d).map (·.1)).Nodup := by
    simpa [State.idlePlan, Function.comp_def] using domFields_nodup (d.uid 12)
  have hmem : (f, s.idleAfter f (d.arg 8 2) (d.uid 12) (idleNew d f)) ∈ s.idlePlan d := List.mem_map.2 ⟨f, hf, rfl⟩
  rw [State.field, State.complete_fields, ← State.field, State.loadPlan_field _ _ _ hkeys hmem]
  exact State.loadIdle_field _ s _ _ rfl

theorem State.loadIdle_replaces {s : State} {runId f : Nat} (es : List IdleEntry)
    (h : (s.field f).tables.any (fun t => t.runId == runId) = true) :
    ((s.loadIdle runId (f, es)).field f).tables = (s.field f).tables.map (fun q => if q.runId = runId then { q with entries := es } else q) := by
  rw [State.loadIdle, if_neg (by simp [h]), State.modField_self, Field.loadTable, if_pos h]

theorem State.loadIdle_adds {s : State} {runId f : Nat} {es : List IdleEntry}
    (h : (s.field f).tables.any (fun t => t.runId == runId) = false) (hne : es ≠ []) :
    ((s.loadIdle runId (f, es)).field f).tables = (s.field f).tables ++ [{ runId := runId, entries := es }] := by
  rw [State.loadIdle, if_neg (by simp [hne]), State.modField_self, Field.loadTable, if_neg (by simp [h])]

theorem State.idleLoaded_rest (s : State) (d : Desc) (plan : List (Nat × List IdleEntry)) (t : State)
    (ht : t = ((s.begun.taken d 0x13).forEach plan (fun s p => s.loadIdle (d.arg 8 2) p)).complete d.ring 0x00) :
    { t with fields := s.fields, hif := s.hif, out := s.out, pair := s.pair, due := s.due } = s := by
  have hhost := State.complete_offHost ((s.begun.taken d 0x13).forEach plan (fun s p => s.loadIdle (d.arg 8 2) p)) d.ring 0x00 [] [] none
  rw [← ht] at hhost
  have hload := State.loadPlan_rest (s.begun.taken d 0x13) (d.arg 8 2) plan
  calc { t with fields := s.fields, hif := s.hif, out := s.out, pair := s.pair, due := s.due }
      = { (s.begun.taken d 0x13).forEach plan (fun s p => s.loadIdle (d.arg 8 2) p) with
          fields := s.fields, hif := s.hif, out := s.out, pair := s.pair, due := s.due } :=
        (congrArg (fun u : State => { u with fields := s.fields, hif := s.hif, out := s.out, pair := s.pair, due := s.due }) hhost :)
    _ = s := (congrArg (fun u : State => { u with fields := s.fields, hif := s.hif, out := s.out, pair := s.pair, due := s.due }) hload :)

/-! Watch points, earmark settings and replica groups (R212, R215, R218). -/

theorem exec_watchSet {d : Desc} {s : State} (h : s.accepts d 0x30 [(8, 1)] 64 = true) (hrange : badWatch d = false) :
    exec (.watchSet d) s = .next (s.ends ((((s.begun.taken d 0x30).forEach (s.listedFlocks dieUid)
      (fun u p => u.modFlock p.1 p.2 (·.dropWatch (d.arg 8 1)))).modWatch (d.arg 8 1) (fun _ => watchOf d.buf)).complete d.ring 0x00)) :=
  calc exec (.watchSet d) s = execWatchSet d s := rfl
    _ = .next _ := act_takeCmd_answers (bad := fun _ => badWatch d) h hrange rfl

theorem exec_earmarkConfig {d : Desc} {s : State} (h : s.accepts d 0x31 [] 1040 = true) (hrange : badEarmarks d.buf = false)
    (hversion : (rd d.buf 0 1 != s.emfVersion) = false) :
    exec (.earmarkConfig d) s = .next (s.ends ((((s.begun.taken d 0x31).redefine (fun t => decide (t < 32))).modEarmarks
      (fun e => { e with idleUs := rd d.buf 2 2, targets := targetsOf d.buf })).complete d.ring 0x00)) :=
  calc exec (.earmarkConfig d) s = execEarmarkConfig d s := rfl
    _ = .next _ := act_takeCmd_answers (bad := fun _ => badEarmarks d.buf) h hrange
      ((State.checked_pass _ _ _ _ (fun p hp => by obtain rfl := List.mem_singleton.1 hp; exact hversion)).trans rfl)

theorem exec_replicaDigest {d : Desc} {s : State} (h : s.accepts d 0x32 [] 1056 = true) (hrange : s.badReplica d.buf = false)
    (hroute : s.routeLost d.buf = false) :
    exec (.replicaDigest d) s = .next (s.ends ((((s.begun.taken d 0x32).redefine (fun t => decide (32 ≤ t))).modEarmarks
      (fun e => { e with fleece := fleeceOf d.buf ((s.begun.taken d 0x32).redefine (fun t => decide (32 ≤ t))).job.step.toNat })).complete d.ring 0x00)) :=
  calc exec (.replicaDigest d) s = execReplicaDigest d s := rfl
    _ = .next _ := act_takeCmd_answers (bad := fun s => s.badReplica d.buf) h hrange
      ((State.checked_pass _ _ _ _ (fun p hp => by obtain rfl := List.mem_singleton.1 hp; exact hroute)).trans rfl)

/-- Settles O17: the plan of an idle-table load field by field, and the settings that the marks' commands replace. -/
theorem tablesAndMarksAreConfigured : Obligations.TablesAndMarksAreConfigured := by
  refine ⟨fun d s h hsound hroom => ?_, fun d s => ⟨exec_watchSet, exec_earmarkConfig, exec_replicaDigest⟩⟩
  have hplan : (s.idlePlan d).any (fun p => !p.2.isEmpty && decide (64 < (insertNew (s.field p.1).identifiers (d.arg 8 2)).length)) = false := by
    rw [State.idlePlan, List.any_map]
    exact hroom
  refine ⟨_, exec_idleTableLoad h hsound hplan, fun f hf htable => ?_, fun f hf htable hne => ?_, s.idleLoaded_rest d _ _ rfl⟩
  · rw [State.idleLoaded_field s d hf]
    exact State.loadIdle_replaces _ htable
  · rw [State.idleLoaded_field s d hf]
    exact State.loadIdle_adds htable hne

end Sys2Proof.Machine
end

section
/-! Trace settings, wait-graph requests, snapshots and the windows of the pacer (R412 to R417). -/
namespace Sys2Proof.Machine

theorem exec_traceConfig {d : Desc} {s : State} (h : s.accepts d 0x90 [] 64 = true) (hrange : s.badTrace d.buf = false) :
    exec (.traceConfig d) s = .next (s.ends
      ((if bit (rd d.buf 0 1) 3 then ({ s.begun.taken d 0x90 with trace := s.trace.configured d.buf s.tbase } : State).snapshot
        else { s.begun.taken d 0x90 with trace := s.trace.configured d.buf s.tbase }).complete d.ring 0x00)) :=
  calc exec (.traceConfig d) s = execTraceConfig d s := rfl
    _ = .next _ := act_takeCmd_answers (bad := fun s => s.badTrace d.buf) h hrange rfl

theorem exec_waitgraphReq {d : Desc} {s : State} (h : s.accepts d 0x91 [(12, 4)] 4294967295 = true) (hdomain : isDomain (d.uid 12) = true)
    (hlen : 64 ≤ d.len) :
    exec (.waitgraphReq d) s = .next (s.ends
      ((s.begun.taken d 0x91).checked d.ring [(!s.recovery.waitReqs.isEmpty, 0x04)] fun t =>
        (t.modRec (fun r => { r with waitReqs := r.waitReqs ++ [{ ring := d.ring, dom := d.uid 12, len := d.len }] })).readWaitTables (d.uid 12))) :=
  calc exec (.waitgraphReq d) s = execWaitgraphReq d s := rfl
    _ = .next _ := act_takeCmd_answers (bad := fun _ => !isDomain (d.uid 12) || decide (d.len < 64)) h (by simpa [hdomain] using hlen) rfl

theorem exec_snapshot {s : State} (hfw : s.firmware = true) (hperiod : s.trace.snapMs ≠ 0) :
    exec .snapshot s = .next (s.ends (({ s.begun.advanceTo (s.trace.snapAt + s.trace.snapMs * 1000000) with
      trace := { s.trace with snapAt := (s.begun.advanceTo (s.trace.snapAt + s.trace.snapMs * 1000000)).tbase } } : State).snapshot)) :=
  calc exec .snapshot s = execSnapshot s := rfl
    _ = .next _ := actIf_pos s _ _ (by simp [hfw, hperiod])

theorem exec_snapshot_off {s : State} (hperiod : s.trace.snapMs = 0) : exec .snapshot s = .next (s.ends s.begun) :=
  calc exec .snapshot s = execSnapshot s := rfl
    _ = .next _ := actIf_neg s _ _ (by simp [hperiod])

/-- The start of a pacer window: what the windows before have used of theirs is charged to it (R415). -/
def State.windowOpened (s : State) : State :=
  { s with tbase := max s.tbase ((s.tbase / 10000 + 1) * 10000),
           trace := { s.trace with windowAt := max s.tbase ((s.tbase / 10000 + 1) * 10000), used := s.trace.used - s.allowance } }

/-- The blocks that pass in a window, and what they leave of the rings' room (R415). -/
def State.pacedBlocks (s : State) (room : RingRoom) : State × RingRoom :=
  (List.range (s.allowance / 4096)).foldl (fun q _ => (q.1.logBlock q.2).1.traceBlock (q.1.logBlock q.2).2) (s, room)

theorem exec_pacerWindow {s : State} {a b c : Nat} {q : State × RingRoom} (hfw : s.firmware = true)
    (hq : q = s.begun.windowOpened.pacedBlocks { host := a, stack := b, log := c }) :
    exec (.pacerWindow a b c) s = .next (s.ends (if q.1.heldByPacer q.2 then q.1.dieCount 3 10 else q.1)) := by
  have hexec : exec (.pacerWindow a b c) s = execPacerWindow a b c s := rfl
  rw [hexec, execPacerWindow, actIf_pos _ _ _ hfw]
  extract_lets advanced opened
  have hopened : opened = s.begun.windowOpened := rfl
  rw [hopened]
  split
  next t room hblocks =>
  have hpair : q = (t, room) := by rw [hq, ← hblocks, State.pacedBlocks]
  rw [hpair]

theorem exec_pacerWindow_off {s : State} (a b c : Nat) (hfw : s.firmware = false) : exec (.pacerWindow a b c) s = .next (s.ends s.begun) :=
  calc exec (.pacerWindow a b c) s = execPacerWindow a b c s := rfl
    _ = .next _ := actIf_neg s _ _ hfw

/-- Settles O18: the two commands of the host, snapshots at their period, and the pacer's windows. -/
theorem tracesAndSnapshotsAreTaken : Obligations.TracesAndSnapshotsAreTaken := by
  refine ⟨fun d s => ⟨exec_traceConfig, fun h hdomain hlen => ?_⟩, fun s => ⟨fun hfw hperiod u hu => ?_, exec_snapshot_off,
    fun a b c hfw u q hu hq => ?_, fun a b c => exec_pacerWindow_off a b c⟩⟩
  · refine ⟨fun hnone => ?_, fun hsome => ?_⟩ <;> rw [exec_waitgraphReq h hdomain hlen]
    · simp only [hnone, List.isEmpty_nil, Bool.not_true, State.checked_cons_false, State.checked_nil]
      simp only [State.modRec, State.taken, State.begun_recovery, State.modHif, hnone]
      rfl
    · rw [show (!s.recovery.waitReqs.isEmpty) = true by simpa using hsome, State.checked_cons_true]
  · subst hu
    exact exec_snapshot hfw hperiod
  · exact exec_pacerWindow hfw (by rw [hq, hu]; rfl)

end Sys2Proof.Machine
end

section
/-! Policy items (R118, R225, R275, R341, R407): one lemma for every POLICY_SET, and what each row does with its item. -/
namespace Sys2Proof.Machine

/-- A POLICY_SET that Beyja takes, of an item of the row and with a value in its range. -/
theorem act_policySet_answers {d : Desc} {s t : State} {row : PolicyRow} {bad : Nat → Nat → Bool} {k : State → Nat → Nat → State}
    (h : s.accepts d 0x14 [(8, 2), (16, 8)] 304 = true) (hrow : policyRow (d.arg 8 2) = some row) (hbad : bad (d.arg 8 2) (d.arg 16 8) = false)
    (ht : k (s.begun.taken d 0x14) (d.arg 8 2) (d.arg 16 8) = t) :
    act s (fun s => s.policySet d row bad k) = .next (s.ends t) := by
  have hset (u : State) : u.policySet d row bad k
      = u.takeCmd d 0x14 [(8, 2), (16, 8)] 304 (bad (d.arg 8 2) (d.arg 16 8)) fun u => k u (d.arg 8 2) (d.arg 16 8) := by
    simp [State.policySet, hrow]
  simp only [hset]
  exact act_takeCmd_answers (bad := fun _ => bad (d.arg 8 2) (d.arg 16 8)) h hbad ht

/-! Power items (R341). -/

theorem policyRow_power {item : Nat} (h : policyRow item = some .power) : 0x0D00 ≤ item ∧ item ≤ 0x0D06 := by
  unfold policyRow at h
  grind

theorem outside_iff (lo hi v : Nat) : outside lo hi v = false ↔ lo ≤ v ∧ v ≤ hi := by simp [outside]

/-- The bounds that power items keep: of the set frequency, of the thermal target and of the trip threshold (R60, R341). -/
def Policy.PowerBounds (p : Policy) : Prop :=
  800 ≤ p.freq ∧ p.freq ≤ Config.fusedMax ∧ p.freq % 25 = 0 ∧ 60 ≤ p.thermal ∧ p.thermal ≤ 100 ∧ p.trip ≤ Config.tripCeiling

theorem Policy.setPower_bounds {p : Policy} {item v : Nat} (hitem : policyRow item = some .power) (hrange : badPower item v = false)
    (hp : p.PowerBounds) : (p.setPower item v).PowerBounds := by
  obtain ⟨hlow, hhigh⟩ := policyRow_power hitem
  obtain ⟨hmin, hmax, hstep, hcool, hhot, htrip⟩ := hp
  have hcases : item = 0x0D00 ∨ item = 0x0D01 ∨ item = 0x0D02 ∨ item = 0x0D03 ∨ item = 0x0D04 ∨ item = 0x0D05 ∨ item = 0x0D06 := by omega
  rcases hcases with rfl | rfl | rfl | rfl | rfl | rfl | rfl
  · simp only [badPower, Bool.or_eq_false_iff, outside_iff, bne_eq_false_iff_eq] at hrange
    obtain ⟨⟨hv, hv'⟩, hv25⟩ := hrange
    exact ⟨hv, hv', hv25, hcool, hhot, htrip⟩
  · simp only [badPower, outside_iff] at hrange
    obtain ⟨hv, hv'⟩ := hrange
    exact ⟨hmin, hmax, hstep, hv, hv', htrip⟩
  · exact ⟨hmin, hmax, hstep, hcool, hhot, htrip⟩
  · exact ⟨hmin, hmax, hstep, hcool, hhot, htrip⟩
  · exact ⟨hmin, hmax, hstep, hcool, hhot, htrip⟩
  · exact ⟨hmin, hmax, hstep, hcool, hhot, Nat.min_le_right _ _⟩
  · exact ⟨hmin, hmax, hstep, hcool, hhot, htrip⟩

/-- Settles O19: each row sets its item and records the change; a power item in range keeps the bounds. -/
theorem policyItemsAreTaken : Obligations.PolicyItemsAreTaken := by
  refine ⟨fun d s h => ⟨fun hrow hrange => ?_, fun hrow hrange => ?_, fun hrow hrange => ?_, fun hrow hrange => ?_⟩,
    fun d s => ⟨fun h hrow hrange => ?_, fun h hup hdown => ?_⟩, fun p item v hitem hrange hp => Policy.setPower_bounds hitem hrange hp⟩
  · exact act_policySet_answers h hrow hrange rfl
  · exact act_policySet_answers h hrow hrange rfl
  · exact act_policySet_answers h hrow hrange rfl
  · exact act_policySet_answers h hrow hrange rfl
  · exact act_policySet_answers h hrow hrange rfl
  · exact act_takeCmd_answers (bad := fun _ => badRamp (d.arg 8 4) || badRamp (d.arg 12 4)) h (by simp [hup, hdown]) rfl

/-! Items that need an authorisation (R225, R275, R407). -/

/-- What follows an authorisation, by whether it verifies; the authority that it names goes with it. -/
theorem State.authorised_of_verify {s u : State} {ok : Bool} {d : Desc} {n op q : Nat} {g : State → Nat → State}
    (h : s.verify [(authBlock d.buf n 0, d.auth.headD {}, s.ownerAllowed)] op q = (u, ok)) :
    s.authorised d n op q g = if ok then g u (rd ((authBlock d.buf n 0).getD []) 0 1) else u.complete d.ring 0x03 := by
  simp only [State.authorised, h]
  cases ok
  · rfl
  · cases authBlock d.buf n 0 <;> rfl

theorem assoc_assocDel_self {β : Type} (l : List (Nat × β)) (k : Nat) : assoc (assocDel l k) k = none := by
  have hnone : (assocDel l k).find? (fun p => p.1 == k) = none := List.find?_eq_none.2 fun p hp hpk => by
    simp only [assocDel, List.mem_filter, decide_eq_true_eq] at hp
    exact hp.2 (by simpa using hpk)
  rw [assoc, hnone, Option.map_none]

/-- A mask once set is the one in force (R275). -/
theorem State.setMask_mask (s : State) (code cls auth : Nat) {m : Nat} (hm : m < 64) : (s.setMask code cls m auth).mask code cls = m := by
  have hpolicy (t : State) (n : Nat) (u : Uid) (l : List Byte) : (t.note n u l).policy = t.policy := (congrArg State.policy (t.note_unreported n u l 0) :)
  have hmod : m % 2 ^ 8 = m := Nat.mod_eq_of_lt (by omega)
  rw [State.mask, State.setMask, hpolicy, State.modPolicy_policy]
  dsimp only
  by_cases hdefault : m = defaultMask code cls
  · rw [if_pos hdefault, assoc_assocDel_self]
    exact hdefault.symm
  · rw [if_neg hdefault, assoc_assocSet_self]
    exact (BitVec.toNat_ofNat m 8).trans hmod

/-- A governor item, by whether it loosens the bound (R225). -/
theorem exec_governorPolicy {d : Desc} {s : State} (h : s.accepts d 0x14 [(8, 2), (16, 8)] 304 = true)
    (hrow : policyRow (d.arg 8 2) = some .governor) (hrange : badGovernor (d.arg 8 2) (d.arg 16 8) = false) :
    exec (.governorPolicy d) s = .next (s.ends
      (let go := fun (t : State) (auth : Nat) => ((t.modPolicy (·.setGovernor (d.arg 8 2) (d.arg 16 8))).note 0x7022 dieUid
         (le 2 (d.arg 8 2) ++ [BitVec.ofNat 8 auth, 0] ++ le 8 (d.arg 16 8))).complete d.ring 0x00
       if s.policy.loosens (d.arg 8 2) (d.arg 16 8) then (s.begun.taken d 0x14).authorised d 0 0x14 (d.arg 8 2) fun t _ => go t 1
       else go (s.begun.taken d 0x14) 0)) :=
  calc exec (.governorPolicy d) s = execGovernorPolicy d s := rfl
    _ = .next _ := act_policySet_answers h hrow hrange rfl

/-- A reaction mask, by whether an FE mask loses a reaction that it must keep (R275). -/
theorem exec_reactionPolicy {d : Desc} {s : State} (h : s.accepts d 0x14 [(8, 2), (16, 8)] 304 = true) (hitem : d.arg 8 2 = 0x0B00)
    (hrange : badReaction 0x0B00 (d.arg 16 8) = false) :
    exec (.reactionPolicy d) s = .next (s.ends
      (let code := d.arg 16 8 % 65536
       let mask := d.arg 16 8 / 65536 % 256
       let cls := maskClass code (d.arg 16 8)
       if isFeMask code cls && losesReaction (s.mask code cls) mask then
         (s.begun.taken d 0x14).authorised d 0 0x14 (d.arg 8 2) fun t _ => (t.setMask code cls mask 1).complete d.ring 0x00
       else ((s.begun.taken d 0x14).setMask code cls mask 0).complete d.ring 0x00)) :=
  calc exec (.reactionPolicy d) s = execReactionPolicy d s := rfl
    _ = .next _ := act_policySet_answers h (by rw [hitem]; rfl) hrange rfl

/-- The changed masks return to their defaults, by whether an FE mask in force loses a reaction (R275). -/
theorem exec_reactionDefaults {d : Desc} {s : State} (h : s.accepts d 0x14 [(8, 2), (16, 8)] 304 = true) (hitem : d.arg 8 2 = 0x0B01)
    (hvalue : d.arg 16 8 = 1) :
    exec (.reactionDefaults d) s = .next (s.ends
      (let go := fun (t : State) (auth : Nat) => (t.forEach s.policy.masks (fun t p =>
         t.setMask (keyCode p.1) (keyClass p.1) (defaultMask (keyCode p.1) (keyClass p.1)) auth)).complete d.ring 0x00
       if s.policy.masks.any (fun p => isFeMask (keyCode p.1) (keyClass p.1)
           && losesReaction p.2.toNat (defaultMask (keyCode p.1) (keyClass p.1))) then
         (s.begun.taken d 0x14).authorised d 0 0x14 (d.arg 8 2) fun t _ => go t 1
       else go (s.begun.taken d 0x14) 0)) :=
  calc exec (.reactionDefaults d) s = execReactionDefaults d s := rfl
    _ = .next _ := act_policySet_answers h (by rw [hitem]; rfl) (by rw [hvalue]; rfl) rfl

/-- Settles O20: which items and masks need an authorisation, what follows one, and that a mask once set is in force. -/
theorem guardedPolicyItemsNeedAuthority : Obligations.GuardedPolicyItemsNeedAuthority := by
  refine ⟨fun d s h hrow hrange => ⟨fun hkeeps => ?_, fun u ok hloosens hverify => ?_⟩,
    fun d s h => ⟨fun hitem hrange hkeeps => ?_, fun u ok hverify => ⟨fun hitem hrange hfe hloses => ?_, fun hitem hvalue hloses => ?_⟩,
      fun hitem hvalue hkeeps => ?_⟩,
    fun s code cls m auth hm => s.setMask_mask code cls auth hm⟩
  · rw [exec_governorPolicy h hrow hrange]
    simp only [hkeeps]
    rfl
  · rw [exec_governorPolicy h hrow hrange]
    simp only [hloosens, if_true, State.authorised_of_verify hverify]
    rfl
  · rw [exec_reactionPolicy h hitem hrange]
    dsimp only
    rw [if_neg (by simp only [Bool.and_eq_true, not_and]; exact fun hfe => by simp [hkeeps hfe])]
  · rw [exec_reactionPolicy h hitem hrange]
    simp only [hfe, hloses, Bool.and_self, if_true, State.authorised_of_verify hverify]
  · rw [exec_reactionDefaults h hitem hvalue]
    simp only [hloses, if_true, State.authorised_of_verify hverify]
  · rw [exec_reactionDefaults h hitem hvalue]
    simp only [hkeeps]
    rfl

end Sys2Proof.Machine
end

section
/-! Packs and firmware images in flash: staging, programming, activation and the pager's copy (R131 to R137, R362). -/
namespace Sys2Proof.Machine

/-! Staging and activation (R133, R135, R136). -/

theorem exec_packStage {d : Desc} {s : State} (h : s.accepts d 0x20 [(8, 1)] 16777216 = true) (hslot : d.arg 8 1 ≤ 1)
    (hactive : d.arg 8 1 ≠ s.screen.active) (hsound : badPack d = false) :
    exec (.packStage d) s = .next (s.ends
      ((s.begun.taken d 0x20).checked d.ring
        [((packOf d).ver != (s.hif.neg.getD []).getD 1 0, 0x02), (!s.packVerifies (packOf d) || decide ((packOf d).serial < s.screen.floor), 0x03),
          (s.screen.staging.isSome, 0x04)] fun t =>
        (t.modScreen (fun c => { c.setSlot (d.arg 8 1) none with staging := some (d.ring, d.arg 8 1, packOf d), blockFails := 0 })).stageFile
          (packBase (d.arg 8 1)) d.buf)) :=
  calc exec (.packStage d) s = execPackStage d s := rfl
    _ = .next _ := act_takeCmd_answers (bad := fun s => decide (1 < d.arg 8 1) || d.arg 8 1 == s.screen.active || badPack d) h
      (by simp [hsound, hslot, hactive]) rfl

theorem exec_packActivate {d : Desc} {s : State} {p : Pack} (h : s.accepts d 0x21 [(8, 1)] 0 = true) (hslot : d.arg 8 1 ≤ 1)
    (hp : s.screen.slot (d.arg 8 1) = some p) :
    exec (.packActivate d) s = .next (s.ends
      (((((s.begun.taken d 0x21).modScreen (fun c => { c with active := d.arg 8 1, floor := max c.floor p.floor })).copyFrom (d.arg 8 1)).note
        0x7007 dieUid ([BitVec.ofNat 8 (d.arg 8 1), 0, 0, 0] ++ le 4 p.id ++ le 4 p.serial)).complete d.ring 0x00)) :=
  calc exec (.packActivate d) s = execPackActivate d s := rfl
    _ = .next _ := act_takeCmd_answers (bad := fun _ => decide (1 < d.arg 8 1)) h (by simpa using hslot) (by
      have hheld : (s.begun.taken d 0x21).screen.slot (d.arg 8 1) = some p := hp
      simp only [hheld]
      rfl)

theorem exec_packActivate_empty {d : Desc} {s : State} (h : s.accepts d 0x21 [(8, 1)] 0 = true) (hslot : d.arg 8 1 ≤ 1)
    (hp : s.screen.slot (d.arg 8 1) = none) :
    exec (.packActivate d) s = .next (s.ends ((s.begun.taken d 0x21).complete d.ring 0x04)) :=
  calc exec (.packActivate d) s = execPackActivate d s := rfl
    _ = .next _ := act_takeCmd_answers (bad := fun _ => decide (1 < d.arg 8 1)) h (by simpa using hslot) (by
      have hempty : (s.begun.taken d 0x21).screen.slot (d.arg 8 1) = none := hp
      simp only [hempty]
      rfl)

/-! Programming (R135, R362). -/

theorem exec_flashSlotWritten {s : State} (pack ok : Bool) (blk : Nat) (hfw : s.firmware = true) (hpower : s.pwrGood = true) :
    exec (.flashSlotWritten pack ok blk) s = .next (s.ends (if pack then s.begun.packWritten ok blk else s.begun.fwWritten ok blk)) :=
  calc exec (.flashSlotWritten pack ok blk) s = execFlashSlotWritten pack ok s blk := rfl
    _ = .next _ := actIf_pos s _ _ (by simp [hfw, hpower])

/-- The end of a pack slot's programming, by its success and the block's failures. -/
theorem State.packWritten_staging {s : State} {ring i : Nat} {p : Pack} (ok : Bool) (blk : Nat) (h : s.screen.staging = some (ring, i, p)) :
    s.packWritten ok blk =
      (if ok then ((s.stageEnded (packBase i)).modScreen (fun c => { c.setSlot i (some p) with staging := none, blockFails := 0 })).complete ring 0x00
       else if blockTries s.screen.failBlock s.screen.blockFails blk < 2 then
         (s.modScreen (fun c => { c with
           failBlock := blk, blockFails := blockTries s.screen.failBlock s.screen.blockFails blk + 1 })).blockAgain (packBase i) blk
       else (((s.modScreen (fun c => { c with staging := none, blockFails := 0 })).stageFailed (packBase i)).report 0x7008 dieUid
         [BitVec.ofNat 8 i, 3]).complete ring 0x04) := by
  simp only [State.packWritten, h]
  rfl

/-- The end of a firmware slot's programming, by its success and the block's failures. -/
theorem State.fwWritten_staging {s : State} {ring n : Nat} {i : FwImage} (ok : Bool) (blk : Nat) (h : s.fw.staging = some (ring, i))
    (hn : n = 1 - s.fw.runningSlot) :
    s.fwWritten ok blk =
      (if ok then (((s.stageEnded (fwBase n)).modFw (fun w => { w.setSlot n (some i) with staged := true, staging := none, blockFails := 0 })).noteUpdate
         0 0 (some i)).complete ring 0x00
       else if blockTries s.fw.failBlock s.fw.blockFails blk < 2 then
         (s.modFw (fun w => { w with failBlock := blk, blockFails := blockTries s.fw.failBlock s.fw.blockFails blk + 1 })).blockAgain (fwBase n) blk
       else (((({ s with free := s.free + 1 } : State).modFw (fun w => { w with staging := none, blockFails := 0 })).stageFailed (fwBase n)).report 0x4005
         dieUid ([BitVec.ofNat 8 n, 0, 0, 0] ++ le 4 (Config.freeValue s.free).toNat)).complete ring 0x04) := by
  subst hn
  simp only [State.fwWritten, h]
  rfl

/-! The pager's copy (R132, R136, R137). -/

/-- The Drovers switch to a verified pack, and screening starts. -/
def State.packSwitched (s : State) (i : Nat) (p : Pack) : State :=
  let s := s.modScreen (fun c => { c with running := some p, runningSlot := i, gen := c.gen + 1, copying := none })
  let s := s.forEach s.upFields (fun s f => (s.modField f (fun fd => { fd with pack := s.screen.gen, store := [] })).refill f (firstPatterns p.patterns.length))
  let s := (s.restartPasses).placeCopies
  { s with start := { s.start with screening := true } }

theorem exec_packCopyVerified {s : State} {i : Nat} {p : Pack} (ok : Bool) (hfw : s.firmware = true) (hcopying : s.screen.copying = some i)
    (hslot : s.screen.slot i = some p) :
    exec (.packCopyVerified ok) s = .next (s.ends
      (if !(ok && s.packVerifies p) then s.begun.packInvalid i 1 (i == s.screen.active)
       else if p.serial < s.screen.floor then s.begun.packInvalid i 2 (i == s.screen.active)
       else s.begun.packSwitched i p)) :=
  calc exec (.packCopyVerified ok) s = execPackCopyVerified ok s := rfl
    _ = .next _ := actIf_answers hfw (by simp only [State.begun_screen, hcopying, hslot]; rfl)

theorem exec_packCopyVerified_idle {s : State} (ok : Bool) (hfw : s.firmware = true) (hcopying : s.screen.copying = none) :
    exec (.packCopyVerified ok) s = .next (s.ends s.begun) :=
  calc exec (.packCopyVerified ok) s = execPackCopyVerified ok s := rfl
    _ = .next _ := actIf_answers hfw (by simp only [State.begun_screen, hcopying])

/-- Where a pack runs from and whether one is being copied: what the restart of passes and the copies in the stacks leave alone. -/
def Screen.pack (c : Screen) : Option Pack × Nat × Nat × Option Nat := (c.running, c.runningSlot, c.gen, c.copying)

theorem State.restartPasses_pack (s : State) : s.restartPasses.screen.pack = s.screen.pack :=
  State.forEach_frame (s.modScreen (fun c => { c with since := s.tbase })) (fun t => t.screen.pack) _ _ (by exact fun _ _ => rfl)

theorem State.placeCopies_screen (s : State) : s.placeCopies.screen = s.screen := by
  unfold State.placeCopies
  refine s.forEach_frame State.screen _ _ fun t m => ?_
  simp only [apply_ite State.screen, State.modMem_screen, ite_self]

theorem State.refill_screen (s : State) (f : Nat) (want : List Nat) : (s.refill f want).screen = s.screen :=
  (congrArg State.screen (s.refill_offMesh f want) :)

theorem State.packSwitched_pack (s : State) (i : Nat) (p : Pack) :
    (s.packSwitched i p).screen.pack = (some p, i, s.screen.gen + 1, none) ∧ (s.packSwitched i p).start.screening = true := by
  refine ⟨?_, rfl⟩
  have hstart (t : State) (st : Start) : ({ t with start := st } : State).screen = t.screen := rfl
  rw [State.packSwitched]
  dsimp only
  rw [hstart, State.placeCopies_screen, State.restartPasses_pack, State.forEach_frame _ State.screen]
  · rfl
  · exact fun t f => State.refill_screen ..

/-- Settles O21: the checks of staging and activation, the ends of programming, and the pack that runs once its copy is verified. -/
theorem packsAreStagedAndRun : Obligations.PacksAreStagedAndRun := by
  refine ⟨fun d s => ⟨fun h hslot hactive hsound hversion hverifies hfloor hidle => ?_, fun h hslot => ⟨fun p hp => ?_, fun hp => ?_⟩⟩,
    fun blk s hfw hpower => ⟨fun ring i p hstaging => ?_, fun ring n i hstaging hn => ?_⟩,
    fun s hfw => ⟨fun hidle ok => exec_packCopyVerified_idle ok hfw hidle, fun i p hcopying hslot => ?_⟩⟩
  · rw [exec_packStage h hslot hactive hsound, hversion, hverifies, hidle, show decide ((packOf d).serial < s.screen.floor) = false by simpa using hfloor]
    rfl
  · exact exec_packActivate h hslot hp
  · exact exec_packActivate_empty h hslot hp
  · have hwritten (ok : Bool) := State.packWritten_staging (s := s.begun) ok blk hstaging
    refine ⟨?_, fun hagain => ?_, fun hlast => ?_⟩ <;> rw [exec_flashSlotWritten _ _ blk hfw hpower, if_pos rfl, hwritten]
    · rw [if_pos rfl]
    · rw [if_neg Bool.false_ne_true, if_pos (by exact hagain)]
      rfl
    · rw [if_neg Bool.false_ne_true, if_neg (by exact Nat.not_lt.2 hlast)]
  · have hwritten (ok : Bool) := State.fwWritten_staging (s := s.begun) ok blk hstaging hn
    refine ⟨?_, fun hagain => ?_, fun hlast => ?_⟩ <;> rw [exec_flashSlotWritten _ _ blk hfw hpower, if_neg Bool.false_ne_true, hwritten]
    · rw [if_pos rfl]
    · rw [if_neg Bool.false_ne_true, if_pos (by exact hagain)]
      rfl
    · rw [if_neg Bool.false_ne_true, if_neg (by exact Nat.not_lt.2 hlast)]
      rfl
  · refine ⟨fun hverifies hfloor => ⟨_, exec_packCopyVerified true hfw hcopying hslot, ?_⟩, fun hverifies hfloor => ?_, ?_, fun hverifies => ?_⟩
    · rw [if_neg (by simp [hverifies]), if_neg (Nat.not_lt.2 hfloor)]
      obtain ⟨hpack, hscreening⟩ := s.begun.packSwitched_pack i p
      simp only [Screen.pack, Prod.mk.injEq] at hpack
      obtain ⟨hrunning, hfrom, hgen, hdone⟩ := hpack
      exact ⟨hrunning, hfrom, hgen, hdone, hscreening⟩
    · rw [exec_packCopyVerified true hfw hcopying hslot, if_neg (by simp [hverifies]), if_pos hfloor]
    · rw [exec_packCopyVerified false hfw hcopying hslot, if_pos (by simp)]
    · rw [exec_packCopyVerified true hfw hcopying hslot, if_pos (by simp [hverifies])]

end Sys2Proof.Machine
end

section
/-! The steps of a firmware update (R361 to R368). -/
namespace Sys2Proof.Machine

/-! Staging and activation (R361, R362, R364). -/

theorem Fw.setSlot_runningSlot (w : Fw) (i : Nat) (o : Option FwImage) : (w.setSlot i o).runningSlot = w.runningSlot := by
  unfold Fw.setSlot; split <;> rfl

/-- The slot that is not running is emptied, and its programming with a new image begins (R362). -/
def State.stageImage (s : State) (d : Desc) : State :=
  let t := s.modFw (fun w => { w.setSlot (1 - w.runningSlot) none with staged := false, staging := some (d.ring, imageOf d.buf), blockFails := 0 })
  t.stageFile (fwBase (1 - t.fw.runningSlot)) d.buf

theorem exec_fwStage {d : Desc} {s : State} (h : s.accepts d 0x80 [] 2097152 = true) (hsound : badImage d = false) :
    exec (.fwStage d) s = .next (s.ends
      ((s.begun.taken d 0x80).checked d.ring
        [(!(imageOf d.buf).supports (s.hif.neg.getD []) || !s.schemaOk (imageOf d.buf), 0x02),
          (d.sigKey != some Config.makerHash || decide ((imageOf d.buf).serial < s.fw.floor), 0x03), (s.activating || s.fw.staging.isSome, 0x04)]
        fun t => t.stageImage d)) :=
  calc exec (.fwStage d) s = execFwStage d s := rfl
    _ = .next _ := act_takeCmd_answers (bad := fun _ => badImage d) h hsound rfl

/-- What FW_ACTIVATE needs is missing (R364). -/
def State.noActivation (s : State) : Bool :=
  s.fw.stagedImage.isNone || s.follower.isNone || !(List.range 3).all (fun v => (s.pair.voters.getD v {}).inService) || s.activating

/-- A job runs under another contract version than the staged image's (R368). -/
def State.foreignJob (s : State) : Bool := s.job.active && contractOf s.fw.stagedImage != contractOf s.fw.running

theorem foreignJob_iff {s : State} :
    s.foreignJob = true ↔ s.job.active = true ∧ contractOf s.fw.stagedImage ≠ contractOf s.fw.running := by simp [State.foreignJob]

/-- An activation is put off, with its cause (R364). -/
def State.deferUpdate (s : State) (ring : Nat) : State :=
  let e := s.emergency
  let cause := if e ≠ 0 then e else 4
  let s := s.modFw (fun w => { w with deferred := some cause, deferJob := s.foreignJob, calmSince := if e ≠ 0 then none else some 0 })
  (s.noteUpdate 1 cause s.fw.stagedImage).complete ring 0x01

theorem exec_fwActivate {d : Desc} {s : State} (h : s.accepts d 0x81 [] 0 = true) :
    exec (.fwActivate d) s = .next (s.ends
      ((s.begun.taken d 0x81).checked d.ring [(s.noActivation, 0x04)] fun t =>
        if t.emergency ≠ 0 ∨ t.foreignJob = true then t.deferUpdate d.ring else t.startUpdate (some d.ring))) := by
  have hmissing : (s.begun.taken d 0x81).noActivation = s.noActivation := by simp [State.noActivation, State.taken, State.activating]
  rw [← hmissing]
  calc exec (.fwActivate d) s = execFwActivate d s := rfl
    _ = .next _ := act_takeCmd_answers (bad := fun _ => false) h rfl rfl

theorem State.deferUpdate_eq (s : State) (ring : Nat) :
    s.deferUpdate ring = ((s.modFw (fun w => { w with
      deferred := some (if s.emergency = 0 then 4 else s.emergency), deferJob := s.foreignJob
      calmSince := if s.emergency = 0 then some 0 else none })).noteUpdate 1 (if s.emergency = 0 then 4 else s.emergency) s.fw.stagedImage).complete ring 0x01 := by
  by_cases he : s.emergency = 0
  · simp only [State.deferUpdate, he, ne_eq, not_true_eq_false, if_false, if_true]
    rfl
  · simp only [State.deferUpdate, he, ne_eq, not_false_eq_true, if_false, if_true]
    rfl

/-! The steps (Table 15.3). -/

theorem State.calmTime_eq {s : State} {t : Nat} (h : s.fw.calmSince = some t) :
    s.calmTime = some (if t = 0 then s.tbase else t + 1000000000) := by
  simp [State.calmTime, h]

theorem exec_deferredActivationStart {s : State} {c t : Nat} (hfw : s.firmware = true) (hdeferred : s.fw.deferred = some c)
    (hcalm : s.emergency = 0) (hjob : (s.fw.deferJob && s.job.active) = false) (hfollower : s.follower.isSome = true)
    (hsince : s.fw.calmSince = some t) :
    exec .deferredActivationStart s = .next (s.ends
      (({ s.begun with tbase := max s.tbase (if t = 0 then s.tbase else t + 1000000000) } : State).startUpdate none)) :=
  calc exec .deferredActivationStart s = execDeferredActivationStart s := rfl
    _ = .next _ := actIf_answers (by simp only [hfw, hdeferred, hcalm, hjob, hfollower, State.calmTime_eq hsince]; rfl) (by
      rw [State.calmTime_eq (s := s.begun) hsince]
      rfl)

theorem exec_deferredActivationStart_none {s : State} (hnone : s.fw.deferred = none) :
    exec .deferredActivationStart s = .next (s.ends s.begun) :=
  calc exec .deferredActivationStart s = execDeferredActivationStart s := rfl
    _ = .next _ := actIf_neg s _ _ (by simp [hnone])

/-- The other Shepherd leaves the order onto the staged image; what the pair held goes out (Table 15.3 step 3). -/
def State.leftForImage (s : State) : State :=
  let nb := s.newShc
  let held := s.pair.held.map (·.2)
  let s := s.modShc nb (fun x => { x with status := .catchingUp, image := s.fw.stagedImage, resetAt := s.tbase })
  let s := s.modPair (fun p => { p with skew := true, held := [], released := p.order })
  let s := s.modFw (fun w => { w with step := 3, leftAt := s.tbase })
  { s with out := s.out ++ held }

theorem exec_updateImageReceived {s : State} (a b : Bool) (hfw : s.firmware = true) (hstep : s.fw.step = 1) :
    exec (.updateImageReceived a b) s = .next (s.ends
      (let t : State := { s.begun with fw := { s.fw with step := 2 } }
       if !(a && b) then t.abortUpdate 0 else t.leftForImage)) :=
  calc exec (.updateImageReceived a b) s = execUpdateImageReceived a b s := rfl
    _ = .next _ := actIf_pos s _ _ (by simp [hfw, hstep])

theorem exec_updateImageReceived_off {s : State} (a b : Bool) (hstep : s.fw.step ≠ 1) :
    exec (.updateImageReceived a b) s = .next (s.ends s.begun) :=
  calc exec (.updateImageReceived a b) s = execUpdateImageReceived a b s := rfl
    _ = .next _ := actIf_neg s _ _ (by simp [hstep])

theorem exec_updateSwap {s u : State} {t : Nat} (hfw : s.firmware = true) (hstep : s.fw.step = 3) (hfollower : s.follower = some s.newShc)
    (hcalm : s.emergency = 0) (hlevel : s.recovery.level1 = none) (hsince : s.fw.calmSince = some t)
    (hu : u = { s.begun with tbase := max s.tbase (if t = 0 then s.tbase else t + 1000000000) }) :
    exec .updateSwap s = .next (s.ends (((u.modPair (fun p => { p with gapFrom := some u.tbase })).switchOver 3 false).modShc s.fw.s1.isB
      (fun x => { x with status := .resetting, resetAt := ((u.modPair (fun p => { p with gapFrom := some u.tbase })).switchOver 3 false).tbase }))) :=
  calc exec .updateSwap s = execUpdateSwap s := rfl
    _ = .next _ := actIf_answers (by simp [hfw, hstep, hfollower, hcalm, hlevel, State.calmTime_eq hsince]) (by
      rw [hu, State.calmTime_eq (s := s.begun) hsince]
      rfl)

theorem exec_updateSwap_off {s : State} (hstep : s.fw.step ≠ 3) : exec .updateSwap s = .next (s.ends s.begun) :=
  calc exec .updateSwap s = execUpdateSwap s := rfl
    _ = .next _ := actIf_neg s _ _ (by simp [hstep])

theorem exec_updateJoinTimeout {s : State} (hfw : s.firmware = true) (hstep : s.fw.step = 3)
    (hcatching : (s.pair.shc s.newShc).status = .catchingUp) :
    exec .updateJoinTimeout s = .next (s.ends (({ s.begun with tbase := max s.tbase (s.fw.leftAt + 100000000) } : State).abortUpdate 2)) :=
  calc exec .updateJoinTimeout s = execUpdateJoinTimeout s := rfl
    _ = .next _ := actIf_pos s _ _ (by simp [hfw, hstep, hcatching])

theorem exec_updateJoinTimeout_off {s : State} (hstep : s.fw.step ≠ 3) : exec .updateJoinTimeout s = .next (s.ends s.begun) :=
  calc exec .updateJoinTimeout s = execUpdateJoinTimeout s := rfl
    _ = .next _ := actIf_neg s _ _ (by simp [hstep])

/-- A change of one Shepherd is read back there, and leaves the other one. -/
theorem State.modShc_shc (s : State) (b : Bool) (g : Shc → Shc) :
    (s.modShc b g).pair.shc b = g (s.pair.shc b) ∧ (s.modShc b g).pair.shc (!b) = s.pair.shc (!b) := by
  cases b <;> exact ⟨rfl, rfl⟩

theorem State.leftForImage_fw (s : State) : s.leftForImage.fw.step = 3 ∧ s.leftForImage.fw.leftAt = s.tbase := by
  refine ⟨rfl, ?_⟩
  simp [State.leftForImage]

theorem State.leftForImage_pair (s : State) :
    s.leftForImage.pair.skew = true ∧ s.leftForImage.pair.held = [] ∧ (s.leftForImage.pair.shc s.newShc).status = .catchingUp
      ∧ (s.leftForImage.pair.shc s.newShc).image = s.fw.stagedImage ∧ s.leftForImage.pair.shc (!s.newShc) = s.pair.shc (!s.newShc) := by
  have hpair (t : State) (b : Bool) : (t.modPair (fun p => { p with skew := true, held := [], released := p.order })).pair.shc b = t.pair.shc b := by
    cases b <;> rfl
  obtain ⟨hself, hother⟩ := s.modShc_shc s.newShc (fun x => { x with status := .catchingUp, image := s.fw.stagedImage, resetAt := s.tbase })
  have hshc (b : Bool) : s.leftForImage.pair.shc b
      = (s.modShc s.newShc (fun x => { x with status := .catchingUp, image := s.fw.stagedImage, resetAt := s.tbase })).pair.shc b := by
    exact hpair _ b
  exact ⟨rfl, rfl, by rw [hshc, hself], by rw [hshc, hself], by rw [hshc, hother]⟩

theorem State.leftForImage_out (s : State) : s.leftForImage.out = s.out ++ s.pair.held.map (·.2) := by
  simp [State.leftForImage]

/-- Settles O22: the checks of staging and activation, and each step of an update in its place. -/
theorem firmwareIsUpdatedInSteps : Obligations.FirmwareIsUpdatedInSteps := by
  refine ⟨fun d s => ⟨fun h hsound hversions hschema hkey hfloor hidle hfree => ?_, fun h => ⟨fun hmissing => ?_, fun hready hcalm hjob => ?_,
      fun hready hbusy => ?_⟩⟩,
    fun s hfw => ⟨fun c t hdeferred hcalm hjob hfollower hsince => exec_deferredActivationStart hfw hdeferred hcalm hjob hfollower hsince,
      exec_deferredActivationStart_none, fun hstep => ⟨fun a b hbad => ?_, _, exec_updateImageReceived true true hfw hstep, ?_⟩,
      fun hstep a b => exec_updateImageReceived_off a b hstep,
      fun t hstep hfollower hcalm hlevel hsince => ⟨_, rfl, exec_updateSwap hfw hstep hfollower hcalm hlevel hsince rfl⟩,
      fun hstep => ⟨exec_updateSwap_off hstep, exec_updateJoinTimeout_off hstep⟩,
      fun hstep hcatching => exec_updateJoinTimeout hfw hstep hcatching⟩⟩
  · have himage : (s.begun.taken d 0x80).stageImage d = ((s.begun.taken d 0x80).modFw (fun w => { w.setSlot (1 - w.runningSlot) none with
        staged := false, staging := some (d.ring, imageOf d.buf), blockFails := 0 })).stageFile (fwBase (1 - s.fw.runningSlot)) d.buf := by
      rw [State.stageImage, State.modFw_fw]
      dsimp only
      rw [Fw.setSlot_runningSlot]
      rfl
    rw [exec_fwStage h hsound, hversions, hschema, hkey, hidle, hfree,
      show decide ((imageOf d.buf).serial < s.fw.floor) = false by simpa using hfloor, ← himage,
      bne_self_eq_false]
    rfl
  · rw [exec_fwActivate h, show s.noActivation = true from hmissing, State.checked_cons_true]
  · rw [exec_fwActivate h, show s.noActivation = false from hready, State.checked_cons_false, State.checked_nil, if_neg]
    rintro (hemergency | hforeign)
    · exact hemergency hcalm
    · obtain ⟨hactive, hother⟩ := foreignJob_iff.1 hforeign
      exact hjob.elim (fun hnone => by simp [hnone] at hactive) hother
  · rw [exec_fwActivate h, show s.noActivation = false from hready, State.checked_cons_false, State.checked_nil, if_pos, State.deferUpdate_eq]
    · rfl
    · exact hbusy.imp id fun hjob => foreignJob_iff.2 hjob
  · rw [exec_updateImageReceived a b hfw hstep]
    simp only [hbad]
    rfl
  · obtain ⟨hstep', hleft⟩ := State.leftForImage_fw { s.begun with fw := { s.fw with step := 2 } }
    obtain ⟨hskew, hheld, hstatus, himage, hother⟩ := State.leftForImage_pair { s.begun with fw := { s.fw with step := 2 } }
    exact ⟨hstep', hleft, hskew, hheld, hstatus, himage, hother.trans (s.begun_shc _),
      (State.leftForImage_out _).trans (congrArg (List.map (Prod.snd (α := Nat) (β := Output))) s.begun_held)⟩

end Sys2Proof.Machine
end

section
/-! Fold requests, returns, the fold list in flash, and the re-tests of sheltered cores (R246, R253, R254, R259 to R261). -/
namespace Sys2Proof.Machine

/-! The host's commands (R253, R261). -/

/-- The ranges of FOLD_REQUEST (R253). -/
def State.badFold (s : State) (d : Desc) : Bool :=
  let u := d.uid 12
  let fl := s.flock (uidField u) (uidFlock u)
  let j := d.arg 16 1
  !isFlock u || !(decide (j < Config.slots) || j == 0xFF) || fl.logical.isNone || fl.st.gone || (j != 0xFF && fl.disabled.contains j)

/-- The fold that a request asks for becomes pending, with a free value as its cause (R253, R259). -/
def State.foldAsked (s : State) (d : Desc) : State :=
  let u := d.uid 12
  let j := d.arg 16 1
  let (t, v) := s.freeVal
  let t := if j = 0xFF then t.pendFlock (uidField u) (uidFlock u) v.toNat none true
    else t.coreFoldPending (uidField u) (uidFlock u) ((t.flock (uidField u) (uidFlock u)).coreOf j) v.toNat
  t.complete d.ring 0x00

/-- No spare takes the fold that a request asks for. -/
def State.noSpare (s : State) (d : Desc) : Bool :=
  !s.spareFlockEligible (uidField (d.uid 12)) && (d.arg 16 1 == 0xFF || (s.usableSpare (uidField (d.uid 12)) (uidFlock (d.uid 12))).isNone)

theorem exec_foldRequest {d : Desc} {s : State} (h : s.accepts d 0x50 [(12, 4), (16, 1)] 0 = true) (hrange : s.badFold d = false) :
    exec (.foldRequest d) s = .next (s.ends
      ((s.begun.taken d 0x50).checked d.ring [(s.noSpare d, 0x04)] fun t => t.foldAsked d)) :=
  calc exec (.foldRequest d) s = execFoldRequest d s := rfl
    _ = .next _ := act_takeCmd_answers (bad := fun s => s.badFold d) h hrange rfl

/-- UNFOLD returns a slot or a whole flock and records how much (R261). -/
def State.unfoldReturned (s : State) (d : Desc) (authority : Nat) : State :=
  let u := d.uid 12
  let f := uidField u
  let k := uidFlock u
  let j := d.arg 16 1
  let t := if j = 0xFF then s.unfoldFlock f k else s.unfoldSlot f k j
  let t := t.note 0x7036 u (t.cyclePayload f [BitVec.ofNat 8 j, BitVec.ofNat 8 authority, BitVec.ofNat 8 (s.unfoldCount f k j), 0])
  ((t.foldEntry 9 (if j = 0xFF then 0 else 1) j 0 u).checkGrade).complete d.ring 0x00

/-- The ranges of UNFOLD (R261). -/
def State.badUnfold (s : State) (d : Desc) : Bool :=
  !isFlock (d.uid 12) || !(decide (d.arg 16 1 < Config.slots) || d.arg 16 1 == 0xFF)
    || s.unfoldCount (uidField (d.uid 12)) (uidFlock (d.uid 12)) (d.arg 16 1) == 0

theorem exec_unfold {d : Desc} {s : State} (h : s.accepts d 0x51 [(12, 4), (16, 1)] 304 = true) (hrange : s.badUnfold d = false) :
    exec (.unfold d) s = .next (s.ends ((s.begun.taken d 0x51).authorised d 0 0x51 0 fun t a => t.unfoldReturned d a)) :=
  calc exec (.unfold d) s = execUnfold d s := rfl
    _ = .next _ := act_takeCmd_answers (bad := fun s => s.badUnfold d) h hrange rfl

/-! The fold list in flash (R259, R260). -/

theorem State.flashWrites_folds (s : State) (l : List (Nat × Nat × List Byte)) : (s.flashWrites l).folds = s.folds :=
  (congrArg State.folds (s.sendAll_offHost (l.flatMap (fun x => flashWriteOps x.1 x.2.1 x.2.2))) :)

/-- A full area is compacted to its live entries first (R260). -/
def State.compacted (s : State) : State := if 2047 ≤ s.folds.entries.length then s.switchArea (liveEntries s.folds.entries) else s

theorem FoldList.setArea_waiting (l : FoldList) (a : Nat) (x : FoldArea) : (l.setArea a x).waiting = l.waiting := by
  unfold FoldList.setArea; split <;> rfl

theorem State.compacted_folds (s : State) :
    s.compacted.folds.entries = (if 2047 ≤ s.folds.entries.length then liveEntries s.folds.entries else s.folds.entries)
      ∧ s.compacted.folds.waiting = s.folds.waiting := by
  unfold State.compacted
  split
  · exact ⟨rfl, by simp only [State.switchArea, FoldList.setArea_waiting]⟩
  · exact ⟨rfl, rfl⟩

/-- An entry stands in flash behind the others, under their number (R259). -/
def State.foldProgrammed (s : State) (e : FoldEntry) (rest : List FoldEntry) : State :=
  let fl := s.folds
  let x := if fl.area = 0 then fl.areaA else fl.areaB
  let e := { e with sequence := fl.entries.length }
  let at_ := foldSlot fl.area x.slots.length
  let op := s.qspi.op 0x12 0x02
  let first := if x.header.isEmpty then [(op, foldBase fl.area, foldHeader fl.gen)] else []
  let s := (s.flashWrites (first ++ [(op, at_, e.body), (op, at_ + 31, [0xA5])])).flashEnded
  let x : FoldArea := { header := if x.header.isEmpty then foldHeader fl.gen else x.header, slots := x.slots ++ [e.bytes] }
  { s with folds := { fl.setArea fl.area x with entries := fl.entries ++ [e], waiting := rest } }

theorem State.commitFold_cons {s : State} {e : FoldEntry} {rest : List FoldEntry} (h : s.folds.waiting = e :: rest)
    (hroom : s.compacted.folds.entries.length < 2047) :
    s.commitFold = (s.compacted.foldProgrammed e rest).retireEntry { e with sequence := s.compacted.folds.entries.length } := by
  have hroom' : ¬ 2047 ≤ (if 2047 ≤ s.folds.entries.length then s.switchArea (liveEntries s.folds.entries) else s).folds.entries.length :=
    Nat.not_le.2 hroom
  simp only [State.commitFold, h]
  rw [if_neg hroom']
  rfl

theorem State.foldProgrammed_folds (s : State) (e : FoldEntry) (rest : List FoldEntry) :
    (s.foldProgrammed e rest).folds.entries = s.folds.entries ++ [{ e with sequence := s.folds.entries.length }]
      ∧ (s.foldProgrammed e rest).folds.waiting = rest := ⟨rfl, rfl⟩

theorem State.note_folds (s : State) (code : Nat) (uid : Uid) (payload : List Byte) (opId : BitVec 64) :
    (s.note code uid payload opId).folds = s.folds := (congrArg State.folds (s.note_unreported ..) :)

/-- Retiring the unit of an entry leaves the fold list. -/
theorem State.retireEntry_folds (s : State) (e : FoldEntry) : (s.retireEntry e).folds = s.folds := by
  have hlane (t : State) (f k c l cause : Nat) : (t.laneTo f k c l .retired cause).folds = t.folds := by
    unfold State.laneTo
    dsimp only
    split
    · rfl
    · exact State.note_folds ..
  have hcore (t : State) (f k c cause : Nat) : (t.coreTo f k c .retired cause).folds = t.folds := by
    unfold State.coreTo
    dsimp only
    split
    · rfl
    · exact State.note_folds ..
  have hflock (t : State) (f k cause : Nat) : (t.flockTo f k .retired cause).folds = t.folds := by
    unfold State.flockTo
    dsimp only
    split
    · rfl
    · exact State.note_folds ..
  unfold State.retireEntry
  dsimp only
  split
  · split
    · exact hlane ..
    · rfl
  · split
    · exact hcore ..
    · rfl
  · split
    · exact hflock ..
    · rfl
  · rfl

theorem exec_foldListCommit {s : State} (hfw : s.firmware = true) (hpower : s.pwrGood = true) :
    exec .foldListCommit s = .next (s.ends s.begun.commitFold) :=
  calc exec .foldListCommit s = execFoldListCommit s := rfl
    _ = .next _ := actIf_pos s _ _ (by simp [hfw, hpower])

theorem exec_foldListCommit_unpowered {s : State} (hpower : s.pwrGood = false) : exec .foldListCommit s = .next (s.ends s.begun) :=
  calc exec .foldListCommit s = execFoldListCommit s := rfl
    _ = .next _ := actIf_neg s _ _ (by simp [hpower])

theorem State.commitFold_nil {s : State} (h : s.folds.waiting = []) : s.commitFold = s := by simp only [State.commitFold, h]

/-! Trims and re-tests (R246). -/

section

variable {f k : Nat} {s : State} (hfsp : fspExists f k = true)
include hfsp

theorem exec_ldoOk (ok : Bool) :
    exec (.ldoOk f k ok) s = .next (s.ends (if ok then s.begun.ldoSettled f k else s.begun.fspParity f k 4)) :=
  calc exec (.ldoOk f k ok) s = execLdoOk f k s ok := rfl
    _ = .next _ := actIf_pos s _ _ hfsp

theorem exec_ldoOkTimeout (hwait : (s.flock f k).ldoWait.isSome = true) (hok : (s.flock f k).ldoOk = false) :
    ∃ u : State, u = (s.begun.modFlock f k (fun fl => { fl with ldoWait := none })).forEach (s.trimWaiters f k) (fun s c => s.shelterStep f k c)
      ∧ exec (.ldoOkTimeout f k) s = .next (s.ends (u.writeTrim f k (u.trimOf f k))) :=
  ⟨_, rfl, calc exec (.ldoOkTimeout f k) s = execLdoOkTimeout f k s := rfl
    _ = .next _ := actIf_answers hfsp (by
      rw [if_neg (by simp [hok, Option.isSome_iff_ne_none.1 hwait])]
      rfl)⟩

theorem exec_ldoOkTimeout_idle (h : (s.flock f k).ldoWait = none ∨ (s.flock f k).ldoOk = true) :
    exec (.ldoOkTimeout f k) s = .next (s.ends s.begun) :=
  calc exec (.ldoOkTimeout f k) s = execLdoOkTimeout f k s := rfl
    _ = .next _ := actIf_answers hfsp (if_pos (by simpa using h))

theorem exec_retestDeadline {c : Nat} {r : Retest} (hretest : (s.core f k c).retest = some r) (hopen : r.open_ = true) :
    exec (.retestDeadline f k c) s = .next (s.ends
      (({ s.begun with tbase := max s.tbase r.deadline } : State).retestFailed f k c (s.core f k c).cause)) :=
  calc exec (.retestDeadline f k c) s = execRetestDeadline f k c s := rfl
    _ = .next _ := actIf_answers hfsp (by
      simp only [State.begun_core, hretest, hopen]
      rfl)

theorem exec_retestDeadline_idle {c : Nat} (h : ∀ r, (s.core f k c).retest = some r → r.open_ = false) :
    exec (.retestDeadline f k c) s = .next (s.ends s.begun) :=
  calc exec (.retestDeadline f k c) s = execRetestDeadline f k c s := rfl
    _ = .next _ := actIf_answers hfsp (by
      cases hretest : (s.core f k c).retest with
      | none => simp only [State.begun_core, hretest]
      | some r =>
        simp only [State.begun_core, hretest, h r hretest]
        rfl)

end

theorem State.ldoSettled_waiting {s : State} {f k : Nat} (hwait : (s.flock f k).ldoWait.isSome = true) :
    ∃ u : State, u = s.modFlock f k (fun fl => { fl with ldoOk := true })
      ∧ s.ldoSettled f k = (u.modFlock f k (fun fl => { fl with ldoWait := none })).forEach (u.trimWaiters f k) (fun s c => s.openRetest f k c) := by
  refine ⟨_, rfl, ?_⟩
  rw [State.ldoSettled]
  exact if_neg (by rw [State.modFlock_self]; simpa using Option.isSome_iff_ne_none.1 hwait)

theorem State.ldoSettled_idle {s : State} {f k : Nat} (hwait : (s.flock f k).ldoWait = none) :
    s.ldoSettled f k = s.modFlock f k (fun fl => { fl with ldoOk := true }) := by
  rw [State.ldoSettled]
  exact if_pos (by rw [State.modFlock_self, hwait]; rfl)

/-- Settles O24: requests and returns of folds, the commit of the oldest entry, and the signals that re-tests wait for. -/
theorem foldsAreRequestedAndCommitted : Obligations.FoldsAreRequestedAndCommitted := by
  refine ⟨fun d s => ⟨fun h hflock hslot hlogical hstate henabled => ?_, fun u ok h hflock hslot hcount hverify a ha => ?_⟩,
    fun s hfw hpower => ⟨fun e rest old hwaiting hold hroom => ?_, fun hwaiting => ?_, exec_foldListCommit_unpowered rfl⟩,
    fun f k s hfsp => ⟨fun hwait => ?_, fun hwait => ?_, exec_ldoOk hfsp false, exec_ldoOkTimeout hfsp, exec_ldoOkTimeout_idle hfsp,
      fun c r hretest hopen => exec_retestDeadline hfsp hretest hopen, fun c hclosed => exec_retestDeadline_idle hfsp fun r hretest => ?_⟩⟩
  · have hrange : s.badFold d = false := by
      simp only [State.badFold, hflock, hstate, Bool.not_true, Bool.or_eq_false_iff, Bool.not_eq_false', Bool.or_eq_true,
        decide_eq_true_eq, beq_iff_eq, Bool.and_eq_false_imp, bne_iff_ne, true_and]
      exact ⟨⟨⟨hslot, by simpa using hlogical⟩, trivial⟩, henabled⟩
    refine ⟨fun hall hspare => ?_, fun hone hspare => ?_, fun hnone hwhole => ?_⟩ <;> rw [exec_foldRequest h hrange]
    · rw [show s.noSpare d = false by simp [State.noSpare, hspare], State.checked_cons_false, State.checked_nil]
      simp only [State.foldAsked, hall, if_true]
    · rw [show s.noSpare d = false by rcases hspare with h | h <;> simp [State.noSpare, h, hone], State.checked_cons_false, State.checked_nil]
      simp only [State.foldAsked, hone, if_false]
      rfl
    · rw [show s.noSpare d = true by rcases hwhole with h | h <;> simp [State.noSpare, hnone, h], State.checked_cons_true]
  · have hrange : s.badUnfold d = false := by
      simp only [State.badUnfold, hflock, Bool.not_true, Bool.or_eq_false_iff, Bool.not_eq_false', Bool.or_eq_true,
        decide_eq_true_eq, beq_iff_eq, beq_eq_false_iff_ne, true_and]
      exact ⟨hslot, hcount⟩
    rw [exec_unfold h hrange, State.authorised_of_verify hverify, ← ha]
    rfl
  · obtain ⟨hentries, hrest⟩ := s.begun.compacted_folds
    have hentries' : s.begun.compacted.folds.entries = old := hentries.trans hold.symm
    obtain ⟨hprogrammed, hleft⟩ := s.begun.compacted.foldProgrammed_folds e rest
    have hcommit := State.commitFold_cons (s := s.begun) hwaiting (by rw [hentries']; exact hroom)
    rw [hentries'] at hcommit hprogrammed
    refine ⟨_, s.begun.compacted.foldProgrammed e rest, exec_foldListCommit hfw hpower, hcommit, ?_, ?_⟩ <;>
      rw [hcommit, State.retireEntry_folds]
    · exact hprogrammed
    · exact hleft
  · rw [exec_foldListCommit hfw hpower, State.commitFold_nil (by exact hwaiting)]
  · obtain ⟨u, hu, hsettled⟩ := State.ldoSettled_waiting (s := s.begun) hwait
    exact ⟨u, hu, (exec_ldoOk hfsp true).trans (by rw [if_pos rfl, hsettled])⟩
  · exact (exec_ldoOk hfsp true).trans (by rw [if_pos rfl, State.ldoSettled_idle (s := s.begun) hwait])
  · simpa [hretest] using hclosed

end Sys2Proof.Machine
end

section
/-! Resets and recoveries, and their limits (R299 to R304, R314, R321). -/
namespace Sys2Proof.Machine

/-- A level-0 reset for the host; it completes at once when it escalates at once (R299, R314). -/
def State.hostReset (s : State) (u : Uid) (ring : Nat) : State :=
  let s := s.startLevel0 u 1 0 (some ring)
  if s.recovery.level1.isSome then s.complete ring 0x08 else s

theorem exec_domainReset {d : Desc} {s : State} (h : s.accepts d 0x60 [(12, 4)] 0 = true) (hdomain : isDomain (d.uid 12) = true) :
    exec (.domainReset d) s = .next (s.ends
      ((s.begun.taken d 0x60).checked d.ring [(s.recovery.level1.isSome || s.recovery.resets.any (fun r => domOverlap r.dom (d.uid 12)), 0x04)]
        fun t => t.hostReset (d.uid 12) d.ring)) :=
  calc exec (.domainReset d) s = execDomainReset d s := rfl
    _ = .next _ := act_takeCmd_answers (bad := fun _ => !isDomain (d.uid 12)) h (by simp [hdomain]) rfl

/-- A level-1 recovery for the host, which escalates a level-0 reset under way (R301, R314). -/
def State.hostRecover (s : State) (ring : Nat) : State :=
  match s.recovery.resets with
  | r :: _ => (s.report 0x0314 dieUid (le 4 r.dom.toNat ++ [2, 0, 0, 0] ++ zeros 4) s.job.opId).startLevel1 4 0 (some ring) none
  | [] => s.startLevel1 2 0 (some ring) none

theorem exec_recover {d : Desc} {s : State} (h : s.accepts d 0x61 [] 0 = true) :
    exec (.recover d) s = .next (s.ends
      ((s.begun.taken d 0x61).checked d.ring [(s.recovery.level1.isSome, 0x04)] fun t => t.hostRecover d.ring)) :=
  calc exec (.recover d) s = execRecover d s := rfl
    _ = .next _ := act_takeCmd_answers (bad := fun _ => false) h rfl rfl

/-- The flock that a level-0 reset waits for first, or none. -/
def Level0.culprit (r : Level0) : Uid :=
  match (r.killWait ++ r.waiting ++ r.queue).head? with
  | some q => flockUid (q / 64) (q % 64)
  | none => 0

section

variable {s : State} (hfw : s.firmware = true)
include hfw

theorem exec_resetLimit {u : Uid} {r : Level0} (hr : s.recovery.resets.find? (fun r => r.dom == u) = some r) :
    exec (.resetLimit u) s = .next (s.ends
      (if r.step != .kill && r.step != .reset then s.begun
       else ({ s.begun with tbase := max s.tbase (r.captureEnd + level0Limit u * 1000) } : State).escalate u 0 r.code r.culprit (some u))) :=
  calc exec (.resetLimit u) s = execResetLimit u s := rfl
    _ = .next _ := actIf_answers hfw (by
      simp only [State.begun_recovery, hr]
      rfl)

theorem exec_railCycleHold {l : Level1} (hl : s.recovery.level1 = some l) :
    exec .railCycleHold s = .next (s.ends
      (if l.step == .railHold then
         (({ s.begun with tbase := max s.tbase (l.openAt + 10000000) } : State).modL1 (fun l => { l with step := .railClose })).l1CloseGroup
       else s.begun)) :=
  calc exec .railCycleHold s = execRailCycleHold s := rfl
    _ = .next _ := actIf_answers hfw (by
      simp only [State.begun_recovery, hl]
      rfl)

theorem exec_level1Limit {l : Level1} (hl : s.recovery.level1 = some l) :
    ∃ u : State, u = { s.begun with tbase := max s.tbase (l.began + 30000000000) }
      ∧ exec .level1Limit s = .next (s.ends (u.forEach (u.unfinished l) (fun s f => s.loseField f 3))) :=
  ⟨_, rfl, calc exec .level1Limit s = execLevel1Limit s := rfl
    _ = .next _ := actIf_answers hfw (by
      simp only [State.begun_recovery, hl]
      rfl)⟩

end

/-- Settles O25: the host's resets by what is under way, and the limits by the step reached. -/
theorem resetsStartAndEscalate : Obligations.ResetsStartAndEscalate := by
  refine ⟨fun d s => ⟨fun h hdomain => ⟨fun hfree => ?_, fun hbusy => ?_⟩, fun h => ⟨fun hcalm hnone => ?_, fun r rs hcalm hsome => ?_, fun hlevel => ?_⟩⟩,
    fun s hfw => ⟨fun u r hr => ⟨fun hstep => ?_, fun hkill hreset => ?_⟩, fun l hl => ⟨fun hhold => ?_, fun hother => ?_, exec_level1Limit hfw hl⟩⟩⟩
  · rw [exec_domainReset h hdomain, hfree]
    rfl
  · rw [exec_domainReset h hdomain, hbusy]
    rfl
  · have hrecover : (s.begun.taken d 0x61).hostRecover d.ring = (s.begun.taken d 0x61).startLevel1 2 0 (some d.ring) none := by
      simp only [State.hostRecover, State.taken_recovery, State.begun_recovery, hnone]
    rw [exec_recover h, hcalm, ← hrecover]
    rfl
  · have hrecover : (s.begun.taken d 0x61).hostRecover d.ring = ((s.begun.taken d 0x61).report 0x0314 dieUid
        (le 4 r.dom.toNat ++ [2, 0, 0, 0] ++ zeros 4) s.job.opId).startLevel1 4 0 (some d.ring) none := by
      simp only [State.hostRecover, State.taken_recovery, State.begun_recovery, hsome]
      rfl
    rw [exec_recover h, hcalm, ← hrecover]
    rfl
  · rw [exec_recover h, hlevel]
    rfl
  · rw [exec_resetLimit hfw hr, if_neg (by rcases hstep with h | h <;> simp [h])]
    cases hhead : (r.killWait ++ r.waiting ++ r.queue).head? <;> simp only [Level0.culprit, hhead]
  · rw [exec_resetLimit hfw hr, if_pos (by simp [hkill, hreset])]
  · rw [exec_railCycleHold hfw hl, if_pos (by simp [hhold])]
  · rw [exec_railCycleHold hfw hl, if_neg (by simpa using hother)]

end Sys2Proof.Machine
end

section
/-! The Tally: commits, reclaims, the start scan and clears, and the counts kept by time (R225, R376 to R391). -/
namespace Sys2Proof.Machine

/-! Clears (R387). -/

theorem exec_tallyClear {d : Desc} {s : State} (h : s.accepts d 0x71 [] 368 = true) (hrange : badClear d.buf = false) :
    exec (.tallyClear d) s = .next (s.ends
      ((s.begun.taken d 0x71).authorised d 64 0x71 0 fun t a =>
        if t.tally.clearFull then t.complete d.ring 0x04 else t.recordClear d.ring { scope := rd d.buf 0 1, bound := rd d.buf 8 6 } a)) :=
  calc exec (.tallyClear d) s = execTallyClear d s := rfl
    _ = .next _ := act_takeCmd_answers (bad := fun _ => badClear d.buf) h hrange rfl

/-! Commits and reclaims (R376, R380). -/

theorem exec_tallyCommit {s : State} {l : List Rec} {n used : Nat} (failed : Bool) (hfw : s.firmware = true) (hpower : s.pwrGood = true)
    (hscanned : s.tally.scanned = true) (hidle : s.tally.reclaim = none) (hbatch : s.tally.batch = some (l, n, used)) :
    exec (.tallyCommit failed) s = .next (s.ends
      (if failed then (s.begun.programBatch l n used).programFailed l n used
       else ((s.begun.programBatch l n used).modTally (fun t => t.store l n)).finishClears l 0x00)) :=
  calc exec (.tallyCommit failed) s = execTallyCommit failed s := rfl
    _ = .next _ := actIf_answers (by simp [hfw, hpower, hscanned, hidle]) (by
      simp only [State.begun_tally, hbatch]
      rfl)

theorem exec_tallyCommit_full {s : State} (failed : Bool) (hfw : s.firmware = true) (hpower : s.pwrGood = true)
    (hscanned : s.tally.scanned = true) (hidle : s.tally.reclaim = none) (hbatch : s.tally.batch = none) :
    exec (.tallyCommit failed) s = .next (s.ends s.begun.startReclaim) :=
  calc exec (.tallyCommit failed) s = execTallyCommit failed s := rfl
    _ = .next _ := actIf_answers (by simp [hfw, hpower, hscanned, hidle]) (by simp only [State.begun_tally, hbatch])

theorem exec_tallyCommit_unscanned {s : State} (failed : Bool) (hscanned : s.tally.scanned = false) :
    exec (.tallyCommit failed) s = .next (s.ends s.begun) :=
  calc exec (.tallyCommit failed) s = execTallyCommit failed s := rfl
    _ = .next _ := actIf_neg s _ _ (by simp [hscanned])

/-- A reclaim ends: the ineligible records stand in the old reserve, and the erased sector is the new one (R380). -/
def Tally.reclaimed (t : Tally) (c : Reclaim) : Tally :=
  let g := t.region c.fatal
  let kept := t.carried c
  let sectors := assocDel g.sectors c.sector
  let sectors := if kept.isEmpty then sectors else assocSet sectors g.reserve kept
  { t.setRegion c.fatal { g with sectors := sectors, reserve := c.sector } with reclaim := none }

theorem Tally.setRegion_region (t : Tally) (fatal : Bool) (r : Region) :
    (t.setRegion fatal r).region fatal = r ∧ (t.setRegion fatal r).region (!fatal) = t.region (!fatal) ∧ (t.setRegion fatal r).waiting = t.waiting := by
  cases fatal <;> exact ⟨rfl, rfl, rfl⟩

theorem Tally.reclaimed_regions (t : Tally) (c : Reclaim) :
    (t.reclaimed c).reclaim = none ∧ ((t.reclaimed c).region c.fatal).reserve = c.sector
      ∧ (t.reclaimed c).region (!c.fatal) = t.region (!c.fatal) ∧ (t.reclaimed c).waiting = t.waiting := by
  have hregion (u : Tally) (b : Bool) : ({ u with reclaim := none } : Tally).region b = u.region b := rfl
  obtain ⟨hself, hother, hwaiting⟩ := t.setRegion_region c.fatal { t.region c.fatal with
    sectors := (if (t.carried c).isEmpty then assocDel (t.region c.fatal).sectors c.sector
      else assocSet (assocDel (t.region c.fatal).sectors c.sector) (t.region c.fatal).reserve (t.carried c)), reserve := c.sector }
  refine ⟨rfl, ?_, ?_, hwaiting⟩
  · exact congrArg Region.reserve hself
  · exact hother

theorem exec_tallyReclaimDone {s : State} {c : Reclaim} (hfw : s.firmware = true) (hpower : s.pwrGood = true) (hc : s.tally.reclaim = some c) :
    exec .tallyReclaimDone s = .next (s.ends (s.begun.modTally (fun t => t.reclaimed c)).flashEnded) :=
  calc exec .tallyReclaimDone s = execTallyReclaimDone s := rfl
    _ = .next _ := actIf_answers (by simp [hfw, hpower]) (by
      simp only [State.begun_tally, hc]
      rfl)

theorem exec_tallyReclaimDone_idle {s : State} (hnone : s.tally.reclaim = none) : exec .tallyReclaimDone s = .next (s.ends s.begun) := by
  have hidle : execTallyReclaimDone s = .next (s.ends s.begun) := by
    unfold execTallyReclaimDone
    cases hready : s.firmware && s.pwrGood with
    | false => exact actIf_neg s _ _ rfl
    | true => exact actIf_answers rfl (by simp only [State.begun_tally, hnone])
  exact hidle

/-! The start scan (R384). -/

theorem exec_tallyScan_again {s : State} (i p : Nat) (hscanned : s.tally.scanned = true) : exec (.tallyScan i p) s = .next (s.ends s.begun) :=
  calc exec (.tallyScan i p) s = execTallyScan i p s := rfl
    _ = .next _ := actIf_neg s _ _ (by simp [hscanned])

theorem exec_tallyScan {s u : State} (i p : Nat) (hfw : s.firmware = true) (hscanned : s.tally.scanned = false)
    (hu : u = ({ s.begun with tally := { s.tally with scanned := true, pendingRead := [] },
                              start := { s.start with graceful := s.tally.stopGraceful } } : State).rebuildBin) :
    exec (.tallyScan i p) s = .next (s.ends ((if i = 0 ∧ p = 0 then u else u.note 0x0112 dieUid (zeros 4 ++ le 4 i ++ le 4 p)).forEach
      s.tally.pendingRead (fun t q => t.serveRead q.1 q.2.1 q.2.2.1 q.2.2.2.1 q.2.2.2.2))) :=
  calc exec (.tallyScan i p) s = execTallyScan i p s := rfl
    _ = .next _ := actIf_answers (by simp [hfw, hscanned]) (by rw [hu]; rfl)

/-! Times (R225, R381, R391). -/

theorem exec_tokenRefill {s : State} (hfw : s.firmware = true) (hpower : s.pwrGood = true) :
    exec .tokenRefill s = .next (s.ends ((s.begun.advanceTo ((s.tbase / 1000000000 + 1) * 1000000000)).modTally (fun t =>
      { t with spent := (t.spent.filter (fun p => decide (1 < p.2))).map (fun p => (p.1, p.2 - 1)) }))) :=
  calc exec .tokenRefill s = execTokenRefill s := rfl
    _ = .next _ := actIf_pos s _ _ (by simp [hfw, hpower])

theorem exec_operatingSeconds {s : State} (hfw : s.firmware = true) (hpower : s.pwrGood = true) :
    exec .operatingSeconds s = .next (s.ends
      (let t := s.begun.advanceTo (s.tally.opSecAt + 60000000000)
       t.modTally (fun x => { x with opSec := t.opSeconds, opSecStored := t.opSeconds
                                     opSecAt := x.opSecAt + (t.tbase - x.opSecAt) / 1000000000 * 1000000000 }))) :=
  calc exec .operatingSeconds s = execOperatingSeconds s := rfl
    _ = .next _ := actIf_pos s _ _ (by simp [hfw, hpower])

theorem exec_hourBin {s : State} (hfw : s.firmware = true) (hpower : s.pwrGood = true) :
    exec .hourBin s = .next (s.ends
      ((s.begun.advanceTo (s.tally.opSecAt + (3600 * (s.opHour + 1) - s.tally.opSec) * 1000000000)).modGov (fun g =>
        { g with bins := (g.bins ++ [g.open_]).drop (g.bins.length + 1 - 90112), open_ := { hour := s.opHour + 1 } }))) :=
  calc exec .hourBin s = execHourBin s := rfl
    _ = .next _ := actIf_pos s _ _ (by simp [hfw, hpower])

theorem exec_times_without_firmware {s : State} (hfw : s.firmware = false) :
    exec .tokenRefill s = .next (s.ends s.begun) ∧ exec .operatingSeconds s = .next (s.ends s.begun) ∧ exec .hourBin s = .next (s.ends s.begun) :=
  ⟨calc exec .tokenRefill s = execTokenRefill s := rfl
      _ = .next _ := actIf_neg s _ _ (by simp [hfw]),
    calc exec .operatingSeconds s = execOperatingSeconds s := rfl
      _ = .next _ := actIf_neg s _ _ (by simp [hfw]),
    calc exec .hourBin s = execHourBin s := rfl
      _ = .next _ := actIf_neg s _ _ (by simp [hfw])⟩

/-- Settles O26: clears under authority, commits and reclaims by what the Tally holds, the scan, and the counts at their times. -/
theorem tallyIsCommittedClearedAndScanned : Obligations.TallyIsCommittedClearedAndScanned := by
  refine ⟨fun d s u ok h hrange hverify => ⟨fun a hok ha => ?_, fun hfail => ?_⟩,
    fun s hfw => ⟨fun hpower hscanned hidle => ⟨fun l n used hbatch =>
        ⟨exec_tallyCommit false hfw hpower hscanned hidle hbatch, exec_tallyCommit true hfw hpower hscanned hidle hbatch⟩,
        fun hbatch b => exec_tallyCommit_full b hfw hpower hscanned hidle hbatch⟩,
      fun hscanned b => exec_tallyCommit_unscanned b hscanned,
      fun c hpower hc => ⟨_, exec_tallyReclaimDone hfw hpower hc, s.tally.reclaimed_regions c⟩, exec_tallyReclaimDone_idle,
      fun hscanned i p => exec_tallyScan_again i p hscanned, fun i p u hscanned hu => exec_tallyScan i p hfw hscanned hu⟩,
    fun s => ⟨fun hfw hpower => ⟨?_, ⟨_, exec_operatingSeconds hfw hpower, ?_⟩, _, exec_hourBin hfw hpower, ?_⟩, exec_times_without_firmware⟩⟩
  · rw [exec_tallyClear h hrange, State.authorised_of_verify hverify, if_pos hok, ha]
  · rw [exec_tallyClear h hrange, State.authorised_of_verify hverify, if_neg (by simp [hfail])]
  · exact exec_tokenRefill hfw hpower
  · exact ⟨rfl, rfl, rfl⟩
  · refine ⟨rfl, rfl, fun hlen => ?_⟩
    rw [State.modGov_gov]
    simp only [List.length_drop, List.length_append, List.length_singleton]
    omega

end Sys2Proof.Machine
end

section
/-!
The life cycle's requests (R407, R408), the shut-down (R395) and the slice boundary of the self-test (R398).
-/
namespace Sys2Proof.Machine

section

variable (s : State)

/-- An attempt changes the life cycle's counters, and forms a record at most. -/
theorem State.verify_folds {blocks : List (Option (List Byte) × AuthFact × (Nat → Bool))} {op q : Nat} {u : State} {ok : Bool}
    (h : s.verify blocks op q = (u, ok)) : u.folds = s.folds := by
  have hu : (s.verify blocks op q).1 = u := by rw [h]
  rw [← hu]
  rcases s.verify_fst blocks op q with ⟨c, a, hfail⟩ | hpass
  · rw [hfail]
    exact State.note_folds ..
  · rw [hpass]
    rfl

theorem State.complete_life (i st : Nat) (res buf : List Byte) (neg : Option (List Byte)) :
    (s.complete i st res buf neg).life = s.life := (congrArg State.life (s.complete_offHost i st res buf neg) :)

/-! A transition burns one fuse, and changes nothing else but the records (R407). -/

theorem State.burnFuse_life (a : Nat) (cleared : Bool) :
    (s.burnFuse a cleared).life = { s.life with fuses := s.life.fuses + 1 } := State.note_life ..

theorem State.burnFuse_gov (a : Nat) (cleared : Bool) : (s.burnFuse a cleared).gov = s.gov :=
  (congrArg State.gov (State.note_unreported ..) :)

theorem State.burnFuse_recovery (a : Nat) (cleared : Bool) : (s.burnFuse a cleared).recovery = s.recovery :=
  (congrArg State.recovery (State.note_unreported ..) :)

theorem State.burnFuse_folds (a : Nat) (cleared : Bool) : (s.burnFuse a cleared).folds = s.folds := State.note_folds ..

end

/-- What a request ends with once its transition is made: the fuse is burnt, and the command completes. -/
def State.burnt (s : State) (ring a : Nat) (cleared : Bool) : State := (s.burnFuse a cleared).complete ring 0x00

section

variable (s : State) (ring a : Nat) (cleared : Bool)

theorem State.burnt_life : (s.burnt ring a cleared).life = { s.life with fuses := s.life.fuses + 1 } :=
  (State.complete_life ..).trans (s.burnFuse_life a cleared)

theorem State.burnt_gov : (s.burnt ring a cleared).gov = s.gov :=
  (congrArg State.gov (State.complete_offHost ..) :).trans (s.burnFuse_gov a cleared)

theorem State.burnt_recovery : (s.burnt ring a cleared).recovery = s.recovery :=
  (congrArg State.recovery (State.complete_offHost ..) :).trans (s.burnFuse_recovery a cleared)

theorem State.burnt_folds : (s.burnt ring a cleared).folds = s.folds :=
  (congrArg State.folds (State.complete_offHost ..) :).trans (s.burnFuse_folds a cleared)

end

/-- The baselines of every field are forgotten. -/
def State.sansBaselines (s : State) : State :=
  s.forEach (List.range Config.fields) (fun s f => s.modField f (fun fd => { fd with baseline := none }))

theorem State.sansBaselines_life (s : State) : s.sansBaselines.life = s.life := s.forEach_frame State.life _ _ fun _ _ => rfl

theorem State.recovery_of_sansUnits {s t : State} (h : s.sansUnits = t.sansUnits) : s.recovery = t.recovery :=
  (congrArg State.recovery h :)

theorem State.folds_of_sansUnits {s t : State} (h : s.sansUnits = t.sansUnits) : s.folds = t.folds := (congrArg State.folds h :)

theorem State.clearTraces_recovery (s : State) : s.clearTraces.recovery = s.recovery := by
  rw [State.clearTraces, State.modShc_recovery, State.modShc_recovery]
  refine State.recovery_of_sansUnits ?_
  rw [State.sansUnits_forEach]
  exact fun _ _ => rfl

theorem State.clearTraces_folds (s : State) : s.clearTraces.folds = s.folds := by
  rw [State.clearTraces, State.modShc_folds, State.modShc_folds]
  refine State.folds_of_sansUnits ?_
  rw [State.sansUnits_forEach]
  exact fun _ _ => rfl

/-- What the owner had put into the block is voided: his key's slot, his pack key and his packs (R408). -/
def State.ownerVoided (s : State) : State :=
  let t := s.modLife (fun l => { l with owners := l.owners.dropLast ++ [BitVec.allOnes 384], packKey := [], packKeyHash := none })
  { t with recovery := { t.recovery with slots := [{}, {}], lastSlot := none } }

/-! The requests, by what the authorisation says. -/

section

variable {d : Desc} {s u : State} {ok : Bool}

theorem exec_lifecycleProvisioned (h : s.accepts d 0xA0 [(8, 1)] 400 = true) (hcode : d.arg 8 1 = 1) (hjob : s.job.active = false)
    (hlcs : s.lcs = 0 ∨ s.lcs = 3) (howners : s.life.owners.length < 3)
    (hverify : (s.begun.taken d 0xA0).verify [(authBlock d.buf 96 0, d.auth.headD {}, makerAllowed)] 0xA0 1 = (u, ok)) :
    exec (.lifecycleProvisioned d) s = .next (s.ends
      (if ok then (u.modLife (fun l => { l with owners := l.owners ++ [d.keyHash] })).burnt d.ring 1 false else u.complete d.ring 0x03)) :=
  calc exec (.lifecycleProvisioned d) s = execLifecycleProvisioned d s := rfl
    _ = act s _ := actIf_eq_act (by simp [lifeRow, hcode])
    _ = .next _ := act_takeCmd_answers
      (bad := fun s => d.arg 8 1 != 1 || !(s.lcs == 0 || s.lcs == 3) || decide (3 ≤ s.life.owners.length) || s.job.active) h
      (by simpa [hcode, hjob, Nat.not_le.2 howners, or_iff_not_imp_left] using hlcs) (by rw [hverify]; cases ok <;> rfl)

theorem exec_lifecycleField (h : s.accepts d 0xA0 [(8, 1)] 304 = true) (hcode : d.arg 8 1 = 2) (hjob : s.job.active = false)
    (hlcs : s.lcs = 1)
    (hverify : (s.begun.taken d 0xA0).verify [(authBlock d.buf 0 0, d.auth.headD {}, (s.begun.taken d 0xA0).ownerAllowed)] 0xA0 2 = (u, ok)) :
    exec (.lifecycleField d) s = .next (s.ends
      (if ok then ({ u.sansBaselines with gov := { u.sansBaselines.gov with noExposure := true } } : State).burnt d.ring
        (rd ((authBlock d.buf 0 0).getD []) 0 1) false else u.complete d.ring 0x03)) :=
  calc exec (.lifecycleField d) s = execLifecycleField d s := rfl
    _ = act s _ := actIf_eq_act (by simp [lifeRow, hcode])
    _ = .next _ := act_takeCmd_answers (bad := fun s => d.arg 8 1 != 2 || s.lcs != 1 || s.job.active) h
      (by simp [hcode, hjob, hlcs]) (State.authorised_of_verify hverify)

theorem exec_lifecycleReturn (h : s.accepts d 0xA0 [(8, 1)] 608 = true) (hcode : d.arg 8 1 = 3) (hjob : s.job.active = false)
    (hlcs : s.lcs = 2) (hmaker : authBlock d.buf 0 1 = none)
    (hverify : (s.begun.taken d 0xA0).verify [(authBlock d.buf 0 0, d.auth.headD {}, (s.begun.taken d 0xA0).ownerAllowed)] 0xA0 3 = (u, ok)) :
    exec (.lifecycleReturn d) s = .next (s.ends
      (if ok then u.ownerVoided.clearTraces.burnt d.ring 0 false else u.complete d.ring 0x03)) :=
  calc exec (.lifecycleReturn d) s = execLifecycleReturn d s := rfl
    _ = act s _ := actIf_eq_act (by simp [lifeRow, hcode])
    _ = .next _ := act_takeCmd_answers (bad := fun s => d.arg 8 1 != 3 || s.lcs != 2 || s.job.active) h
      (by simp [hcode, hjob, hlcs]) (by
        simp only [hmaker, Option.isSome_none, Bool.false_eq_true, if_false, hverify]
        cases ok <;> rfl)

theorem exec_setOwnerPackKey (h : s.accepts d 0xA0 [(8, 1)] 400 = true) (hcode : d.arg 8 1 = 5) (hlcs : s.lcs = 1 ∨ s.lcs = 2)
    (hverify : (s.begun.taken d 0xA0).verify [(authBlock d.buf 96 0, d.auth.headD {}, (s.begun.taken d 0xA0).ownerAllowed)] 0xA0 5 = (u, ok)) :
    exec (.setOwnerPackKey d) s = .next (s.ends
      (if ok then (u.modLife (fun l => { l with
          packKey := if isZero d.buf 0 96 then [] else d.buf.take 96
          packKeyHash := if isZero d.buf 0 96 then none else some d.keyHash })).complete d.ring 0x00 else u.complete d.ring 0x03)) :=
  calc exec (.setOwnerPackKey d) s = execSetOwnerPackKey d s := rfl
    _ = act s _ := actIf_eq_act (by simp [lifeRow, hcode])
    _ = .next _ := act_takeCmd_answers (bad := fun s => d.arg 8 1 != 5 || !(s.lcs == 1 || s.lcs == 2)) h
      (by simpa [hcode, or_iff_not_imp_left] using hlcs) (State.authorised_of_verify hverify)

theorem exec_shutDown (h : s.accepts d 0xA0 [(8, 1)] 0 = true) (hcode : d.arg 8 1 = 4) (hidle : s.shutting = false) :
    exec (.shutDown d) s = .next (s.ends
      (if s.job.active then ((s.begun.taken d 0xA0).modLife (fun l => { l with shut := some { ring := d.ring } })).startLevel0 dieUid 1 0 none
       else (s.begun.taken d 0xA0).modLife (fun l => { l with shut := some { ring := d.ring } }))) :=
  calc exec (.shutDown d) s = execShutDown d s := rfl
    _ = act s _ := actIf_eq_act (by simp [lifeRow, hcode])
    _ = .next _ := act_takeCmd_answers (bad := fun s => d.arg 8 1 != 4 || s.shutting) h
      (by simpa [hcode, State.shutting] using hidle) rfl

/-- Where an authorisation fails, the command completes so, and fuses, owners and pack key stand. -/
theorem State.refused_keeps {blocks : List (Option (List Byte) × AuthFact × (Nat → Bool))} {q : Nat} {v : State}
    (hverify : (s.begun.taken d 0xA0).verify blocks 0xA0 q = (v, ok)) :
    v.life.fuses = s.life.fuses ∧ v.life.owners = s.life.owners ∧ v.life.packKey = s.life.packKey := by
  obtain ⟨-, -, hfuses, howners, hkey⟩ := State.verify_keeps _ hverify
  exact ⟨by simpa using hfuses, by simpa using howners, by simpa using hkey⟩

end

/-! The slice boundary (R398). -/

/-- The self-test stops: the items that have not begun are dropped. -/
def State.stopTest (s : State) (t : SelfTest) : State :=
  (s.forEach (s.cores.map (fun p => (p.1 / 2048, p.1 / 32 % 64, p.1 % 32))) (fun s p =>
    if t.cur.contains p.1 && !(s.core p.1 p.2.1 p.2.2).selfItems.isEmpty then
      s.modCore p.1 p.2.1 p.2.2 (fun x => { x with selfItems := x.selfItems.take (b2n x.slice.isSome) }) else s)).modTest
    (fun t => { t with stopping := true })

theorem State.stopTest_shut {s : State} {sh : ShutDown} {x : SelfTest} (t : SelfTest) (h : s.life.shut = some sh) (hx : sh.test = some x) :
    (s.stopTest t).life.shut = some { sh with test := some { x with stopping := true } } := by
  have hlife : (s.forEach (s.cores.map (fun p => (p.1 / 2048, p.1 / 32 % 64, p.1 % 32))) (fun s p =>
      if t.cur.contains p.1 && !(s.core p.1 p.2.1 p.2.2).selfItems.isEmpty then
        s.modCore p.1 p.2.1 p.2.2 (fun x => { x with selfItems := x.selfItems.take (b2n x.slice.isSome) }) else s)).life = s.life :=
    s.forEach_frame State.life _ _ fun u p => by split <;> rfl
  simp only [State.stopTest, State.modTest, State.modShut, hlife, h, hx, Option.map_some]

theorem exec_selftestSliceBoundary {s : State} {sh : ShutDown} {x : SelfTest} {n : Nat} (hfw : s.firmware = true)
    (hshut : s.life.shut = some sh) (htest : sh.test = some x) (hcur : x.cur ≠ []) (hstop : x.stopping = false)
    (hn : n = x.groupAt + max 1 (ceilDiv (s.tbase - x.groupAt) (s.policy.sliceLen * 1000000)) * (s.policy.sliceLen * 1000000)) :
    exec .selftestSliceBoundary s = .next (s.ends
      (if s.policy.budget * 1000000000 < (max s.tbase n - x.began) + s.policy.sliceLen * 1000000 then (s.begun.advanceTo n).stopTest x
       else s.begun.advanceTo n)) :=
  calc exec .selftestSliceBoundary s = execSelftestSliceBoundary s := rfl
    _ = .next _ := actIf_answers hfw (by
      have hrun : (x.cur.isEmpty || x.stopping) = false := by simp [hcur, hstop]
      simp only [State.begun_life, hshut, Option.bind_some, htest, hrun, Bool.false_eq_true, if_false, State.begun_tbase,
        State.begun_policy, ← hn]
      rfl)

/-- Settles O27: each transition of the life cycle under its authority, the shut-down, and the self-test's budget. -/
theorem lifeCycleMovesUnderAuthority : Obligations.LifeCycleMovesUnderAuthority := by
  refine ⟨fun d s u => ⟨fun h hcode hjob hlcs howners => ⟨fun hok => ?_, fun hno => ⟨by simpa only [Bool.false_eq_true, if_false] using exec_lifecycleProvisioned h hcode hjob hlcs howners hno,
        State.refused_keeps hno⟩⟩,
      fun h hcode hjob hlcs => ⟨fun hok => ?_, fun hno => ⟨by simpa only [Bool.false_eq_true, if_false] using exec_lifecycleField h hcode hjob hlcs hno,
        State.refused_keeps hno⟩⟩,
      fun h hcode hjob hlcs hmaker => ⟨fun hok => ?_, fun hno => ⟨by simpa only [Bool.false_eq_true, if_false] using exec_lifecycleReturn h hcode hjob hlcs hmaker hno,
        State.refused_keeps hno⟩⟩,
      fun h hcode hlcs => ⟨fun hok => by simpa only [if_true] using exec_setOwnerPackKey h hcode hlcs hok, fun hno => ⟨by simpa only [Bool.false_eq_true, if_false] using exec_setOwnerPackKey h hcode hlcs hno,
        State.refused_keeps hno⟩⟩⟩,
    fun d s h hcode hidle => ⟨fun hjob => ?_, fun hjob => ?_⟩, fun s sh x n hfw hshut htest hcur hstop hn => ⟨fun hgo => ?_, fun hover => ?_⟩⟩
  · obtain ⟨hfuses, howners', -⟩ := State.refused_keeps hok
    refine ⟨_, exec_lifecycleProvisioned h hcode hjob hlcs howners hok, ?_⟩
    simp [State.burnt_life, hfuses, howners']
  · obtain ⟨hfuses, howners', -⟩ := State.refused_keeps hok
    refine ⟨_, exec_lifecycleField h hcode hjob hlcs hok, ?_⟩
    simp [State.burnt_life, State.burnt_gov, State.sansBaselines_life, hfuses, howners']
  · obtain ⟨hfuses, howners', -⟩ := State.refused_keeps hok
    refine ⟨_, exec_lifecycleReturn h hcode hjob hlcs hmaker hok, ?_⟩
    have hfolds : u.folds = (s.begun.taken d 0xA0).folds := State.verify_folds _ hok
    simp [State.burnt_life, State.burnt_recovery, State.burnt_folds, State.clearTraces_life, State.clearTraces_recovery,
      State.clearTraces_folds, State.ownerVoided, hfuses, howners', hfolds]
  · rw [exec_shutDown h hcode hidle, if_neg (by simp [hjob])]
    rfl
  · rw [exec_shutDown h hcode hidle, if_pos hjob]
    rfl
  · rw [exec_selftestSliceBoundary hfw hshut htest hcur hstop hn, if_neg (Nat.not_lt.2 hgo)]
    rfl
  · rw [exec_selftestSliceBoundary hfw hshut htest hcur hstop hn, if_pos hover]
    exact ⟨_, _, rfl, State.stopTest_shut x hshut htest, rfl⟩

end Sys2Proof.Machine
end

section
/-!
The test port (R80), the instruments behind it, the debug authorisation and the request of a scan (R401 to R403).
-/
namespace Sys2Proof.Machine

/-! TAP instructions. -/

theorem exec_tapInstruction_allowed {s : State} {i : JtagIns} (h : (i.drivesPins && !s.start.coldLow) = false) :
    exec (.tapInstruction i) s = .next (s.ends { s.begun with jtag := i, out := if i = .idcode then [.tdo idcode] else [] }) :=
  calc exec (.tapInstruction i) s = execTapInstruction i s := rfl
    _ = .next _ := act_answers (by
      simp only [State.begun_start, h, Bool.false_eq_true, if_false]
      split <;> rfl)

theorem exec_tapInstruction_driving {s : State} {i : JtagIns} (hi : i.drivesPins = true) (hcold : s.start.coldLow = false) :
    exec (.tapInstruction i) s = .next (s.ends (if s.pwrGood then
      ({ s.begun with jtag := .bypass, free := s.free + 1 } : State).report 0x6002 dieUid [(Config.freeValue s.free).setWidth 8]
      else { s.begun with jtag := .bypass })) :=
  calc exec (.tapInstruction i) s = execTapInstruction i s := rfl
    _ = .next _ := act_answers (by simp only [State.begun_start, hi, hcold, Bool.not_false, Bool.and_self, if_true]; rfl)

/-! Accesses of the instruments. -/

section

variable {s : State} {i : Instrument} {w : Bool} {a : Nat} {v : BitVec 64}

theorem exec_instrumentAccess_unreached (h : s.network = false) : exec (.instrumentAccess i w a v) s = .next (s.ends s.begun) :=
  calc exec (.instrumentAccess i w a v) s = execInstrumentAccess i w a v s := rfl
    _ = .next _ := act_answers (if_pos (by rw [show s.begun.network = false from h]; rfl))

/-- What an access of a reachable instrument leaves. -/
def State.accessed (s : State) (i : Instrument) (w : Bool) (a : Nat) (v : BitVec 64) : State :=
  if !s.instrumentOpen i then { s with out := [.instrument 0] }
  else if i = .authorisation then { s with out := [.instrument s.life.challenge] }
  else
    let u : State := { s with free := s.free + 1, out := [.instrument (Config.freeValue s.free)] }
    if w && i != .readOnly then
      { u with life := { s.life with instr := s.life.instr.filter (fun x => !(x.1 == instrumentNo i && x.2.1 == a)) ++ [(instrumentNo i, a, v)] } }
    else u

theorem exec_instrumentAccess (h : s.network = true) :
    exec (.instrumentAccess i w a v) s = .next (s.ends (s.begun.accessed i w a v)) :=
  calc exec (.instrumentAccess i w a v) s = execInstrumentAccess i w a v s := rfl
    _ = .next _ := act_answers (by
      have hreached : s.begun.network = true := h
      simp only [hreached, Bool.not_true, Bool.false_eq_true, if_false, State.accessed]
      split_ifs <;> rfl)

theorem State.accessed_closed (h : s.instrumentOpen i = false) : s.begun.accessed i w a v = { s.begun with out := [.instrument 0] } := by
  have hclosed : s.begun.instrumentOpen i = false := h
  simp only [State.accessed, hclosed, Bool.not_false, if_true]

theorem State.accessed_authorisation :
    s.begun.accessed .authorisation w a v = { s.begun with out := [.instrument s.life.challenge] } := rfl

theorem State.accessed_open (h : s.instrumentOpen i = true) (hi : i ≠ .authorisation) :
    s.begun.accessed i w a v =
      if w && i != .readOnly then
        { s.begun with
          free := s.free + 1, out := [.instrument (Config.freeValue s.free)]
          life := { s.life with instr := s.life.instr.filter (fun x => !(x.1 == instrumentNo i && x.2.1 == a)) ++ [(instrumentNo i, a, v)] } }
      else { s.begun with free := s.free + 1, out := [.instrument (Config.freeValue s.free)] } := by
  have hopen : s.begun.instrumentOpen i = true := h
  simp only [State.accessed, hopen, Bool.not_true, Bool.false_eq_true, if_false, hi]
  rfl

end

/-! Debug authorisation and the request of a scan. -/

section

variable {s u : State} {ok : Bool} {b : List Byte} {x : AuthFact}

theorem exec_debugAuthorisation_field (h : s.network = true) (hfw : s.firmware = true) (hlcs : s.lcs = 2)
    (hverify : s.begun.verify [(wholeBlock b, x, s.begun.ownerAllowed)] 0 0 = (u, ok)) :
    exec (.debugAuthorisation b x) s = .next (s.ends
      (if ok then (u.modLife (fun l => { l with roOpen := true })).note 0x6008 dieUid [0, 0] else u)) :=
  calc exec (.debugAuthorisation b x) s = execDebugAuthorisation b x s := rfl
    _ = .next _ := actIf_answers (by simp [h, hfw, hlcs]) (by
      simp only [State.begun_lcs, hlcs, beq_self_eq_true, if_true, hverify]
      cases ok <;> rfl)

theorem exec_debugAuthorisation_return (h : s.network = true) (hfw : s.firmware = true) (hlcs : s.lcs = 3)
    (hverify : s.begun.verify [(wholeBlock b, x, makerAllowed)] 0 0 = (u, ok)) :
    exec (.debugAuthorisation b x) s = .next (s.ends
      (if ok then (u.modLife (fun l => { l with wrOpen := true })).note 0x6008 dieUid [1, 1] else u)) :=
  calc exec (.debugAuthorisation b x) s = execDebugAuthorisation b x s := rfl
    _ = .next _ := actIf_answers (by simp [h, hfw, hlcs]) (by
      simp only [State.begun_lcs, hlcs, Nat.reduceBEq, Bool.false_eq_true, if_false, hverify]
      cases ok <;> rfl)

/-- What a request of a scan leaves when it takes no authorisation: by the life-cycle state. -/
def State.scanAsked (s : State) : State :=
  if s.lcs = 0 then ({ s with free := s.free + 1 } : State).requestScan ((Config.freeValue s.free).setWidth 8)
  else if s.lcs = 3 ∧ s.life.wrOpen = true then s.requestScan 1
  else s

theorem exec_secretClear_plain {a : Option (List Byte × AuthFact)} (h : s.network = true) (hreq : s.life.scanReq = none)
    (hopen : s.life.scanOpen = false) (hplain : s.lcs = 3 → s.life.wrOpen = false → a = none ∨ s.firmware = false) :
    exec (.secretClear a) s = .next (s.ends s.begun.scanAsked) :=
  calc exec (.secretClear a) s = execSecretClear a s := rfl
    _ = .next _ := actIf_answers (by simp [h, hreq, hopen]) (by
      simp only [State.scanAsked, State.begun_lcs, State.begun_life]
      by_cases hmade : s.lcs = 0
      · simp only [hmade, if_true]; rfl
      by_cases hreturn : s.lcs = 3
      · by_cases hwr : s.life.wrOpen = true
        · simp [hreturn, hwr]
        · rcases hplain hreturn (by simpa using hwr) with rfl | hfw
          · simp [hreturn, hwr]
          · cases a <;> simp [hreturn, hwr, hfw]
      · simp [hmade, hreturn])

theorem exec_secretClear_authorised (h : s.network = true) (hreq : s.life.scanReq = none) (hopen : s.life.scanOpen = false)
    (hlcs : s.lcs = 3) (hwr : s.life.wrOpen = false) (hfw : s.firmware = true)
    (hverify : s.begun.verify [(wholeBlock b, x, makerAllowed)] 0 0 = (u, ok)) :
    exec (.secretClear (some (b, x))) s = .next (s.ends (if ok then u.requestScan 1 else u)) :=
  calc exec (.secretClear (some (b, x))) s = execSecretClear (some (b, x)) s := rfl
    _ = .next _ := actIf_answers (by simp [h, hreq, hopen]) (by
      simp only [State.begun_lcs, hlcs, OfNat.ofNat_ne_zero, if_true, if_false, State.begun_life, hwr, State.begun_firmware, hfw,
        Bool.not_true, Bool.false_eq_true, hverify]
      cases ok <;> rfl)

end

/-- Settles O29: the test port, the instruments by what has opened them, and the requests that open them. -/
theorem debugAccessIsClosedByDefault : Obligations.DebugAccessIsClosedByDefault := by
  refine ⟨fun s => ⟨fun i h => exec_tapInstruction_allowed h, fun i hi hcold hpower => ?_, fun i hi hcold hpower => ?_,
      fun i w a v u => ⟨exec_instrumentAccess_unreached, fun h hclosed => ?_, fun h => ?_, fun h hopen hi => ?_, fun h hopen => ?_,
        fun h hopen hi hro hu => ?_⟩⟩,
    fun s h => ⟨fun b x u hfw => ⟨fun hlcs hok => ?_, fun hlcs hno => ?_, fun hlcs hok => ?_, fun hlcs hno => ?_⟩,
      fun a hreq hopen => ⟨fun hlcs => ?_, fun hlcs hwr => ?_, fun hlcs => ?_, fun b x u hlcs hwr hfw hok => ?_,
        fun b x u hlcs hwr hfw hno => ?_, fun hlcs hwr hnone => ?_⟩⟩⟩
  · rw [exec_tapInstruction_driving hi hcold, if_pos hpower]
  · rw [exec_tapInstruction_driving hi hcold, if_neg (by simp [hpower])]
  · rw [exec_instrumentAccess h, State.accessed_closed hclosed]
  · rw [exec_instrumentAccess h, State.accessed_authorisation]
  · rw [exec_instrumentAccess h, State.accessed_open hopen hi]
    rfl
  · rw [exec_instrumentAccess h, State.accessed_open hopen (by decide)]
    rfl
  · rw [exec_instrumentAccess h, State.accessed_open hopen hi, if_pos (by simpa using hro), hu]
  · rw [exec_debugAuthorisation_field h hfw hlcs hok, if_pos rfl]
  · rw [exec_debugAuthorisation_field h hfw hlcs hno, if_neg Bool.false_ne_true]
  · rw [exec_debugAuthorisation_return h hfw hlcs hok, if_pos rfl]
  · rw [exec_debugAuthorisation_return h hfw hlcs hno, if_neg Bool.false_ne_true]
  · rw [exec_secretClear_plain h hreq hopen (by simp [hlcs]), State.scanAsked, if_pos (by simpa using hlcs)]
    rfl
  · rw [exec_secretClear_plain h hreq hopen (by simp [hwr]), State.scanAsked, if_neg (by simp [hlcs]), if_pos (by simp [hlcs, hwr])]
    rfl
  · rw [exec_secretClear_plain h hreq hopen (by omega), State.scanAsked, State.begun_lcs, if_neg (by omega), if_neg (by omega)]
  · rw [exec_secretClear_authorised h hreq hopen hlcs hwr hfw hok, if_pos rfl]
  · rw [exec_secretClear_authorised h hreq hopen hlcs hwr hfw hno, if_neg Bool.false_ne_true]
  · rw [exec_secretClear_plain h hreq hopen (fun _ _ => hnone), State.scanAsked, if_neg (by simp [hlcs]), if_neg (by simp [hwr])]

end Sys2Proof.Machine
end

section
/-!
Announces (R178, R180, R200), the beats of the mirror ports (R182 to R185) and the digests (R187, R191).
-/
namespace Sys2Proof.Machine

section

variable {s : State} {f k : Nat}

@[simp] theorem State.begun_tagSt (t : Nat) : s.begun.tagSt f k t = s.tagSt f k t := rfl

/-! An announce. -/

theorem exec_opAnnounce (h : fspExists f k = true) (c : Nat) (n : BitVec 48) (rep : Bool) (beats : Nat) (ok : Bool) :
    exec (.opAnnounce f k c n rep beats ok) s = .next (s.ends (if ok then s.begun.announce f k c n rep beats else s.begun.fspParity f k 0)) :=
  calc exec (.opAnnounce f k c n rep beats ok) s = execOpAnnounce f k c n rep beats ok s := rfl
    _ = .next _ := actIf_pos s _ _ h

theorem State.answer_none (s : State) (f k : Nat) : s.begun.answer f k false false 0 0
    = { s.begun with out := [.sig .fspOpSel (flockUid f k).toNat 0, .sig .fspTwinSel (flockUid f k).toNat 0] } := rfl

theorem State.announce_without_job (h : s.job.active = false) (c : Nat) (n : BitVec 48) (rep : Bool) (beats : Nat) :
    s.announce f k c n rep beats = s.answer f k false false 0 0 := if_pos (by simp [h])

/-- A core that is not donated may announce. -/
theorem State.breach_of_not_donated {l j c : Nat} (hl : (s.flock f k).logical = some l) (hj : (s.flock f k).slotOf c = some j)
    (hd : (donatedSlots s.job.donation l).contains j = false) (n : BitVec 48) : s.breach f k c n = s := by
  have hdonated : (s.donated f k).contains j = false := by
    simp only [State.donated, hl]
    split
    · exact hd
    · rfl
  simp only [State.breach, hj, hdonated, Bool.false_and, Bool.false_eq_true, if_false]

theorem State.announce_of_not_donated {l j c : Nat} (hjob : s.job.active = true) (hl : (s.flock f k).logical = some l)
    (hj : (s.flock f k).slotOf c = some j) (hd : (donatedSlots s.job.donation l).contains j = false) (n : BitVec 48) (rep : Bool)
    (beats : Nat) :
    s.announce f k c n rep beats =
      if rep then (s.modFlock f k (fun fl => fl.count 0)).select f k c l j n beats else s.answer f k false false 0 0 := by
  have hl' : ((s.modFlock f k (fun fl => fl.count 0)).flock f k).logical = some l :=
    (s.modFlock_flock_frame Flock.logical (by exact fun _ => rfl) f k f k).trans hl
  have hj' : ((s.modFlock f k (fun fl => fl.count 0)).flock f k).slotOf c = some j :=
    (s.modFlock_flock_frame (fun fl => fl.slotOf c) (by exact fun _ => rfl) f k f k).trans hj
  cases rep <;> simp only [State.announce, hjob, State.breach_of_not_donated hl hj hd, hl', hj', Bool.not_true, Bool.not_false,
    Bool.false_eq_true, if_true, if_false]

/-! The beats of a mirror stream. -/

theorem exec_mirrorBeat (h : fspExists f k = true) (kind : Nat) (last : Bool) (data : List Byte) (lane : Option Nat) :
    exec (.mirrorBeat f k kind last data lane) s = .next (s.ends (s.begun.mirror f k kind last data lane)) :=
  calc exec (.mirrorBeat f k kind last data lane) s = execMirrorBeat f k kind last data lane s := rfl
    _ = .next _ := actIf_pos s _ _ h

theorem State.mirror_without_stream (h : (s.flock f k).stream = none) (kind : Nat) (last : Bool) (data : List Byte) (lane : Option Nat) :
    s.mirror f k kind last data lane = s := by
  simp only [State.mirror, h]

/-- The mark of a beat with a lane of bad parity: the first one counts (R185). -/
def CrookEntry.mark (e : CrookEntry) (lane : Option Nat) (kind : Nat) : Option (Nat × Nat × Nat) :=
  match e.parityAt with
  | some p => some p
  | none => lane.map (fun b => (b, kind, e.got + b2n e.desc.isSome))

theorem CrookEntry.mark_good (e : CrookEntry) (kind : Nat) : e.mark none kind = e.parityAt := by
  cases h : e.parityAt <;> simp only [CrookEntry.mark, h, Option.map_none]

theorem CrookEntry.mark_marked {e : CrookEntry} {p : Nat × Nat × Nat} (h : e.parityAt = some p) (lane : Option Nat) (kind : Nat) :
    e.mark lane kind = e.parityAt := by
  simp only [CrookEntry.mark, h]

theorem CrookEntry.mark_unmarked {e : CrookEntry} (h : e.parityAt = none) (b kind : Nat) :
    e.mark (some b) kind = some (b, kind, e.got + b2n e.desc.isSome) := by
  simp only [CrookEntry.mark, h, Option.map_some]

/-- What a beat puts into its entry: the descriptor once, or the bytes of an operand. -/
def CrookEntry.fill (e : CrookEntry) (kind : Nat) (data : List Byte) : CrookEntry :=
  match kind with
  | 0 => { e with desc := some (e.desc.getD (fit 64 data)) }
  | 1 => { e with got := e.got + 1, a := e.a ++ fit 64 data }
  | 2 => { e with got := e.got + 1, b := e.b ++ fit 64 data }
  | _ => { e with got := e.got + 1, c := e.c ++ fit 64 data }

theorem State.mirror_bound {tag i : Nat} {st : TagSt} (hstream : (s.flock f k).stream = some tag) (htag : s.tagSt f k tag = some st)
    (hcrook : st.crook = some i) (kind : Nat) (last : Bool) (data : List Byte) (lane : Option Nat) :
    s.mirror f k kind last data lane =
      (fun u : State => if last then u.closeStream f i k tag else u)
        ((if kind = 0 then s else s.modFlock f k (fun fl => fl.count 8)).modEntry f i k tag
          (fun e => { e with parityAt := e.mark lane kind }.fill kind data)) := by
  simp only [State.mirror, hstream, htag, Option.bind_some, hcrook]
  refine congrArg (fun g => (fun u : State => if last then u.closeStream f i k tag else u)
    ((if kind = 0 then s else s.modFlock f k (fun fl => fl.count 8)).modEntry f i k tag g)) (funext fun e => ?_)
  cases lane with
  | none => rw [CrookEntry.mark_good]; rfl
  | some b =>
    cases hmark : e.parityAt with
    | none => rw [CrookEntry.mark_unmarked hmark]; rfl
    | some p => rw [CrookEntry.mark_marked hmark]; rfl

/-! The digests. -/

theorem exec_digestArrival (h : fspExists f k = true) (c tag : Nat) (dig : BitVec 64) (ok : Bool) :
    exec (.digestArrival f k c tag dig ok) s = .next (s.ends (s.begun.digest f k c tag dig ok)) :=
  calc exec (.digestArrival f k c tag dig ok) s = execDigestArrival f k c tag dig ok s := rfl
    _ = .next _ := actIf_pos s _ _ h

theorem State.digest_of_core {c tag : Nat} {t : TagSt} (htag : s.tagSt f k tag = some t) (hc : t.core = c) (hdig : t.coreDig = none)
    (hbad : t.coreBad = false) (dig : BitVec 64) (ok : Bool) :
    s.digest f k c tag dig ok = ((((s.markFirst f k tag).modTag f k tag
      (fun t => if ok then { t with coreDig := some dig } else { t with coreBad := true })).compareRef f k tag).settleTwin f k tag) := by
  simp only [State.digest, htag, hc, if_true, hdig, hbad, Option.isSome_none, Bool.or_self, Bool.false_eq_true, if_false]

theorem State.digest_of_twin {c tag : Nat} {t : TagSt} (htag : s.tagSt f k tag = some t) (hc : t.core ≠ c) (htwin : t.twin = some c)
    (hdig : t.twinDig = none) (hbad : t.twinBad = false) (hdone : t.twinDone = false) (dig : BitVec 64) (ok : Bool) :
    s.digest f k c tag dig ok = ((((s.markFirst f k tag).modTag f k tag
      (fun t => if ok then { t with twinDig := some dig } else { t with twinBad := true })).freeTwin f k tag).settleTwin f k tag) := by
  simp only [State.digest, htag, Ne.symm hc, htwin, if_true, hdig, hbad, hdone, Option.isSome_none, Bool.or_self, Bool.false_eq_true,
    if_false]

theorem State.digest_of_free_tag {tag : Nat} (htag : s.tagSt f k tag = none) (c : Nat) (dig : BitVec 64) (ok : Bool) :
    s.digest f k c tag dig ok = s.strayDigest f k c tag dig := by
  simp only [State.digest, htag]

/-! The end of a wait. -/

theorem exec_digestWaitEnd (h : fspExists f k = true) (tag : Nat) (b : Bool) :
    exec (.digestWaitEnd f k tag b) s = .next (s.ends (s.begun.digestWaitEnd f k tag b)) :=
  calc exec (.digestWaitEnd f k tag b) s = execDigestWaitEnd f k tag b s := rfl
    _ = .next _ := actIf_pos s _ _ h

theorem State.digestWaitEnd_of_free_tag {tag : Nat} (htag : s.tagSt f k tag = none) (b : Bool) : s.digestWaitEnd f k tag b = s := by
  have hidle : s.waiting f k tag b = false := by simp only [State.waiting, htag]
  simp only [State.digestWaitEnd, hidle, Bool.not_false, if_true]

/-- Letting time pass up to a core cycle leaves flocks and Crooks. -/
theorem State.toCycle_keeps {n : Nat} {u : State} (h : s.toCycle f n = some u) : u.flocks = s.flocks ∧ u.crooks = s.crooks := by
  simp only [State.toCycle] at h
  split_ifs at h
  · cases h
    exact ⟨rfl, rfl⟩
  · cases h
    exact ⟨rfl, rfl⟩

theorem State.toCycle_tagSt {n : Nat} {u : State} (h : s.toCycle f n = some u) (g k t : Nat) : u.tagSt g k t = s.tagSt g k t := by
  rw [State.tagSt, State.tagSt, State.flock, State.flock, (State.toCycle_keeps h).1]

theorem State.toCycle_crook {n : Nat} {u : State} (h : s.toCycle f n = some u) (g i : Nat) : u.crook g i = s.crook g i := by
  rw [State.crook, State.crook, (State.toCycle_keeps h).2]

theorem State.digestWaitEnd_of_waiting {tag : Nat} {b : Bool} {t : TagSt} {u : State} (htag : s.tagSt f k tag = some t)
    (hwait : s.waiting f k tag b = true) (hu : s.toCycle f (t.deadline b) = some u) :
    s.digestWaitEnd f k tag b = u.digestMissing f k tag b := by
  simp only [State.digestWaitEnd, hwait, Bool.not_true, Bool.false_eq_true, if_false, htag, Option.map_some, Option.getD_some, hu]

theorem State.digestWaitEnd_core {tag i : Nat} {t : TagSt} {e : CrookEntry} {u : State} (htag : s.tagSt f k tag = some t)
    (hcrook : t.crook = some i) (hentry : (s.crook f i).entry k tag = some e) (hdig : t.coreDig = none) (hbad : t.coreBad = false)
    (hclosed : e.closed = true) (hu : s.toCycle f (t.closedAt + 1048576) = some u) :
    s.digestWaitEnd f k tag false = u.giveReplay f k tag (e.fixed.getD .digestMissing) 0 := by
  have hwait : s.waiting f k tag false = true := by simp [State.waiting, htag, hdig, hbad, hcrook, hentry, hclosed]
  rw [State.digestWaitEnd_of_waiting htag hwait hu]
  simp only [State.digestMissing, State.toCycle_tagSt hu, htag, Bool.false_eq_true, if_false, hcrook, Option.bind_some,
    State.toCycle_crook hu, hentry]

theorem State.digestWaitEnd_twin {tag w : Nat} {t : TagSt} {u : State} (htag : s.tagSt f k tag = some t) (htwin : t.twin = some w)
    (hdone : t.twinDone = false) (hopen : t.coreDig = none ∨ t.twinDig = none) (hcore : t.coreBad = false) (hbad : t.twinBad = false)
    (hu : s.toCycle f (t.deadline true) = some u) :
    s.digestWaitEnd f k tag true = u.digestMissing f k tag true := by
  have hdigs : (t.coreDig.isSome && t.twinDig.isSome) = false := by rcases hopen with h | h <;> simp [h]
  exact State.digestWaitEnd_of_waiting htag (by simp only [State.waiting, htag, htwin, hdone, hdigs, hcore, hbad]; rfl) hu

end

/-- Settles O33: announces by job and donation, mirror beats into their entry, digests by their tag, and the ends of the waits. -/
theorem announcesMirrorsAndDigestsMeet : Obligations.AnnouncesMirrorsAndDigestsMeet := by
  refine ⟨fun f k c n rep beats s h => ⟨fun hjob => ?_, fun l j hjob hl hj hd => ⟨?_, ?_⟩, exec_opAnnounce h c n rep beats false⟩,
    fun l => ⟨rfl, fun c hc => ?_, rfl, rfl, rfl, rfl⟩,
    ⟨fun f k kind last data lane s h hnone => ?_, fun f k last data lane s tag i st mark shut h hstream htag hcrook hmark hshut => ?_⟩,
    fun f k c tag dig ok s h => ⟨fun t htag hc hdig hbad => ?_, fun t htag hc htwin hdig hbad hdone => ?_,
      fun hfree => ⟨?_, fun b => ?_⟩, fun t i e u htag hcrook hentry hdig hbad hclosed hu => ?_,
      fun t w u htag htwin hdone hopen hcore hbad hu => ?_⟩⟩
  · rw [exec_opAnnounce h, if_pos rfl, State.announce_without_job (s := s.begun) hjob, State.answer_none]
  · rw [exec_opAnnounce h, if_pos rfl, State.announce_of_not_donated (s := s.begun) hjob hl hj hd, if_neg Bool.false_ne_true, State.answer_none]
  · rw [exec_opAnnounce h, if_pos rfl, State.announce_of_not_donated (s := s.begun) hjob hl hj hd, if_pos rfl]
  · obtain ⟨m, rfl⟩ := Nat.exists_eq_add_of_lt hc
    rw [show 4 + m + 1 = m + 5 by omega]
    rfl
  · rw [exec_mirrorBeat h, State.mirror_without_stream (s := s.begun) hnone]
  · subst hmark hshut
    exact ⟨(exec_mirrorBeat h ..).trans (by rw [State.mirror_bound (s := s.begun) hstream htag hcrook]; rfl),
      (exec_mirrorBeat h ..).trans (by rw [State.mirror_bound (s := s.begun) hstream htag hcrook]; rfl),
      (exec_mirrorBeat h ..).trans (by rw [State.mirror_bound (s := s.begun) hstream htag hcrook]; rfl),
      (exec_mirrorBeat h ..).trans (by rw [State.mirror_bound (s := s.begun) hstream htag hcrook]; rfl)⟩
  · rw [exec_digestArrival h, State.digest_of_core (s := s.begun) htag hc hdig hbad]
  · rw [exec_digestArrival h, State.digest_of_twin (s := s.begun) htag hc htwin hdig hbad hdone]
  · rw [exec_digestArrival h, State.digest_of_free_tag (s := s.begun) hfree]
  · rw [exec_digestWaitEnd h, State.digestWaitEnd_of_free_tag (s := s.begun) hfree]
  · rw [exec_digestWaitEnd h, State.digestWaitEnd_core (s := s.begun) htag hcrook hentry hdig hbad hclosed hu]
  · rw [exec_digestWaitEnd h, State.digestWaitEnd_twin (s := s.begun) htag htwin hdone hopen hcore hbad hu]

end Sys2Proof.Machine
end

section
/-!
The Crooks: a recomputation's end (R183, R187), the confirming one (R185), their self-test (R186) and their buffers' errors (R188).
-/
namespace Sys2Proof.Machine

section

variable {s : State} {f c k tag : Nat}

/-! A recomputation and its confirmation. -/

theorem State.computeDone_of_computing {e : CrookEntry} {t : TagSt} (hentry : (s.crook f c).entry k tag = some e)
    (htag : s.tagSt f k tag = some t) (hstate : e.state = .computing) (fault : Option (BitVec 64)) :
    s.computeDone f c k tag fault =
      (((s.modFlock f k (fun fl => { fl with counters := bump fl.counters 9 (craMacs (e.desc.getD [])) })).modEntry f c k tag
        (fun q => { q with ref := some (fault.getD (craDigest (e.desc.getD []) e.a e.b e.c)), state := .awaitDigest })).modCrook f c
          Crook.kick).compareRef f k tag := by
  simp only [State.computeDone, hentry, htag, hstate, bne_self_eq_false, Bool.false_eq_true, if_false]

theorem exec_crookComputeDone (h : fspExists f k = true) (fault : Option (BitVec 64)) :
    exec (.crookComputeDone f c k tag fault) s = .next (s.ends (s.begun.computeDone f c k tag fault)) :=
  calc exec (.crookComputeDone f c k tag fault) s = execCrookComputeDone f c k tag fault s := rfl
    _ = .next _ := actIf_pos s _ _ h

theorem State.confirmDone_of_confirming {i : Nat} {e : CrookEntry} {t : TagSt} (htag : s.tagSt f k tag = some t) (hcrook : t.crook = some i)
    (hentry : (s.crook f i).entry k tag = some e) (hstate : e.state = .confirming) (hmay : s.mayConfirm f i c e = true)
    (fault : Option (BitVec 64)) :
    s.confirmDone f c k tag fault =
      let d := fault.getD (craDigest (e.desc.getD []) e.a e.b e.c)
      let u := s.modFlock f k (fun fl => { fl with counters := bump fl.counters 9 (craMacs (e.desc.getD [])) })
      if some d = e.ref then u.giveReplay f k tag .mismatch c
      else if some d = t.coreDig then ((u.report 0x0401 (crookUid f i) (le 4 t.inst.toNat ++ le 2 k ++ [BitVec.ofNat 8 tag]) t.opId).giveReplay
        f k tag .crookDisagree c).blameCrook f i
      else ((u.giveReplay f k tag .inconclusive c).orderTest f i).orderTest f c := by
  simp only [State.confirmDone, htag, hcrook, hentry, hstate, hmay, bne_self_eq_false, Bool.not_true, Bool.or_self, Bool.false_eq_true,
    if_false]

theorem exec_crookConfirmDone (h : fspExists f k = true) (fault : Option (BitVec 64)) :
    exec (.crookConfirmDone f c k tag fault) s = .next (s.ends (s.begun.confirmDone f c k tag fault)) :=
  calc exec (.crookConfirmDone f c k tag fault) s = execCrookConfirmDone f c k tag fault s := rfl
    _ = .next _ := actIf_pos s _ _ h

/-! A Crook's self-test and its buffers. -/

theorem exec_crookSelftest (h : crookExists f c = true) (hin : (s.crook f c).inService = true) (hreset : (s.crook f c).resetting = false)
    (fail : Option (Nat × Nat)) :
    exec (.crookSelftest f c fail) s = .next (s.ends
      (let u := s.begun.modCrook f c (fun x => { x with selfTestAt := s.tbase, testDue := false })
       match fail with
       | none => u.modCrook f c (fun x =>
           ({ x with queue := x.queue.map (fun e => if e.confirmer = some c then { e with selfFirst := false } else e) } : Crook).kick)
       | some (fmt, op) => (u.report 0x0402 (crookUid f c) [BitVec.ofNat 8 fmt, BitVec.ofNat 8 op] s.job.taintId).crookOut f c)) :=
  calc exec (.crookSelftest f c fail) s = execCrookSelftest f c fail s := rfl
    _ = .next _ := actIf_answers h (by
      simp only [State.crookTested, State.begun_crook, hin, hreset, Bool.not_true, Bool.or_self, Bool.false_eq_true, if_false]
      cases fail <;> rfl)

theorem exec_crookBufferEcc (h : crookExists f c = true) (unc : Bool) (line : Nat) (tags : List (Nat × Nat)) :
    exec (.crookBufferEcc f c unc line tags) s = .next (s.ends (s.begun.bufferEcc f c unc line tags)) :=
  calc exec (.crookBufferEcc f c unc line tags) s = execCrookBufferEcc f c unc line tags s := rfl
    _ = .next _ := actIf_pos s _ _ h

end

/-- Settles O34: the reference digest and the verdicts from it, the Crooks' self-test and the errors of their buffers. -/
theorem crookComputesReferenceDigest : Obligations.CrookComputesReferenceDigest := by
  refine ⟨⟨fun f c k tag fault s e t h hentry htag hstate => ?_, fun f c k tag i fault s u e t d h htag hcrook hentry hstate hmay hd hu => ?_⟩,
    fun f c s h => ⟨fun hin hreset => ⟨exec_crookSelftest h hin hreset none, fun fmt op => exec_crookSelftest h hin hreset (some (fmt, op))⟩,
      fun line tags => ⟨exec_crookBufferEcc h false line tags, _, rfl, exec_crookBufferEcc h true line tags⟩⟩⟩
  · rw [exec_crookComputeDone h, State.computeDone_of_computing (s := s.begun) hentry htag hstate]
  · rw [exec_crookConfirmDone h, State.confirmDone_of_confirming (s := s.begun) htag hcrook hentry hstate hmay, hd, hu]

end Sys2Proof.Machine
end

section
/-!
The answers of the hurdles (R300 to R303), the captures (R321) and the wait graphs (R324).
-/
namespace Sys2Proof.Machine

section

variable {s : State} {d : Uid}

/-! The answers of a hurdle: closed, drained, or not drained in time. -/

theorem exec_hurdleClosed (bad : Option (Nat × Nat)) :
    exec (.hurdleClosed d bad) s = .next (s.ends (s.begun.hdlAnswer d bad (·.hurdleClosed d))) := rfl

theorem exec_drainEnd (bad : Option (Nat × Nat)) : exec (.drainEnd d bad) s = .next (s.ends (s.begun.hdlAnswer d bad
    (·.modHurdle d .draining (fun h => { h with phase := .drained })))) := rfl

/-- An answer with bad parity in the group of a flock of the domain only counts it and reports it (R42). -/
theorem State.hdlAnswer_bad {f k : Nat} (hdom : domHasFlock d f k = true) (hf : fspExists f k = true) (g : State → State) :
    s.hdlAnswer d (some (f, k)) g = s.fspParity f k 2 := by
  simp only [State.hdlAnswer, hdom, hf, Bool.and_self, if_true]

theorem State.hurdleClosed_of_none (h : s.hurdleIn d .closing = none) : s.hurdleClosed d = s := by
  simp only [State.hurdleClosed, h]

theorem State.hurdleClosed_of_closing {h : Hurdle} (hin : s.hurdleIn d .closing = some h) :
    s.hurdleClosed d = (s.modHurdle d .closing (fun h => { h with phase := .draining, closedAt := s.tbase })).note 0x0310 dieUid
      (le 4 d.toNat ++ [BitVec.ofNat 8 h.cause, 0] ++ le 2 h.code ++ le 4 (sat 4294967295 (s.tbase - h.began))) s.job.opId := by
  simp only [State.hurdleClosed, hin]

theorem exec_drainTimeout (l : List (Nat × Nat)) : exec (.drainTimeout d l) s = .next (s.ends (s.begun.drainTimeout d l)) := rfl

theorem State.job_of_sansUnits {s t : State} (h : s.sansUnits = t.sansUnits) : s.job = t.job := (congrArg State.job h :)

/-- Flushing FSPs takes no time. -/
theorem State.flush_tbase (s : State) (l : List (Nat × Nat)) :
    (s.forEach l (fun s p => (s.modFlock p.1 p.2 (fun fl => { fl with flush := true })).sig .fspHdlFlush (flockUid p.1 p.2).toNat 1)).tbase
      = s.tbase :=
  s.forEach_frame State.tbase l _ (by exact fun _ _ => State.tbase_of_sansUnits (by simp))

theorem State.flush_job (s : State) (l : List (Nat × Nat)) :
    (s.forEach l (fun s p => (s.modFlock p.1 p.2 (fun fl => { fl with flush := true })).sig .fspHdlFlush (flockUid p.1 p.2).toNat 1)).job
      = s.job :=
  s.forEach_frame State.job l _ (by exact fun _ _ => State.job_of_sansUnits (by simp))

theorem State.drainTimeout_of_draining {h : Hurdle} (hin : s.hurdleIn d .draining = some h) (hfirst : h.timedOut = false) (l : List (Nat × Nat)) :
    s.drainTimeout d l =
      ((((s.advanceTo (h.closedAt + s.policy.drain * 1000)).modHurdle d .draining (fun h => { h with timedOut := true })).forEach
        (l.filter (fun p => domHasFlock d p.1 p.2 && fspExists p.1 p.2)) (fun s p =>
          (s.modFlock p.1 p.2 (fun fl => { fl with flush := true })).sig .fspHdlFlush (flockUid p.1 p.2).toNat 1)).report
        0x0311 dieUid (le 4 d.toNat ++ le 2 (l.filter (fun p => domHasFlock d p.1 p.2 && fspExists p.1 p.2)).length ++ zeros 2
          ++ le 4 ((max s.tbase (h.closedAt + s.policy.drain * 1000) - h.closedAt) / 1000)) s.job.opId) := by
  simp only [State.drainTimeout, hin, hfirst, Bool.false_eq_true, if_false, State.flush_tbase, State.flush_job]
  rfl

theorem State.drainTimeout_of_idle (h : ∀ x, s.hurdleIn d .draining = some x → x.timedOut = true) (l : List (Nat × Nat)) :
    s.drainTimeout d l = s := by
  cases hin : s.hurdleIn d .draining with
  | none => simp only [State.drainTimeout, hin]
  | some x => simp only [State.drainTimeout, hin, h x hin, if_true]

/-! A capture ends with its entries, or truncated at its budget. -/

theorem exec_captureDone {es : List CapEntry} {c : CaptureRun} (hfw : s.firmware = true) (hc : s.recovery.capture = some c) :
    exec (.captureDone es) s = .next (s.ends (s.begun.captureEnded c (s.begun.capEntries c es) false)) :=
  calc exec (.captureDone es) s = execCaptureDone es s := rfl
    _ = .next _ := actIf_answers hfw (by simp only [State.begun_recovery, hc])

theorem exec_captureBudget {es : List CapEntry} {c : CaptureRun} (hfw : s.firmware = true) (hc : s.recovery.capture = some c) :
    exec (.captureBudget es) s = .next (s.ends ((s.begun.advanceTo (c.began + 1000000)).captureEnded c (s.begun.capEntries c es) true)) :=
  calc exec (.captureBudget es) s = execCaptureBudget es s := rfl
    _ = .next _ := actIf_answers hfw (by simp only [State.begun_recovery, hc])

/-! A wait graph answers the oldest request, or is the automatic one that is due. -/

theorem exec_waitGraphAssembled_requested {q : WaitReq} {rest : List WaitReq} (hfw : s.firmware = true) (h : s.recovery.waitReqs = q :: rest)
    (t0 t1 : Nat) (ts : List WaitTable) :
    exec (.waitGraphAssembled false t0 t1 ts) s = .next (s.ends ((s.begun.modRec (fun r => { r with waitReqs := rest })).assembled false t0 t1 ts
      q.dom (fun s n b => s.complete q.ring 0x00 (le 4 n) b) q.len)) :=
  calc exec (.waitGraphAssembled false t0 t1 ts) s = execWaitGraphAssembled false t0 t1 ts s := rfl
    _ = .next _ := actIf_answers hfw (by
      simp only [Bool.false_eq_true, if_false, State.begun_recovery, h]
      rfl)

theorem exec_waitGraphAssembled_unrequested (hfw : s.firmware = true) (h : s.recovery.waitReqs = []) (t0 t1 : Nat) (ts : List WaitTable) :
    exec (.waitGraphAssembled false t0 t1 ts) s = .next (s.ends s.begun) :=
  calc exec (.waitGraphAssembled false t0 t1 ts) s = execWaitGraphAssembled false t0 t1 ts s := rfl
    _ = .next _ := actIf_answers hfw (by simp only [Bool.false_eq_true, if_false, State.begun_recovery, h])

theorem exec_waitGraphAssembled_auto (hfw : s.firmware = true) (t0 t1 : Nat) (ts : List WaitTable) :
    exec (.waitGraphAssembled true t0 t1 ts) s = .next (s.ends (if s.autoReady then
      ((s.begun.modRec (fun r => { r with autoDue := false, lastAuto := some s.tbase })).readWaitTables dieUid).assembled true t0 t1 ts dieUid
        (fun s _ _ => s) 0 else s.begun)) :=
  calc exec (.waitGraphAssembled true t0 t1 ts) s = execWaitGraphAssembled true t0 t1 ts s := rfl
    _ = .next _ := actIf_answers hfw rfl

end

/-- Settles O36: the hurdles' answers by their phases, the ends of a capture, and the wait graphs that are asked for or due. -/
theorem hurdlesDrainAndCapturesEnd : Obligations.HurdlesDrainAndCapturesEnd := by
  refine ⟨fun d s => ⟨fun h hin => ?_, fun hnone => ?_, exec_drainEnd none, fun f k hdom hf c hc => ?_, fun h l u hin hfirst hu => ?_, fun l hidle => ?_⟩,
    fun s hfw => ⟨fun es c hc => ⟨exec_captureDone hfw hc, exec_captureBudget hfw hc⟩,
      fun t0 t1 n ts q rest ns cs hreqs hns hcs hn => ?_, fun t0 t1 ts hready => ⟨_, ?_, rfl⟩,
      fun t0 t1 ts => ⟨fun hnone => exec_waitGraphAssembled_unrequested hfw hnone t0 t1 ts, fun hearly => ?_⟩⟩⟩
  · exact congrArg (fun t => Host.Outcome.next (s.ends t)) (State.hurdleClosed_of_closing (s := s.begun) hin)
  · exact congrArg (fun t => Host.Outcome.next (s.ends t)) (State.hurdleClosed_of_none (s := s.begun) hnone)
  · rcases hc with rfl | rfl
    · exact congrArg (fun t => Host.Outcome.next (s.ends t)) (State.hdlAnswer_bad (s := s.begun) hdom hf _)
    · exact congrArg (fun t => Host.Outcome.next (s.ends t)) (State.hdlAnswer_bad (s := s.begun) hdom hf _)
  · rw [exec_drainTimeout, State.drainTimeout_of_draining (s := s.begun) hin hfirst, hu]
    rfl
  · rw [exec_drainTimeout, State.drainTimeout_of_idle (s := s.begun) fun x hx => by simpa only [show s.hurdleIn d .draining = some x from hx] using hidle]
  · rw [exec_waitGraphAssembled_requested hfw hreqs, hn, hcs, hns]
    rfl
  · rw [exec_waitGraphAssembled_auto hfw, if_pos hready]
    rfl
  · rw [exec_waitGraphAssembled_auto hfw, if_neg (by simp [hearly])]

end Sys2Proof.Machine
end

section
/-!
The handshakes of a slice (R61, R144 to R148) and the check of a rotation (R156).
-/
namespace Sys2Proof.Machine

section

variable {s : State} {f k c : Nat} {sl : Slice}

/-! What the signals of a core's slice do, by the slice's phase. -/

theorem State.saved_at_standing_step (hsl : (s.core f k c).slice = some sl) (hphase : sl.phase = .entering)
    (hstep : sl.step = (s.core f k c).step) :
    s.saved f k c = (s.modCore f k c (fun x => { x with slice := some { sl with phase := .running } })).sig .fspTsGo (coreUid f k c).toNat 1 := by
  simp only [State.saved, hsl, hphase, bne_self_eq_false, Bool.false_eq_true, if_false, hstep, if_true]

theorem State.saved_at_guard_step (hsl : (s.core f k c).slice = some sl) (hphase : sl.phase = .entering)
    (hstep : sl.step ≠ (s.core f k c).step) :
    s.saved f k c = (s.modCore f k c (fun x => { x with slice := some { sl with phase := .stepping } })).sig .fspClkStep
      (coreUid f k c).toNat (toTwos 3 sl.step) := by
  simp only [State.saved, hsl, hphase, bne_self_eq_false, Bool.false_eq_true, if_false, hstep]

theorem State.sliceDone_at_standing_step (hsl : (s.core f k c).slice = some sl) (hphase : sl.phase = .running)
    (hstep : sl.step = (s.core f k c).step) (m : BitVec 64) :
    s.sliceDone f k c m = (s.exitSlice f k c).verdict f k c sl (m == sl.expect) m := by
  simp only [State.sliceDone, hsl, hphase, bne_self_eq_false, Bool.false_eq_true, if_false, hstep]

theorem State.sliceDone_at_guard_step (hsl : (s.core f k c).slice = some sl) (hphase : sl.phase = .running)
    (hstep : sl.step ≠ (s.core f k c).step) (m : BitVec 64) :
    s.sliceDone f k c m = ((s.stepBack f k c).modCore f k c
      (fun x => { x with slice := some { sl with phase := .returning } })).verdict f k c sl (m == sl.expect) m := by
  have haway : (sl.step != (s.core f k c).step) = true := by simpa using hstep
  simp only [State.sliceDone, hsl, hphase, bne_self_eq_false, Bool.false_eq_true, if_false, haway, if_true]

theorem State.needed_of_slice (hsl : (s.core f k c).slice = some sl) (hphase : sl.phase ≠ .writing) :
    s.needed f k c =
      (fun u : State => if sl.own = true ∨ sl.enterAt + sl.window ≤ u.cycleCount f then u
        else (u.note 0x7003 (coreUid f k c) (u.cyclePayload f (le 2 sl.pattern ++ le 2 (sat 65535 (sl.enterAt + sl.window - u.cycleCount f))))).notClean)
      (s.cutSlice f k c) := by
  have hstarted : (sl.phase == .writing) = false := by simpa using hphase
  simp only [State.needed, hsl, hstarted, Bool.false_eq_true, if_false, Bool.or_eq_true, decide_eq_true_eq]

theorem State.restored_of_exiting (hsl : (s.core f k c).slice = some sl) (hexit : sl.exiting = true) (hlane : sl.lane = false)
    (hspare : (s.flock f k).spareCore ≠ some c) :
    s.restored f k c = (((((s.slotCount f k c 3 (s.cycleCount f - sl.enterAt)).modCore f k c
      (fun x => { x with slice := none })).sig .fspTsEnter (coreUid f k c).toNat 0).sig .fspTsExit (coreUid f k c).toNat 0).beginWrite f k c) := by
  have hserving : ((s.flock f k).spareCore == some c && (s.flock f k).logical.isSome) = false := by simp [hspare]
  simp only [State.restored, hsl, hexit, hlane, hserving, Bool.not_true, Bool.false_eq_true, if_false]

/-! A core whose slice has been restored is free. -/

theorem State.writeScratch_core (s : State) (f k c : Nat) (p : Pattern) (g j e : Nat) :
    (s.writeScratch f k c p).core g j e = s.core g j e := rfl

theorem State.beginWrite_slice (s : State) (f k c : Nat) (h : (s.core f k c).slice = none) : ((s.beginWrite f k c).core f k c).slice = none := by
  unfold State.beginWrite
  dsimp only
  split_ifs
  · exact h
  · split
    · exact h
    · rw [State.writeScratch_core, State.modCore_get, if_pos rfl]
      exact h

theorem State.restored_slice (hsl : (s.core f k c).slice = some sl) (hexit : sl.exiting = true) :
    ((s.restored f k c).core f k c).slice = none := by
  simp only [State.restored, hsl, hexit, Bool.not_true, Bool.false_eq_true, if_false]
  refine State.beginWrite_slice _ f k c ?_
  simp only [State.sig_core, apply_ite (State.core · f k c), State.modFlock_core, ite_self]
  rw [State.modCore_get, if_pos rfl]

/-! The commands, on a core with a slice. -/

/-- A command of a core's slice: what it does when the slice is this one. -/
theorem actIf_of_slice {g : State → Slice → State} {t : State} (h : fspExists f k = true) (hsl : (s.core f k c).slice = some sl)
    (ht : g s.begun sl = t) :
    actIf (fspExists f k) s (fun s => match (s.core f k c).slice with | some sl => g s sl | none => s) = .next (s.ends t) :=
  actIf_answers h (by simp only [State.begun_core, hsl, ht])

theorem exec_tsSaved (h : fspExists f k = true) (ok : Bool) :
    exec (.tsSaved f k c ok) s = .next (s.ends (if ok then s.begun.saved f k c else s.begun.fspParity f k 5)) :=
  calc exec (.tsSaved f k c ok) s = execTsSaved f k c ok s := rfl
    _ = .next _ := actIf_pos s _ _ h

theorem exec_tsDone (h : fspExists f k = true) (m : BitVec 64) (ok : Bool) :
    exec (.tsDone f k c m ok) s = .next (s.ends (if ok then s.begun.sliceDone f k c m else s.begun.fspParity f k 5)) :=
  calc exec (.tsDone f k c m ok) s = execTsDone f k c m s ok := rfl
    _ = .next _ := actIf_pos s _ _ h

theorem exec_tsNeed (h : fspExists f k = true) (ok : Bool) :
    exec (.tsNeed f k c ok) s = .next (s.ends (if ok then s.begun.needed f k c else s.begun.fspParity f k 5)) :=
  calc exec (.tsNeed f k c ok) s = execTsNeed f k c s ok := rfl
    _ = .next _ := actIf_pos s _ _ h

theorem exec_tsRestored (h : fspExists f k = true) (ok : Bool) :
    exec (.tsRestored f k c ok) s = .next (s.ends (if ok then s.begun.restored f k c else s.begun.fspParity f k 5)) :=
  calc exec (.tsRestored f k c ok) s = execTsRestored f k c s ok := rfl
    _ = .next _ := actIf_pos s _ _ h

theorem exec_guardGo (h : fspExists f k = true) (hsl : (s.core f k c).slice = some sl) (hphase : sl.phase = .stepping) :
    exec (.guardGo f k c) s = .next (s.ends
      ((s.begun.modCore f k c (fun x => { x with slice := some { sl with phase := .running } })).sig .fspTsGo (coreUid f k c).toNat 1)) :=
  calc exec (.guardGo f k c) s = execGuardGo f k c s := rfl
    _ = .next _ := actIf_of_slice h hsl (by simp only [hphase, beq_self_eq_true, if_true])

theorem exec_guardExit (h : fspExists f k = true) (hsl : (s.core f k c).slice = some sl) (hphase : sl.phase = .returning) :
    exec (.guardExit f k c) s = .next (s.ends (s.begun.exitSlice f k c)) :=
  calc exec (.guardExit f k c) s = execGuardExit f k c s := rfl
    _ = .next _ := actIf_of_slice h hsl (by simp only [hphase, beq_self_eq_true, if_true])

theorem exec_guard_without_slice (h : fspExists f k = true) (hsl : (s.core f k c).slice = none) :
    exec (.guardGo f k c) s = .next (s.ends s.begun) ∧ exec (.guardExit f k c) s = .next (s.ends s.begun) :=
  ⟨calc exec (.guardGo f k c) s = execGuardGo f k c s := rfl
      _ = .next _ := actIf_answers h (by simp only [State.begun_core, hsl]),
    calc exec (.guardExit f k c) s = execGuardExit f k c s := rfl
      _ = .next _ := actIf_answers h (by simp only [State.begun_core, hsl])⟩

theorem exec_doneMissing (h : fspExists f k = true) (hsl : (s.core f k c).slice = some sl) (hphase : sl.phase = .running) :
    exec (.doneMissing f k c) s = .next (s.ends
      ((((s.begun.stepBack f k c).exitSlice f k c).verdict f k c sl false 0).sliceProtocol f k c 1 sl.pattern)) :=
  calc exec (.doneMissing f k c) s = execDoneMissing f k c s := rfl
    _ = .next _ := actIf_answers h (by
      simp only [State.begun_core, hsl, hphase, bne_self_eq_false, Bool.false_eq_true, if_false])

theorem exec_sliceLatestExit (h : fspExists f k = true) (hsl : (s.core f k c).slice = some sl)
    (hphase : sl.phase = .running ∨ sl.phase = .stepping) :
    exec (.sliceLatestExit f k c) s = .next (s.ends (s.begun.cutSlice f k c)) :=
  calc exec (.sliceLatestExit f k c) s = execSliceLatestExit f k c s := rfl
    _ = .next _ := actIf_of_slice h hsl (if_pos (by simpa using hphase))

theorem exec_tsSavedLate (h : fspExists f k = true) (hsl : (s.core f k c).slice = some sl) (hphase : sl.phase = .entering) :
    exec (.tsSavedLate f k c) s = .next (s.ends
      ((((s.begun.exitSlice f k c).modCore f k c (fun x => { x with slice := x.slice.map (fun y => { y with late := true }) })).slotCount
        f k c 6 1).sliceProtocol f k c 0 sl.pattern)) :=
  calc exec (.tsSavedLate f k c) s = execTsSavedLate f k c s := rfl
    _ = .next _ := actIf_answers h (by
      simp only [State.begun_core, hsl, hphase, bne_self_eq_false, Bool.false_eq_true, if_false])

theorem exec_restoredLate (h : fspExists f k = true) (hsl : (s.core f k c).slice = some sl) (hexit : sl.exiting = true) :
    exec (.restoredLate f k c) s = .next (s.ends
      ((s.begun.modCore f k c (fun x => { x with slice := some { sl with late := true } })).sliceProtocol f k c 2 sl.pattern)) :=
  calc exec (.restoredLate f k c) s = execRestoredLate f k c s := rfl
    _ = .next _ := actIf_of_slice h hsl (by simp only [hexit, Bool.not_true, Bool.false_eq_true, if_false])

theorem exec_rotationCheck (h : s.droverUp f = true) :
    exec (.rotationCheck f) s = .next (s.ends (s.begun.checkRotation f)) :=
  calc exec (.rotationCheck f) s = execRotationCheck f s := rfl
    _ = .next _ := actIf_pos s _ _ h

end

/-- Settles O38: a slice's handshakes by its phase, the verdict of its end, and the check of a field's rotation. -/
theorem slicesRunToTheirVerdict : Obligations.SlicesRunToTheirVerdict := by
  refine ⟨fun f k c s h => ⟨fun sl hsl hphase hstep => ?_, fun sl hsl hphase hstep => ?_, fun sl => exec_guardGo h, fun sl => exec_guardExit h,
      fun m i hi => ?_, exec_guard_without_slice h⟩,
    fun f k c s sl h hsl => ⟨fun m hphase hstep => ?_, fun m hphase hstep => ?_, exec_doneMissing h hsl, exec_sliceLatestExit h hsl⟩,
    fun f k c s sl h hsl => ⟨exec_tsSavedLate h hsl, fun u hu hphase => ⟨fun hend => ?_, fun hown hstop => ?_⟩, fun hexit hlane hspare => ?_,
      fun hexit => ⟨_, exec_tsRestored h true, rfl, State.restored_slice (s := s.begun) hsl hexit⟩, exec_restoredLate h hsl⟩,
    fun f s u h hu => ?_⟩
  · rw [exec_tsSaved h, if_pos rfl, State.saved_at_standing_step (s := s.begun) hsl hphase hstep]
  · rw [exec_tsSaved h, if_pos rfl, State.saved_at_guard_step (s := s.begun) hsl hphase hstep]
  · rcases hi with rfl | rfl | rfl | rfl
    · exact exec_tsSaved h false
    · exact exec_tsDone h m false
    · exact exec_tsNeed h false
    · exact exec_tsRestored h false
  · rw [exec_tsDone h, if_pos rfl, State.sliceDone_at_standing_step (s := s.begun) hsl hphase hstep]
  · rw [exec_tsDone h, if_pos rfl, State.sliceDone_at_guard_step (s := s.begun) hsl hphase hstep]
  · rw [exec_tsNeed h, if_pos rfl, State.needed_of_slice (s := s.begun) hsl hphase, ← hu]
    exact congrArg (fun t => Host.Outcome.next (s.ends t)) (if_pos hend)
  · rw [exec_tsNeed h, if_pos rfl, State.needed_of_slice (s := s.begun) hsl hphase, ← hu]
    exact congrArg (fun t => Host.Outcome.next (s.ends t)) (if_neg (by simpa [hown] using hstop))
  · rw [exec_tsRestored h, if_pos rfl, State.restored_of_exiting (s := s.begun) hsl hexit hlane hspare]
    rfl
  · rw [exec_rotationCheck h, hu]
    rfl

end Sys2Proof.Machine
end

section
/-!
The error reports of the FSPs (R42 to R46, R269) and those of the infrastructure (R280).
-/
namespace Sys2Proof.Machine

/-! A UID reads back as it was made (R3). -/

section

variable {level f k c lane elem : Nat}

theorem mkUid_toNat (hlevel : level < 8) (hf : f < 64) (hk : k < 64) (hc : c < 32) (hlane : lane < 16) (helem : elem < 256) :
    (mkUid level f k c lane elem).toNat = level * 2 ^ 29 + f * 2 ^ 23 + k * 2 ^ 17 + c * 2 ^ 12 + lane * 2 ^ 8 + elem := by
  rw [mkUid, BitVec.toNat_ofNat]
  exact Nat.mod_eq_of_lt (by omega)

theorem mkUid_fields (hlevel : level < 8) (hf : f < 64) (hk : k < 64) (hc : c < 32) (hlane : lane < 16) (helem : elem < 256) :
    uidLevel (mkUid level f k c lane elem) = level ∧ uidField (mkUid level f k c lane elem) = f
    ∧ uidFlock (mkUid level f k c lane elem) = k ∧ uidElem (mkUid level f k c lane elem) = elem
    ∧ uidCore (mkUid level f k c lane elem) = c ∧ uidLane (mkUid level f k c lane elem) = lane := by
  simp only [uidLevel, uidField, uidFlock, uidElem, uidCore, uidLane, mkUid_toNat hlevel hf hk hc hlane helem]
  omega

end

/-- The source of a report, by the scope that it names. -/
theorem FspErr.uid_fields {r : FspErr} {f k : Nat} (hf : fspExists f k = true) (hscope : r.scope ≤ 2) (hcore : r.core < 32)
    (hlane : r.lane < 16) (helem : r.elem < 256) :
    uidLevel (r.uid f k) = r.scope ∧ uidField (r.uid f k) = f ∧ uidFlock (r.uid f k) = k ∧ uidElem (r.uid f k) = r.elem
    ∧ uidCore (r.uid f k) = (if r.scope ≤ 1 then r.core else 0) ∧ uidLane (r.uid f k) = (if r.scope = 0 then r.lane else 0) := by
  have hplace : f < Config.fields ∧ k < Config.flocks := by simpa only [fspExists, Bool.and_eq_true, decide_eq_true_eq] using hf
  obtain ⟨hfield, hflock⟩ : f < 48 ∧ k < 33 := hplace
  have huid : r.uid f k = mkUid r.scope f k (if r.scope ≤ 1 then r.core else 0) (if r.scope = 0 then r.lane else 0) r.elem := by
    rw [FspErr.uid]
    obtain h | h | h : r.scope = 0 ∨ r.scope = 1 ∨ r.scope = 2 := by omega
    · simp [h]
    · simp [h]
    · simp [h]
  rw [huid]
  exact mkUid_fields (by omega) (by omega) (by omega) (by split <;> omega) (by split <;> omega) helem

section

variable {f k : Nat} {r : FspErr} {e : InfraErr} {s : State}

/-! A report of an FSP, by its form. -/

theorem exec_errorReport_parity (h : fspExists f k = true) (hparity : r.parityOk = false) :
    exec (.errorReport f k r) s = .next (s.ends (s.begun.fspParity f k 6)) :=
  calc exec (.errorReport f k r) s = execErrorReport f k r s := rfl
    _ = .next _ := actIf_answers h (if_pos (by simp [hparity]))

theorem exec_errorReport_malformed (h : fspExists f k = true) (hparity : r.parityOk = true) (hform : r.malformed = true) :
    exec (.errorReport f k r) s = .next (s.ends ((s.begun.sig .fspErrAck (flockUid f k).toNat 1).reportPlane 0x1230 (mkUid 2 f k 0 0 3) [6])) :=
  calc exec (.errorReport f k r) s = execErrorReport f k r s := rfl
    _ = .next _ := actIf_answers h (by simp only [hparity, hform, Bool.not_true, Bool.false_eq_true, if_false, if_true])

theorem exec_errorReport {u : State} (h : fspExists f k = true) (hparity : r.parityOk = true) (hform : r.malformed = false)
    (hu : u = if r.cls = clsCE then s.begun.sig .fspErrAck (flockUid f k).toNat 1
      else (s.begun.sig .fspErrAck (flockUid f k).toNat 1).closeHurdle (fenceDom (r.uid f k) r.cls) 0 r.code) :
    exec (.errorReport f k r) s = .next (s.ends ((u.reportCls r.code r.cls (r.uid f k)
      (u.cyclePayload f [BitVec.ofNat 8 r.elem, if r.scope = 0 then BitVec.ofNat 8 r.lane else 0xFF, BitVec.ofNat 8 r.scope, 0])).fspFinding f k r)) :=
  calc exec (.errorReport f k r) s = execErrorReport f k r s := rfl
    _ = .next _ := actIf_answers h (by simp only [hparity, hform, Bool.not_true, Bool.false_eq_true, if_false, ← hu])

/-! A report of the infrastructure, by its code. -/

/-- What a code of the infrastructure does before it is reported: a Shepherd reports itself lost, a current monitor disagrees. -/
def State.infraNoted (s : State) (e : InfraErr) : State :=
  let s := if e.code = 0x0105 ∨ e.code = 0x010B then s.selfLost (shepherdOf e.uid) else s
  if e.code = 0x0305 ∧ uidLevel e.uid = 5 ∧ 0x18 ≤ uidElem e.uid ∧ uidElem e.uid ≤ 0x1F then
    s.modField (uidField e.uid) (fun fd => { fd with deadMonitors := insertNew fd.deadMonitors (uidElem e.uid - 0x18) }) else s

theorem exec_infrastructureError (h : (codeDefined e.code && !isDataPlane e.code && uidBelowZero e.uid) = true) :
    exec (.infrastructureError e) s = .next (s.ends ((s.begun.infraNoted e).reportCls e.code (classOf e.code e.cls) e.uid e.payload)) :=
  calc exec (.infrastructureError e) s = execInfrastructureError e s := rfl
    _ = .next _ := actIf_pos s _ _ h

theorem exec_infrastructureError_undefined (h : (codeDefined e.code && !isDataPlane e.code && uidBelowZero e.uid) = false) :
    exec (.infrastructureError e) s = .next (s.ends s.begun) :=
  calc exec (.infrastructureError e) s = execInfrastructureError e s := rfl
    _ = .next _ := actIf_neg s _ _ h

theorem State.infraNoted_other (hown : e.code ≠ 0x0105) (hown' : e.code ≠ 0x010B)
    (hmonitor : e.code ≠ 0x0305 ∨ uidLevel e.uid ≠ 5 ∨ uidElem e.uid < 0x18 ∨ 0x1F < uidElem e.uid) : s.infraNoted e = s := by
  simp only [State.infraNoted]
  rw [if_neg (by omega), if_neg (by omega)]

theorem State.infraNoted_shepherd (hown : e.code = 0x0105 ∨ e.code = 0x010B) : s.infraNoted e = s.selfLost (shepherdOf e.uid) := by
  simp only [State.infraNoted]
  rw [if_neg (by omega), if_pos hown]

theorem State.infraNoted_monitor (hcode : e.code = 0x0305) (hlevel : uidLevel e.uid = 5) (hlow : 0x18 ≤ uidElem e.uid)
    (hhigh : uidElem e.uid ≤ 0x1F) :
    s.infraNoted e = s.modField (uidField e.uid) (fun fd => { fd with deadMonitors := insertNew fd.deadMonitors (uidElem e.uid - 0x18) }) := by
  simp only [State.infraNoted]
  rw [if_pos ⟨hcode, hlevel, hlow, hhigh⟩, if_neg (by omega)]

end

/-- Settles O39: an FSP's reports by their form, the source that they name, and the reports of the infrastructure. -/
theorem errorReportsAreFencedAndTaken : Obligations.ErrorReportsAreFencedAndTaken := by
  refine ⟨fun f k r s h => ⟨exec_errorReport_parity h, exec_errorReport_malformed h, fun u hparity hform hu => exec_errorReport h hparity hform hu⟩,
    fun f k r h hform hscope hcore hlane helem => FspErr.uid_fields h hscope hcore hlane helem,
    fun e s => ⟨fun h => ⟨fun h5 hB hmonitor => ?_, fun hown => ?_, fun hcode hlevel hlow hhigh => ?_⟩, exec_infrastructureError_undefined⟩⟩
  · rw [exec_infrastructureError h, State.infraNoted_other h5 hB hmonitor]
  · rw [exec_infrastructureError h, State.infraNoted_shepherd hown]
    rfl
  · rw [exec_infrastructureError h, State.infraNoted_monitor hcode hlevel hlow hhigh, hcode]

end Sys2Proof.Machine
end

section
/-!
The pair's order (R345, R346), the heartbeats, and the votes of the three voters (R348, R349).
-/
namespace Sys2Proof.Machine

section

variable {s : State}

/-! The order of the inputs, and the outputs held for it. -/

theorem exec_shepherdHeartbeat (b : Bool) : exec (.shepherdHeartbeat b) s = .next (s.ends (if (s.pair.shc b).beats then
    (s.outside.broadcast (shcUid b) (s.pair.liveVoters.map voterUid) .heartbeat 0).modShc b (fun x => { x with lastHb := s.tbase }) else s.outside)) := rfl

/-- The follower processes the next ordered input, if it is behind. -/
def State.orderFollowed (s : State) : State :=
  if s.follower.isSome && decide (s.pair.followed < s.pair.order) then { s with pair := { s.pair with followed := s.pair.followed + 1 } } else s

theorem State.orderFollowed_behind (hfollower : s.follower.isSome = true) (hbehind : s.pair.followed < s.pair.order) :
    s.orderFollowed = { s with pair := { s.pair with followed := s.pair.followed + 1 } } :=
  if_pos (Bool.and_eq_true_iff.2 ⟨hfollower, decide_eq_true hbehind⟩)

theorem State.orderFollowed_firmware : s.orderFollowed.firmware = s.firmware := by
  unfold State.orderFollowed
  split <;> rfl

theorem State.orderFollowed_activeShc : s.orderFollowed.activeShc = s.activeShc := by
  unfold State.orderFollowed
  split <;> rfl

theorem exec_orderEntry : exec (.orderEntry none) s = .next (s.ends s.outside.orderFollowed) := rfl

theorem exec_orderEntry_assertion {b : Bool} (hfw : s.start.fwRun = true) (hactive : s.activeShc = some b) (core : Nat) (n arg : BitVec 32) :
    exec (.orderEntry (some (core, n, arg))) s = .next (s.ends (s.outside.orderFollowed.report 0x4003 (shcUid b)
      ([BitVec.ofNat 8 core, 0, 0, 0] ++ le 4 n.toNat ++ le 4 arg.toNat))) := by
  have hactive' : s.outside.orderFollowed.activeShc = some b := State.orderFollowed_activeShc.trans hactive
  have hfw' : s.outside.orderFollowed.firmware = true := by
    rw [State.orderFollowed_firmware, State.firmware, State.outside_start, hfw, show s.outside.activeShc = some b from hactive]
    rfl
  calc exec (.orderEntry (some (core, n, arg))) s = execOrderEntry (some (core, n, arg)) s := rfl
    _ = .next _ := actOutside_answers (by
      change (match some (core, n, arg), s.outside.orderFollowed.activeShc with
        | some (core, n, arg), some b => if s.outside.orderFollowed.firmware then s.outside.orderFollowed.report 0x4003 (shcUid b)
            ([BitVec.ofNat 8 core, 0, 0, 0] ++ le 4 n.toNat ++ le 4 arg.toNat) else s.outside.orderFollowed
        | _, _ => s.outside.orderFollowed) = _
      simp only [hactive', hfw', if_true])

theorem exec_outputRelease : exec .outputRelease s = .next (s.ends (if s.follower.isNone then s.outside else { s.outside with
    pair := { s.pair with processed := s.pair.followed, released := s.pair.followed
                          held := s.pair.held.filter (fun p => decide (s.pair.followed < p.1))
                          pairSeq := s.pair.pairSeq + (s.pair.held.filter (fun p => decide (p.1 ≤ s.pair.followed))).length }
    out := (s.pair.held.filter (fun p => decide (p.1 ≤ s.pair.followed))).map (·.2) })) := rfl

/-! Votes. -/

theorem State.broadcast_offMesh (src : Uid) (dsts : List Uid) (kind : MeshKind) (arg : Nat) :
    (s.broadcast src dsts kind arg).offMesh = s.offMesh :=
  s.forEach_frame State.offMesh dsts _ (by exact fun t d => t.message_offMesh src d kind arg)

theorem getD_modifyAt {α : Type} (l : List α) (i j : Nat) (g : α → α) (d : α) (hi : i < l.length) :
    (modifyAt l i g).getD j d = if j = i then g (l.getD j d) else l.getD j d := by
  rw [modifyAt_eq_modify, List.getD_eq_getElem?_getD, List.getD_eq_getElem?_getD, List.getElem?_modify]
  by_cases hji : j = i
  · subst hji
    simp [hi]
  · simp [hji, Ne.symm hji]

/-- The votes of the three voters that are `v` of round `r`. -/
def Pair.votesFor (p : Pair) (r : Nat) (v : Vote) : Nat :=
  ((List.range 3).filter (fun j => (p.voters.getD j {}).vote == some (r, v))).length

/-- A vote put into its voter's entry. -/
def Pair.voted (p : Pair) (i r : Nat) (v : Vote) : Pair :=
  { p with voters := modifyAt p.voters i (fun x => { x with vote := some (r, v) }) }

/-- The state in which a vote has been sent and put into its voter's entry. -/
def State.ballot (s : State) (i r : Nat) (v : Vote) : State :=
  (s.broadcast (voterUid i) ((without s.pair.liveVoters i).map voterUid ++ [shcUid false, shcUid true]) .vote (65536 * r + voteCode v)).modPair
    (fun p => p.voted i r v)

theorem State.ballot_round (i r : Nat) (v : Vote) : (s.ballot i r v).pair.round = s.pair.round :=
  (congrArg (fun t : State => t.pair.round) (s.broadcast_offMesh ..) :)

theorem State.ballot_votesFor (i r : Nat) (v : Vote) (q : Nat) (w : Vote) :
    (s.ballot i r v).pair.votesFor q w = (s.pair.voted i r v).votesFor q w := by
  have hvoters : (s.ballot i r v).pair.voters = (s.pair.voted i r v).voters :=
    congrArg (modifyAt · i (fun x : Voter => { x with vote := some (r, v) }))
      (congrArg (fun t : State => t.pair.voters) (s.broadcast_offMesh ..) :)
  rw [Pair.votesFor, Pair.votesFor, hvoters]

/-- A vote cast acts when it is of the round under way and two voters then have it. -/
theorem State.castVote_acts {i r : Nat} {v : Vote} (hi : i < 3) (hin : (s.pair.voters.getD i {}).inService = true)
    (hreset : (s.pair.voters.getD i {}).resetting = false) :
    (s.castVote i r v).2 = (r == s.pair.round && (s.pair.voted i r v).votesFor r v == 2) := by
  have hcasts : ¬(decide (3 ≤ i) || !(s.pair.voters.getD i {}).inService || (s.pair.voters.getD i {}).resetting) = true := by
    simp only [hin, hreset, Nat.not_le.2 hi, decide_false, Bool.not_true, Bool.or_self, Bool.false_eq_true, not_false_eq_true]
  rw [← s.ballot_round i r v, ← s.ballot_votesFor i r v r v, State.castVote]
  dsimp only
  rw [if_neg hcasts]
  rfl

theorem Pair.votesFor_voted {p : Pair} {i r : Nat} {v : Vote} (hi : i < 3) (hlen : p.voters.length = 3) :
    (p.voted i r v).votesFor r v = ((List.range 3).filter (fun j => j == i || (p.voters.getD j {}).vote == some (r, v))).length := by
  refine congrArg List.length (List.filter_congr fun j _ => ?_)
  rw [Pair.voted, getD_modifyAt _ _ _ _ _ (hlen ▸ hi)]
  by_cases hj : j = i
  · simp [hj]
  · simp [hj]

/-- A voter out of service or under reset casts nothing. -/
theorem State.castVote_of_silent {i : Nat} (r : Nat) (v : Vote)
    (h : (s.pair.voters.getD i {}).inService = false ∨ (s.pair.voters.getD i {}).resetting = true) : s.castVote i r v = (s, false) := by
  have hsilent : (decide (3 ≤ i) || !(s.pair.voters.getD i {}).inService || (s.pair.voters.getD i {}).resetting) = true := by
    rcases h with h | h <;> simp only [h, Bool.not_false, Bool.or_true, Bool.true_or]
  rw [State.castVote]
  exact if_pos hsilent

theorem State.voteAct_eq (i r : Nat) (v : Vote) :
    s.voteAct i r v = if (s.castVote i r v).2 then (s.castVote i r v).1.actVote v else (s.castVote i r v).1 := by
  rw [State.voteAct]
  rcases s.castVote i r v with ⟨t, _ | _⟩ <;> rfl

theorem exec_vote (i r : Nat) (v : Vote) : exec (.vote i r v) s = .next (s.ends (s.outside.voteAct i r v)) := rfl

theorem exec_shepherdLost_reported (i : Nat) (b : Bool) : exec (.shepherdLost i b true) s = .next (s.ends
    ((s.outside.modShc b (fun x => { x with lost := true })).voteAct i s.pair.round (.loss b))) := by
  cases b <;> rfl

theorem exec_shepherdLost_silent (i : Nat) (b : Bool) : exec (.shepherdLost i b false) s = .next (s.ends
    ((s.outside.advanceTo ((s.pair.shc b).lastHb + 640)).voteAct i s.pair.round (.loss b))) := rfl

end

/-- Settles O42: the order the pair keeps, and the vote that acts when two voters agree. -/
theorem pairFollowsOrderAndVotes : Obligations.PairFollowsOrderAndVotes := by
  refine ⟨fun s => ⟨fun b hbeats => ?_, fun b hquiet => ?_, fun hfollower hbehind => ?_, fun hlevel => ?_,
      fun core n arg b hfollower hbehind hfw hactive => ?_, fun hfollower => ?_, fun hnone => ?_⟩,
    fun s i r v hi hin hreset hlen => ?_, fun s i r v h => ?_, fun s i r v h => ?_, fun s i r v h => ?_,
    fun s i b => exec_shepherdLost_reported i b, fun s i b => exec_shepherdLost_silent i b⟩
  · rw [exec_shepherdHeartbeat, if_pos hbeats]
  · rw [exec_shepherdHeartbeat, if_neg (by simp [hquiet])]
  · rw [exec_orderEntry, State.orderFollowed_behind (s := s.outside) hfollower hbehind]
    rfl
  · rw [exec_orderEntry, State.orderFollowed, if_neg (by
      rcases hlevel with h | h
      · simp [h]
      · simp [Nat.not_lt.2 h])]
  · rw [exec_orderEntry_assertion hfw hactive, State.orderFollowed_behind (s := s.outside) hfollower hbehind]
    rfl
  · rw [exec_outputRelease, if_neg (by simpa [Option.ne_none_iff_isSome] using hfollower)]
  · rw [exec_outputRelease, if_pos (by simp [hnone])]
  · rw [State.castVote_acts hi hin hreset, Pair.votesFor_voted hi hlen]
    rfl
  · rw [exec_vote, State.voteAct_eq, State.castVote_of_silent (s := s.outside) r v h]
    rfl
  · rw [exec_vote, State.voteAct_eq, if_neg (by simp [h])]
  · rw [exec_vote, State.voteAct_eq, if_pos h]

end Sys2Proof.Machine
end

section
/-!
The Warden's epochs (R347), the challenge that an unequal or a late digest begins, and its responses (R350, R351).
-/
namespace Sys2Proof.Machine

section

variable {s : State}

/-! Digests and responses go to the voters, and change nothing of the pair but the outputs it holds. -/

theorem State.sendDigest_offMesh (b : Bool) (dig : BitVec 64) : (s.sendDigest b dig).offMesh = s.offMesh := by
  unfold State.sendDigest
  split
  · exact State.broadcast_offMesh ..
  · rfl

theorem State.compares_of_offMesh {t : State} (h : s.offMesh = t.offMesh) : s.compares = t.compares :=
  (congrArg State.compares h :)

theorem State.fw_of_offMesh {t : State} (h : s.offMesh = t.offMesh) : s.fw = t.fw := (congrArg State.fw h :)

theorem State.active_of_offMesh {t : State} (h : s.offMesh = t.offMesh) : s.pair.active = t.pair.active :=
  (congrArg (fun u : State => u.pair.active) h :)

theorem State.digestWait_of_offMesh {t : State} (h : s.offMesh = t.offMesh) : s.pair.digestWait = t.pair.digestWait :=
  (congrArg (fun u : State => u.pair.digestWait) h :)

theorem State.challenge_of_offMesh {t : State} (h : s.offMesh = t.offMesh) : s.pair.challenge = t.pair.challenge :=
  (congrArg (fun u : State => u.pair.challenge) h :)

theorem State.sendResponse_pair (b : Bool) :
    (s.sendResponse b).pair.active = s.pair.active ∧ (s.sendResponse b).pair.challenge = s.pair.challenge := by
  have hmesh : (s.sendResponse b).offMesh = ({ s with free := s.free + 1 } : State).offMesh := State.broadcast_offMesh ..
  exact ⟨(State.active_of_offMesh hmesh).trans rfl, (State.challenge_of_offMesh hmesh).trans rfl⟩

/-! The masters compared. -/

theorem State.compareMasters_close (h : s.pair.masterDiff.natAbs ≤ 10) : s.compareMasters = s := by
  unfold State.compareMasters
  split
  · exact if_neg (by simp [Nat.not_lt.2 h])
  · rfl

theorem State.compareMasters_apart {b : Bool} (h : 10 < s.pair.masterDiff.natAbs) (hactive : s.activeShc = some b)
    (hfollower : s.follower.isSome = true) : s.compareMasters = s.report 0x0101 (shcUid b) (le 4 (toTwos 32 s.pair.masterDiff)) := by
  simp only [State.compareMasters, hactive, hfollower, decide_eq_true h, Bool.and_self, if_true]

/-! An epoch. -/

/-- An epoch has begun: TBASE is at its multiple of 10 us, and the skew of an update that has swapped is over. -/
def State.epochBegun (s : State) : State :=
  (s.advanceTo ((s.tbase / 10000 + 1) * 10000)).modPair
    (fun p => { p with wEpoch := (s.advanceTo ((s.tbase / 10000 + 1) * 10000)).tbase / 10000, skew := p.skew && s.fw.step != 6 })

theorem State.epochBegun_compares : s.epochBegun.compares =
    (s.pair.active.isSome && s.follower.isSome && !(s.pair.skew && s.fw.step != 6) && s.pair.challenge.isNone) := rfl

/-- What a Warden epoch leaves: each digest is sent but that of a late follower, and the two are compared. -/
def State.wardenEpoch (s : State) (a b : BitVec 64) (late : Bool) : State :=
  let s := s.epochBegun.compareMasters
  let behind := late && s.compares
  let s := if behind && s.pair.active = some .b then s else s.sendDigest false a
  let s := if behind && s.pair.active = some .a then s else s.sendDigest true b
  if !s.compares then s.modPair (fun p => { p with digestWait := none })
  else if late then
    let own := if s.pair.active = some .b then b else a
    s.modPair (fun p => { p with digestWait := match p.digestWait with | some w => some w | none => some (p.wEpoch, s.tbase, own) })
  else
    let s := s.modPair (fun p => { p with digestWait := none })
    if a = b then (if s.fw.step = 6 then s.commitUpdate else s) else s.beginChallenge false (a ^^^ b)

theorem exec_wardenEpoch (a b : BitVec 64) (late : Bool) :
    exec (.wardenEpoch a b late) s = .next (s.ends (s.begun.wardenEpoch a b late)) := rfl

theorem State.epochBegun_compareMasters (hmasters : s.pair.masterDiff.natAbs ≤ 10) : s.epochBegun.compareMasters = s.epochBegun :=
  State.compareMasters_close (by exact hmasters)

/-- The state after both digests have been sent. -/
def State.digestsSent (s : State) (a b : BitVec 64) : State := (s.epochBegun.sendDigest false a).sendDigest true b

theorem State.digestsSent_offMesh (a b : BitVec 64) : (s.digestsSent a b).offMesh = s.epochBegun.offMesh :=
  (State.sendDigest_offMesh ..).trans (State.sendDigest_offMesh ..)

theorem State.wardenEpoch_alone {a b : BitVec 64} {late : Bool} (hmasters : s.pair.masterDiff.natAbs ≤ 10)
    (halone : s.epochBegun.compares = false) :
    s.wardenEpoch a b late = (s.digestsSent a b).modPair (fun p => { p with digestWait := none }) := by
  have hsent : ((s.epochBegun.sendDigest false a).sendDigest true b).compares = false :=
    (State.compares_of_offMesh (s.digestsSent_offMesh a b)).trans halone
  simp only [State.wardenEpoch, State.epochBegun_compareMasters hmasters, halone, Bool.and_false, Bool.false_and, Bool.false_eq_true,
    if_false, hsent, Bool.not_false, if_true, State.digestsSent]

theorem State.wardenEpoch_pair {a b : BitVec 64} (hmasters : s.pair.masterDiff.natAbs ≤ 10) (hpair : s.epochBegun.compares = true) :
    s.wardenEpoch a b false =
      let w := (s.digestsSent a b).modPair (fun p => { p with digestWait := none })
      if a = b then (if s.fw.step = 6 then w.commitUpdate else w) else w.beginChallenge false (a ^^^ b) := by
  have hsent : ((s.epochBegun.sendDigest false a).sendDigest true b).compares = true :=
    (State.compares_of_offMesh (s.digestsSent_offMesh a b)).trans hpair
  have hfw : ((s.epochBegun.sendDigest false a).sendDigest true b).fw = s.fw := (State.fw_of_offMesh (s.digestsSent_offMesh a b)).trans rfl
  simp only [State.wardenEpoch, State.epochBegun_compareMasters hmasters, Bool.false_and, Bool.false_eq_true, if_false, hsent,
    Bool.not_true, State.digestsSent, State.modPair, hfw]

/-- The digest of the active Shepherd is kept for a late follower's. -/
theorem State.wardenEpoch_late {a b : BitVec 64} {i : ShcId} (hmasters : s.pair.masterDiff.natAbs ≤ 10) (hpair : s.epochBegun.compares = true)
    (hwait : s.pair.digestWait = none) (hactive : s.pair.active = some i) :
    s.wardenEpoch a b true = (s.epochBegun.sendDigest i.isB (if i.isB then b else a)).modPair (fun p =>
      { p with digestWait := some (s.epochBegun.tbase / 10000, s.epochBegun.tbase, if i.isB then b else a) }) := by
  have hmesh := s.epochBegun.sendDigest_offMesh i.isB (if i.isB then b else a)
  have hactive' : s.epochBegun.pair.active = some i := hactive
  have hsent := (State.compares_of_offMesh hmesh).trans hpair
  have hsentActive := (State.active_of_offMesh hmesh).trans hactive
  have hsentWait := (State.digestWait_of_offMesh hmesh).trans hwait
  have hsentEpoch : (s.epochBegun.sendDigest i.isB (if i.isB then b else a)).pair.wEpoch = s.epochBegun.tbase / 10000 :=
    (congrArg (fun u : State => u.pair.wEpoch) hmesh :)
  have hsentTime : (s.epochBegun.sendDigest i.isB (if i.isB then b else a)).tbase = s.epochBegun.tbase := (congrArg State.tbase hmesh :)
  cases i <;>
  simp [State.wardenEpoch, State.epochBegun_compareMasters hmasters, hpair, hactive', ShcId.isB] at hsent hsentActive hsentWait hsentEpoch hsentTime ⊢ <;>
  simp [hsent, hsentActive, hsentWait, hsentEpoch, hsentTime, State.modPair]

/-! A late digest. -/

theorem exec_digestLate_idle (h : s.pair.digestWait = none) : exec .digestLate s = .next (s.ends s.outside) :=
  calc exec .digestLate s = execDigestLate s := rfl
    _ = .next _ := actOutside_answers (by simp only [State.outside_pair, h])

theorem exec_digestLate {e t : Nat} {own : BitVec 64} (h : s.pair.digestWait = some (e, t, own)) (hpair : s.compares = true) :
    exec .digestLate s = .next (s.ends ((({ s.outside with free := s.free + 1 } : State).advanceTo (t + 20000)).beginChallenge true
      (own ^^^ Config.freeValue s.free))) :=
  calc exec .digestLate s = execDigestLate s := rfl
    _ = .next _ := actOutside_answers (by
      have hpair' : s.outside.compares = true := hpair
      simp only [State.outside_pair, h, hpair', Bool.not_true, Bool.false_eq_true, if_false]
      rfl)

/-! The responses to a challenge. -/

theorem exec_challenge_idle (h : s.pair.challenge = none) :
    (∀ b r, exec (.challengeResponse b r) s = .next (s.ends s.outside)) ∧ exec .challengeTimeout s = .next (s.ends s.outside) :=
  ⟨fun b r => calc exec (.challengeResponse b r) s = execChallengeResponse b r s := rfl
      _ = .next _ := actOutside_answers (if_neg (by simp [h])),
    calc exec .challengeTimeout s = execChallengeTimeout s := rfl
      _ = .next _ := actOutside_answers (by simp only [State.outside_pair, h])⟩

theorem State.modPair_active {i : ShcId} {c : Option Challenge} (h : s.pair.active = some i) :
    (s.modPair (fun p => { p with challenge := c })).pair.active = some i := h

/-- A response is put in once. -/
def Challenge.responded (c : Challenge) (b right : Bool) : Challenge :=
  if b then (if c.respB.isSome then c else { c with respB := some right })
  else (if c.respA.isSome then c else { c with respA := some right })

theorem State.respond_eq {c : Challenge} (h : s.pair.challenge = some c) (b right : Bool) :
    s.respond b right = s.modPair (fun p => { p with challenge := some (c.responded b right) }) := by
  simp only [State.respond, State.modPair, h, Option.map_some, Challenge.responded]

theorem exec_challengeResponse {c : Challenge} (h : s.pair.challenge = some c) (b right : Bool) :
    exec (.challengeResponse b right) s = .next (s.ends ((s.outside.sendResponse b).modPair
      (fun p => { p with challenge := some (c.responded b right) })).closeChallenge) :=
  calc exec (.challengeResponse b right) s = execChallengeResponse b right s := rfl
    _ = .next _ := actOutside_answers (by
      have hsent : (s.outside.sendResponse b).pair.challenge = some c := State.sendResponse_pair b |>.2.trans h
      simp only [State.outside_pair, h, Option.isSome_some, if_true, State.respond_eq hsent])

/-- A challenge with both responses in ends with the outcome that they give, the active Shepherd's first. -/
theorem State.closeChallenge_decided {c : Challenge} {i : ShcId} {ra rb : Bool} (h : s.pair.challenge = some c) (hactive : s.pair.active = some i)
    (ha : c.respA = some ra) (hb : c.respB = some rb) :
    s.closeChallenge = s.applyOutcome (if i.isB then outcomeOf rb ra else outcomeOf ra rb) := by
  cases i <;> simp [State.closeChallenge, h, hactive, ha, hb, ShcId.isB]

theorem State.closeChallenge_waiting {c : Challenge} (h : s.pair.challenge = some c) (hopen : c.respA = none ∨ c.respB = none) :
    s.closeChallenge = s := by
  simp only [State.closeChallenge, h]
  cases s.pair.active with
  | none => rfl
  | some i => rcases hopen with hnone | hnone <;> cases i <;> simp [hnone, ShcId.isB]

theorem exec_challengeTimeout {c : Challenge} (h : s.pair.challenge = some c) :
    exec .challengeTimeout s = .next (s.ends (((s.outside.advanceTo (c.began + 1920)).modPair
      (fun p => { p with challenge := some ((c.responded false false).responded true false) })).closeChallenge)) :=
  calc exec .challengeTimeout s = execChallengeTimeout s := rfl
    _ = .next _ := actOutside_answers (by
      simp only [State.outside_pair, h]
      rw [State.respond_eq (s := s.outside.advanceTo (c.began + 1920)) h, State.respond_eq (c := c.responded false false) rfl]
      rfl)

theorem Challenge.responded_a {c : Challenge} (ha : c.respA = none) (r : Bool) : c.responded false r = { c with respA := some r } := by
  simp only [Challenge.responded, ha, Option.isSome_none, Bool.false_eq_true, if_false]

theorem Challenge.responded_b {c : Challenge} (hb : c.respB = none) (r : Bool) : c.responded true r = { c with respB := some r } := by
  simp only [Challenge.responded, hb, Option.isSome_none, Bool.false_eq_true, if_false, if_true]

/-- The first response only waits for the other one. -/
theorem exec_challengeResponse_first {c : Challenge} (h : s.pair.challenge = some c) (b right : Bool)
    (hopen : (c.responded b right).respA = none ∨ (c.responded b right).respB = none) :
    exec (.challengeResponse b right) s = .next (s.ends ((s.outside.sendResponse b).modPair
      (fun p => { p with challenge := some (c.responded b right) }))) := by
  rw [exec_challengeResponse h, State.closeChallenge_waiting rfl hopen]

/-- The response that completes the pair decides the challenge. -/
theorem exec_challengeResponse_second {c : Challenge} {i : ShcId} {ra rb : Bool} (h : s.pair.challenge = some c) (b right : Bool)
    (hactive : s.pair.active = some i) (ha : (c.responded b right).respA = some ra) (hb : (c.responded b right).respB = some rb) :
    exec (.challengeResponse b right) s = .next (s.ends (((s.outside.sendResponse b).modPair
      (fun p => { p with challenge := some (c.responded b right) })).applyOutcome (if i.isB then outcomeOf rb ra else outcomeOf ra rb))) := by
  have hsent : (s.outside.sendResponse b).pair.active = some i := (State.sendResponse_pair b).1.trans hactive
  rw [exec_challengeResponse h, State.closeChallenge_decided rfl (State.modPair_active hsent) ha hb]

theorem Challenge.responded_late (c : Challenge) :
    (c.responded false false).responded true false = { c with respA := some (c.respA.getD false), respB := some (c.respB.getD false) } := by
  rcases c with ⟨_, _, _, _, _, _ | _, _ | _⟩ <;> rfl

/-! What a command leaves of the pair as it begins: the order alone moves on. -/

theorem State.begun_active : s.begun.pair.active = s.pair.active := (congrArg (fun t : State => t.pair.active) s.begun_offHost :)

theorem State.begun_masterDiff : s.begun.pair.masterDiff = s.pair.masterDiff :=
  (congrArg (fun t : State => t.pair.masterDiff) s.begun_offHost :)

theorem State.begun_digestWait : s.begun.pair.digestWait = s.pair.digestWait :=
  (congrArg (fun t : State => t.pair.digestWait) s.begun_offHost :)

theorem State.begun_challenge : s.begun.pair.challenge = s.pair.challenge :=
  (congrArg (fun t : State => t.pair.challenge) s.begun_offHost :)

theorem State.begun_skew : s.begun.pair.skew = s.pair.skew := (congrArg (fun t : State => t.pair.skew) s.begun_offHost :)

theorem State.begun_epochBegun_compares : s.begun.epochBegun.compares =
    (s.pair.active.isSome && s.follower.isSome && !(s.pair.skew && s.fw.step != 6) && s.pair.challenge.isNone) := by
  rw [State.epochBegun_compares, State.begun_active, State.begun_follower, State.begun_skew, State.begun_challenge, State.begun_fw]

end

/-- Settles O43: the epoch's digests and what they ask for, the late digest, and the outcome of a challenge. -/
theorem wardenComparesAndChallenges : Obligations.WardenComparesAndChallenges := by
  refine ⟨⟨fun a b s v w hv hw hmasters => ?_, fun s b h hactive hfollower => State.compareMasters_apart h hactive hfollower,
      fun s => ⟨exec_digestLate_idle, fun e t own h hpair => exec_digestLate h hpair⟩⟩,
    fun s => ⟨exec_challenge_idle, fun c r h ha hb => ?_, fun c ra rb h ha hb => ?_, fun c ra rb h ha hb => ?_, fun c t h ht => ?_⟩,
    rfl, rfl, rfl, rfl⟩
  · have hmasters' : s.begun.pair.masterDiff.natAbs ≤ 10 := by rwa [State.begun_masterDiff]
    obtain rfl : v = s.begun.epochBegun := hv
    obtain rfl : w = s.begun.digestsSent a b := hw
    refine ⟨fun hactive hfollower hchallenge hskew => ?_, fun halone late => ?_⟩
    · have hpair : s.begun.epochBegun.compares = true := by
        rw [State.begun_epochBegun_compares]
        rcases hskew with h | h <;> simp [hactive, hfollower, hchallenge, h]
      have hepoch : exec (.wardenEpoch a b false) s = _ := (exec_wardenEpoch a b false).trans (by rw [State.wardenEpoch_pair hmasters' hpair])
      refine ⟨fun hab hstep => ?_, fun hab hstep => ?_, fun hab => ?_, fun hwait hi => ?_, fun hwait hi => ?_⟩
      · simpa [hab, hstep] using hepoch
      · simpa [hab, hstep] using hepoch
      · simpa [hab] using hepoch
      · rw [exec_wardenEpoch, State.wardenEpoch_late hmasters' hpair (by rwa [State.begun_digestWait]) (State.begun_active.trans hi)]
        rfl
      · rw [exec_wardenEpoch, State.wardenEpoch_late hmasters' hpair (by rwa [State.begun_digestWait]) (State.begun_active.trans hi)]
        rfl
    · have hnone : s.begun.epochBegun.compares = false := by
        rw [State.begun_epochBegun_compares]
        rcases halone with h | h | h | ⟨h, hstep⟩
        · simp [h]
        · simp [h]
        · simp [Option.isNone_eq_false_iff.2 h]
        · simp [h, hstep]
      rw [exec_wardenEpoch, State.wardenEpoch_alone hmasters' hnone]
  · rw [← Challenge.responded_a ha, ← Challenge.responded_b hb]
    exact ⟨exec_challengeResponse_first h false r (.inr (by rw [Challenge.responded_a ha]; exact hb)),
      exec_challengeResponse_first h true r (.inl (by rw [Challenge.responded_b hb]; exact ha))⟩
  · have hdone (i : ShcId) (hactive : s.pair.active = some i) := exec_challengeResponse_second (ra := ra) (rb := rb) h true rb hactive
      (by rw [Challenge.responded_b hb]; exact ha) (by rw [Challenge.responded_b hb])
    rw [← Challenge.responded_b hb]
    exact ⟨hdone .a, hdone .b⟩
  · have hdone (i : ShcId) (hactive : s.pair.active = some i) := exec_challengeResponse_second (ra := ra) (rb := rb) h false ra hactive
      (by rw [Challenge.responded_a ha]) (by rw [Challenge.responded_a ha]; exact hb)
    rw [← Challenge.responded_a ha]
    exact ⟨hdone .a, hdone .b⟩
  · have hdone (i : ShcId) (hactive : s.pair.active = some i) : exec .challengeTimeout s = .next (s.ends (t.applyOutcome
        (if i.isB then outcomeOf (c.respB.getD false) (c.respA.getD false) else outcomeOf (c.respA.getD false) (c.respB.getD false)))) := by
      rw [exec_challengeTimeout h, Challenge.responded_late, State.closeChallenge_decided (i := i) rfl (by exact hactive) rfl rfl, ht]
      rfl
    exact ⟨hdone .a, hdone .b⟩

end Sys2Proof.Machine
end

section
/-!
A reset Shepherd's return (R352, R353), its timeout, and the resets while both are lost (R357).
-/
namespace Sys2Proof.Machine

section

variable {s : State} {b : Bool}

/-! The return of a Shepherd that is being reset. -/

/-- The state in which a Shepherd follows again, with the running image and the order level. -/
def State.rejoined (s : State) (b : Bool) : State :=
  (s.modShc b (fun x => { x with
    status := .following, lost := false, lastHb := s.tbase
    image := match s.fw.running with | some i => some i | none => x.image })).modPair
    (fun p => { p with held := [], processed := p.order, followed := p.order, released := p.order })

/-- What the result of its self-test does for a Shepherd that is being reset. -/
def State.rejoin (s : State) (b ok : Bool) : State :=
  if !ok then s.modShc b (fun x => { x with status := .outOfService })
  else if !(s.firmware && s.activeShc == some (!b)) then s
  else s.rejoined b

theorem exec_shepherdRejoin (hstatus : (s.pair.shc b).status = .resetting) (hrail : (s.field (Config.shcField b)).infraPg = true)
    (hupdate : s.fw.step ≠ 3 ∨ s.newShc ≠ b) (ok : Bool) :
    exec (.shepherdRejoin b ok) s = .next (s.ends (s.outside.rejoin b ok)) :=
  calc exec (.shepherdRejoin b ok) s = execShepherdRejoin b ok s := rfl
    _ = .next _ := actOutside_answers (by
      have hrail' : (s.outside.field (Config.shcField b)).infraPg = true := hrail
      have hupdate' : ¬(s.fw.step = 3 ∧ s.outside.newShc = b) := by
        rintro ⟨hstep, hnew⟩
        exact hupdate.elim (· hstep) (· hnew)
      simp only [State.outside_pair, hstatus, hrail', State.outside_fw, hupdate', bne_self_eq_false, Bool.false_and, Bool.not_true,
        Bool.or_self, Bool.false_eq_true, if_false]
      rfl)

theorem exec_shepherdRejoin_other (h : (s.pair.shc b).status ≠ .resetting) (h' : (s.pair.shc b).status ≠ .catchingUp) (ok : Bool) :
    exec (.shepherdRejoin b ok) s = .next (s.ends s.outside) :=
  calc exec (.shepherdRejoin b ok) s = execShepherdRejoin b ok s := rfl
    _ = .next _ := actOutside_answers (by simp [h, h'])

theorem exec_rejoinTimeout : exec (.rejoinTimeout b) s = .next (s.ends
    (if (s.pair.shc b).status = .resetting ∨ (s.pair.shc b).status = .catchingUp then
      (s.outside.advanceTo ((s.pair.shc b).resetAt + 100000000)).modShc b (fun x => { x with status := .outOfService }) else s.outside)) := rfl

/-! The resets while both Shepherds are lost. -/

/-- A Shepherd is reset, unless it is out of service or its field has no infrastructure rail. -/
def State.orderedReset (s : State) (b : Bool) : State :=
  if (s.pair.shc b).status = .outOfService ∨ !(s.field (Config.shcField b)).infraPg then s
  else (s.modShc b (fun x => { x with status := .resetting, gate := false, resetAt := s.tbase, nmi := none, trace := {} })).sig .shcReset (b2n b) 1

/-- Both Shepherds have been ordered to reset, SHC-A first. -/
def State.orderedResets (s : State) : State := (s.orderedReset false).orderedReset true

theorem exec_shepherdResetOrder_idle (h : s.pair.bothLost = false) : exec .shepherdResetOrder s = .next (s.ends s.outside) :=
  calc exec .shepherdResetOrder s = execShepherdResetOrder s := rfl
    _ = .next _ := actOutside_answers (if_pos (by simp [h]))

theorem exec_shepherdResetOrder (h : s.pair.bothLost = true) (hscan : s.life.scanOpen = false) :
    exec .shepherdResetOrder s = .next (s.ends ((s.outside.advanceTo
      (s.pair.lostAt + ((s.tbase - s.pair.lostAt) / 1000000000 + 1) * 1000000000)).orderedResets)) :=
  calc exec .shepherdResetOrder s = execShepherdResetOrder s := rfl
    _ = .next _ := actOutside_answers (by
      rw [if_neg (by simp [h, hscan])]
      rfl)

theorem State.orderedReset_fields : (s.orderedReset b).fields = s.fields := by
  unfold State.orderedReset
  split
  · rfl
  · cases b <;> rfl

theorem State.orderedReset_tbase : (s.orderedReset b).tbase = s.tbase := by
  unfold State.orderedReset
  split
  · rfl
  · cases b <;> rfl

theorem State.orderedReset_other : (s.orderedReset b).pair.shc (!b) = s.pair.shc (!b) := by
  unfold State.orderedReset
  split
  · rfl
  · cases b <;> rfl

theorem State.orderedReset_self (h : (s.pair.shc b).status ≠ .outOfService) (hrail : (s.field (Config.shcField b)).infraPg = true) :
    (s.orderedReset b).pair.shc b = { s.pair.shc b with status := .resetting, gate := false, resetAt := s.tbase, nmi := none, trace := {} } := by
  rw [State.orderedReset, if_neg (by simp [h, hrail])]
  cases b <;> rfl

theorem State.orderedReset_out (h : (s.pair.shc b).status = .outOfService) : s.orderedReset b = s := if_pos (.inl h)

theorem State.orderedResets_tbase : s.orderedResets.tbase = s.tbase := State.orderedReset_tbase.trans State.orderedReset_tbase

theorem State.orderedReset_field (c : Bool) (f : Nat) : (s.orderedReset c).field f = s.field f := by
  rw [State.field, State.field, State.orderedReset_fields]

theorem State.orderedResets_self (h : (s.pair.shc b).status ≠ .outOfService) (hrail : (s.field (Config.shcField b)).infraPg = true) :
    s.orderedResets.pair.shc b = { s.pair.shc b with status := .resetting, gate := false, resetAt := s.tbase, nmi := none, trace := {} } := by
  cases b with
  | false => exact (State.orderedReset_other (b := true)).trans (State.orderedReset_self h hrail)
  | true =>
    have hother : (s.orderedReset false).pair.shc true = s.pair.shc true := State.orderedReset_other (b := false)
    have hself := State.orderedReset_self (s := s.orderedReset false) (b := true) (by rwa [hother]) (by rwa [State.orderedReset_field])
    rwa [hother, State.orderedReset_tbase] at hself

theorem State.orderedResets_out (h : (s.pair.shc b).status = .outOfService) : s.orderedResets.pair.shc b = s.pair.shc b := by
  cases b with
  | false => exact (State.orderedReset_other (b := true)).trans (congrArg (fun t : State => t.pair.shc false) (State.orderedReset_out h))
  | true =>
    have hother : (s.orderedReset false).pair.shc true = s.pair.shc true := State.orderedReset_other (b := false)
    exact (congrArg (fun t : State => t.pair.shc true) (State.orderedReset_out (hother ▸ h))).trans hother

end

/-- Settles O44: the return and the timeout of a Shepherd that is being reset, and the resets while both are lost. -/
theorem shepherdsRejoinOrStayOut : Obligations.ShepherdsRejoinOrStayOut := by
  refine ⟨fun b s => ⟨fun hstatus hrail hupdate => ⟨fun hfw hactive => ?_, fun hno => ?_, exec_shepherdRejoin hstatus hrail hupdate false⟩,
      fun h h' => ⟨exec_shepherdRejoin_other h h', ?_⟩, fun h => ?_, exec_shepherdResetOrder_idle⟩,
    fun b s h hscan => ⟨_, exec_shepherdResetOrder h hscan, State.orderedResets_tbase, fun hin hrail => ?_, fun hout => State.orderedResets_out hout⟩⟩
  · have hactive' : (s.outside.firmware && s.outside.activeShc == some (!b)) = true := by
      rw [show s.outside.firmware = true from hfw, show s.outside.activeShc = some (!b) from hactive, beq_self_eq_true]
      rfl
    have hrejoin : s.outside.rejoin b true = s.outside.rejoined b := by
      simp only [State.rejoin, hactive', Bool.not_true, Bool.false_eq_true, if_false]
    refine ⟨_, exec_shepherdRejoin hstatus hrail hupdate true, ?_⟩
    rw [hrejoin]
    cases b <;> exact ⟨rfl, rfl, fun img himg => by simp [State.rejoined, State.modShc, State.modPair, Pair.shc, himg], rfl, rfl, rfl, rfl, rfl⟩
  · have hactive' : (s.outside.firmware && s.outside.activeShc == some (!b)) = false := by
      rcases hno with h | h
      · rw [show s.outside.firmware = false from h, Bool.false_and]
      · rw [beq_eq_false_iff_ne.2 (show s.outside.activeShc ≠ some (!b) from h), Bool.and_false]
    rw [exec_shepherdRejoin hstatus hrail hupdate true]
    simp only [State.rejoin, hactive', Bool.not_true, Bool.not_false, Bool.false_eq_true, if_false, if_true]
  · rw [exec_rejoinTimeout, if_neg (by simp [h, h'])]
  · rw [exec_rejoinTimeout, if_pos h]
    rfl
  · obtain hself := State.orderedResets_self (s := s.outside.advanceTo (s.pair.lostAt + ((s.tbase - s.pair.lostAt) / 1000000000 + 1) * 1000000000))
      (b := b) hin hrail
    rw [hself]
    exact ⟨rfl, rfl, rfl, State.orderedResets_tbase.symm⟩

end Sys2Proof.Machine
end

section
/-!
The watchdogs and the traps of the Shepherds (R354, R359), a takeover of the event buffers (R276, R355), and the masters' messages (R31).
-/
namespace Sys2Proof.Machine

section

variable {s : State} {b : Bool}

/-! Watchdogs and traps. -/

theorem exec_fwWatchdog (hbeats : (s.pair.shc b).beats = true) (hfw : s.start.fwRun = true) (core : Nat) :
    exec (.fwWatchdog b core) s = .next (s.ends ((s.outside.selfLost b).report 0x4004 (shcUid b)
      ([BitVec.ofNat 8 core, 0, 0, 0] ++ le 4 (s.pair.shc b).tracePoint))) :=
  calc exec (.fwWatchdog b core) s = execFwWatchdog b core s := rfl
    _ = .next _ := by
      rw [execFwWatchdog]
      refine actOutside_answers ?_
      rw [if_neg (by simp [hbeats, hfw])]

theorem exec_nmiReturn (h : (s.pair.shc b).nmi.isSome = true) :
    exec (.nmiReturn b) s = .next (s.ends ((if s.trace.mask.getLsbD 2 then
      ({ s.outside with free := s.free + 1 } : State).traceOne b 2 ((Config.nmiState s.free).take 2040) else s.outside).modShc b
        (fun x => { x with nmi := none }))) :=
  calc exec (.nmiReturn b) s = execNmiReturn b s := rfl
    _ = .next _ := actOutside_answers (if_neg (by simpa [Option.ne_none_iff_isSome] using h))

theorem exec_nmiOverrun {t : Nat} (h : (s.pair.shc b).nmi = some t) (core : Nat) :
    exec (.nmiOverrun b core) s = .next (s.ends (((s.outside.advanceTo (t + 100000)).modShc b (fun x => { x with nmi := none })).report 0x4004
      (shcUid b) ([BitVec.ofNat 8 core, 1, 0, 0] ++ le 4 (s.pair.shc b).tracePoint))) :=
  calc exec (.nmiOverrun b core) s = execNmiOverrun b core s := rfl
    _ = .next _ := actOutside_answers (by simp only [State.outside_pair, h])

theorem exec_nmi_idle (h : (s.pair.shc b).nmi = none) (core : Nat) :
    exec (.nmiReturn b) s = .next (s.ends s.outside) ∧ exec (.nmiOverrun b core) s = .next (s.ends s.outside) :=
  ⟨calc exec (.nmiReturn b) s = execNmiReturn b s := rfl
      _ = .next _ := actOutside_answers (if_pos (by simp [h])),
    calc exec (.nmiOverrun b core) s = execNmiOverrun b core s := rfl
      _ = .next _ := actOutside_answers (by simp only [State.outside_pair, h])⟩

/-! A takeover. -/

theorem exec_takeover {f : Nat} (hf : f < Config.fields) (hfw : s.firmware = true) (hset : (s.field f).tbaseSet = true) :
    exec (.takeover f) s = .next (s.ends ((s.begun.replayBuffer f).noteSwitch)) :=
  calc exec (.takeover f) s = execTakeover f s := rfl
    _ = .next _ := actIf_pos s _ _ (by simp [hf, hfw, hset])

theorem exec_takeover_idle {f : Nat} (h : s.firmware = false ∨ (s.field f).tbaseSet = false) :
    exec (.takeover f) s = .next (s.ends s.begun) :=
  calc exec (.takeover f) s = execTakeover f s := rfl
    _ = .next _ := actIf_neg s _ _ (by rcases h with h | h <;> simp [h])

theorem State.begun_swDue : s.begun.pair.swDue = s.pair.swDue := (congrArg (fun t : State => t.pair.swDue) s.begun_offHost :)

theorem State.replayBuffer_of_empty {f : Nat} (h : (s.field f).buffer = []) : s.replayBuffer f = s := if_pos (by simp [h])

/-! The masters' messages to the Drovers. -/

/-- The fields whose Drover has no TBASE yet and can take it. -/
def State.unsetDrovers (s : State) : List Nat :=
  (List.range Config.fields).filter (fun f => (s.field f).drover && !(s.field f).tbaseSet && (s.field f).infraPg)

/-- Every Drover that had none takes TBASE, and its delay is measured. -/
def State.tbaseGiven (s : State) : State :=
  (s.forEach s.unsetDrovers (fun s f => s.modField f (fun fd => { fd with tbaseSet := true }))).measureDelay s.unsetDrovers

theorem exec_tbaseSync (h : s.activeShc.isSome = true) (diff : Int) :
    exec (.tbaseSync diff) s = .next (s.ends ((s.begun.toDrovers .tbaseSync s.tbase).tbaseGiven.modPair (fun p => { p with masterDiff := diff }))) :=
  calc exec (.tbaseSync diff) s = execTbaseSync diff s := rfl
    _ = .next _ := actIf_pos s _ _ h

theorem exec_tbaseSync_alone (h : s.activeShc = none) (diff : Int) : exec (.tbaseSync diff) s = .next (s.ends s.begun) :=
  calc exec (.tbaseSync diff) s = execTbaseSync diff s := rfl
    _ = .next _ := actIf_neg s _ _ (by simp [h])

theorem uidLevel_shcUid : uidLevel (shcUid b) = 6 := by
  refine (mkUid_fields (by omega) ?_ (by omega) (by omega) (by omega) ?_).1
  · cases b <;> decide
  · cases b <;> decide

theorem State.nextMeshSn_fields {src : Uid} (h : uidLevel src ≠ 5) : (s.nextMeshSn src).1.fields = s.fields := by
  rw [State.nextMeshSn, if_neg (fun hdrover => h hdrover.1)]
  rfl

/-- Only a Drover's message counts in its field. -/
theorem State.message_fields {src : Uid} (h : uidLevel src ≠ 5) (d : Uid) (kind : MeshKind) (arg : Nat) :
    (s.message src d kind arg).fields = s.fields := by
  rw [← State.nextMeshSn_fields (s := s) h, State.message]
  generalize s.nextMeshSn src = numbered
  dsimp only
  split
  · exact (congrArg State.fields (State.sendAll_unrecorded ..) :)
  · rfl

theorem State.broadcast_fields {src : Uid} (h : uidLevel src ≠ 5) (dsts : List Uid) (kind : MeshKind) (arg : Nat) :
    (s.broadcast src dsts kind arg).fields = s.fields :=
  s.forEach_frame State.fields dsts _ (by exact fun t d => State.message_fields h d kind arg)

theorem State.toDrovers_fields (kind : MeshKind) (arg : Nat) : (s.toDrovers kind arg).fields = s.fields := by
  unfold State.toDrovers
  split
  next b _ => exact State.broadcast_fields (by rw [uidLevel_shcUid]; omega) s.drovers kind arg
  next => rfl

theorem State.toDrovers_offMesh (kind : MeshKind) (arg : Nat) : (s.toDrovers kind arg).offMesh = s.offMesh := by
  unfold State.toDrovers
  split
  · exact State.broadcast_offMesh ..
  · rfl

theorem State.tbaseGiven_keeps : { s.tbaseGiven with fields := s.fields } = s :=
  (State.forEach_frame _ (fun t : State => { t with fields := s.fields }) _ _ (by exact fun _ _ => rfl)).trans
    (State.forEach_frame _ (fun t : State => { t with fields := s.fields }) _ _ (by exact fun _ _ => rfl))

theorem State.measureDelay_tbaseSet (fs : List Nat) (f : Nat) : ((s.measureDelay fs).field f).tbaseSet = (s.field f).tbaseSet :=
  s.forEach_frame (fun t : State => (t.field f).tbaseSet) fs _ (by
    intro t g
    rw [State.modField_get]
    split
    · next h => rw [h]
    · rfl)

theorem State.setAll_tbaseSet (fs : List Nat) (f : Nat) :
    ((s.forEach fs (fun s f => s.modField f (fun fd => { fd with tbaseSet := true }))).field f).tbaseSet
      = ((s.field f).tbaseSet || fs.contains f) := by
  induction fs generalizing s with
  | nil => simp [State.forEach]
  | cons g gs ih =>
    refine ih.trans ?_
    rw [State.modField_get]
    by_cases h : f = g
    · simp [h]
    · simp [h]

theorem State.tbaseGiven_tbaseSet {f : Nat} (hf : f < Config.fields) (hdrover : (s.field f).drover = true)
    (hrail : (s.field f).infraPg = true) : (s.tbaseGiven.field f).tbaseSet = true := by
  rw [State.tbaseGiven, State.measureDelay_tbaseSet, State.setAll_tbaseSet]
  cases hset : (s.field f).tbaseSet with
  | true => rfl
  | false =>
    have hmem : f ∈ s.unsetDrovers := by
      simp only [State.unsetDrovers, List.mem_filter, List.mem_range, hf, hdrover, hset, hrail]
      exact ⟨trivial, rfl⟩
    simpa using hmem

/-- The messages of a synchronisation and what they set: nothing outside the fields, the mesh, the pair and the outputs. -/
theorem State.tbaseSync_keeps (diff : Int) (arg : Nat) :
    ({ (s.begun.toDrovers .tbaseSync arg).tbaseGiven.modPair (fun p => { p with masterDiff := diff }) with
      fields := s.fields, mesh := s.mesh, pair := s.pair, out := s.out } : State) = s := by
  have hgiven := (s.begun.toDrovers .tbaseSync arg).tbaseGiven_keeps
  have hmesh := s.begun.toDrovers_offMesh .tbaseSync arg
  calc _ = ({ ({ (s.begun.toDrovers .tbaseSync arg).tbaseGiven with fields := (s.begun.toDrovers .tbaseSync arg).fields } : State) with
      fields := s.fields, mesh := s.mesh, pair := s.pair, out := s.out } : State) := rfl
    _ = { (s.begun.toDrovers .tbaseSync arg).offMesh with fields := s.fields, mesh := s.mesh, pair := s.pair, out := s.out } := by
      rw [hgiven]
      rfl
    _ = s := by
      rw [hmesh]
      rfl

end

/-- Settles O45: the watchdog, the ends of a trap, a takeover's replay and the masters' messages to the Drovers. -/
theorem watchdogsTrapsAndTakeovers : Obligations.WatchdogsTrapsAndTakeovers := by
  refine ⟨fun b core s => ⟨fun hbeats hfw => exec_fwWatchdog hbeats hfw core, fun h hoff => ?_, fun h hon => ?_, fun t h => exec_nmiOverrun h core,
      fun h => exec_nmi_idle h core⟩,
    fun f s hf hfw hset hempty hswitch => ?_, fun f s hf hfw hset => exec_takeover hf hfw hset, fun f s h => exec_takeover_idle h,
    fun diff s h => ⟨_, exec_tbaseSync h diff, rfl, fun f hf hdrover hrail => ?_, ?_, s.tbaseSync_keeps diff s.tbase⟩,
    fun diff s h => exec_tbaseSync_alone h diff⟩
  · rw [exec_nmiReturn h, if_neg (by rw [hoff]; exact Bool.false_ne_true)]
  · rw [exec_nmiReturn h, if_pos hon]
  · rw [exec_takeover hf hfw hset, State.replayBuffer_of_empty (s := s.begun) hempty, State.noteSwitch_of_none _ (State.begun_swDue.trans hswitch)]
  · have hfield : (s.begun.toDrovers .tbaseSync s.tbase).field f = s.field f := by
      rw [State.field, State.toDrovers_fields]
      rfl
    exact State.tbaseGiven_tbaseSet hf (hfield ▸ hdrover) (hfield ▸ hrail)
  · exact (congrArg State.out (State.tbaseGiven_keeps (s := s.begun.toDrovers .tbaseSync s.tbase)) :)

end Sys2Proof.Machine
end

section
/-!
The frames that leave by a link tap (R205 to R208): their flags, their trackers and their trailers (R209, R210).
-/
namespace Sys2Proof.Machine

section

variable {s : State} {t i : Nat}

theorem State.tapPowered_of_engineUp (h : s.engineUp t = true) : s.tapPowered t = true := by
  simp only [State.engineUp, Bool.and_eq_true] at h
  exact h.1.1

/-! The start of a frame. -/

theorem exec_txFrameStart_other (h : s.tapPowered t = true) {fd : BitVec 192} (hkind : fdKind fd ≠ 1) :
    exec (.txFrameStart t fd) s = .next (s.ends (s.begun.modTap t (fun x => { x with tx := none }))) :=
  calc exec (.txFrameStart t fd) s = execTxFrameStart t fd s := rfl
    _ = .next _ := actIf_answers h (if_pos hkind)

theorem exec_txFrameStart_bypass (h : s.tapPowered t = true) {fd : BitVec 192} (hkind : fdKind fd = 1) (hup : s.engineUp t = false) :
    exec (.txFrameStart t fd) s = .next (s.ends
      (((s.begun.modTap t (fun x => { x with tx := some { fd := fd } })).tapCount t 1).sig .ltpTxFlag t 2)) :=
  calc exec (.txFrameStart t fd) s = execTxFrameStart t fd s := rfl
    _ = .next _ := actIf_answers h (by
      have hup' : s.begun.engineUp t = false := hup
      rw [if_neg (not_not.2 hkind), if_pos (by rw [hup']; rfl)])

theorem exec_txFrameStart {u : State} {tr : Option Nat} (hup : s.engineUp t = true) {fd : BitVec 192} (hkind : fdKind fd = 1)
    (htaken : (s.begun.raiseStep (fdEpoch fd) (fdStep fd)).takeTracker t (fdColl fd) (fdEpoch fd) (fdStep fd) = (u, tr)) :
    exec (.txFrameStart t fd) s = .next (s.ends (
      let m := u.job.active && bit u.job.flags 0 && tr.isSome
      ((u.tapCount t (if m then 0 else 1)).modTap t (fun x => { x with tx := some { fd := fd, tracker := tr, marked := m } })).sig .ltpTxFlag t
        (if m then 1 else 2))) :=
  calc exec (.txFrameStart t fd) s = execTxFrameStart t fd s := rfl
    _ = .next _ := actIf_answers (State.tapPowered_of_engineUp hup) (by
      have hup' : s.begun.engineUp t = true := hup
      rw [if_neg (not_not.2 hkind), if_neg (by rw [hup']; exact Bool.false_ne_true)]
      dsimp only
      rw [htaken])

theorem exec_trackerIdle {e : EmTracker} (hup : s.engineUp t = true) (h : assoc (s.tap t).trackers i = some e) :
    exec (.trackerIdle t i) s = .next (s.ends
      ((s.begun.advanceTo (e.lastAt + s.earmarks.idleUs * 1000)).releaseTrackers t (fun j _ => j == i))) :=
  calc exec (.trackerIdle t i) s = execTrackerIdle t i s := rfl
    _ = .next _ := actIf_answers hup (by simp only [State.begun_tap, h]; rfl)

/-! The end of a frame. -/

/-- The tracker that a frame still holds, with its number. -/
def State.heldTracker (s : State) (t : Nat) (x : TxFrame) : Option (Nat × EmTracker) :=
  match x.tracker with
  | some i => (assoc (s.tap t).trackers i).map (fun e => (i, e))
  | none => none

/-- The digest that a frame's trailer carries. -/
def TxFrame.mark (x : TxFrame) (data : List Byte) : BitVec 64 :=
  if x.marked then segmentDigest (fdTensor x.fd) (fdEpoch x.fd) (fdStep x.fd) (fdOffset x.fd) data else 0

/-- A working engine ends a frame: its trailer goes out, and its tracker counts it. -/
def State.endFrame (s : State) (t : Nat) (x : TxFrame) (data : List Byte) (held : Option (Nat × EmTracker)) : State :=
  let sn := if x.marked then (match held with | some (_, e) => e.frames | none => 0) else 0
  let s := s.drive (.trailer t (trailerBytes (x.mark data).toNat s.emfVersion (if x.marked then x.tracker.getD 0xFF else 0xFF)
    (if x.marked then 1 else 2) data.length sn))
  match held with
  | none => s
  | some (i, e) =>
    let e := { e with frames := e.frames + 1, bytes := e.bytes + data.length, xor_ := e.xor_ ^^^ x.mark data, lastAt := s.tbase }
    s.modTap t (fun y => { y with trackers := assocSet y.trackers i e })

theorem exec_txFrameEnd_idle (h : s.tapPowered t = true) (htx : (s.tap t).tx = none) (data : List Byte) :
    exec (.txFrameEnd t data) s = .next (s.ends s.begun) :=
  calc exec (.txFrameEnd t data) s = execTxFrameEnd t data s := rfl
    _ = .next _ := actIf_answers h (by simp only [State.begun_tap, htx])

theorem State.engineUp_txDone : (s.modTap t (fun y => { y with tx := none })).engineUp t = s.engineUp t := by
  simp only [State.engineUp, State.modTap_get, if_true]
  rfl

theorem exec_txFrameEnd_bypass {x : TxFrame} (h : s.tapPowered t = true) (htx : (s.tap t).tx = some x) (hup : s.engineUp t = false)
    (data : List Byte) :
    exec (.txFrameEnd t data) s = .next (s.ends ((s.begun.modTap t (fun y => { y with tx := none })).drive (.trailer t bypassTrailer))) :=
  calc exec (.txFrameEnd t data) s = execTxFrameEnd t data s := rfl
    _ = .next _ := actIf_answers h (by
      have hup' : s.begun.engineUp t = false := hup
      simp only [State.begun_tap, htx, State.engineUp_txDone, hup', Bool.not_false, if_true])

theorem State.heldTracker_txDone (x : TxFrame) : (s.modTap t (fun y => { y with tx := none })).heldTracker t x = s.heldTracker t x := by
  simp only [State.heldTracker, State.modTap_get, if_true]

theorem exec_txFrameEnd {x : TxFrame} (hup : s.engineUp t = true) (htx : (s.tap t).tx = some x) (data : List Byte) :
    exec (.txFrameEnd t data) s = .next (s.ends ((s.begun.modTap t (fun y => { y with tx := none })).endFrame t x
      (fit (128 * ceilDiv data.length 128) data) (s.heldTracker t x))) :=
  calc exec (.txFrameEnd t data) s = execTxFrameEnd t data s := rfl
    _ = .next _ := actIf_answers (State.tapPowered_of_engineUp hup) (by
      have hup' : s.begun.engineUp t = true := hup
      rw [show s.heldTracker t x = s.begun.heldTracker t x from rfl, ← State.heldTracker_txDone]
      simp only [State.begun_tap, htx, State.engineUp_txDone, hup', Bool.not_true, Bool.false_eq_true, if_false]
      rfl)

theorem State.heldTracker_of_some {x : TxFrame} (htr : x.tracker = some i) :
    s.heldTracker t x = (assoc (s.tap t).trackers i).map (fun e => (i, e)) := by
  simp only [State.heldTracker, htr]

theorem State.heldTracker_of_none {x : TxFrame}
    (htr : x.tracker = none ∨ ∃ i, x.tracker = some i ∧ assoc (s.tap t).trackers i = none) : s.heldTracker t x = none := by
  rcases htr with h | ⟨i, h, hfree⟩
  · simp only [State.heldTracker, h]
  · rw [State.heldTracker_of_some h, hfree, Option.map_none]

theorem trailerBytes_length (a b c d e g : Nat) : (trailerBytes a b c d e g).length = 64 := by
  simp only [trailerBytes, List.length_append, le_length]
  rfl

end

/-- Settles O46: the flag and the tracker at a frame's start, the trailer and the tracker's counts at its end. -/
theorem engineMarksOutgoingFrames : Obligations.EngineMarksOutgoingFrames := by
  refine ⟨fun t fd s => ⟨fun h hkind => exec_txFrameStart_other h hkind, fun h hkind hup => exec_txFrameStart_bypass h hkind hup, fun u tr m hup hkind htaken hm => ?_, fun i e hup h => exec_trackerIdle hup h⟩,
    fun t data s h htx => exec_txFrameEnd_idle h htx data, fun t data s x h htx hup => exec_txFrameEnd_bypass h htx hup data,
    fun t data s x hup htx hmarked htr => ?_, fun t i data d s x e e' m hup htx hmarked htr he hd hm he' => ?_,
    fun t i data s x e hup htx hmarked htr he => ?_, fun t i data d s x hup htx hmarked htr hfree hd => ?_, rfl, trailerBytes_length⟩
  · rw [exec_txFrameStart hup hkind htaken, hm]
  · rw [exec_txFrameEnd hup htx, State.heldTracker_of_none htr]
    simp only [State.endFrame, TxFrame.mark, hmarked, Bool.false_eq_true, if_false, fit_length]
    rfl
  · rw [exec_txFrameEnd hup htx, State.heldTracker_of_some htr, he, he', hm, ← hd]
    simp only [State.endFrame, TxFrame.mark, hmarked, if_true, htr]
    rfl
  · rw [exec_txFrameEnd hup htx, State.heldTracker_of_some htr, he]
    have hxor : e.xor_ ^^^ (0 : BitVec 64) = e.xor_ := BitVec.xor_zero
    simp only [Option.map_some, State.endFrame, TxFrame.mark, hmarked, Bool.false_eq_true, if_false, fit_length, hxor]
    rfl
  · rw [exec_txFrameEnd hup htx, State.heldTracker_of_some htr, hfree, ← hd]
    simp only [State.endFrame, TxFrame.mark, hmarked, if_true, htr]
    rfl

end Sys2Proof.Machine
end

section
/-!
The verdict on a frame that comes in (R211 to R214), and the service frames (R216, R217).
-/
namespace Sys2Proof.Machine

/-! The verdicts. -/

theorem epochVerdict_same (a : Nat) : epochVerdict a a = none := if_pos (by omega)

theorem epochVerdict_behind {a b : Nat} (h : 1 ≤ (a + 65536 - b) % 65536) (h' : (a + 65536 - b) % 65536 ≤ 32767) :
    epochVerdict a b = some .stale := by
  simp only [epochVerdict]
  rw [if_neg (by omega), if_pos h']

theorem epochVerdict_ahead {a b : Nat} (h : 32768 ≤ (a + 65536 - b) % 65536) : epochVerdict a b = some .early := by
  simp only [epochVerdict]
  rw [if_neg (by omega), if_neg (by omega)]

section

variable {s : State} {t : Nat} {fd : BitVec 192} {data tr : List Byte}

theorem State.rxVerdict_of_epoch {v : RxVerdict} (h : epochVerdict s.job.epoch.toNat (fdEpoch fd) = some v) : s.rxVerdict t fd data tr = v := by
  simp only [State.rxVerdict, h]

theorem State.rxVerdict_of_present (h : fdEpoch fd = s.job.epoch.toNat) :
    s.rxVerdict t fd data tr = if fdKind fd = 0 then .ok else if fdKind fd = 3 then .bad
      else if s.engineUp t then contributionVerdict fd data tr else .unmarked := by
  simp only [State.rxVerdict, h, epochVerdict_same]

theorem contributionVerdict_flag (h : rd tr 10 1 ≠ fdFlag fd) : contributionVerdict fd data tr = .bad := by
  simp only [contributionVerdict]
  split_ifs
  · rfl
  · rfl

theorem contributionVerdict_unmarked (h : fdFlag fd = 2) (htr : rd tr 10 1 = 2) : contributionVerdict fd data tr = .unmarked := by
  simp [contributionVerdict, h, htr]

theorem contributionVerdict_marked (h : fdFlag fd = 1) (htr : rd tr 10 1 = 1) (hlen : rd tr 12 4 = data.length) :
    contributionVerdict fd data tr = .ok ↔ (segmentDigest (fdTensor fd) (fdEpoch fd) (fdStep fd) (fdOffset fd) data).toNat = rd tr 0 8 := by
  simp [contributionVerdict, h, htr, hlen]

/-! A frame that comes in. -/

/-- What a working engine does with its verdict on a frame. -/
def State.judged (u : State) (t : Nat) (fd : BitVec 192) (v : RxVerdict) : State :=
  if v = .bad then u.badFrame t fd
  else if (u.tap t).lastBad = some (fdKnown fd) ∧ v ≠ .stale ∧ v ≠ .early then u.modTap t (fun x => { x with badRun := 0 }) else u

theorem exec_inboundFrame_bypass (h : s.tapPowered t = true) (hkind : fdKind fd ≠ 2) (hup : s.engineUp t = false) :
    exec (.inboundFrame t fd data tr) s = .next (s.ends (if s.rxVerdict t fd data tr = .unmarked then (s.begun.sig .ltpVerdict t 2).tapCount t 4
      else s.begun.sig .ltpVerdict t (s.rxVerdict t fd data tr).code)) :=
  calc exec (.inboundFrame t fd data tr) s = execInboundFrame t fd data tr s := rfl
    _ = .next _ := actIf_answers (by simp [h, hkind]) (by
      have hup' : (s.begun.sig .ltpVerdict t (s.begun.rxVerdict t fd data tr).code).engineUp t = false := hup
      have hverdict : s.begun.rxVerdict t fd data tr = s.rxVerdict t fd data tr := rfl
      dsimp only
      rw [if_pos (by rw [hup']; rfl), hverdict]
      refine if_ctx_congr Iff.rfl (fun hv => ?_) fun _ => rfl
      rw [hv]
      rfl)

theorem exec_inboundFrame (hup : s.engineUp t = true) (hkind : fdKind fd ≠ 2) :
    exec (.inboundFrame t fd data tr) s = .next (s.ends
      (((s.begun.sig .ltpVerdict t (s.rxVerdict t fd data tr).code).tapCount t (2 + (s.rxVerdict t fd data tr).code)).judged t fd
        (s.rxVerdict t fd data tr))) :=
  calc exec (.inboundFrame t fd data tr) s = execInboundFrame t fd data tr s := rfl
    _ = .next _ := actIf_answers (by simp [State.tapPowered_of_engineUp hup, hkind]) (by
      have hup' : (s.begun.sig .ltpVerdict t (s.begun.rxVerdict t fd data tr).code).engineUp t = true := hup
      dsimp only
      rw [if_neg (by rw [hup']; exact Bool.false_ne_true)]
      rfl)

/-- Counting a frame leaves the descriptor of the last BAD one. -/
theorem State.tapCount_get (i q : Nat) : (s.tapCount t i).tap q =
    if q = t then { s.tap t with counters := bump (s.tap t).counters i 1 } else s.tap q := State.modTap_get ..

theorem State.tapCount_frame {γ : Type} (p : LinkTap → γ) (hp : ∀ x l, p { x with counters := l } = p x) (i q : Nat) :
    p ((s.tapCount t i).tap q) = p (s.tap q) := by
  rw [State.tapCount_get]
  split
  · next h => rw [hp, h]
  · rfl

/-! Service frames. -/

/-- The first frame that waits is taken, notices before others. -/
def LinkTap.sentFirst (x : LinkTap) : LinkTap :=
  if x.notices.isEmpty then { x with queue := x.queue.drop 1 } else { x with notices := x.notices.drop 1 }

theorem exec_serviceFrameGrant_idle (hup : s.engineUp t = true) (hlink : (s.tap t).linkUp = true) (hnotices : (s.tap t).notices = [])
    (hqueue : (s.tap t).queue = []) : exec (.serviceFrameGrant t) s = .next (s.ends s.begun) :=
  calc exec (.serviceFrameGrant t) s = execServiceFrameGrant t s := rfl
    _ = .next _ := actIf_answers (by simp [hup, hlink]) (by simp only [State.begun_tap, hnotices, hqueue, List.append_nil])

theorem exec_serviceFrameGrant {fr : SvcFrame} {l : List SvcFrame} {u : State} (hup : s.engineUp t = true) (hlink : (s.tap t).linkUp = true)
    (hwaiting : (s.tap t).notices ++ (s.tap t).queue = fr :: l)
    (hu : u = ((s.begun.modTap t LinkTap.sentFirst).drive (.frame t fr.bytes)).tapCount t 7) :
    exec (.serviceFrameGrant t) s = .next (s.ends (((if (u.tap t).queued = 0 then u.sig .ltpSvcTxReq t 0 else u).noteSent fr).retrainIfFree t)) :=
  calc exec (.serviceFrameGrant t) s = execServiceFrameGrant t s := rfl
    _ = .next _ := actIf_answers (by simp [hup, hlink]) (by
      simp only [State.begun_tap, hwaiting]
      rw [hu]
      rfl)

/-- Where a service frame goes: it is dropped when its check fails, delivered at its end, and forwarded or dropped on its way. -/
def State.frameTaken (s : State) (t : Nat) (fr : SvcFrame) (good : Bool) : State :=
  if !good then s.dropFrame t 0 fr.typ fr.src
  else if fr.routeIdx < fr.routeLen then
    let q := if fr.routeIdx < 16 then (fr.route.getD fr.routeIdx 0xFF).toNat else 0xFF
    if s.engineUp q && (s.tap q).linkUp then s.queueAny q { fr with routeIdx := fr.routeIdx + 1 } else s.dropFrame t 2 fr.typ fr.src
  else s.deliver t fr

theorem exec_serviceFrameReceived {b : List Byte} {fr : SvcFrame} {good : Bool} (hup : s.engineUp t = true) (hb : parseFrame b = (fr, good)) :
    exec (.serviceFrameReceived t b) s = .next (s.ends ((s.begun.tapCount t 8).frameTaken t fr good)) :=
  calc exec (.serviceFrameReceived t b) s = execServiceFrameReceived t b s := rfl
    _ = .next _ := actIf_answers hup (by
      dsimp only
      rw [hb]
      rfl)

theorem State.tapCount_engineUp (i q : Nat) : (s.tapCount t i).engineUp q = s.engineUp q := by
  have hin := State.tapCount_frame (s := s) (t := t) LinkTap.inService (by exact fun _ _ => rfl) i q
  have hreset := State.tapCount_frame (s := s) (t := t) LinkTap.resetting (by exact fun _ _ => rfl) i q
  rw [State.engineUp, hin, hreset]
  rfl

theorem State.tapCount_linkUp (i q : Nat) : ((s.tapCount t i).tap q).linkUp = (s.tap q).linkUp :=
  State.tapCount_frame LinkTap.linkUp (by exact fun _ _ => rfl) i q

/-- No engine has the number that a route without a next tap gives. -/
theorem State.engineUp_none : s.engineUp 0xFF = false := rfl

end

/-- Settles O47: the verdicts by epoch, kind, flag and digest, and the way of a service frame. -/
theorem engineJudgesInboundFrames : Obligations.EngineJudgesInboundFrames := by
  refine ⟨⟨fun a b ha hb => ⟨?_, epochVerdict_behind, epochVerdict_ahead⟩, fun t fd data tr s => exec_inboundFrame_bypass,
      fun t fd data tr s v => State.rxVerdict_of_epoch, fun t fd data tr s h => ⟨fun hkind => ?_, fun hkind => ?_, fun hkind hup => ?_,
        fun hkind hup htr => ?_, fun hkind hup hflag htr => ?_, fun hkind hup hflag htr hlen => ?_⟩,
      fun t fd data tr s u v hup hkind hv hbad hu => ?_, fun t fd data tr s hup hkind hbad => ?_⟩,
    fun t s hup => ⟨exec_serviceFrameGrant_idle hup, fun fr l u hlink hwaiting hu => exec_serviceFrameGrant hup hlink hwaiting hu,
      fun b fr good hb => ⟨fun hno => ?_, fun hok hend => ?_, fun q hok hway hidx hq => ?_, fun hok hway hidx => ?_⟩⟩⟩
  · rintro rfl
    exact epochVerdict_same a
  · simp [State.rxVerdict_of_present h, hkind]
  · simp [State.rxVerdict_of_present h, hkind]
  · simp [State.rxVerdict_of_present h, hkind, hup]
  · simp [State.rxVerdict_of_present h, hkind, hup, contributionVerdict_flag htr]
  · simp [State.rxVerdict_of_present h, hkind, hup, contributionVerdict_unmarked hflag htr]
  · simp [State.rxVerdict_of_present h, hkind, hup, contributionVerdict_marked hflag htr hlen]
  · have hlast : (u.tap t).lastBad = (s.tap t).lastBad := by
      rw [hu]
      exact State.tapCount_frame LinkTap.lastBad (by exact fun _ _ => rfl) ..
    rw [exec_inboundFrame hup hkind, hv, ← hu, State.judged, if_neg hbad, hlast]
  · rw [exec_inboundFrame hup hkind, hbad, State.judged, if_pos rfl]
    rfl
  · rw [exec_serviceFrameReceived hup hb, State.frameTaken, if_pos (by simp [hno])]
  · rw [exec_serviceFrameReceived hup hb, State.frameTaken, if_neg (by simp [hok]), if_neg (Nat.not_lt.2 hend)]
  · rw [exec_serviceFrameReceived hup hb, State.frameTaken, if_neg (by simp [hok]), if_pos hway]
    dsimp only
    rw [if_pos hidx, ← hq, State.tapCount_engineUp, State.tapCount_linkUp]
    simp only [Bool.and_eq_true]
    rfl
  · rw [exec_serviceFrameReceived hup hb, State.frameTaken, if_neg (by simp [hok]), if_pos hway]
    dsimp only
    rw [if_neg (Nat.not_lt.2 hidx), State.engineUp_none, if_neg (by simp)]

end Sys2Proof.Machine
end

section
/-!
The links' signals (R264, R335), the accesses of the service registers (R58), and the waits of the sweeps (R218 to R222).
-/
namespace Sys2Proof.Machine

section

variable {s : State} {t : Nat}

/-! A link goes down, comes up, or cannot be retrained. -/

/-- The rank of the peer that a tap has in the running job, all ones when it has none. -/
def State.peerRank (s : State) (t : Nat) : Nat :=
  match s.job.peers.find? (fun p => p.1 == t) with
  | some p => if s.job.active then p.2.1.toNat else 0xFFFFFFFF
  | none => 0xFFFFFFFF

theorem exec_linkDown {u : State} (h : s.tapPowered t = true) (hlink : (s.tap t).linkUp = true)
    (hu : u = (s.begun.modTap t (fun x => { x with linkUp := false })).report 0x2103 (engineUid t) (le 4 (s.peerRank t))) :
    exec (.linkDown t) s = .next (s.ends (if (u.tap t).retrainWait then u.retrainLink t else u)) :=
  calc exec (.linkDown t) s = execLinkDown t s := rfl
    _ = .next _ := actIf_answers (by simp [h, hlink]) (by rw [hu]; rfl)

theorem exec_linkDown_again (hlink : (s.tap t).linkUp = false) : exec (.linkDown t) s = .next (s.ends s.begun) :=
  calc exec (.linkDown t) s = execLinkDown t s := rfl
    _ = .next _ := actIf_neg s _ _ (by simp [hlink])

theorem exec_linkUp (h : s.tapPowered t = true) : exec (.linkUp t) s = .next (s.ends
    ((((s.begun.modTap t (fun x => { x with linkUp := true })).access false t 0x000 none).access false t 0x001 none).linkEnded t)) :=
  calc exec (.linkUp t) s = execLinkUp t s := rfl
    _ = .next _ := actIf_pos s _ _ h

theorem exec_linkRetrainFailed (h : s.tapPowered t = true) (hretrain : (s.tap t).retrain.isSome = true) (n : Nat) :
    exec (.linkRetrainFailed t n) s = .next (s.ends
      (((s.begun.modTap t (fun x => { x with linkUp := false })).linkEnded t).report 0x2105 (engineUid t) [BitVec.ofNat 8 n])) :=
  calc exec (.linkRetrainFailed t n) s = execLinkRetrainFailed t n s := rfl
    _ = .next _ := actIf_pos s _ _ (by simp [h, hretrain])

/-! The accesses of the service registers. -/

/-- The access on the channel has ended: the next one takes it. -/
def State.srEnded (s : State) (mtp : Bool) (t : Nat) (l : List (Nat × Option (BitVec 32))) : State :=
  ((if mtp then s.modMem t (fun m => { m with sr := l, srLate := false }) else s.modTap t (fun x => { x with sr := l, srLate := false })).sig
    (if mtp then .mtpSrReq else .ltpSrReq) t 0).srDrive mtp t

theorem State.srEnded_of_drop {mtp : Bool} {a : Nat × Option (BitVec 32)} {l : List (Nat × Option (BitVec 32))} (h : s.srOf mtp t = a :: l) :
    ((if mtp then s.modMem t (fun m => { m with sr := m.sr.drop 1, srLate := false })
      else s.modTap t (fun x => { x with sr := x.sr.drop 1, srLate := false })).sig (if mtp then .mtpSrReq else .ltpSrReq) t 0).srDrive mtp t
      = s.srEnded mtp t l := by
  cases mtp with
  | true =>
    have hsr : (s.mem t).sr = a :: l := h
    simp only [State.srEnded, State.modMem, hsr, List.drop_one, List.tail_cons, if_true]
  | false =>
    have hsr : (s.tap t).sr = a :: l := h
    simp only [State.srEnded, State.modTap, hsr, List.drop_one, List.tail_cons, Bool.false_eq_true, if_false]

theorem exec_serviceRegisterAck {mtp : Bool} {addr : Nat} {w : Option (BitVec 32)} {l : List (Nat × Option (BitVec 32))}
    (h : s.srOf mtp t = (addr, w) :: l) (d : BitVec 32) (err : Bool) :
    exec (.serviceRegisterAck mtp t d err) s = .next (s.ends
      (if err ∨ w.isSome then s.begun.srEnded mtp t l else (s.begun.srEnded mtp t l).srTake mtp t addr d.toNat)) :=
  calc exec (.serviceRegisterAck mtp t d err) s = execServiceRegisterAck mtp t d err s := rfl
    _ = .next _ := actIf_answers (by simp [h]) (by
      have h' : s.begun.srOf mtp t = (addr, w) :: l := h
      simp only [h', State.srEnded_of_drop h', Bool.or_eq_true])

theorem exec_serviceRegisterLate {mtp : Bool} {a : Nat × Option (BitVec 32)} {l : List (Nat × Option (BitVec 32))} (h : s.srOf mtp t = a :: l) :
    exec (.serviceRegisterLate mtp t) s = .next (s.ends
      (if (if mtp then (s.mem t).srLate else (s.tap t).srLate) then s.begun
       else (if mtp then s.begun.modMem t (fun m => { m with srLate := true }) else s.begun.modTap t (fun x => { x with srLate := true })).report
        (if mtp then 0x2005 else 0x2104) (if mtp then memUid t else engineUid t) (le 2 a.1))) :=
  calc exec (.serviceRegisterLate mtp t) s = execServiceRegisterLate mtp t s := rfl
    _ = .next _ := act_answers (by
      have h' : s.begun.srOf mtp t = a :: l := h
      simp only [h']
      rfl)

theorem exec_serviceRegister_idle {mtp : Bool} (h : s.srOf mtp t = []) :
    (∀ (d : BitVec 32) (e : Bool), exec (.serviceRegisterAck mtp t d e) s = .next (s.ends s.begun))
    ∧ exec (.serviceRegisterLate mtp t) s = .next (s.ends s.begun) :=
  ⟨fun d e => calc exec (.serviceRegisterAck mtp t d e) s = execServiceRegisterAck mtp t d e s := rfl
      _ = .next _ := actIf_neg s _ _ (by simp [h]),
    calc exec (.serviceRegisterLate mtp t) s = execServiceRegisterLate mtp t s := rfl
      _ = .next _ := act_answers (by simp only [show s.begun.srOf mtp t = [] from h])⟩

/-! The sweeps, by what is open of them. -/

theorem exec_sweepReport {f i : Nat} {b : SweepBatch} (h : s.droverUp f = true)
    (hb : (s.field f).sweeps.find? (fun b => b.target == i) = some b) :
    exec (.sweepReport f i) s = .next (s.ends ((s.begun.advanceTo (b.lastAt + 10000)).sendBatch f b)) :=
  calc exec (.sweepReport f i) s = execSweepReport f i s := rfl
    _ = .next _ := actIf_answers h (by simp only [State.begun_field, hb])

theorem exec_sweepReport_idle {f i : Nat} (hb : (s.field f).sweeps.find? (fun b => b.target == i) = none) :
    exec (.sweepReport f i) s = .next (s.ends s.begun) := by
  calc exec (.sweepReport f i) s = execSweepReport f i s := rfl
    _ = .next _ := by
      cases h : s.droverUp f with
      | true => exact actIf_answers h (by simp only [State.begun_field, hb])
      | false => exact actIf_neg s _ _ h

/-- What the end of a sweep's wait does: an open sweep closes incomplete. -/
def State.sweepWaited (s : State) (i : Nat) : State :=
  match s.earmarks.sweep i with
  | none => s
  | some a => if a.closed then s else (s.advanceTo (a.firstAt + s.earmarks.sweepWait i * 1000000)).closeSweep a (some 0) true

theorem exec_sweepWait (hfw : s.firmware = true) (i : Nat) : exec (.sweepWait i) s = .next (s.ends (s.begun.sweepWaited i)) :=
  calc exec (.sweepWait i) s = execSweepWait i s := rfl
    _ = .next _ := actIf_answers hfw (by
      unfold State.sweepWaited
      cases s.begun.earmarks.sweep i <;> rfl)

theorem State.sweepWaited_of_some {i : Nat} {a : SweepAcc} (h : s.earmarks.sweep i = some a) :
    s.sweepWaited i = if a.closed then s else (s.advanceTo (a.firstAt + s.earmarks.sweepWait i * 1000000)).closeSweep a (some 0) true := by
  simp only [State.sweepWaited, h]

theorem exec_exchangeWait {i : Nat} {x : Exchange} (hfw : s.firmware = true)
    (h : s.earmarks.exchanges.find? (fun x => x.target == i) = some x) :
    exec (.exchangeWait i) s = .next (s.ends ((s.begun.advanceTo (x.closedAt + x.wait * 1000)).closeExchange x)) :=
  calc exec (.exchangeWait i) s = execExchangeWait i s := rfl
    _ = .next _ := actIf_answers hfw (by simp only [State.begun_earmarks, h])

theorem exec_exchangeWait_idle {i : Nat} (hfw : s.firmware = true) (h : s.earmarks.exchanges.find? (fun x => x.target == i) = none) :
    exec (.exchangeWait i) s = .next (s.ends s.begun) :=
  calc exec (.exchangeWait i) s = execExchangeWait i s := rfl
    _ = .next _ := actIf_answers hfw (by simp only [State.begun_earmarks, h])

theorem exec_fleeceSend {c : FleeceClose} (hfw : s.firmware = true) (h : s.earmarks.fleece.closes.find? (fun c => !c.sent) = some c) :
    exec .fleeceSend s = .next (s.ends ((s.begun.advanceTo (c.closedAt + s.earmarks.fleece.swWait * 1000000)).fleeceSend c.number)) :=
  calc exec .fleeceSend s = execFleeceSend s := rfl
    _ = .next _ := actIf_answers hfw (by simp only [State.begun_earmarks, h])

theorem exec_fleeceSend_idle (hfw : s.firmware = true) (h : ∀ c ∈ s.earmarks.fleece.closes, c.sent = true) :
    exec .fleeceSend s = .next (s.ends s.begun) :=
  calc exec .fleeceSend s = execFleeceSend s := rfl
    _ = .next _ := actIf_answers hfw (by
      have hnone : s.earmarks.fleece.closes.find? (fun c => !c.sent) = none := List.find?_eq_none.2 fun c hc => by simp [h c hc]
      simp only [State.begun_earmarks, hnone])

end

/-- Settles O48: the links' changes, the accesses by what is on their channel, and the sweeps and exchanges that their waits close. -/
theorem linksAccessesAndSweepsEnd : Obligations.LinksAccessesAndSweepsEnd := by
  refine ⟨fun t s h => ⟨fun hlink rank u hrank hu => exec_linkDown h hlink ?_, exec_linkUp h, exec_linkDown_again, fun n hretrain => exec_linkRetrainFailed h hretrain n⟩,
    fun t s => ⟨fun addr w l u d err hsr hu => ?_, fun addr w l u d err hsr hu => ?_, fun a l hsr => ⟨fun hfirst => ?_, fun hlate => ?_⟩,
      fun a l hsr => ⟨fun hfirst => ?_, fun hlate => ?_⟩, fun mtp => exec_serviceRegister_idle⟩,
    fun s f i b => exec_sweepReport, fun s f i => exec_sweepReport_idle, fun s hfw => ⟨fun i a ha hopen => ?_, fun i a ha hclosed => ?_, fun i hnone => ?_,
      fun i x => exec_exchangeWait hfw, fun i => exec_exchangeWait_idle hfw, fun c => exec_fleeceSend hfw, exec_fleeceSend_idle hfw⟩⟩
  · rw [hu, hrank]
    rfl
  · rw [exec_serviceRegisterAck hsr, hu]
    rfl
  · rw [exec_serviceRegisterAck hsr, hu]
    rfl
  · rw [exec_serviceRegisterLate hsr, if_neg (by simp [hfirst])]
    rfl
  · rw [exec_serviceRegisterLate hsr, if_pos (by simp [hlate])]
  · rw [exec_serviceRegisterLate hsr, if_neg (by simp [hfirst])]
    rfl
  · rw [exec_serviceRegisterLate hsr, if_pos (by simp [hlate])]
  · rw [exec_sweepWait hfw, State.sweepWaited_of_some (s := s.begun) ha, if_neg (by simp [hopen])]
    rfl
  · rw [exec_sweepWait hfw, State.sweepWaited_of_some (s := s.begun) ha, if_pos hclosed]
  · rw [exec_sweepWait hfw, State.sweepWaited, show s.begun.earmarks.sweep i = none from hnone]

end Sys2Proof.Machine
end

section
/-!
The throttle (R293), the sensors (R289, R290), the slews of the clock (R286) and the voltage (R287, R288).
-/
namespace Sys2Proof.Machine

section

variable {s : State} {f : Nat}

/-- A change of a field counts by what it makes of the field as it is. -/
theorem State.modField_congr {g h : Field → Field} (hgh : g (s.field f) = h (s.field f)) : s.modField f g = s.modField f h := by
  rw [State.modField, State.modField, hgh]

theorem State.modField_field (g : Field → Field) : (s.modField f g).field f = g (s.field f) := by
  rw [State.modField_get, if_pos rfl]

/-! A reading changes its sensor, and no clock. -/

theorem State.driveTherm_field {γ : Type} (p : Field → γ) (hp : ∀ fd b, p { fd with thermOff := b } = p fd) :
    p ((s.driveTherm f).field f) = p (s.field f) := by
  unfold State.driveTherm
  dsimp only
  split
  · rfl
  · rw [State.sig_field, State.modField_field, hp]

theorem State.driveTherm_sansUnits : (s.driveTherm f).sansUnits = s.sansUnits := by
  unfold State.driveTherm
  dsimp only
  split <;> simp

theorem State.takeReading_sansUnits (i : Nat) (r : Int) : (s.takeReading f i r).sansUnits = s.sansUnits := by
  unfold State.takeReading
  dsimp only
  rw [State.sansUnits_modField, State.driveTherm_sansUnits, State.sansUnits_modField]

theorem State.takeReading_tbase (i : Nat) (r : Int) : (s.takeReading f i r).tbase = s.tbase :=
  State.tbase_of_sansUnits (s.takeReading_sansUnits i r)

theorem State.takeReading_divider (i : Nat) (r : Int) : ((s.takeReading f i r).field f).divider = (s.field f).divider := by
  unfold State.takeReading
  dsimp only
  rw [State.modField_field, State.driveTherm_field Field.divider (by exact fun _ _ => rfl), State.modField_field]
  rfl

/-! Cutting slices leaves the fields and the job. -/

/-- The fields and the job of a state. -/
def State.fieldsAndJob (s : State) : List (Nat × Field) × Job := (s.fields, s.job)

theorem State.stepBack_fieldsAndJob (k c : Nat) : (s.stepBack f k c).fieldsAndJob = s.fieldsAndJob := by
  unfold State.stepBack
  dsimp only
  split
  · split <;> rfl
  · rfl

theorem State.cutSlice_fieldsAndJob (k c : Nat) : (s.cutSlice f k c).fieldsAndJob = s.fieldsAndJob := by
  unfold State.cutSlice
  split
  · rfl
  · split
    · rfl
    · dsimp only
      split
      · exact State.stepBack_fieldsAndJob k c
      · exact State.stepBack_fieldsAndJob k c

theorem State.cutStepped_fieldsAndJob : (s.cutStepped f).fieldsAndJob = s.fieldsAndJob :=
  s.forEach_frame State.fieldsAndJob _ _ (by
    intro t q
    dsimp only
    split
    · split
      · rfl
      · exact State.cutSlice_fieldsAndJob ..
    · rfl)

theorem State.traceDrover_job (typ : Nat) (body : List Byte) : (s.traceDrover f typ body).job = s.job := by
  unfold State.traceDrover
  split <;> rfl

/-! The throttle. -/

/-- The divider is put in, and the change counted. -/
def State.divided (s : State) (f : Nat) : State :=
  let s := s.syncField f
  let s := s.traceFreq f (s.field f).freq ((s.field f).freq / 2) 2
  s.unclean.modField f (fun fd => { fd with divider := true, counters := bump fd.counters 3 1 })

/-- What a field's throttle leaves before it is reported. -/
def State.throttled (s : State) (f : Nat) : State := ((s.divided f).cutStepped f).sig .cclkHalf f 1

theorem State.unclean_job : s.unclean.job = if s.job.active then { s.job with clean := false, changes := s.job.changes + 1 } else s.job := by
  unfold State.unclean
  split <;> rfl

theorem State.divided_job :
    (s.divided f).job = if s.job.active then { s.job with clean := false, changes := s.job.changes + 1 } else s.job := by
  have hjob (t : State) (a b c : Nat) : (t.traceFreq f a b c).job = t.job := State.traceDrover_job ..
  have hsync : (s.syncField f).job = s.job := State.job_of_sansUnits (s.sansUnits_syncField f)
  rw [State.divided]
  dsimp only
  rw [State.modField_job, State.unclean_job, hjob, hsync]

theorem State.throttled_divider : ((s.throttled f).field f).divider = true := by
  have hfields : ((s.divided f).cutStepped f).fields = (s.divided f).fields := congrArg Prod.fst State.cutStepped_fieldsAndJob
  rw [State.throttled, State.sig_field, State.field, hfields]
  exact congrArg Field.divider (State.modField_field _)

theorem State.throttled_job :
    (s.throttled f).job = if s.job.active then { s.job with clean := false, changes := s.job.changes + 1 } else s.job :=
  (congrArg Prod.snd (State.cutStepped_fieldsAndJob (f := f) (s := s.divided f)) : _).trans State.divided_job

theorem exec_hwThrottle {i : Nat} {r : Int} (hf : f < Config.fields) (hi : i < Config.sensors) (hrail : (s.field f).infraPg = true)
    (hr : 840 ≤ r) (hdivider : (s.field f).divider = false) :
    exec (.hwThrottle f i r) s = .next (s.ends ((((s.begun.takeReading f i r).throttled f).report 0x3102 (fieldUid f)
      ([0, BitVec.ofNat 8 i] ++ le 2 (toTwos 16 r))).exempt)) :=
  calc exec (.hwThrottle f i r) s = execHwThrottle f i r s := rfl
    _ = .next _ := actIf_answers (by simp [hf, hi, hrail, hr]) (by
      have hdivider' : ((s.begun.takeReading f i r).field f).divider = false := (State.takeReading_divider i r).trans hdivider
      dsimp only
      rw [if_neg (by rw [hdivider']; exact Bool.false_ne_true)]
      rfl)

theorem exec_hwThrottle_again {i : Nat} {r : Int} (hf : f < Config.fields) (hi : i < Config.sensors) (hrail : (s.field f).infraPg = true)
    (hr : 840 ≤ r) (hdivider : (s.field f).divider = true) :
    exec (.hwThrottle f i r) s = .next (s.ends ((s.begun.takeReading f i r).modField f (fun fd =>
      { fd with throttleEnd := false, slewing := fd.slewing && !fd.throttleEnd }))) :=
  calc exec (.hwThrottle f i r) s = execHwThrottle f i r s := rfl
    _ = .next _ := actIf_answers (by simp [hf, hi, hrail, hr]) (by
      have hdivider' : ((s.begun.takeReading f i r).field f).divider = true := (State.takeReading_divider i r).trans hdivider
      dsimp only
      rw [if_pos hdivider'])

theorem exec_hwThrottleRelease {t : Nat} (hf : f < Config.fields) (hdivider : (s.field f).divider = true)
    (hend : (s.field f).throttleEnd = false) (hcool : (s.field f).below100Since = some t) :
    exec (.hwThrottleRelease f) s = .next (s.ends
      (let u := s.begun.advanceTo (t + 10000000)
       if (s.field f).freq = 800 then u.throttleReleased f
       else u.unclean.modField f (fun fd => { fd with
         target := 800, slewCause := 2, slewing := true, raisePending := false, lowerDue := none, throttleEnd := true
         counters := bump fd.counters 3 1 }))) :=
  calc exec (.hwThrottleRelease f) s = execHwThrottleRelease f s := rfl
    _ = .next _ := actIf_answers (by simp [hf, hdivider, hend, hcool]) (by
      simp only [State.begun_field, hcool, Option.getD_some]
      rfl)

/-! A sensor's reading. -/

/-- What is found of a sensor in service when its reading is taken: it is out of range or stuck, off the median, or sound. -/
def State.sensorFound (u : State) (f i : Nat) (r m : Int) (stuck : Bool) : State :=
  let range := decide (r < -320) || decide (1200 < r)
  if !((u.field f).sensor i).inService then u
  else if range || stuck then
    (u.modField f (fun fd => fd.modSensor i (fun y => { y with inService := false }))).report 0x0305 (partUid f (0x20 + i)) [BitVec.ofNat 8 (b2n range)]
  else if 64 < (r - m).natAbs then u.report 0x3104 (partUid f (0x20 + i)) (le 2 (toTwos 16 r) ++ le 2 (toTwos 16 m))
  else u

theorem exec_thermalSensorUpdate {i : Nat} {r m : Int} {u : State} {stuck : Bool} (hf : f < Config.fields) (hi : i < Config.sensors)
    (hrail : (s.field f).infraPg = true) (hu : u = s.begun.takeReading f i r)
    (hm : m = medianInt ((u.field f).liveSensors.map (·.reading)))
    (hstuck : stuck = (decide (((u.field f).sensor i).changedAt + 10000000000 ≤ s.tbase)
      && decide (16 < (m - ((u.field f).sensor i).medianThen).natAbs))) :
    exec (.thermalSensorUpdate f i r) s = .next (s.ends (u.sensorFound f i r m stuck)) :=
  calc exec (.thermalSensorUpdate f i r) s = execThermalSensorUpdate f i r s := rfl
    _ = .next _ := actIf_answers (by simp [hf, hi, hrail]) (by
      have htime : u.tbase = s.tbase := by
        rw [hu]
        exact State.takeReading_tbase i r
      dsimp only
      rw [← hu, ← hm, htime, ← hstuck]
      rfl)

theorem State.sensorFound_out {u : State} {i : Nat} (h : ((u.field f).sensor i).inService = false) (r m : Int) (stuck : Bool) :
    u.sensorFound f i r m stuck = u := if_pos (by simp [h])

theorem State.sensorFound_range {u : State} {i : Nat} {r : Int} (h : ((u.field f).sensor i).inService = true) (hr : r < -320 ∨ 1200 < r)
    (m : Int) (stuck : Bool) :
    u.sensorFound f i r m stuck = (u.modField f (fun fd => fd.modSensor i (fun y => { y with inService := false }))).report 0x0305
      (partUid f (0x20 + i)) [1] := by
  have hrange : (decide (r < -320) || decide (1200 < r)) = true := by simpa using hr
  simp only [State.sensorFound, h, hrange, Bool.not_true, Bool.false_eq_true, if_false, Bool.true_or, if_true]
  rfl

theorem State.sensorFound_within {u : State} {i : Nat} {r : Int} (h : ((u.field f).sensor i).inService = true) (hlow : -320 ≤ r) (hhigh : r ≤ 1200)
    (m : Int) (stuck : Bool) :
    u.sensorFound f i r m stuck =
      if stuck then (u.modField f (fun fd => fd.modSensor i (fun y => { y with inService := false }))).report 0x0305 (partUid f (0x20 + i)) [0]
      else if 64 < (r - m).natAbs then u.report 0x3104 (partUid f (0x20 + i)) (le 2 (toTwos 16 r) ++ le 2 (toTwos 16 m))
      else u := by
  have hrange : (decide (r < -320) || decide (1200 < r)) = false := by simp [hlow, hhigh]
  simp only [State.sensorFound, h, hrange, Bool.not_true, Bool.false_eq_true, if_false, Bool.false_or]
  rfl

/-! Slews and voltages. -/

theorem exec_frequencySlewStep (hf : f < Config.fields) (hopen : s.slewOpen f = true) :
    exec (.frequencySlewStep f) s = .next (s.ends
      (let u := s.begun.advanceTo (max ((s.field f).slewAt + 1000) (match (s.field f).lastRise with | some t => t + 2000 | none => 0))
       let v := u.slewStep f
       if (v.field f).throttleEnd && (v.field f).freq == 800 then v.throttleReleased f else v)) :=
  calc exec (.frequencySlewStep f) s = execFrequencySlewStep f s := rfl
    _ = .next _ := actIf_pos s _ _ (by simp [hf, hopen])

theorem exec_voltageLower {d : Nat} (hf : f < Config.fields) (hd : (s.field f).lowerDue = some d) :
    exec (.voltageLower f) s = .next (s.ends
      (let u := (s.begun.advanceTo d).modField f (fun fd => { fd with lowerDue := none })
       if (s.field f).raisePending then u else u.commandVolt f (voltOf (s.field f).freq))) :=
  calc exec (.voltageLower f) s = execVoltageLower f s := rfl
    _ = .next _ := actIf_answers (by simp [hf, hd]) (by
      simp only [State.begun_field, hd, Option.getD_some, State.modField_field]
      rfl)

theorem exec_voutReadBack_close {mv : Nat} (hf : f < Config.fields) (hwait : (s.field f).voutWait = true) (hmv : mv ≤ (s.field f).volt + 15)
    (hvolt : (s.field f).volt ≤ mv + 15) :
    exec (.voutReadBack f mv) s = .next (s.ends
      (let u := s.begun.modField f (fun fd => { fd with voutWait := false })
       if (s.field f).raisePending then u.modField f (fun fd => { fd with raisePending := false, slewing := (s.field f).freq != (s.field f).target })
       else u)) :=
  calc exec (.voutReadBack f mv) s = execVoutReadBack f mv s := rfl
    _ = .next _ := actIf_answers (by simp [hf, hwait]) (by
      simp only [State.begun_field, hmv, hvolt, and_self, if_true]
      refine if_ctx_congr Iff.rfl (fun _ => State.modField_congr ?_) fun _ => rfl
      rw [State.modField_field]
      rfl)

theorem exec_voutReadBack_off {mv : Nat} (hf : f < Config.fields) (hwait : (s.field f).voutWait = true)
    (hoff : (s.field f).volt + 15 < mv ∨ mv + 15 < (s.field f).volt) :
    exec (.voutReadBack f mv) s = .next (s.ends ((s.begun.modField f (fun fd => { fd with voutWait := false })).report 0x3005 (mkUid 3 f 0 0 0 3)
      ([BitVec.ofNat 8 (f / Config.cols), 0, 0, 0] ++ le 2 (s.field f).volt ++ le 2 mv))) :=
  calc exec (.voutReadBack f mv) s = execVoutReadBack f mv s := rfl
    _ = .next _ := actIf_answers (by simp [hf, hwait]) (if_neg (by simp only [State.begun_field]; omega))

end

/-- Settles O52: the throttle and its release, a sensor's reading, the steps of a slew and the voltage. -/
theorem clocksSensorsAndVoltagesMove : Obligations.ClocksSensorsAndVoltagesMove := by
  refine ⟨fun f s hf => ⟨fun i r hi hrail hr hdivider => ⟨_, exec_hwThrottle hf hi hrail hr hdivider, State.throttled_divider, fun hjob => ?_⟩,
      fun i r hi hrail hr hdivider => exec_hwThrottle_again hf hi hrail hr hdivider, fun t u hdivider hend hcool hu => ⟨fun hfreq => ?_, fun hfreq => ?_⟩⟩,
    fun f i r m s u stuck hf hi hrail hu hm hstuck => ⟨fun hin => ?_, fun hin hr => ?_, fun hin hlow hhigh => ⟨fun h => ?_, fun h hoff => ?_, fun h hnear => ?_⟩⟩,
    fun f s hf => ⟨fun u v hopen hu hv => ?_, fun d u hd hu => ?_, fun mv hwait hmv hvolt => ⟨fun hraise => ?_, fun hraise => ?_⟩,
      fun mv hwait hoff => exec_voutReadBack_off hf hwait hoff⟩⟩
  · have hjob' : (s.begun.takeReading f i r).job = s.job := (State.job_of_sansUnits (State.takeReading_sansUnits (s := s.begun) i r)).trans rfl
    rw [State.throttled_job, hjob', if_pos hjob]
    exact ⟨rfl, rfl⟩
  · rw [exec_hwThrottleRelease hf hdivider hend hcool, hu]
    exact congrArg (fun t => Host.Outcome.next (s.ends t)) (if_pos hfreq)
  · rw [exec_hwThrottleRelease hf hdivider hend hcool, hu]
    exact congrArg (fun t => Host.Outcome.next (s.ends t)) (if_neg hfreq)
  · rw [exec_thermalSensorUpdate hf hi hrail hu hm hstuck, State.sensorFound_out hin]
  · rw [exec_thermalSensorUpdate hf hi hrail hu hm hstuck, State.sensorFound_range hin hr]
  · rw [exec_thermalSensorUpdate hf hi hrail hu hm hstuck, State.sensorFound_within hin hlow hhigh, if_pos h]
  · rw [exec_thermalSensorUpdate hf hi hrail hu hm hstuck, State.sensorFound_within hin hlow hhigh, if_neg (by simp [h]), if_pos hoff]
  · rw [exec_thermalSensorUpdate hf hi hrail hu hm hstuck, State.sensorFound_within hin hlow hhigh, if_neg (by simp [h]), if_neg (Nat.not_lt.2 hnear)]
  · rw [exec_frequencySlewStep hf hopen, hv, hu]
    rfl
  · rw [exec_voltageLower hf hd, hu]
    rfl
  · rw [exec_voutReadBack_close hf hwait hmv hvolt]
    exact congrArg (fun t => Host.Outcome.next (s.ends t)) (if_neg (by simp [hraise]))
  · rw [exec_voutReadBack_close hf hwait hmv hvolt]
    exact congrArg (fun t => Host.Outcome.next (s.ends t)) (if_pos hraise)

end Sys2Proof.Machine
end

section
/-!
PWR_GOOD and COLD_RESET_N (R33, R97, R98, R390): what a start keeps, and what it puts at reset.
-/
namespace Sys2Proof.Machine

section

variable {s : State}

/-- The state without its fields and its outputs. -/
def State.offFields (s : State) : State := { s with fields := [], out := [] }

/-- What a start keeps of a state and what it begins with, before its fields are at reset (R98, R377, R378, R390). -/
def State.freshBase (s : State) (heat : Bool) : State :=
  let t := s.tally
  let top := (t.general.all ++ t.fatal.all ++ t.clears).foldl (fun a r => max a (r.sequence + 1)) 0
  let hot := (List.range Config.fields).filter (fun f => heat && (s.field f).sensors.any (fun p => p.2.at115))
  let failed := s.cores.filter (fun p => p.2.selfTestFailed)
  { pending := s.pending, out := s.out, pwrGood := true, tbase := s.tbase, draws := s.draws, free := s.free
    life := { fuses := s.life.fuses, owners := s.life.owners, packKey := s.life.packKey, packKeyHash := s.life.packKeyHash
              otpFault := s.life.otpFault, selfFailed := failed.map (·.1) }
    start := { settings := some (s.start.settings.getD s.policy), began := s.tbase }
    tally := { general := t.general.kept, fatal := t.fatal.kept, clears := t.clears, named := t.named
               next := if top = 0 then 0 else top + 4096
               opSec := t.opSecStored + 60, opSecStored := t.opSecStored, opSecAt := s.tbase, powerCycles := t.powerCycles }
    fw := { slotA := s.fw.slotA, slotB := s.fw.slotB, committed := s.fw.committed, floor := s.fw.floor, staged := s.fw.staged }
    screen := { slot0 := s.screen.slot0, slot1 := s.screen.slot1, active := s.screen.active, floor := s.screen.floor }
    folds := s.folds.found
    gov := { bins := s.gov.bins, noExposure := s.gov.noExposure, boundary := s.tbase / 10000000000 * 10000000000
             open_ := { hour := (t.opSecStored + 60) / 3600 } }
    pins := { therm := !hot.isEmpty, thermField := hot.headD 0 }
    refclk := if heat then { sel := s.refclk.sel } else {} }

/-- A part of the state that neither the fields nor the signals touch is at a start as its beginning leaves it. -/
theorem State.fresh_part {γ : Type} (p : State → γ) (hsig : ∀ t n a v, p (State.sig t n a v) = p t)
    (hfield : ∀ t f v, p (State.setField t f v) = p t) (heat : Bool) : p (s.fresh heat) = p (s.freshBase heat) := by
  rw [State.fresh, State.freshBase]
  simp only [hsig]
  refine State.forEach_frame _ p _ _ (fun t f => ?_)
  split
  · exact hfield ..
  · exact (hsig ..).trans (hfield ..)

theorem State.fresh_offFields (heat : Bool) : (s.fresh heat).offFields = (s.freshBase heat).offFields :=
  State.fresh_part State.offFields (by exact fun _ _ _ _ => rfl) (by exact fun _ _ _ => rfl) heat

/-- What a start puts at reset. -/
theorem State.fresh_reset (heat : Bool) :
    (s.fresh heat).hif = {} ∧ (s.fresh heat).ferr = {} ∧ (s.fresh heat).job = {} ∧ (s.fresh heat).pair = {} ∧ (s.fresh heat).recovery = {}
    ∧ (s.fresh heat).earmarks = {} ∧ (s.fresh heat).flocks = [] ∧ (s.fresh heat).cores = [] ∧ (s.fresh heat).crooks = [] := by
  have h := s.fresh_offFields heat
  exact ⟨congrArg State.hif h, congrArg State.ferr h, congrArg State.job h, congrArg State.pair h, congrArg State.recovery h,
    congrArg State.earmarks h, congrArg State.flocks h, congrArg State.cores h, congrArg State.crooks h⟩

/-- What a start keeps: flash and OTP, the fold list's areas with their entries read anew. -/
theorem State.fresh_kept (heat : Bool) :
    (s.fresh heat).tally.powerCycles = s.tally.powerCycles ∧ (s.fresh heat).life.fuses = s.life.fuses
    ∧ (s.fresh heat).life.owners = s.life.owners ∧ (s.fresh heat).fw.slotA = s.fw.slotA ∧ (s.fresh heat).fw.slotB = s.fw.slotB
    ∧ (s.fresh heat).fw.committed = s.fw.committed ∧ (s.fresh heat).screen.slot0 = s.screen.slot0
    ∧ (s.fresh heat).screen.slot1 = s.screen.slot1 ∧ (s.fresh heat).folds = s.folds.found := by
  have h := s.fresh_offFields heat
  exact ⟨(congrArg (fun t : State => t.tally.powerCycles) h :), (congrArg (fun t : State => t.life.fuses) h :),
    (congrArg (fun t : State => t.life.owners) h :), (congrArg (fun t : State => t.fw.slotA) h :), (congrArg (fun t : State => t.fw.slotB) h :),
    (congrArg (fun t : State => t.fw.committed) h :), (congrArg (fun t : State => t.screen.slot0) h :),
    (congrArg (fun t : State => t.screen.slot1) h :), (congrArg State.folds h :)⟩

theorem State.fresh_power (heat : Bool) : (s.fresh heat).pwrGood = true ∧ (s.fresh heat).tbase = s.tbase := by
  have h := s.fresh_offFields heat
  exact ⟨(congrArg State.pwrGood h :), (congrArg State.tbase h :)⟩

theorem State.fresh_refclk : (s.fresh true).refclk.sel = s.refclk.sel :=
  (congrArg (fun t : State => t.refclk.sel) (s.fresh_offFields true) :)

theorem FoldList.found_areas (l : FoldList) : l.found.areaA = l.areaA ∧ l.found.areaB = l.areaB := ⟨rfl, rfl⟩

/-! The pins. -/

/-- The start after PWR_GOOD has risen: TBASE runs from 0, and one power cycle more is counted. -/
def State.risen (s : State) (o : Option Nat) : State :=
  let t := ({ s with tbase := 0 } : State).fresh false
  { t with
    life := { t.life with otpFault := o }
    tally := { t.tally with powerCycles := sat (2 ^ 24 - 1) (t.tally.powerCycles + 1) }
    start := { t.start with phase := if s.start.coldLow then .held else .selfTest, coldLow := s.start.coldLow } }

theorem exec_pwrGoodRise (h : s.pwrGood = false) (o : Option Nat) : exec (.pwrGoodRise o) s = .next (s.ends (s.outside.risen o)) :=
  calc exec (.pwrGoodRise o) s = execPwrGoodRise o s := rfl
    _ = .next _ := actOutside_answers (by
      rw [if_neg (by simp [h])]
      rfl)

theorem exec_pwrGoodRise_again (h : s.pwrGood = true) (o : Option Nat) : exec (.pwrGoodRise o) s = .next (s.ends s.outside) :=
  calc exec (.pwrGoodRise o) s = execPwrGoodRise o s := rfl
    _ = .next _ := actOutside_answers (if_pos h)

theorem exec_pwrGoodFall : exec .pwrGoodFall s = .next (s.ends { (if s.pins.therm then s.outside.sig .thermTripN 0 1 else s.outside) with
    pwrGood := false, life := { s.life with roOpen := false, wrOpen := false }, pins := { s.pins with therm := false, thermField := 0 } }) :=
  calc exec .pwrGoodFall s = execPwrGoodFall s := rfl
    _ = .next _ := actOutside_answers (by
      cases htherm : s.pins.therm <;> simp only [State.outside_pins, htherm] <;> rfl)

theorem exec_coldReset_unpowered (h : s.pwrGood = false) :
    exec .coldReset s = .next (s.ends { s.outside with start := { s.start with coldLow := true } }) :=
  calc exec .coldReset s = execColdReset s := rfl
    _ = .next _ := actOutside_answers (by
      have hpower : ¬s.outside.pwrGood = true := by simp [h]
      simp only [if_neg hpower]
      rfl)

theorem exec_coldResetRelease : exec .coldResetRelease s = .next (s.ends (if s.start.coldLow then { s.outside with
      jtag := if s.jtag.drivesPins then .bypass else s.jtag
      start := { s.start with coldLow := false, phase := if s.start.phase = .held then .selfTest else s.start.phase, began := s.tbase } }
    else s.outside)) :=
  calc exec .coldResetRelease s = execColdResetRelease s := rfl
    _ = .next _ := actOutside_answers (by
      by_cases hlow : s.start.coldLow = true
      · rw [if_neg (by simp [hlow]), if_pos hlow]
        rfl
      · rw [if_pos (by simpa using hlow), if_neg hlow])

end

/-- Settles O54: the start that PWR_GOOD and COLD_RESET_N begin, and what it keeps. -/
theorem powerAndColdResetBeginAStart : Obligations.PowerAndColdResetBeginAStart := by
  refine fun s => ⟨fun o h => ⟨_, exec_pwrGoodRise h o, ?_⟩, fun o h => exec_pwrGoodRise_again h o, exec_pwrGoodFall,
    fun h => ⟨_, exec_coldReset h, ?_⟩, exec_coldReset_unpowered, fun h => ?_, fun h => ?_⟩
  · obtain ⟨hpower, htime⟩ := ({ s.outside with tbase := 0 } : State).fresh_power false
    obtain ⟨hcycles, hfuses, howners, ha, hb, hcommitted, h0, h1, hfolds⟩ := ({ s.outside with tbase := 0 } : State).fresh_kept false
    obtain ⟨hhif, hferr, hjob, hpair, hrec, hmarks, hflocks, hcores, hcrooks⟩ := ({ s.outside with tbase := 0 } : State).fresh_reset false
    refine ⟨hpower, htime, rfl, congrArg (fun n => sat (2 ^ 24 - 1) (n + 1)) hcycles, hfuses, howners, rfl, ha, hb, hcommitted, h0, h1, hfolds, ?_, ?_,
      hhif, hferr, hjob, hpair, hrec, hmarks, hflocks, hcores, hcrooks⟩
    · exact (congrArg FoldList.areaA hfolds).trans s.folds.found_areas.1
    · exact (congrArg FoldList.areaB hfolds).trans s.folds.found_areas.2
  · obtain ⟨hpower, htime⟩ := s.outside.fresh_power true
    obtain ⟨hcycles, hfuses, howners, ha, hb, -, h0, h1, hfolds⟩ := s.outside.fresh_kept true
    refine ⟨hpower, htime, s.outside.fresh_refclk, rfl, rfl, hcycles, hfuses, howners, ha, hb, h0, h1, hfolds, ?_, ?_, s.outside.fresh_reset true⟩
    · exact (congrArg FoldList.areaA hfolds).trans s.folds.found_areas.1
    · exact (congrArg FoldList.areaB hfolds).trans s.folds.found_areas.2
  · rw [exec_coldResetRelease, if_pos h]
  · rw [exec_coldResetRelease, if_neg (by simp [h])]

end Sys2Proof.Machine
end

section
/-!
The Shepherds' self-tests at a start and after the loss of both (R357, R390), and the image that firmware then runs (R363, R364).
-/
namespace Sys2Proof.Machine

section

variable {s : State}

/-! What an early report and the flash's start leave. -/

/-- An early report leaves the start, the life cycle, the image and who is active. -/
theorem State.earlyReport_unreported (code : Nat) (payload : List Byte) : (s.earlyReport code payload).unreported = s.unreported :=
  State.takeReport_unreported ..

theorem State.startDrovers_offFields : s.startDrovers.offFields = s.offFields :=
  s.forEach_frame State.offFields _ _ (by
    intro t f
    rw [State.driveTrips]
    rfl)

theorem State.flashStart_start (flash : Option FlashId) : (s.flashStart flash).start = s.start :=
  (congrArg State.start (State.sendAll_unrecorded ..) :)

theorem State.flashStart_active (flash : Option FlashId) : (s.flashStart flash).pair.active = s.pair.active :=
  (congrArg (fun t : State => t.pair.active) (State.sendAll_unrecorded ..) :)

theorem State.flashRead_active (addr : Nat) : (s.flashRead addr).pair.active = s.pair.active :=
  (congrArg (fun t : State => t.pair.active) (State.send_unrecorded ..) :)

/-- The flash that is found is one that holds the images. -/
def flashServes (flash : Option FlashId) : Bool := match flash with | some i => decide (64 ≤ i.mib) | none => false

theorem State.earlyReport_active (code : Nat) (payload : List Byte) : (s.earlyReport code payload).pair.active = s.pair.active :=
  (congrArg (fun t : State => t.pair.active) (State.earlyReport_unreported code payload) :)

theorem State.findFlash_phase (flash : Option FlashId) :
    (s.findFlash flash).start.phase = if flashServes flash then .firmware else .noFirmware := by
  cases flash with
  | none => rfl
  | some i =>
    by_cases hsize : 64 ≤ i.mib
    · simp only [State.findFlash, flashServes, hsize, decide_true, if_true]
      rfl
    · simp only [State.findFlash, flashServes, hsize, decide_false, Bool.false_eq_true, if_false]
      rfl

theorem State.findFlash_active (flash : Option FlashId) : (s.findFlash flash).pair.active = s.pair.active := by
  have hstart (t : State) (g : Start → Start) : (t.modStart g).pair = t.pair := rfl
  cases flash with
  | none =>
    simp only [State.findFlash, hstart, State.earlyReport_active]
    exact State.flashStart_active none
  | some i =>
    simp only [State.findFlash]
    split
    · simp only [hstart, State.flashRead_active, State.flashStart_active]
    · simp only [hstart, State.earlyReport_active, State.flashStart_active]

/-! The first choice of the active Shepherd. -/

/-- SHC-A is made active when its self-test passed, and SHC-B else; the other one follows when it has passed too. -/
def State.chosen (s : State) (okA okB : Bool) : State :=
  let t := s.startDrovers.makeActive (!okA)
  t.modShc (!!okA) (fun x => { x with status := if okA && okB then .following else .outOfService, lastHb := t.tbase })

theorem State.chosen_active (okA okB : Bool) : (s.chosen okA okB).pair.active = some (if okA then .a else .b) := by
  cases okA <;> rfl

theorem State.chosen_life (okA okB : Bool) : (s.chosen okA okB).life = s.life := by
  have hlife : s.startDrovers.life = s.life := (congrArg State.life s.startDrovers_offFields :)
  cases okA <;> exact hlife

theorem State.afterSelfTests_pass {okA okB : Bool} (h : (okA || okB) = true) (flash : Option FlashId) :
    s.afterSelfTests okA okB flash = match s.life.otpFault with
      | some i => ((s.chosen okA okB).earlyReport 0x6009 [BitVec.ofNat 8 i]).modStart (fun x => { x with phase := .noFirmware })
      | none => (s.chosen okA okB).findFlash flash := by
  rw [← State.chosen_life (s := s) okA okB, State.afterSelfTests]
  dsimp only
  rw [if_neg (by simp [h])]
  rfl

theorem State.afterSelfTests_phase {okA okB : Bool} (h : (okA || okB) = true) (flash : Option FlashId) :
    (s.afterSelfTests okA okB flash).start.phase = if s.life.otpFault = none ∧ flashServes flash = true then .firmware else .noFirmware := by
  rw [State.afterSelfTests_pass h]
  cases s.life.otpFault with
  | none => simp [State.findFlash_phase]
  | some i => rfl

theorem State.afterSelfTests_active {okA okB : Bool} (h : (okA || okB) = true) (flash : Option FlashId) :
    (s.afterSelfTests okA okB flash).pair.active = some (if okA then .a else .b) := by
  rw [State.afterSelfTests_pass h]
  cases s.life.otpFault with
  | none => exact (State.findFlash_active flash).trans (State.chosen_active okA okB)
  | some i => exact (State.earlyReport_active ..).trans (State.chosen_active okA okB)

theorem State.loseBoth_pair (h : s.pair.bothLost = false) (cause : Nat) :
    (s.loseBoth cause).pair.bothLost = true ∧ (s.loseBoth cause).pair.active = none := by
  rw [State.loseBoth, if_neg (by simp [h])]
  exact ⟨rfl, rfl⟩

theorem State.afterSelfTests_fail (h : s.pair.bothLost = false) (flash : Option FlashId) :
    (s.afterSelfTests false false flash).pair.bothLost = true ∧ (s.afterSelfTests false false flash).pair.active = none := by
  have hlost : s.startDrovers.pair.bothLost = false := (congrArg (fun t : State => t.pair.bothLost) s.startDrovers_offFields :).trans h
  exact State.loseBoth_pair (s := (s.startDrovers.modShc false (fun x => { x with status := .off })).modShc true
    (fun x => { x with status := .off })) hlost 1

/-! The self-tests. -/

/-- What a Shepherd's self-test at the start leaves before both are in. -/
def State.tested (s : State) (b pass : Bool) : State := s.modShc b (fun x => { x with status := if pass then .catchingUp else .outOfService })

theorem State.tested_a (b pass : Bool) : (s.tested b pass).pair.a.status =
    if b then s.pair.a.status else if pass then .catchingUp else .outOfService := by
  cases b <;> rfl

theorem State.tested_b (b pass : Bool) : (s.tested b pass).pair.b.status =
    if b then if pass then .catchingUp else .outOfService else s.pair.b.status := by
  cases b <;> rfl

/-- With both self-tests in, one of them passed, SHC-A is chosen when its own did. -/
theorem State.tested_chooses {b pass : Bool}
    (hother : (s.pair.shc (!b)).status = .catchingUp ∨ ((s.pair.shc (!b)).status = .outOfService ∧ pass = true)) :
    ¬((s.tested b pass).pair.a.status = .off ∨ (s.tested b pass).pair.b.status = .off)
    ∧ ((s.tested b pass).pair.a.status == .catchingUp || (s.tested b pass).pair.b.status == .catchingUp) = true := by
  rw [State.tested_a, State.tested_b]
  cases b <;> rcases hother with h | ⟨h, rfl⟩ <;> simp only [Bool.not_true, Bool.not_false, Pair.shc, Bool.false_eq_true, if_true, if_false] at h ⊢ <;>
    simp [h]
  · cases pass <;> simp
  · cases pass <;> simp

theorem exec_shepherdSelftestDone_start {b : Bool} (hscan : s.life.scanOpen = false) (hlost : s.pair.bothLost = false)
    (hphase : s.start.phase = .selfTest) (hoff : (s.pair.shc b).status = .off) (pass : Bool) (flash : Option FlashId) :
    exec (.shepherdSelftestDone b pass flash) s = .next (s.ends
      (let t := s.outside.tested b pass
       if t.pair.a.status = .off ∨ t.pair.b.status = .off then t
       else t.afterSelfTests (t.pair.a.status == .catchingUp) (t.pair.b.status == .catchingUp) flash)) :=
  calc exec (.shepherdSelftestDone b pass flash) s = execShepherdSelftestDone b pass flash s := rfl
    _ = .next _ := actOutside_answers (by
      rw [if_neg (by simp [hscan]), if_neg (by simp [hlost]), if_neg (by simp [hphase, hoff])]
      rfl)

theorem exec_shepherdSelftestDone_pass {b : Bool} (hscan : s.life.scanOpen = false) (hlost : s.pair.bothLost = true)
    (hstatus : (s.pair.shc b).status = .resetting) (hnone : s.pair.active = none) (flash : Option FlashId) :
    exec (.shepherdSelftestDone b true flash) s = .next (s.ends
      (if s.start.phase = .selfTest then (s.outside.makeActive b).findFlash flash else s.outside.makeActive b)) :=
  calc exec (.shepherdSelftestDone b true flash) s = execShepherdSelftestDone b true flash s := rfl
    _ = .next _ := actOutside_answers (by
      have hstart : (s.outside.makeActive b).start = s.start := by cases b <;> rfl
      rw [if_neg (by simp [hscan]), if_pos (by simpa using hlost), if_pos (by simp [hstatus, hnone])]
      dsimp only
      rw [hstart])

theorem exec_shepherdSelftestDone_fail {b : Bool} (hscan : s.life.scanOpen = false) (hlost : s.pair.bothLost = true)
    (hstatus : (s.pair.shc b).status = .resetting) (hother : s.pair.active ≠ some (shcOf b)) (flash : Option FlashId) :
    exec (.shepherdSelftestDone b false flash) s = .next (s.ends (s.outside.modShc b (fun x => { x with status := .outOfService }))) :=
  calc exec (.shepherdSelftestDone b false flash) s = execShepherdSelftestDone b false flash s := rfl
    _ = .next _ := actOutside_answers (by
      rw [if_neg (by simp [hscan]), if_pos (by simpa using hlost), if_neg (by simp), if_pos (by simp [hstatus, hother])]
      rfl)

/-! The image that runs. -/

/-- The two slots have been read; the committed one is reported when it does not qualify. -/
def State.imagesRead (s : State) (x y : Option FwImage) : State :=
  let t := s.modFw (fun w => { w with slotA := x, slotB := y })
  match badSlot (t.fw.slot s.fw.committed) t.fw.floor with
  | some r => t.earlyReport 0x4002 ([BitVec.ofNat 8 s.fw.committed, BitVec.ofNat 8 r, 0, 0] ++ le 4 (versionOf (t.fw.slot s.fw.committed)))
  | none => t

theorem State.imagesRead_unreported (x y : Option FwImage) :
    (s.imagesRead x y).unreported = (s.modFw (fun w => { w with slotA := x, slotB := y })).unreported := by
  unfold State.imagesRead
  dsimp only
  split
  · exact State.earlyReport_unreported ..
  · rfl

/-- The number of the slot whose image runs: the committed one, or the other one when only that qualifies. -/
def Fw.pick (w : Fw) : Option Nat :=
  if (badSlot (w.slot w.committed) w.floor).isNone then some w.committed
  else if (badSlot (w.slot (1 - w.committed)) w.floor).isNone then some (1 - w.committed) else none

/-- The image of a slot is the running one, on both Shepherds that are there. -/
def State.imageSet (s : State) (old n : Nat) : State :=
  let img := s.fw.slot n
  let t := s.modFw (fun w => { w with committed := n, running := img, runningSlot := n, staged := w.staged && n == old && (w.slot (1 - n)).isSome })
  let t := t.modShc false (fun x => if x.status = .active ∨ x.status = .following then { x with image := img } else x)
  t.modShc true (fun x => if x.status = .active ∨ x.status = .following then { x with image := img } else x)

/-- Firmware runs, under the stored settings. -/
def State.imageRuns (s : State) : State :=
  let t := s.modPair (fun p => { p with bothLost := false })
  { t with policy := t.start.settings.getD t.policy, start := { t.start with fwRun := true, settings := none } }

/-- What the choice of a slot leaves: its image runs, for the first time or again; without one no firmware runs. -/
def State.imagePicked (s : State) (old : Nat) : Option Nat → State
  | none => ((s.earlyReport 0x4002 ([BitVec.ofNat 8 old, 4, 0, 0] ++ le 4 (versionOf (s.fw.slot old)))).assertPin true).modStart
      (fun x => { x with phase := .noFirmware })
  | some n =>
    let t := s.imageSet old n
    if t.pair.bothLost && t.start.phase != .firmware then t.imageRuns.rerun else t.imageRuns.firstRun

theorem exec_firmwareLoaded (hrun : s.start.fwRun = false) (hactive : s.activeShc.isSome = true)
    (hwaits : s.start.phase = .firmware ∨ s.pair.bothLost = true) (x y : Option FwImage) :
    exec (.firmwareLoaded x y) s = .next (s.ends ((s.outside.imagesRead x y).imagePicked s.fw.committed (s.outside.imagesRead x y).fw.pick)) :=
  calc exec (.firmwareLoaded x y) s = execFirmwareLoaded x y s := rfl
    _ = .next _ := actOutside_answers (by
      have hguard : ¬(s.outside.start.fwRun || s.outside.activeShc.isNone || !(s.outside.start.phase == .firmware || s.outside.pair.bothLost)) = true := by
        have hsome : s.activeShc ≠ none := Option.ne_none_iff_isSome.2 hactive
        simpa [hrun, hsome, or_iff_not_imp_left] using hwaits
      have hfw : (s.outside.imagesRead x y).fw = (s.outside.modFw (fun w => { w with slotA := x, slotB := y })).fw :=
        (congrArg State.fw (State.imagesRead_unreported x y) :)
      rw [if_neg hguard]
      extract_lets old t bad u pick
      have hu : u = s.outside.imagesRead x y := rfl
      have hpick : pick = (s.outside.imagesRead x y).fw.pick := by
        simp only [pick, bad, hu, hfw]
        rfl
      rw [hpick, hu]
      cases (s.outside.imagesRead x y).fw.pick <;> rfl)

theorem exec_firmwareLoaded_again (h : s.start.fwRun = true) (x y : Option FwImage) :
    exec (.firmwareLoaded x y) s = .next (s.ends s.outside) :=
  calc exec (.firmwareLoaded x y) s = execFirmwareLoaded x y s := rfl
    _ = .next _ := actOutside_answers (if_pos (by simp [h]))

/-! Which slot is picked, and what its image begins with. -/

/-- The image of a slot among the two that were read. -/
def slotImage (x y : Option FwImage) (n : Nat) : Option FwImage := if n = 0 then x else y

theorem State.imagesRead_fw (x y : Option FwImage) : (s.imagesRead x y).fw = { s.fw with slotA := x, slotB := y } :=
  (congrArg State.fw (s.imagesRead_unreported x y) :)

theorem State.imagesRead_slot (x y : Option FwImage) (n : Nat) : (s.imagesRead x y).fw.slot n = slotImage x y n := by
  rw [State.imagesRead_fw]
  rfl

theorem State.imagesRead_pick {x y : Option FwImage} {n : Nat}
    (hn : n = s.fw.committed ∨ (n = 1 - s.fw.committed ∧ badSlot (slotImage x y s.fw.committed) s.fw.floor ≠ none))
    (hgood : badSlot (slotImage x y n) s.fw.floor = none) : (s.imagesRead x y).fw.pick = some n := by
  rw [State.imagesRead_fw, Fw.pick]
  change (if (badSlot (slotImage x y s.fw.committed) s.fw.floor).isNone then some s.fw.committed
    else if (badSlot (slotImage x y (1 - s.fw.committed)) s.fw.floor).isNone then some (1 - s.fw.committed) else none) = some n
  rcases hn with rfl | ⟨rfl, hbad⟩
  · rw [if_pos (by rw [hgood]; rfl)]
  · rw [if_neg (by simpa using hbad), if_pos (by rw [hgood]; rfl)]

theorem State.imagesRead_pick_none {x y : Option FwImage} (hx : badSlot x s.fw.floor ≠ none) (hy : badSlot y s.fw.floor ≠ none) :
    (s.imagesRead x y).fw.pick = none := by
  have hbad (n : Nat) : badSlot (slotImage x y n) s.fw.floor ≠ none := by
    unfold slotImage
    split
    · exact hx
    · exact hy
  rw [State.imagesRead_fw, Fw.pick]
  change (if (badSlot (slotImage x y s.fw.committed) s.fw.floor).isNone then some s.fw.committed
    else if (badSlot (slotImage x y (1 - s.fw.committed)) s.fw.floor).isNone then some (1 - s.fw.committed) else none) = none
  rw [if_neg (by simpa using hbad _), if_neg (by simpa using hbad _)]

theorem State.imagePicked_some (t : State) (old n : Nat) :
    t.imagePicked old (some n) = if t.pair.bothLost && t.start.phase != .firmware then (t.imageSet old n).imageRuns.rerun
      else (t.imageSet old n).imageRuns.firstRun := rfl

end

/-- Settles O55: the Shepherd that the self-tests choose, and the image that then runs. -/
theorem shepherdsAndFirmwareStart : Obligations.ShepherdsAndFirmwareStart := by
  refine ⟨fun b pass flash s hscan hlost hphase hoff => ⟨fun hother => ?_, fun hother => ⟨_, exec_shepherdSelftestDone_start hscan hlost hphase hoff pass flash, ?_⟩,
      fun hother hfail => ⟨_, exec_shepherdSelftestDone_start hscan hlost hphase hoff pass flash, ?_⟩⟩,
    fun b flash s hscan hlost hstatus => ⟨fun hnone => exec_shepherdSelftestDone_pass hscan hlost hstatus hnone flash,
      fun hother => exec_shepherdSelftestDone_fail hscan hlost hstatus hother flash⟩,
    fun x y s n hrun hactive hwaits hslot => ⟨fun hn hgood => ?_, fun hx hy => ?_⟩, fun x y s h => exec_firmwareLoaded_again h x y⟩
  · rw [exec_shepherdSelftestDone_start hscan hlost hphase hoff]
    refine congrArg (fun t => Host.Outcome.next (s.ends t)) (if_pos ?_)
    rw [State.tested_a, State.tested_b]
    cases b
    · exact .inr hother
    · exact .inl hother
  · obtain ⟨hin, hone⟩ := State.tested_chooses (s := s.outside) hother
    dsimp only
    rw [if_neg hin]
    have hlife : (s.outside.tested b pass).life = s.life := by cases b <;> rfl
    have hphase' := State.afterSelfTests_phase (s := s.outside.tested b pass) hone flash
    rw [hlife] at hphase'
    refine ⟨hphase', (State.afterSelfTests_active hone flash).trans ?_⟩
    rw [State.tested_a]
    cases b <;> cases pass <;> simp
  · have hnone : ((s.outside.tested b pass).pair.a.status == .catchingUp) = false ∧ ((s.outside.tested b pass).pair.b.status == .catchingUp) = false
        ∧ ¬((s.outside.tested b pass).pair.a.status = .off ∨ (s.outside.tested b pass).pair.b.status = .off) := by
      rw [State.tested_a, State.tested_b, hfail]
      cases b
      · simp [show s.pair.b.status = .outOfService from hother]
      · simp [show s.pair.a.status = .outOfService from hother]
    obtain ⟨ha, hb, hin⟩ := hnone
    dsimp only
    rw [if_neg hin, ha, hb]
    exact State.afterSelfTests_fail (by cases b <;> exact hlost) flash
  · refine ⟨((s.outside.imagesRead x y).imageSet s.fw.committed n).imageRuns, ?_, rfl, ?_, rfl, rfl, rfl, ?_⟩
    · have hlost : (s.outside.imagesRead x y).pair.bothLost = s.pair.bothLost :=
        (congrArg (fun t : State => t.pair.bothLost) (State.imagesRead_unreported x y) :)
      have hphase : (s.outside.imagesRead x y).start.phase = s.start.phase :=
        (congrArg (fun t : State => t.start.phase) (State.imagesRead_unreported x y) :)
      rw [exec_firmwareLoaded hrun hactive hwaits, State.imagesRead_pick (s := s.outside) hn hgood, State.imagePicked_some, hlost, hphase]
      simp only [Bool.and_eq_true, bne_iff_ne]
    · exact State.imagesRead_slot (s := s.outside) x y n
    · exact (congrArg (fun t : State => t.start.settings.getD t.policy) (State.imagesRead_unreported (s := s.outside) x y) :)
  · refine ⟨(s.outside.imagesRead x y).earlyReport 0x4002 ([BitVec.ofNat 8 s.fw.committed, 4, 0, 0]
      ++ le 4 (versionOf ((s.outside.imagesRead x y).fw.slot s.fw.committed))), ?_, ?_⟩
    · rw [exec_firmwareLoaded hrun hactive hwaits, State.imagesRead_pick_none (s := s.outside) hx hy]
      rfl
    · have hstart : (s.outside.imagesRead x y).start.fwRun = s.start.fwRun :=
        (congrArg (fun t : State => t.start.fwRun) (State.imagesRead_unreported x y) :)
      exact (congrArg (fun t : State => t.start.fwRun) (State.earlyReport_unreported ..) :).trans (hstart.trans hrun)

end Sys2Proof.Machine
end

section
/-!
The rails that regulate in time or not (R260, R393), the flock resets of the start (R391, R392), and readiness (R394).
-/
namespace Sys2Proof.Machine

section

variable {s : State} {f : Nat}

/-! A compute rail that regulates. -/

theorem Field.advance_returning (fd : Field) (held : Bool) (now : Nat) : (fd.advance held now).returning = fd.returning := by
  unfold Field.advance
  split <;> rfl

theorem State.railUp_returning : ((s.railUp f).field f).returning = (s.field f).returning := by
  obtain ⟨held, now, hfield⟩ := s.syncField_field f
  unfold State.railUp
  dsimp only
  rw [State.forEach_frame _ (fun t : State => t.field f) _ _ (by exact fun _ _ => rfl), State.modField_field, hfield]
  exact Field.advance_returning ..

theorem State.railUp_sansUnits : (s.railUp f).sansUnits = s.sansUnits := by
  unfold State.railUp
  dsimp only
  rw [State.sansUnits_forEach _ _ _ (by exact fun _ _ => rfl), State.sansUnits_modField, State.sansUnits_syncField]

theorem State.railUp_level1 : (s.railUp f).recovery.level1 = s.recovery.level1 :=
  congrArg Recovery.level1 (State.recovery_of_sansUnits s.railUp_sansUnits)

theorem State.railUp_start : (s.railUp f).start = s.start := (congrArg State.start (State.railUp_sansUnits (s := s) (f := f)) :)

theorem exec_pspPowerGood_compute (hf : f < Config.fields) (hen : (s.field f).compEn = true) (hpg : (s.field f).compPg = false) :
    exec (.pspPowerGood f false) s = .next (s.ends
      (if (s.field f).returning = some 1 then ((s.begun.railUp f).modField f (fun fd => { fd with returning := some 2 })).queueResets f
       else match s.recovery.level1 with
        | some l => if l.pgWait.contains f then (s.begun.railUp f).l1Field f else s.begun.railUp f
        | none => if s.start.pgWait.contains f then
            (((s.begun.railUp f).modStart (fun x => { x with pgWait := without x.pgWait f })).queueResets f).startMove else s.begun.railUp f)) :=
  calc exec (.pspPowerGood f false) s = execPspPowerGood f false s := rfl
    _ = .next _ := actIf_answers (by simp [hf, hen, hpg]) (by
      have hreturning : ((s.begun.railUp f).field f).returning = (s.field f).returning := State.railUp_returning
      have hlevel : (s.begun.railUp f).recovery.level1 = s.recovery.level1 := State.railUp_level1
      have hstart : (s.begun.railUp f).start = s.start := State.railUp_start
      cases hrecovery : s.recovery.level1 <;> simp only [Bool.false_eq_true, if_false, hreturning, hlevel, hrecovery, hstart])

theorem exec_pspPowerGood_again (hpg : (s.field f).compPg = true) : exec (.pspPowerGood f false) s = .next (s.ends s.begun) :=
  calc exec (.pspPowerGood f false) s = execPspPowerGood f false s := rfl
    _ = .next _ := actIf_neg s _ _ (by simp [hpg])

/-! An infrastructure rail that regulates: routers and Drover start. -/

theorem State.linksBack_fields (planes : List Nat) : (s.linksBack f planes).fields = s.fields := by
  unfold State.linksBack
  dsimp only
  split <;> rfl

theorem State.placeCopies_fields : s.placeCopies.fields = s.fields := by
  unfold State.placeCopies
  refine s.forEach_frame State.fields _ _ fun t m => ?_
  simp only [apply_ite State.fields, State.modMem_fields, ite_self]

/-- What a closed infrastructure rail brings back of its field. -/
def State.infraBack (s : State) (f : Nat) : State :=
  let s := s.modField f (fun fd => { fd with infraPg := true, routers := true, drover := !fd.droverOut })
  let s := s.forEach ((List.range 3).filter (fun v => Config.voterField v == f)) (fun s v =>
    s.modPair (fun p => { p with voters := modifyAt p.voters v (fun x => { x with resetting := false }) }))
  (((s.driveTherm f).linksBack f [0, 1]).driveTrips f).placeCopies

theorem State.infraBack_field {γ : Type} (p : Field → γ) (hp : ∀ fd b, p { fd with thermOff := b } = p fd) :
    p ((s.infraBack f).field f) = p { s.field f with infraPg := true, routers := true, drover := !(s.field f).droverOut } := by
  have htrips (t : State) : (t.driveTrips f).fields = t.fields := rfl
  rw [State.infraBack]
  dsimp only
  rw [State.field, State.placeCopies_fields, htrips, State.linksBack_fields]
  refine (State.driveTherm_field p hp).trans ?_
  rw [State.forEach_frame _ (fun t : State => t.field f) _ _ (by exact fun _ _ => rfl), State.modField_field]

theorem exec_pspPowerGood_infra (hf : f < Config.fields) (hen : (s.field f).infraEn = true) (hpg : (s.field f).infraPg = false) :
    exec (.pspPowerGood f true) s = .next (s.ends
      (if (s.field f).returning = some 0 then (s.begun.infraBack f).closeCompute f else s.begun.infraBack f)) :=
  calc exec (.pspPowerGood f true) s = execPspPowerGood f true s := rfl
    _ = .next _ := actIf_answers (by simp [hf, hen, hpg]) (by
      have hreturning : ((s.begun.infraBack f).field f).returning = (s.field f).returning :=
        State.infraBack_field Field.returning (by exact fun _ _ => rfl)
      refine (if_pos rfl).trans ?_
      change (if ((s.begun.infraBack f).field f).returning = some 0 then (s.begun.infraBack f).closeCompute f else s.begun.infraBack f) = _
      rw [hreturning])

/-! A rail that does not regulate in time. -/

/-- What follows when the rail of a field has not regulated within 1 ms. -/
def State.railLate (s : State) (f : Nat) (infra : Bool) : State :=
  let s := s.advanceTo ((s.field f).enAt + 1000000)
  if (s.field f).returning.isSome then s.returnFailed f
  else if infra then s
  else match s.recovery.level1 with
    | some l => if l.pgWait.contains f then s.loseField f 3 else s
    | none => if s.start.pgWait.contains f then s.startFailed f else s

theorem exec_compPgTimeout (hf : f < Config.fields) (hen : (s.field f).compEn = true) (hpg : (s.field f).compPg = false) :
    exec (.compPgTimeout f false) s = .next (s.ends (s.begun.railLate f false)) :=
  calc exec (.compPgTimeout f false) s = execCompPgTimeout f false s := rfl
    _ = .next _ := actIf_pos s _ _ (by simp [hf, hen, hpg])

theorem exec_compPgTimeout_infra (hf : f < Config.fields) (hen : (s.field f).infraEn = true) (hpg : (s.field f).infraPg = false) :
    exec (.compPgTimeout f true) s = .next (s.ends (s.begun.railLate f true)) :=
  calc exec (.compPgTimeout f true) s = execCompPgTimeout f true s := rfl
    _ = .next _ := actIf_pos s _ _ (by simp [hf, hen, hpg])

theorem exec_compPgTimeout_again (hpg : (s.field f).compPg = true) : exec (.compPgTimeout f false) s = .next (s.ends s.begun) :=
  calc exec (.compPgTimeout f false) s = execCompPgTimeout f false s := rfl
    _ = .next _ := actIf_neg s _ _ (by simp [hpg])

theorem State.railLate_returning (h : (s.field f).returning.isSome = true) (infra : Bool) :
    s.railLate f infra = (s.advanceTo ((s.field f).enAt + 1000000)).returnFailed f := if_pos h

theorem State.railLate_start (h : (s.field f).returning = none) (hlevel : s.recovery.level1 = none) (hwait : s.start.pgWait.contains f = true) :
    s.railLate f false = (s.advanceTo ((s.field f).enAt + 1000000)).startFailed f := by
  simp only [State.railLate, State.advanceTo_field, h, Option.isSome_none, Bool.false_eq_true, if_false, State.advanceTo_recovery, hlevel,
    State.advanceTo_start, hwait, if_true]

theorem State.railLate_level1 {l : Level1} (h : (s.field f).returning = none) (hlevel : s.recovery.level1 = some l)
    (hwait : l.pgWait.contains f = true) : s.railLate f false = (s.advanceTo ((s.field f).enAt + 1000000)).loseField f 3 := by
  simp only [State.railLate, State.advanceTo_field, h, Option.isSome_none, Bool.false_eq_true, if_false, State.advanceTo_recovery, hlevel,
    hwait, if_true]

/-! The resets of the flocks. -/

theorem exec_resetStatus {k : Nat} (hf : f < Config.fields) (hk : k < Config.flocks) (hfw : s.firmware = true) (ok : Bool) :
    exec (.resetStatus f k ok) s = .next (s.ends
      (if s.start.waiting.contains (flockKey f k) then s.begun.startReset f k ok else s.begun.resetDone f k ok)) :=
  calc exec (.resetStatus f k ok) s = execResetStatus f k ok s := rfl
    _ = .next _ := actIf_pos s _ _ (by simp [hf, hk, hfw])

theorem State.startReset_failed (k : Nat) : s.startReset f k false =
    if (s.field f).returning.isSome then s.returnFailed f
    else if s.start.retried.contains (flockKey f k) then s.startFailed f
    else (s.modStart (fun x => { x with retried := x.retried ++ [flockKey f k] })).writeResets [flockKey f k] := rfl

/-! Readiness. -/

/-- Beyja is ready: the failed parts have been reported, the cores screened before a graceful stop count so, and 0x6006 is recorded. -/
def State.madeReady (s : State) (l : List (Uid × Nat × Nat)) : State :=
  let bad := if s.start.graceful then [] else l
  let p := s.forEach bad (fun t x => t.partSelfTestFailed x.1 x.2.1 x.2.2)
  let q := p.forEach p.carriedCores (fun t x => t.modCore x.1 x.2.1 x.2.2 (fun y => { y with screened := true, lastPassEnd := 0 }))
  let parts := bad.length + b2n (q.pair.a.status == .outOfService) + b2n (q.pair.b.status == .outOfService)
  let r := q.note 0x6006 dieUid ([BitVec.ofNat 8 (b2n (!q.start.graceful)), BitVec.ofNat 8 (b2n (q.activeShc == some true))]
    ++ le 2 (sat 65535 p.carriedCores.length) ++ le 4 (q.tbase / 1000000) ++ le 4 parts)
  r.modStart (fun x => { x with ready := true, readyAt := r.tbase, phase := .ready, outParts := parts })

theorem exec_startReady (hfw : s.firmware = true) (hphase : s.start.phase = .release) (hshipped : s.start.shipped = true)
    (hscanned : s.tally.scanned = true) (hready : s.start.ready = false) (l : List (Uid × Nat × Nat)) :
    exec (.startReady l) s = .next (s.ends
      (if (s.begun.madeReady l).startPager.hif.startHeld then (s.begun.madeReady l).startPager.bringUp else (s.begun.madeReady l).startPager)) :=
  calc exec (.startReady l) s = execStartReady l s := rfl
    _ = .next _ := actIf_pos s _ _ (by simp [hfw, hphase, hshipped, hscanned, hready])

theorem exec_startReady_idle (h : (s.firmware && s.start.phase == .release && s.start.shipped && s.tally.scanned && !s.start.ready) = false)
    (l : List (Uid × Nat × Nat)) : exec (.startReady l) s = .next (s.ends s.begun) :=
  calc exec (.startReady l) s = execStartReady l s := rfl
    _ = .next _ := actIf_neg s _ _ h

end

/-- Settles O56: the rails and the flock resets by what waits for them, and the readiness that follows. -/
theorem computeIsReleasedAndReadinessReached : Obligations.ComputeIsReleasedAndReadinessReached := by
  refine fun f s hf => ⟨fun hen hpg hreturn hlevel hwait => ⟨?_, ?_⟩, fun hen hpg hreturn => ?_, fun hen hpg hreturn => ?_,
    fun l hen hpg hreturn hlevel hwait => ?_, fun hen hpg hreturn => ?_, fun hen hpg hreturn => ⟨s.begun.infraBack f, ?_, ?_, ?_⟩,
    fun hen hpg hreturn => ⟨s.begun.infraBack f, ?_, ?_, ?_, ?_⟩, fun hpg => ⟨exec_pspPowerGood_again hpg, exec_compPgTimeout_again hpg⟩,
    fun k hk hfw hwait => ⟨?_, fun hreturn hfirst => ?_, fun hreturn hagain => ?_, fun hreturn => ?_⟩, fun k ok hk hfw hwait => ?_,
    fun l p q r parts hfw hphase hshipped hscanned hready hp hq hparts hr => ⟨_, rfl, ?_⟩, fun h l => exec_startReady_idle h l⟩
  · rw [exec_pspPowerGood_compute hf hen hpg, hreturn, hlevel, if_neg (by simp)]
    exact congrArg (fun t => Host.Outcome.next (s.ends t)) (if_pos hwait)
  · rw [exec_compPgTimeout hf hen hpg, State.railLate_start (s := s.begun) hreturn hlevel hwait]
    rfl
  · rw [exec_pspPowerGood_compute hf hen hpg, if_pos hreturn]
  · rw [exec_compPgTimeout hf hen hpg, State.railLate_returning (s := s.begun) hreturn]
    rfl
  · rw [exec_compPgTimeout hf hen hpg, State.railLate_level1 (s := s.begun) hreturn hlevel hwait]
    rfl
  · rw [exec_compPgTimeout_infra hf hen hpg, State.railLate_returning (s := s.begun) hreturn]
    rfl
  · rw [exec_pspPowerGood_infra hf hen hpg, if_pos hreturn]
  · exact State.infraBack_field Field.infraPg (by exact fun _ _ => rfl)
  · exact State.infraBack_field Field.routers (by exact fun _ _ => rfl)
  · rw [exec_pspPowerGood_infra hf hen hpg, if_neg hreturn]
  · exact State.infraBack_field Field.infraPg (by exact fun _ _ => rfl)
  · exact State.infraBack_field Field.routers (by exact fun _ _ => rfl)
  · exact State.infraBack_field (s := s.begun) Field.drover (by exact fun _ _ => rfl)
  · rw [exec_resetStatus hf hk hfw, if_pos hwait]
  · rw [exec_resetStatus hf hk hfw, if_pos hwait, State.startReset_failed, State.begun_field, if_neg (by simp [hreturn]),
      State.begun_start, if_neg (by simpa using hfirst)]
  · rw [exec_resetStatus hf hk hfw, if_pos hwait, State.startReset_failed, State.begun_field, if_neg (by simp [hreturn]),
      State.begun_start, if_pos hagain]
  · rw [exec_resetStatus hf hk hfw, if_pos hwait, State.startReset_failed, State.begun_field, if_pos hreturn]
  · rw [exec_resetStatus hf hk hfw, if_neg (by rw [hwait]; exact Bool.false_ne_true)]
  · rw [exec_startReady hfw hphase hshipped hscanned hready, hr, hparts, hq, hp]
    rfl

end Sys2Proof.Machine
end

section
/-!
The choice of the reference clock (R30-R33), and the messages, links and detours of the mesh (R22-R25).
-/
namespace Sys2Proof.Machine

section

variable {s : State}

/-! What the voters find of the two references. -/

theorem refGood_iff (v : RefView) : refGood v = true ↔ v.edges ≠ 0 ∧ v.ppm.natAbs ≤ 1000 := by simp [refGood]

theorem exec_refclkCheck_unpowered {A B : List RefView} (hpwr : s.pwrGood = false) : exec (.refclkCheck A B) s = .next (s.ends s.outside) :=
  calc exec (.refclkCheck A B) s = execRefclkCheck A B s := rfl
    _ = .next _ := actOutside_answers (if_pos (by simp [State.outside, hpwr]))

/-- REFCLK_CHECK of a powered block, with what the voters find of both references noted. -/
def State.checkRefs (s : State) (A B : List RefView) : State :=
  let bad := fun (i : Nat) => s.votersFind i false A B
  let sel := s.refclk.sel
  let u := s.modRef (fun r => { r with failed := (List.range 2).filter (fun i => decide (2 ≤ (bad i).length)) })
  let move := (bad sel).filter (fun v => !((bad (1 - sel)).contains v))
  let dark := (bad sel).filter (fun v => (bad (1 - sel)).contains v)
  if 2 ≤ move.length then u.switchRef (1 - sel) move
  else if 2 ≤ dark.length then
    if s.refclk.holdSince.isSome then u else (u.modRef (fun r => { r with holdSince := some s.tbase })).report 0x0103 dieUid (le 4 0)
  else if (bad sel).length < 2 then u.modRef (fun r => { r with holdSince := none })
  else u

theorem exec_refclkCheck_powered {A B : List RefView} (hpwr : s.pwrGood = true) :
    exec (.refclkCheck A B) s = .next (s.ends (s.outside.checkRefs A B)) :=
  calc exec (.refclkCheck A B) s = execRefclkCheck A B s := rfl
    _ = .next _ := actOutside_answers (if_neg (by simp [State.outside, hpwr]))

theorem checkRefs_found {A B : List RefView} (hfew : (s.votersFind s.refclk.sel false A B).length < 2) :
    s.checkRefs A B = (s.modRef (fun r => { r with failed := (List.range 2).filter (fun i => decide (2 ≤ (s.votersFind i false A B).length)) })).modRef
      (fun r => { r with holdSince := none }) := by
  have few (p : Nat → Bool) : ¬ 2 ≤ ((s.votersFind s.refclk.sel false A B).filter p).length :=
    Nat.not_le.2 (Nat.lt_of_le_of_lt (List.length_filter_le p _) hfew)
  unfold State.checkRefs
  dsimp only
  rw [if_neg (few _), if_neg (few _), if_pos hfew]

/-! The re-lock of a field. -/

/-- PLL_LOCK of a field that re-locks. -/
def State.pllLocked (s : State) (f : Nat) : State := (s.syncField f).modField f (fun fd => { fd with relock := false })

theorem State.pllLocked_refclk (f : Nat) : (s.pllLocked f).refclk = s.refclk := by
  have h : (s.pllLocked f).sansUnits = s.sansUnits := by rw [State.pllLocked, State.sansUnits_modField, State.sansUnits_syncField]
  exact (congrArg (fun t : State => t.refclk) h :)

theorem State.pllLocked_relock (f : Nat) : ((s.pllLocked f).field f).relock = false := by rw [State.pllLocked, State.modField_field]

theorem exec_pllLock {f : Nat} (hf : f < Config.fields) (hrelock : (s.field f).relock = true) :
    exec (.pllLock f) s = .next (s.ends
      (if s.refclk.relocking && (List.range Config.fields).all (fun g => !((s.begun.pllLocked f).field g).relock) then (s.begun.pllLocked f).endFailover
       else s.begun.pllLocked f)) :=
  calc exec (.pllLock f) s = execPllLock f s := rfl
    _ = .next _ := actIf_answers (by simp [hf, hrelock]) (by
      have hrefclk : (s.begun.pllLocked f).refclk = s.refclk := State.pllLocked_refclk f
      rw [← hrefclk]
      rfl)

theorem exec_pllLock_kept {f : Nat} (hrelock : (s.field f).relock = false) : exec (.pllLock f) s = .next (s.ends s.begun) :=
  calc exec (.pllLock f) s = execPllLock f s := rfl
    _ = .next _ := actIf_neg s _ _ (by simp [hrelock])

end

section

variable {s : State} {m : MeshMsg}

/-! A message of the mesh. -/

theorem exec_meshMessage_impossible (hok : meshOk m = false) : exec (.meshMessage m) s = .next (s.ends s.begun) :=
  calc exec (.meshMessage m) s = execMeshMessage m s := rfl
    _ = .next _ := actIf_neg s _ _ hok

theorem exec_meshMessage_uncorrectable {f l : Nat} (hok : meshOk m = true) (hflits : m.flits = .uncorrectable f l) :
    exec (.meshMessage m) s = .next (s.ends
      ((s.begun.report 0x0202 (partUid f (1 + m.plane)) ([BitVec.ofNat 8 l, 0, 0, 0] ++ le 4 m.src.toNat)).resendOn m (1 - m.plane))) :=
  calc exec (.meshMessage m) s = execMeshMessage m s := rfl
    _ = .next _ := actIf_answers hok (by simp only [hflits])

/-- What a message that arrives without a lost flit does: it waits where no table leads round a link that is down, and is taken elsewhere. -/
def State.meshArrives (s : State) (m : MeshMsg) : State :=
  if s.undeliverable m then s.modMesh (fun q => { q with resend := q.resend ++ [m] }) else s.takeMessage m

theorem exec_meshMessage_corrected {f l : Nat} (hok : meshOk m = true) (hflits : m.flits = .corrected f l) :
    exec (.meshMessage m) s = .next (s.ends ((s.begun.report 0x0201 (partUid f (1 + m.plane)) [BitVec.ofNat 8 l]).meshArrives m)) :=
  calc exec (.meshMessage m) s = execMeshMessage m s := rfl
    _ = .next _ := actIf_answers hok (by simp only [hflits]; rfl)

theorem exec_meshMessage_clean (hok : meshOk m = true) (hflits : m.flits = .clean) :
    exec (.meshMessage m) s = .next (s.ends (s.begun.meshArrives m)) :=
  calc exec (.meshMessage m) s = execMeshMessage m s := rfl
    _ = .next _ := actIf_answers hok (by simp only [hflits]; rfl)

theorem State.meshArrives_held (h : s.undeliverable m = true) : s.meshArrives m = s.modMesh (fun q => { q with resend := q.resend ++ [m] }) :=
  if_pos h

theorem State.meshArrives_taken (h : s.undeliverable m = false) : s.meshArrives m = s.takeMessage m := if_neg (by simp [h])

/-! A single message acts; of a dual one the first copy acts and the second is discarded. -/

/-- What the body of a message does at its destination. -/
def State.meshBody (s : State) (m : MeshMsg) : State :=
  match m.body with
  | .other => s
  | .counts f => if s.firmware then s.sendCounts f else s

theorem State.takeMessage_single (hdual : m.dual = false) : s.takeMessage m = s.meshBody m := by
  simp only [State.takeMessage, hdual, Bool.false_and, Bool.false_eq_true, if_false]
  rfl

theorem State.takeMessage_first (hdual : m.dual = true) (hseen : s.mesh.seen.contains (m.src, m.sn) = false) :
    s.takeMessage m = (s.modMesh (fun x => { x with seen := x.seen ++ [(m.src, m.sn)] })).meshBody m := by
  simp only [State.takeMessage, hdual, hseen, Bool.and_false, Bool.false_eq_true, if_false, if_true]
  rfl

theorem State.takeMessage_second (hdual : m.dual = true) (hseen : s.mesh.seen.contains (m.src, m.sn) = true) :
    s.takeMessage m = s.modMesh (fun x => { x with seen := x.seen.erase (m.src, m.sn) }) := by
  simp only [State.takeMessage, hdual, hseen, Bool.and_true, if_true]

theorem State.meshBody_other (hbody : m.body = .other) : s.meshBody m = s := by simp only [State.meshBody, hbody]

theorem State.meshBody_counts {f : Nat} (hbody : m.body = .counts f) (hfw : s.firmware = true) : s.meshBody m = s.sendCounts f := by
  simp only [State.meshBody, hbody, hfw, if_true]

theorem exec_meshMessage_delivered (hok : meshOk m = true) (hflits : m.flits = .clean) (hway : s.undeliverable m = false) :
    exec (.meshMessage m) s = .next (s.ends (s.begun.takeMessage m)) := by
  rw [exec_meshMessage_clean hok hflits, State.meshArrives_taken (s := s.begun) hway]

theorem exec_meshMessage_single (hok : meshOk m = true) (hflits : m.flits = .clean) (hway : s.undeliverable m = false) (hdual : m.dual = false) :
    exec (.meshMessage m) s = .next (s.ends (s.begun.meshBody m)) := by
  rw [exec_meshMessage_delivered hok hflits hway, State.takeMessage_single hdual]

theorem exec_meshMessage_first (hok : meshOk m = true) (hflits : m.flits = .clean) (hway : s.undeliverable m = false) (hdual : m.dual = true)
    (hseen : s.mesh.seen.contains (m.src, m.sn) = false) :
    exec (.meshMessage m) s = .next (s.ends (({ s.begun with mesh := { s.mesh with seen := s.mesh.seen ++ [(m.src, m.sn)] } } : State).meshBody m)) := by
  rw [exec_meshMessage_delivered hok hflits hway, State.takeMessage_first (s := s.begun) hdual hseen]
  rfl

theorem exec_meshMessage_second (hok : meshOk m = true) (hflits : m.flits = .clean) (hway : s.undeliverable m = false) (hdual : m.dual = true)
    (hseen : s.mesh.seen.contains (m.src, m.sn) = true) :
    exec (.meshMessage m) s = .next (s.ends { s.begun with mesh := { s.mesh with seen := s.mesh.seen.erase (m.src, m.sn) } }) := by
  rw [exec_meshMessage_delivered hok hflits hway, State.takeMessage_second (s := s.begun) hdual hseen]
  rfl

end

section

variable {s : State} {p f l : Nat}

/-! A mesh link goes down, and the detour tables come. -/

/-- A mesh link marked down, with detour tables due. -/
def State.linkMarkedDown (s : State) (p f l : Nat) : State :=
  (s.modMesh (fun m => { m with down := m.down ++ [(p, f, l)], detourDue := true })).report 0x0203 (partUid f (1 + p)) [BitVec.ofNat 8 l]

theorem exec_meshLinkDown (hp : p < 2) (hf : f < Config.fields) (hl : l < 4) (hdown : s.mesh.down.contains (p, f, l) = false) :
    exec (.meshLinkDown p f l) s = .next (s.ends
      (if (s.begun.linkMarkedDown p f l).planeGone p && !((s.begun.linkMarkedDown p f l).mesh.planeLost.contains p) then
        ((s.begun.linkMarkedDown p f l).modMesh (fun m => { m with planeLost := m.planeLost ++ [p] })).report 0x0204 dieUid [BitVec.ofNat 8 p]
       else s.begun.linkMarkedDown p f l)) :=
  calc exec (.meshLinkDown p f l) s = execMeshLinkDown p f l s := rfl
    _ = .next _ := actIf_pos s _ _ (by simp only [hp, hf, hl, hdown, decide_true, Bool.and_self, Bool.not_false])

theorem exec_meshLinkDown_again (hdown : s.mesh.down.contains (p, f, l) = true) : exec (.meshLinkDown p f l) s = .next (s.ends s.begun) :=
  calc exec (.meshLinkDown p f l) s = execMeshLinkDown p f l s := rfl
    _ = .next _ := actIf_neg s _ _ (by simp only [hdown, Bool.not_true, Bool.and_false])

/-- The plane on which a returned message goes again. -/
def State.resendPlane (s : State) (m : MeshMsg) : Nat := if s.mesh.planeLost.contains m.plane then 1 - m.plane else m.plane

theorem State.forEach_resendOn (ms : List MeshMsg) : s.forEach ms (fun s m => s.resendOn m (s.resendPlane m)) =
    { s with out := s.out ++ ms.map (fun m => .mesh (s.resendPlane m) m.head m.rest) } := by
  induction ms generalizing s with
  | nil => rw [List.map_nil, List.append_nil]; rfl
  | cons m ms ih =>
    rw [List.map_cons, List.append_cons]
    exact ih (s := s.resendOn m (s.resendPlane m))

theorem exec_detourTables (hfw : s.firmware = true) (hdue : s.mesh.detourDue = true) :
    exec .detourTables s = .next (s.ends
      (({ s.begun with mesh := { s.mesh with detourDue := false, detoured := s.mesh.down, resend := [] },
                       out := s.mesh.resend.map (fun m => .mesh (s.resendPlane m) m.head m.rest) } : State).measureDelay
        ((List.range Config.fields).filter (fun f => (s.field f).tbaseSet)))) :=
  calc exec .detourTables s = execDetourTables s := rfl
    _ = .next _ := actIf_answers (by simp [hfw, hdue]) (by
      dsimp only
      erw [State.forEach_resendOn]
      rfl)

theorem exec_detourTables_notDue (hdue : s.mesh.detourDue = false) : exec .detourTables s = .next (s.ends s.begun) :=
  calc exec .detourTables s = execDetourTables s := rfl
    _ = .next _ := actIf_neg s _ _ (by simp [hdue])

end

/-- Settles O59: each command's cases by its guard; a single message and each copy of a dual one act as their body says, and the resending of the
returned messages is an induction over them. -/
theorem clocksAndMeshFollowTheirRules : Obligations.ClocksAndMeshFollowTheirRules := by
  unfold Obligations.ClocksAndMeshFollowTheirRules
  refine ⟨⟨refGood_iff, fun A B s u => ⟨exec_refclkCheck_unpowered, fun hpwr hu => ⟨fun hfew => ?_, fun l m hl hm =>
    ⟨fun hmove => ?_, fun hmove hdark hhold => ?_, fun hmove hdark hhold => ?_, fun hmove hdark hmany => ?_⟩⟩,
    fun f v hf => ⟨fun hrelock hv => hv ▸ ⟨exec_pllLock hf hrelock, State.pllLocked_relock (s := s.begun) f⟩, exec_pllLock_kept⟩⟩⟩, fun s =>
    ⟨fun m => exec_meshMessage_impossible, fun m f l => exec_meshMessage_uncorrectable, fun m hok hflits hway => ?_,
     fun m f l u hok hflits hu => hu ▸ exec_meshMessage_corrected hok hflits,
     fun m hok hflits hway hbody => ⟨fun hdual => ?_, fun hdual hseen => ?_, exec_meshMessage_second hok hflits hway⟩,
     fun m f hok hflits hway hbody hfw => ⟨fun hdual => ?_, fun hdual hseen => ?_, exec_meshMessage_second hok hflits hway⟩,
     fun p f l hp hf hl => ⟨exec_meshLinkDown_again, fun u hdown hu => ⟨fun h => ?_, fun hgone hlost => ?_⟩⟩,
     exec_detourTables, exec_detourTables_notDue⟩⟩
  · rw [exec_refclkCheck_powered hpwr, checkRefs_found (s := s.outside) hfew, hu]
    rfl
  · subst hu hl hm
    rw [exec_refclkCheck_powered hpwr, State.checkRefs]
    exact congrArg (fun t => Host.Outcome.next (s.ends t)) (if_pos hmove)
  · subst hu hl hm
    rw [exec_refclkCheck_powered hpwr, State.checkRefs]
    exact congrArg (fun t => Host.Outcome.next (s.ends t))
      ((if_neg (Nat.not_le.2 hmove)).trans ((if_pos hdark).trans (if_neg (by simp [State.outside, hhold]))))
  · subst hu hl hm
    rw [exec_refclkCheck_powered hpwr, State.checkRefs]
    exact congrArg (fun t => Host.Outcome.next (s.ends t)) ((if_neg (Nat.not_le.2 hmove)).trans ((if_pos hdark).trans (if_pos hhold)))
  · subst hu hl hm
    rw [exec_refclkCheck_powered hpwr, State.checkRefs]
    exact congrArg (fun t => Host.Outcome.next (s.ends t))
      ((if_neg (Nat.not_le.2 hmove)).trans ((if_neg (Nat.not_le.2 hdark)).trans (if_neg (Nat.not_lt.2 hmany))))
  · rw [exec_meshMessage_clean hok hflits, State.meshArrives_held (s := s.begun) hway]
    rfl
  · rw [exec_meshMessage_single hok hflits hway hdual, State.meshBody_other hbody]
  · rw [exec_meshMessage_first hok hflits hway hdual hseen, State.meshBody_other hbody]
  · rw [exec_meshMessage_single hok hflits hway hdual, State.meshBody_counts hbody (s.begun_firmware.trans hfw)]
  · rw [exec_meshMessage_first hok hflits hway hdual hseen, State.meshBody_counts hbody]
    exact s.begun_firmware.trans hfw
  · rw [exec_meshLinkDown hp hf hl hdown, hu]
    subst hu
    rcases h with h | h
    · exact congrArg (fun t => Host.Outcome.next (s.ends t)) (if_neg (by erw [h]; simp))
    · exact congrArg (fun t => Host.Outcome.next (s.ends t)) (if_neg (by erw [h]; simp))
  · rw [exec_meshLinkDown hp hf hl hdown]
    subst hu
    exact congrArg (fun t => Host.Outcome.next (s.ends t)) (if_pos (by erw [hgone, hlost]; rfl))

end Sys2Proof.Machine
end

section
/-!
The I3C management target: common command codes, MCTP, PLDM and the vendor-defined messages (R79, R85-R88).
-/
namespace Sys2Proof.Machine

section

variable {s : State}

/-! An access is answered while the target is up and its own condition holds, and is not acknowledged else. -/

theorem i3cDo_answers {ok : State → Bool} {g : State → State} {t : State} (hup : s.i3cUp = true) (hok : ok s.begun = true) (hg : g s.begun = t) :
    i3cDo ok s g = .next (s.ends t) := by
  have hbegun : s.begun.i3cUp = true := hup ▸ (by simp [State.i3cUp])
  rw [i3cDo_eq, if_pos (by rw [hbegun, hok]; rfl), hg]

theorem i3cDo_nacks {ok : State → Bool} {g : State → State} (h : s.i3cUp = false ∨ ok s.begun = false) :
    i3cDo ok s g = .next (s.ends { s.begun with out := [.i3c none] }) := by
  have hbegun : s.begun.i3cUp = s.i3cUp := by simp [State.i3cUp]
  rw [i3cDo_eq, if_neg (by rw [hbegun]; rcases h with h | h <;> simp [h])]
  rfl

/-! A management message to an addressed target is served by the firmware, or by nothing. -/

theorem mctp_served {g : State → State} {t : State} (hup : s.i3cUp = true) (haddr : s.i3c.dyn.isSome = true) (hfw : s.firmware = true)
    (hg : g s.begun = t) : mctp s g = .next (s.ends t) :=
  i3cDo_answers hup haddr ((if_pos (s.begun_firmware.trans hfw)).trans hg)

theorem mctp_unserved {g : State → State} (hup : s.i3cUp = true) (haddr : s.i3c.dyn.isSome = true) (hfw : s.firmware = false) :
    mctp s g = .next (s.ends s.begun) :=
  i3cDo_answers hup haddr (if_neg (by simp [hfw]))

/-! The identification registers stand still as a command begins. -/

theorem State.begun_fwVersion : s.begun.fwVersion = s.fwVersion := by
  unfold State.fwVersion
  rw [State.begun_emulated]
  rfl

theorem State.begun_bjState : s.begun.bjState = s.bjState := by
  unfold State.bjState
  rw [State.begun_active, State.begun_bothLost, State.begun_follower, State.begun_emulated]
  rfl

theorem State.begun_windowWord (off : Nat) : s.begun.windowWord off = s.windowWord off := by
  have hregs : s.begun.windowRegs = s.windowRegs := by
    unfold State.windowRegs State.identRegs
    rw [State.begun_bjState, State.begun_fwVersion]
    rfl
  rw [State.windowWord, State.windowWord, hregs]

end

/-- A command that is an access of the management target. -/
def IsAccess (c : Instr) : Prop := ∀ s : State, ∃ ok g, exec c s = i3cDo ok s g

/-- A command that is a management message to the target. -/
def IsMessage (c : Instr) : Prop := ∀ s : State, ∃ g, exec c s = mctp s g

theorem IsMessage.isAccess {c : Instr} (h : IsMessage c) : IsAccess c := fun s => by
  obtain ⟨g, hexec⟩ := h s
  rw [hexec, mctp]
  exact ⟨_, _, rfl⟩

theorem isAccess_of_exec {c : Instr} {e : State → Host.Outcome State Fault Refusal} (hexec : ∀ s, exec c s = e s)
    (he : ∀ s, ∃ ok g, e s = i3cDo ok s g) : IsAccess c := fun s => by rw [hexec]; exact he s

theorem isMessage_of_exec {c : Instr} {e : State → Host.Outcome State Fault Refusal} (hexec : ∀ s, exec c s = e s)
    (he : ∀ s, ∃ g, e s = mctp s g) : IsMessage c := fun s => by rw [hexec]; exact he s

theorem IsAccess.nacked {c : Instr} (h : IsAccess c) {s : State} (hup : s.i3cUp = false) :
    exec c s = .next (s.ends { s.begun with out := [.i3c none] }) := by
  obtain ⟨ok, g, hexec⟩ := h s
  exact hexec.trans (i3cDo_nacks (.inl hup))

theorem IsMessage.unserved {c : Instr} (h : IsMessage c) {s : State} (hup : s.i3cUp = true) (haddr : s.i3c.dyn.isSome = true)
    (hfw : s.firmware = false) : exec c s = .next (s.ends s.begun) := by
  obtain ⟨g, hexec⟩ := h s
  exact hexec.trans (mctp_unserved hup haddr hfw)

/-- The numbers that GET_STATE_SENSOR_READINGS may give while the host is not lost: normal, degraded and fatal. -/
theorem freeSensorState_mem (v : Nat) : [0, 1, 3].getD (v % 3) 0 ∈ [0, 1, 3] := by
  have h : v % 3 < 3 := Nat.mod_lt v (by decide)
  interval_cases v % 3 <;> decide

section

variable {s : State}

/-! The address of the target. -/

theorem exec_entdaa_free (hup : s.i3cUp = true) (hdyn : s.i3c.dyn = none) (a : Nat) : exec (.entdaa a) s = .next (s.ends
    (({ s.begun with i3c := { s.i3c with dyn := some (a % 128) } } : State).send (.i3c (some (be 6 Config.i3cPid.toNat ++ [Config.i3cBcr, Config.i3cDcr]))))) :=
  calc exec (.entdaa a) s = execEntdaa a s := rfl
    _ = .next _ := i3cDo_answers hup (by simp [State.addressed, hdyn]) rfl

theorem exec_setdasa_free (hup : s.i3cUp = true) (hdyn : s.i3c.dyn = none) (a : Nat) : exec (.setdasa Config.i3cStatic.toNat a) s = .next (s.ends
    (({ s.begun with i3c := { s.i3c with dyn := some (a % 128) } } : State).send (.i3c (some [])))) :=
  calc exec (.setdasa Config.i3cStatic.toNat a) s = execSetdasa Config.i3cStatic.toNat a s := rfl
    _ = .next _ := i3cDo_answers hup (by simp [State.addressed, hdyn]) rfl

theorem exec_setnewda_free (hdyn : s.i3c.dyn = none) (a : Nat) : exec (.setnewda a) s = .next (s.ends { s.begun with out := [.i3c none] }) :=
  calc exec (.setnewda a) s = execSetnewda a s := rfl
    _ = .next _ := i3cDo_nacks (.inr (by simp [State.addressed, hdyn]))

theorem exec_setnewda_addressed (hup : s.i3cUp = true) (haddr : s.i3c.dyn.isSome = true) (a : Nat) : exec (.setnewda a) s = .next (s.ends
    (({ s.begun with i3c := { s.i3c with dyn := some (a % 128) } } : State).send (.i3c (some [])))) :=
  calc exec (.setnewda a) s = execSetnewda a s := rfl
    _ = .next _ := i3cDo_answers hup haddr rfl

theorem exec_entdaa_addressed (haddr : s.i3c.dyn.isSome = true) (a : Nat) : exec (.entdaa a) s = .next (s.ends { s.begun with out := [.i3c none] }) :=
  calc exec (.entdaa a) s = execEntdaa a s := rfl
    _ = .next _ := i3cDo_nacks (.inr (by simp [State.addressed, haddr]))

theorem exec_setdasa_nacked {a b : Nat} (h : b ≠ Config.i3cStatic.toNat ∨ s.i3c.dyn.isSome = true) :
    exec (.setdasa b a) s = .next (s.ends { s.begun with out := [.i3c none] }) :=
  calc exec (.setdasa b a) s = execSetdasa b a s := rfl
    _ = .next _ := i3cDo_nacks (.inr (by rcases h with h | h <;> simp [State.addressed, h]))

/-! What no target answers, and what no firmware serves. -/

theorem rstdaa_isAccess : IsAccess .rstdaa := isAccess_of_exec (e := execRstdaa) (fun _ => rfl) (fun _ => ⟨_, _, rfl⟩)
theorem getpid_isAccess : IsAccess .getpid := isAccess_of_exec (e := execGetpid) (fun _ => rfl) (fun _ => ⟨_, _, rfl⟩)
theorem getbcr_isAccess : IsAccess .getbcr := isAccess_of_exec (e := execGetbcr) (fun _ => rfl) (fun _ => ⟨_, _, rfl⟩)
theorem getdcr_isAccess : IsAccess .getdcr := isAccess_of_exec (e := execGetdcr) (fun _ => rfl) (fun _ => ⟨_, _, rfl⟩)
theorem getstatus_isAccess : IsAccess .getstatus := isAccess_of_exec (e := execGetstatus) (fun _ => rfl) (fun _ => ⟨_, _, rfl⟩)
theorem getmwl_isAccess : IsAccess .getmwl := isAccess_of_exec (e := execGetmwl) (fun _ => rfl) (fun _ => ⟨_, _, rfl⟩)
theorem getmrl_isAccess : IsAccess .getmrl := isAccess_of_exec (e := execGetmrl) (fun _ => rfl) (fun _ => ⟨_, _, rfl⟩)
theorem entdaa_isAccess (n : Nat) : IsAccess (.entdaa n) := isAccess_of_exec (e := execEntdaa n) (fun _ => rfl) (fun _ => ⟨_, _, rfl⟩)
theorem setnewda_isAccess (n : Nat) : IsAccess (.setnewda n) := isAccess_of_exec (e := execSetnewda n) (fun _ => rfl) (fun _ => ⟨_, _, rfl⟩)
theorem setmwl_isAccess (n : Nat) : IsAccess (.setmwl n) := isAccess_of_exec (e := execSetmwl n) (fun _ => rfl) (fun _ => ⟨_, _, rfl⟩)
theorem setmrl_isAccess (n : Nat) : IsAccess (.setmrl n) := isAccess_of_exec (e := execSetmrl n) (fun _ => rfl) (fun _ => ⟨_, _, rfl⟩)
theorem enec_isAccess (e : BitVec 8) : IsAccess (.enec e) := isAccess_of_exec (e := execEnec e) (fun _ => rfl) (fun _ => ⟨_, _, rfl⟩)
theorem disec_isAccess (e : BitVec 8) : IsAccess (.disec e) := isAccess_of_exec (e := execDisec e) (fun _ => rfl) (fun _ => ⟨_, _, rfl⟩)
theorem setdasa_isAccess (n m : Nat) : IsAccess (.setdasa n m) := isAccess_of_exec (e := execSetdasa n m) (fun _ => rfl) (fun _ => ⟨_, _, rfl⟩)

theorem mctpControl_isMessage (m : List Byte) : IsMessage (.mctpControl m) := isMessage_of_exec (e := execMctpControl m) (fun _ => rfl) (fun _ => ⟨_, rfl⟩)
theorem getTid_isMessage : IsMessage .getTid := isMessage_of_exec (e := execGetTid) (fun _ => rfl) (fun _ => ⟨_, rfl⟩)
theorem getPldmVersion_isMessage (n : Nat) : IsMessage (.getPldmVersion n) := isMessage_of_exec (e := execGetPldmVersion n) (fun _ => rfl) (fun _ => ⟨_, rfl⟩)
theorem getPldmTypes_isMessage : IsMessage .getPldmTypes := isMessage_of_exec (e := execGetPldmTypes) (fun _ => rfl) (fun _ => ⟨_, rfl⟩)
theorem getPldmCommands_isMessage (n : Nat) : IsMessage (.getPldmCommands n) := isMessage_of_exec (e := execGetPldmCommands n) (fun _ => rfl) (fun _ => ⟨_, rfl⟩)
theorem getPdrRepositoryInfo_isMessage : IsMessage .getPdrRepositoryInfo := isMessage_of_exec (e := execGetPdrRepositoryInfo) (fun _ => rfl) (fun _ => ⟨_, rfl⟩)
theorem getPdr_isMessage (n : Nat) : IsMessage (.getPdr n) := isMessage_of_exec (e := execGetPdr n) (fun _ => rfl) (fun _ => ⟨_, rfl⟩)
theorem getSensorReading_isMessage (n : Nat) : IsMessage (.getSensorReading n) := isMessage_of_exec (e := execGetSensorReading n) (fun _ => rfl) (fun _ => ⟨_, rfl⟩)
theorem getStateSensorReadings_isMessage (n : Nat) : IsMessage (.getStateSensorReadings n) := isMessage_of_exec (e := execGetStateSensorReadings n) (fun _ => rfl) (fun _ => ⟨_, rfl⟩)
theorem getIdent_isMessage : IsMessage .getIdent := isMessage_of_exec (e := execGetIdent) (fun _ => rfl) (fun _ => ⟨_, rfl⟩)
theorem getHealth_isMessage : IsMessage .getHealth := isMessage_of_exec (e := execGetHealth) (fun _ => rfl) (fun _ => ⟨_, rfl⟩)
theorem getBound_isMessage : IsMessage .getBound := isMessage_of_exec (e := execGetBound) (fun _ => rfl) (fun _ => ⟨_, rfl⟩)
theorem getPins_isMessage : IsMessage .getPins := isMessage_of_exec (e := execGetPins) (fun _ => rfl) (fun _ => ⟨_, rfl⟩)
theorem mctpOtherMessage_isMessage (n : Nat) (b : Bool) : IsMessage (.mctpOtherMessage n b) := isMessage_of_exec (e := execMctpOtherMessage n b) (fun _ => rfl) (fun _ => ⟨_, rfl⟩)
theorem readTally_isMessage (n m : Nat) : IsMessage (.readTally n m) := isMessage_of_exec (e := execReadTally n m) (fun _ => rfl) (fun _ => ⟨_, rfl⟩)

theorem isAccess_of_listed {c : Instr}
    (hc : (∃ n : Nat, c ∈ [Instr.entdaa n, .setnewda n, .setmwl n, .setmrl n, .getPldmVersion n, .getPldmCommands n, .getPdr n, .getSensorReading n, .getStateSensorReadings n])
        ∨ (∃ n m : Nat, c ∈ [Instr.setdasa n m, .readTally n m]) ∨ (∃ e : BitVec 8, c ∈ [Instr.enec e, .disec e]) ∨ (∃ m, c = .mctpControl m) ∨ (∃ n b, c = .mctpOtherMessage n b)
        ∨ c ∈ [Instr.rstdaa, .getpid, .getbcr, .getdcr, .getstatus, .getmwl, .getmrl, .getTid, .getPins, .getIdent, .getHealth, .getBound,
          .getPldmTypes, .getPdrRepositoryInfo]) : IsAccess c := by
  simp only [List.mem_cons, List.not_mem_nil, or_false] at hc
  rcases hc with ⟨n, hn⟩ | ⟨n, m, hnm⟩ | ⟨e, he⟩ | ⟨m, rfl⟩ | ⟨n, b, rfl⟩ | hplain
  · rcases hn with rfl | rfl | rfl | rfl | rfl | rfl | rfl | rfl | rfl
    exacts [entdaa_isAccess n, setnewda_isAccess n, setmwl_isAccess n, setmrl_isAccess n, (getPldmVersion_isMessage n).isAccess,
      (getPldmCommands_isMessage n).isAccess, (getPdr_isMessage n).isAccess, (getSensorReading_isMessage n).isAccess,
      (getStateSensorReadings_isMessage n).isAccess]
  · rcases hnm with rfl | rfl
    exacts [setdasa_isAccess n m, (readTally_isMessage n m).isAccess]
  · rcases he with rfl | rfl
    exacts [enec_isAccess e, disec_isAccess e]
  · exact (mctpControl_isMessage m).isAccess
  · exact (mctpOtherMessage_isMessage n b).isAccess
  · rcases hplain with rfl | rfl | rfl | rfl | rfl | rfl | rfl | rfl | rfl | rfl | rfl | rfl | rfl | rfl
    exacts [rstdaa_isAccess, getpid_isAccess, getbcr_isAccess, getdcr_isAccess, getstatus_isAccess, getmwl_isAccess, getmrl_isAccess,
      getTid_isMessage.isAccess, getPins_isMessage.isAccess, getIdent_isMessage.isAccess, getHealth_isMessage.isAccess, getBound_isMessage.isAccess,
      getPldmTypes_isMessage.isAccess, getPdrRepositoryInfo_isMessage.isAccess]

theorem isMessage_of_listed {c : Instr}
    (hc : (∃ m, c = .mctpControl m) ∨ (∃ n b, c = .mctpOtherMessage n b) ∨ (∃ a n, c = .readTally a n)
      ∨ (∃ n, c ∈ [Instr.getPldmVersion n, .getPldmCommands n, .getPdr n, .getSensorReading n, .getStateSensorReadings n])
      ∨ c ∈ [Instr.getTid, .getPldmTypes, .getPdrRepositoryInfo, .getIdent, .getHealth, .getBound, .getPins]) : IsMessage c := by
  simp only [List.mem_cons, List.not_mem_nil, or_false] at hc
  rcases hc with ⟨m, rfl⟩ | ⟨n, b, rfl⟩ | ⟨a, n, rfl⟩ | ⟨n, hn⟩ | hplain
  · exact mctpControl_isMessage m
  · exact mctpOtherMessage_isMessage n b
  · exact readTally_isMessage a n
  · rcases hn with rfl | rfl | rfl | rfl | rfl
    exacts [getPldmVersion_isMessage n, getPldmCommands_isMessage n, getPdr_isMessage n, getSensorReading_isMessage n, getStateSensorReadings_isMessage n]
  · rcases hplain with rfl | rfl | rfl | rfl | rfl | rfl | rfl
    exacts [getTid_isMessage, getPldmTypes_isMessage, getPdrRepositoryInfo_isMessage, getIdent_isMessage, getHealth_isMessage, getBound_isMessage,
      getPins_isMessage]

/-! The lengths and the in-band interrupt. -/

theorem exec_setmwl (hup : s.i3cUp = true) {n : Nat} (hn : n ≤ 65535) : exec (.setmwl n) s = .next (s.ends
    (({ s.begun with i3c := { s.i3c with mwl := max 69 n } } : State).send (.i3c (some [])))) :=
  calc exec (.setmwl n) s = execSetmwl n s := rfl
    _ = .next _ := i3cDo_answers hup rfl (by rw [sat, Nat.min_eq_right hn]; rfl)

theorem exec_setmrl (hup : s.i3cUp = true) {n : Nat} (hn : n ≤ 65535) : exec (.setmrl n) s = .next (s.ends
    (({ s.begun with i3c := { s.i3c with mrl := max 69 n } } : State).send (.i3c (some [])))) :=
  calc exec (.setmrl n) s = execSetmrl n s := rfl
    _ = .next _ := i3cDo_answers hup rfl (by rw [sat, Nat.min_eq_right hn]; rfl)

end

section

variable {s : State} (hup : s.i3cUp = true) (haddr : s.i3c.dyn.isSome = true) (hfw : s.firmware = true)
include hup haddr hfw

/-! The messages of an addressed target that firmware serves. -/

theorem exec_mctpControl (m : List Byte) : exec (.mctpControl m) s = .next (s.ends
    ((if rd m 2 1 = 1 ∧ rd m 3 1 ≤ 1 then ({ s.begun with i3c := { s.i3c with eid := rd m 4 1 } } : State) else s.begun).pldm (rd m 2 1) (fromLe m))) :=
  calc exec (.mctpControl m) s = execMctpControl m s := rfl
    _ = .next _ := mctp_served hup haddr hfw rfl

theorem exec_mctpOtherMessage_error {n : Nat} (h0 : n ≠ 0) (h1 : n ≠ 1) (hvendor : n ≠ 0x7F) :
    exec (.mctpOtherMessage n false) s = .next (s.ends (s.begun.pldm 0xFFFF n)) :=
  calc exec (.mctpOtherMessage n false) s = execMctpOtherMessage n false s := rfl
    _ = .next _ := mctp_served hup haddr hfw (if_neg (by simp [h0, h1, hvendor]))

theorem exec_mctpOtherMessage_discarded (n : Nat) : exec (.mctpOtherMessage n true) s = .next (s.ends s.begun) :=
  calc exec (.mctpOtherMessage n true) s = execMctpOtherMessage n true s := rfl
    _ = .next _ := mctp_served hup haddr hfw (if_pos (by simp))

theorem exec_getSensorReading_known {n v : Nat} (hv : s.sensorReading n = some v) :
    exec (.getSensorReading n) s = .next (s.ends (s.begun.pldm 0x0211 (n % 65536 + 65536 * v))) :=
  calc exec (.getSensorReading n) s = execGetSensorReading n s := rfl
    _ = .next _ := mctp_served hup haddr hfw (by
      have hbegun : s.begun.sensorReading n = some v := hv
      simp only [hbegun])

theorem exec_getSensorReading_unknown {n : Nat} (hv : s.sensorReading n = none) :
    exec (.getSensorReading n) s = .next (s.ends (s.begun.pldm 0x1211 n)) :=
  calc exec (.getSensorReading n) s = execGetSensorReading n s := rfl
    _ = .next _ := mctp_served hup haddr hfw (by
      have hbegun : s.begun.sensorReading n = none := hv
      simp only [hbegun])

theorem exec_getStateSensorReadings_unknown {n : Nat} (hn : n ≠ 3) :
    exec (.getStateSensorReadings n) s = .next (s.ends (s.begun.pldm 0x1221 n)) :=
  calc exec (.getStateSensorReadings n) s = execGetStateSensorReadings n s := rfl
    _ = .next _ := mctp_served hup haddr hfw (if_pos hn)

theorem exec_getStateSensorReadings_hostLost (hlost : s.hif.st = .hostLost) :
    exec (.getStateSensorReadings 3) s = .next (s.ends (s.begun.pldm 0x0221 (3 + 65536 * 2))) :=
  calc exec (.getStateSensorReadings 3) s = execGetStateSensorReadings 3 s := rfl
    _ = .next _ := mctp_served hup haddr hfw ((if_neg (by decide)).trans (if_pos hlost))

theorem exec_getStateSensorReadings_free (hlost : s.hif.st ≠ .hostLost) :
    exec (.getStateSensorReadings 3) s = .next (s.ends
      (({ s.begun with free := s.free + 1 } : State).pldm 0x0221 (3 + 65536 * ([0, 1, 3].getD ((Config.freeValue s.free).toNat % 3) 0)))) :=
  calc exec (.getStateSensorReadings 3) s = execGetStateSensorReadings 3 s := rfl
    _ = .next _ := mctp_served hup haddr hfw ((if_neg (by decide)).trans (if_neg hlost))

theorem exec_getIdent : exec .getIdent s = .next (s.ends (s.begun.vendor 1 ((List.range 16).flatMap (fun i => le 4 (s.windowWord (4 * i)))))) :=
  calc exec .getIdent s = execGetIdent s := rfl
    _ = .next _ := mctp_served hup haddr hfw (by simp only [State.begun_windowWord])

theorem exec_getHealth : exec .getHealth s = .next (s.ends
    (s.begun.vendor 2 (s.healthHead dieUid false Config.fields 0 0 ++ (List.range Config.fields).flatMap s.healthField))) :=
  calc exec .getHealth s = execGetHealth s := rfl
    _ = .next _ := mctp_served hup haddr hfw rfl

end

/-- Settles O60: every request is an access of the target, answered while it is up and addressed and served by firmware, so each clause is the
answer of one command; the commands that none answers are taken one by one. -/
theorem managementTargetAnswers : Obligations.ManagementTargetAnswers := by
  unfold Obligations.ManagementTargetAnswers
  refine ⟨fun s => ⟨fun c => ⟨rfl, rfl⟩,
      fun a hup hdyn => ⟨exec_entdaa_free hup hdyn a, exec_setdasa_free hup hdyn a, exec_setnewda_free hdyn a⟩,
      fun a hup haddr => ⟨exec_setnewda_addressed hup haddr a, exec_entdaa_addressed haddr a, fun b => exec_setdasa_nacked (.inr haddr)⟩,
      fun a b hb => exec_setdasa_nacked (.inl hb), fun hup => Eq.trans (b := execRstdaa s) rfl (i3cDo_answers hup rfl rfl),
      fun c hup hc => (isAccess_of_listed hc).nacked hup⟩,
    fun s hup => ⟨fun haddr => ?_, fun n hn => ⟨exec_setmwl hup hn, exec_setmrl hup hn⟩,
      fun e => ⟨Eq.trans (b := execEnec e s) rfl (i3cDo_answers hup rfl rfl),
        Eq.trans (b := execDisec e s) rfl (i3cDo_answers hup rfl rfl)⟩⟩,
    fun s hup haddr => ⟨fun hfw c hc => (isMessage_of_listed hc).unserved hup haddr hfw, fun hfw => ?_⟩⟩
  · exact ⟨Eq.trans (b := execGetpid s) rfl (i3cDo_answers hup haddr rfl),
      Eq.trans (b := execGetbcr s) rfl (i3cDo_answers hup haddr rfl), Eq.trans (b := execGetdcr s) rfl (i3cDo_answers hup haddr rfl),
      Eq.trans (b := execGetstatus s) rfl (i3cDo_answers hup haddr rfl),
      Eq.trans (b := execGetmwl s) rfl (i3cDo_answers hup haddr rfl), Eq.trans (b := execGetmrl s) rfl (i3cDo_answers hup haddr rfl)⟩
  · exact ⟨exec_mctpControl hup haddr hfw, fun n => exec_mctpOtherMessage_error hup haddr hfw, exec_mctpOtherMessage_discarded hup haddr hfw,
      Eq.trans (b := execGetTid s) rfl (mctp_served hup haddr hfw rfl),
      fun n => Eq.trans (b := execGetPldmVersion n s) rfl (mctp_served hup haddr hfw rfl),
      Eq.trans (b := execGetPldmTypes s) rfl (mctp_served hup haddr hfw rfl),
      fun n => Eq.trans (b := execGetPldmCommands n s) rfl (mctp_served hup haddr hfw rfl),
      Eq.trans (b := execGetPdrRepositoryInfo s) rfl (mctp_served hup haddr hfw rfl),
      fun h => Eq.trans (b := execGetPdr h s) rfl (mctp_served hup haddr hfw rfl),
      fun n v => exec_getSensorReading_known hup haddr hfw, fun n => exec_getSensorReading_unknown hup haddr hfw,
      fun n => exec_getStateSensorReadings_unknown hup haddr hfw, exec_getStateSensorReadings_hostLost hup haddr hfw,
      fun hlost => ⟨_, freeSensorState_mem _, exec_getStateSensorReadings_free hup haddr hfw hlost⟩,
      exec_getIdent hup haddr hfw, exec_getHealth hup haddr hfw, Eq.trans (b := execGetBound s) rfl (mctp_served hup haddr hfw rfl),
      fun a n => Eq.trans (b := execReadTally a n s) rfl (mctp_served hup haddr hfw rfl),
      Eq.trans (b := execGetPins s) rfl (mctp_served hup haddr hfw rfl)⟩

end Sys2Proof.Machine
end

section
/-!
What trips and heat do to a field's rails (R68, R338-R346). Nothing that follows a trip touches the latch of THERMTRIP_N: the laws below say it of
each function that the opening of a rail runs through.
-/
namespace Sys2Proof.Machine

/-- THERMTRIP_N and the field that it latched (R337). -/
def State.thermLatch (s : State) : Bool × Nat := (s.pins.therm, s.pins.thermField)

section

variable (s : State)

theorem State.thermLatch_of_pins {s t : State} (h : t.pins = s.pins) : t.thermLatch = s.thermLatch := by
  rw [State.thermLatch, State.thermLatch, h]

@[simp] theorem State.modField_thermLatch (f : Nat) (g : Field → Field) : (s.modField f g).thermLatch = s.thermLatch := rfl
@[simp] theorem State.modFlock_thermLatch (f k : Nat) (g : Flock → Flock) : (s.modFlock f k g).thermLatch = s.thermLatch := rfl
@[simp] theorem State.modCore_thermLatch (f k c : Nat) (g : Core → Core) : (s.modCore f k c g).thermLatch = s.thermLatch := rfl
@[simp] theorem State.modCrook_thermLatch (f i : Nat) (g : Crook → Crook) : (s.modCrook f i g).thermLatch = s.thermLatch := rfl
@[simp] theorem State.modTap_thermLatch (t : Nat) (g : LinkTap → LinkTap) : (s.modTap t g).thermLatch = s.thermLatch := rfl
@[simp] theorem State.modWatch_thermLatch (w : Nat) (g : Watch → Watch) : (s.modWatch w g).thermLatch = s.thermLatch := rfl
@[simp] theorem State.modEarmarks_thermLatch (g : Earmarks → Earmarks) : (s.modEarmarks g).thermLatch = s.thermLatch := rfl
@[simp] theorem State.modRec_thermLatch (g : Recovery → Recovery) : (s.modRec g).thermLatch = s.thermLatch := rfl
@[simp] theorem State.modPair_thermLatch (g : Pair → Pair) : (s.modPair g).thermLatch = s.thermLatch := rfl
@[simp] theorem State.modShc_thermLatch (b : Bool) (g : Shc → Shc) : (s.modShc b g).thermLatch = s.thermLatch :=
  State.thermLatch_of_pins (s.modShc_pins b g)
@[simp] theorem State.sig_thermLatch (n : Sig) (a v : Nat) : (s.sig n a v).thermLatch = s.thermLatch := rfl
@[simp] theorem State.dieCount_thermLatch (i n : Nat) : (s.dieCount i n).thermLatch = s.thermLatch := rfl
@[simp] theorem State.countDetection_thermLatch : s.countDetection.thermLatch = s.thermLatch := rfl

/-! The messages of the mesh, the completions and the trace. -/

@[simp] theorem State.broadcast_thermLatch (src : Uid) (dsts : List Uid) (kind : MeshKind) (arg : Nat) :
    (s.broadcast src dsts kind arg).thermLatch = s.thermLatch := (congrArg State.thermLatch (s.broadcast_offMesh src dsts kind arg) :)

@[simp] theorem State.complete_thermLatch (i st : Nat) (res buf : List Byte) (neg : Option (List Byte)) :
    (s.complete i st res buf neg).thermLatch = s.thermLatch := (congrArg State.thermLatch (s.complete_offHost i st res buf neg) :)

@[simp] theorem State.traceShc_thermLatch (typ : Nat) (body : List Byte) : (s.traceShc typ body).thermLatch = s.thermLatch :=
  (congrArg State.thermLatch (s.traceShc_untraced typ body) :)

@[simp] theorem State.traceDrover_thermLatch (f typ : Nat) (body : List Byte) : (s.traceDrover f typ body).thermLatch = s.thermLatch := by
  unfold State.traceDrover
  split <;> rfl

@[simp] theorem State.traceVerdict_thermLatch (f : Nat) (u : Uid) (v : Verdict) (tag : Nat) (n : BitVec 48) (core ref : BitVec 64) :
    (s.traceVerdict f u v tag n core ref).thermLatch = s.thermLatch := s.traceDrover_thermLatch ..

/-! A report drives ERR_N and FATAL_N and no other pin. -/

@[simp] theorem State.modPin_thermLatch (fatal : Bool) (g : Pin → Pin) : (s.modPin fatal g).thermLatch = s.thermLatch := by
  unfold State.modPin
  split <;> rfl

@[simp] theorem State.drivePin_thermLatch (fatal : Bool) (v : Nat) : (s.drivePin fatal v).thermLatch = s.thermLatch :=
  State.thermLatch_of_pins (s.drivePin_pins fatal v)

@[simp] theorem State.assertPin_thermLatch (fatal : Bool) : (s.assertPin fatal).thermLatch = s.thermLatch := by
  unfold State.assertPin
  dsimp only
  split
  · rfl
  · split
    · exact s.modPin_thermLatch ..
    · split
      · exact s.modPin_thermLatch ..
      · exact (State.drivePin_thermLatch ..).trans (s.modPin_thermLatch ..)

@[simp] theorem State.form_thermLatch (e : Ev) (exempt int : Bool) : (s.form e exempt int).thermLatch = s.thermLatch :=
  (congrArg State.thermLatch (s.form_unrecorded e exempt int) :)

@[simp] theorem State.event_thermLatch (code : Nat) (u : Uid) (payload : List Byte) (opId : BitVec 64) :
    (s.event code u payload opId).thermLatch = s.thermLatch := by
  unfold State.event
  dsimp only
  split <;> simp

@[simp] theorem State.raiseNmi_thermLatch : s.raiseNmi.thermLatch = s.thermLatch := by
  unfold State.raiseNmi
  dsimp only
  split
  · rfl
  · split <;> split <;> simp

@[simp] theorem State.bufferReport_thermLatch (f : Nat) (e : Ev) (latched parted : Bool) : (s.bufferReport f e latched parted).thermLatch = s.thermLatch := rfl

@[simp] theorem State.takeReport_thermLatch (e : Ev) (latched parted : Bool) : (s.takeReport e latched parted).thermLatch = s.thermLatch := by
  unfold State.takeReport
  extract_lets m dp err react fence pin nmi part sram reset mine captured ovf ferr sLatch sPin sTrap sRecord sOvf sPart sReset
  have latch : sLatch.thermLatch = s.thermLatch := by
    unfold sLatch; split_ifs <;> rfl
  have pins : sPin.thermLatch = sLatch.thermLatch := by
    unfold sPin; split <;> simp
  have trap : sTrap.thermLatch = sPin.thermLatch := by
    unfold sTrap; split <;> simp
  have overflow : sOvf.thermLatch = sRecord.thermLatch := by
    unfold sOvf; split <;> simp
  have ordered : sReset.thermLatch = sOvf.thermLatch := by
    unfold sReset sPart; split_ifs <;> rfl
  have fenced (d : List Due) : (if fence then { sReset with due := d } else sReset).thermLatch = sReset.thermLatch := by
    split <;> rfl
  rw [fenced, ordered, overflow, State.form_thermLatch, trap, pins, latch]

@[simp] theorem State.reportEv_thermLatch (e : Ev) : (s.reportEv e).thermLatch = s.thermLatch := by
  unfold State.reportEv
  extract_lets f m parted stamped sPart err fence sLatch sPin
  have partReset : sPart.thermLatch = s.thermLatch := by
    unfold sPart; split <;> rfl
  have latch : sLatch.thermLatch = sPart.thermLatch := by
    unfold sLatch; split <;> rfl
  have pins : sPin.thermLatch = sLatch.thermLatch := by
    unfold sPin; split <;> simp
  split_ifs
  · exact s.takeReport_thermLatch ..
  · rw [State.bufferReport_thermLatch, pins, latch, partReset]
  · rw [State.bufferReport_thermLatch, partReset]

@[simp] theorem State.report_thermLatch (code : Nat) (u : Uid) (payload : List Byte) (opId : BitVec 64) :
    (s.report code u payload opId).thermLatch = s.thermLatch := s.reportEv_thermLatch _

@[simp] theorem State.reportCls_thermLatch (code cls : Nat) (u : Uid) (payload : List Byte) (opId : BitVec 64) :
    (s.reportCls code cls u payload opId).thermLatch = s.thermLatch := s.reportEv_thermLatch _

@[simp] theorem State.note_thermLatch (code : Nat) (u : Uid) (payload : List Byte) (opId : BitVec 64) :
    (s.note code u payload opId).thermLatch = s.thermLatch := s.reportEv_thermLatch _

end

section

variable (s : State) (f k c : Nat)

/-! A finding against a core, and the folds that it leads to. -/

@[simp] theorem State.flockTo_thermLatch (new : UnitState) (cause : Nat) : (s.flockTo f k new cause).thermLatch = s.thermLatch := by
  unfold State.flockTo
  dsimp only
  split <;> simp

@[simp] theorem State.coreTo_thermLatch (new : UnitState) (cause : Nat) : (s.coreTo f k c new cause).thermLatch = s.thermLatch := by
  unfold State.coreTo
  dsimp only
  split <;> simp

@[simp] theorem State.pendFlock_thermLatch (cause : Nat) (core : Option Nat) (requested : Bool) :
    (s.pendFlock f k cause core requested).thermLatch = s.thermLatch := by
  unfold State.pendFlock
  split <;> simp

@[simp] theorem State.noteThin_thermLatch (slot : Option Nat) (pending : Bool) : (s.noteThin f k slot pending).thermLatch = s.thermLatch :=
  s.note_thermLatch ..

@[simp] theorem State.pendThin_thermLatch : (s.pendThin f k c).thermLatch = s.thermLatch := by
  unfold State.pendThin
  split
  · rfl
  · split <;> simp

@[simp] theorem State.decideFold_thermLatch : (s.decideFold f k c).thermLatch = s.thermLatch := by
  unfold State.decideFold
  split
  · exact s.note_thermLatch ..
  · split <;> simp

@[simp] theorem State.redecide_thermLatch : (s.redecide f k).thermLatch = s.thermLatch := by
  unfold State.redecide
  split
  · rfl
  · exact s.forEach_frame State.thermLatch _ _ fun t c => by split <;> simp

@[simp] theorem State.coreFoldPending_thermLatch (cause : Nat) : (s.coreFoldPending f k c cause).thermLatch = s.thermLatch := by
  unfold State.coreFoldPending
  split <;> simp

@[simp] theorem State.openRetest_thermLatch : (s.openRetest f k c).thermLatch = s.thermLatch := by
  unfold State.openRetest
  dsimp only
  split <;> simp

@[simp] theorem State.shelterStep_thermLatch : (s.shelterStep f k c).thermLatch = s.thermLatch := rfl

@[simp] theorem State.writeTrim_thermLatch (code : Int) : (s.writeTrim f k code).thermLatch = s.thermLatch := by
  unfold State.writeTrim
  split <;> rfl

@[simp] theorem State.coreSuspect_thermLatch (cause : Nat) (pat : Option Nat) : (s.coreSuspect f k c cause pat).thermLatch = s.thermLatch := by
  unfold State.coreSuspect
  dsimp only
  split_ifs <;> simp

@[simp] theorem State.servingFinding_thermLatch (kind : Finding) (cause : Nat) (pat : Option Nat) :
    (s.servingFinding f k c kind cause pat).thermLatch = s.thermLatch := by
  unfold State.servingFinding
  dsimp only
  split <;> (try split) <;> simp

@[simp] theorem State.spareFinding_thermLatch (kind : Finding) (cause : Nat) (pat : Option Nat) :
    (s.spareFinding f k c kind cause pat).thermLatch = s.thermLatch := by
  unfold State.spareFinding
  extract_lets x repeats acts sTo
  have moved : sTo.thermLatch = s.thermLatch := s.coreTo_thermLatch ..
  split
  · rw [State.openRetest_thermLatch, State.modCore_thermLatch, moved]
  · rfl

@[simp] theorem State.takeFinding_thermLatch (kind : Finding) (cause : Nat) (pat : Option Nat) :
    (s.takeFinding f k c kind cause pat).thermLatch = s.thermLatch := by
  unfold State.takeFinding
  extract_lets sDirty sSpare
  have dirty : sDirty.thermLatch = s.thermLatch := by
    unfold sDirty; cases kind <;> rfl
  have spare : sSpare.thermLatch = s.thermLatch := by
    unfold sSpare; rw [State.redecide_thermLatch, State.spareFinding_thermLatch, dirty]
  split_ifs <;> simp [dirty, spare]

@[simp] theorem State.finding_thermLatch (kind : Finding) (cause : Nat) (pat : Option Nat) :
    (s.finding f k c kind cause pat).thermLatch = s.thermLatch := by
  unfold State.finding
  split
  · exact s.takeFinding_thermLatch ..
  · rfl

end

section

variable (s : State)

/-! Frames of the service channel, and the order of a taint. -/

@[simp] theorem State.dropFrame_thermLatch (t reason typ : Nat) (src : BitVec 32) : (s.dropFrame t reason typ src).thermLatch = s.thermLatch :=
  (State.note_thermLatch ..).trans (s.modTap_thermLatch ..)

@[simp] theorem State.queueFrame_thermLatch (t : Nat) (fr : SvcFrame) : (s.queueFrame t fr).thermLatch = s.thermLatch := by
  unfold State.queueFrame
  split <;> simp

@[simp] theorem State.queueNotice_thermLatch (t : Nat) (fr : SvcFrame) : (s.queueNotice t fr).thermLatch = s.thermLatch := by
  unfold State.queueNotice
  dsimp only
  rw [State.sig_thermLatch, State.modTap_thermLatch]
  split
  · split <;> simp
  · rfl

@[simp] theorem State.noteTaintSent_thermLatch (o : TaintOrder) (noTap : Bool) : (s.noteTaintSent o noTap).thermLatch = s.thermLatch :=
  s.note_thermLatch ..

@[simp] theorem State.orderTaint_thermLatch (code verdict : Nat) (u : Uid) (t : TagSt) (a b : BitVec 64) :
    (s.orderTaint code verdict u t a b).thermLatch = s.thermLatch := by
  have ordered (job : Job) (src : Uid) (arg : Nat) : (({ s with job := job } : State).toEngines src .taintOrder arg).thermLatch = s.thermLatch :=
    State.broadcast_thermLatch ..
  unfold State.orderTaint
  dsimp only
  split
  · rw [State.noteTaintSent_thermLatch, ordered]
  · exact (State.forEach_frame _ State.thermLatch _ _ fun t c => t.queueNotice_thermLatch ..).trans (ordered ..)

end

section

variable (s : State) (f k tag : Nat)

/-! The verdicts of Replay and Twinning. -/

@[simp] theorem State.countVerdict_thermLatch (v : Verdict) : (s.countVerdict f k v).thermLatch = s.thermLatch := rfl
@[simp] theorem State.modTag_thermLatch (g : TagSt → TagSt) : (s.modTag f k tag g).thermLatch = s.thermLatch := rfl

@[simp] theorem State.freeTwin_thermLatch : (s.freeTwin f k tag).thermLatch = s.thermLatch := by
  unfold State.freeTwin
  split
  · split <;> rfl
  · rfl

@[simp] theorem State.releaseTag_thermLatch : (s.releaseTag f k tag).thermLatch = s.thermLatch := by
  unfold State.releaseTag
  split
  · rfl
  · split <;> rfl

@[simp] theorem State.endTwin_thermLatch (v : Verdict) : (s.endTwin f k tag v).thermLatch = s.thermLatch := by simp [State.endTwin]

@[simp] theorem State.voidEvent_thermLatch (v : Verdict) (u : Uid) (low : Nat) (opId : BitVec 64) (cls : Nat) :
    (s.voidEvent f k v u tag low opId cls).thermLatch = s.thermLatch := by
  unfold State.voidEvent
  dsimp only
  split <;> simp

@[simp] theorem State.freeEntry_thermLatch (i : Nat) : (s.freeEntry f i k tag).thermLatch = s.thermLatch :=
  (State.modCrook_thermLatch ..).trans (s.forEach_frame State.thermLatch _ _ fun t _ => t.modCrook_thermLatch ..)

@[simp] theorem State.countCoreDetection_thermLatch (c : Nat) (served : Bool) : (s.countCoreDetection f k c served).thermLatch = s.thermLatch := by
  unfold State.countCoreDetection
  split <;> simp

@[simp] theorem State.nameMismatch_thermLatch (c : Nat) (t : TagSt) (dig : BitVec 64) (crook confirmer : Nat) (served : Bool) :
    (s.nameMismatch f k c tag t dig crook confirmer served).thermLatch = s.thermLatch := by simp [State.nameMismatch]

@[simp] theorem State.twinMismatch_thermLatch (t : TagSt) (tw : Nat) (a b : BitVec 64) :
    (s.twinMismatch f k tag t tw a b).thermLatch = s.thermLatch := by simp [State.twinMismatch]

@[simp] theorem State.settleTwin_thermLatch : (s.settleTwin f k tag).thermLatch = s.thermLatch := by
  unfold State.settleTwin
  dsimp only
  split
  · rfl
  · split
    · exact s.releaseTag_thermLatch ..
    · split
      · exact s.releaseTag_thermLatch ..
      · split
        · rfl
        · split
          · simp
          · split
            · split
              · split <;> split <;> simp
              · split <;> simp
            · rfl

/-! The watch points. -/

@[simp] theorem State.watchReport_thermLatch (i : Nat) : (s.watchReport i).thermLatch = s.thermLatch := by simp [State.watchReport]

@[simp] theorem State.observe_thermLatch (keys : List Nat) (n : BitVec 48) (good : Bool) (d : CraDesc) (out : List Byte) (ref : BitVec 64) :
    (s.observe keys n good d out ref).thermLatch = s.thermLatch :=
  s.forEach_frame State.thermLatch _ _ fun t i => by
    dsimp only
    split_ifs <;> simp

end

section

variable (s : State)

/-! The sweeps of the earmarks. -/

@[simp] theorem State.bufferMessage_thermLatch (f : Nat) (e : EvEntry) : (s.bufferMessage f e).thermLatch = s.thermLatch := by
  unfold State.bufferMessage
  split <;> rfl

@[simp] theorem State.majority_thermLatch (code target number : Nat) (own : Option (BitVec 64)) (peers : List (BitVec 32 × Option (BitVec 64))) :
    (s.majority code target number own peers).thermLatch = s.thermLatch := by
  unfold State.majority
  extract_lets held v
  clear_value v
  split
  · rfl
  · split
    · rfl
    · extract_lets n won named
      split
      · exact s.report_thermLatch ..
      · exact s.forEach_frame State.thermLatch _ _ fun t q => by
          dsimp only
          split
          · exact (State.countDetection_thermLatch _).trans (t.report_thermLatch ..)
          · exact t.report_thermLatch ..

@[simp] theorem State.closeExchange_thermLatch (x : Exchange) : (s.closeExchange x).thermLatch = s.thermLatch := by simp [State.closeExchange]

@[simp] theorem State.tryExchanges_thermLatch : s.tryExchanges.thermLatch = s.thermLatch :=
  s.forEach_frame State.thermLatch _ _ fun t x => t.closeExchange_thermLatch x

@[simp] theorem State.fleeceSend_thermLatch (number : Nat) : (s.fleeceSend number).thermLatch = s.thermLatch := by
  unfold State.fleeceSend
  dsimp only
  split
  · rfl
  · rw [State.tryExchanges_thermLatch, State.modEarmarks_thermLatch]
    exact s.forEach_frame State.thermLatch _ _ fun t q => by split <;> simp

@[simp] theorem State.noteSweep_thermLatch (target cause count number : Nat) : (s.noteSweep target cause count number).thermLatch = s.thermLatch :=
  s.note_thermLatch ..

@[simp] theorem State.resultExchange_thermLatch (t : ResultTarget) (a : SweepAcc) : (s.resultExchange t a).thermLatch = s.thermLatch := by
  unfold State.resultExchange
  dsimp only
  split
  · rfl
  · rw [State.tryExchanges_thermLatch, State.modEarmarks_thermLatch]
    exact s.forEach_frame State.thermLatch _ _ fun t q => by split <;> simp

@[simp] theorem State.closeSweep_thermLatch (a : SweepAcc) (incomplete : Option Nat) (exchange : Bool) :
    (s.closeSweep a incomplete exchange).thermLatch = s.thermLatch := by
  unfold State.closeSweep
  extract_lets a' sSet sNote sFleece
  have noted : sNote.thermLatch = s.thermLatch := by
    unfold sNote; split <;> simp [sSet]
  have fleece : sFleece.thermLatch = s.thermLatch := noted
  split
  · exact noted
  · split
    · split <;> simp [noted]
    · split <;> simp [fleece]

@[simp] theorem State.sweepAccumulate_thermLatch (b : SweepBatch) : (s.sweepAccumulate b).thermLatch = s.thermLatch := by
  unfold State.sweepAccumulate
  split
  · rfl
  · extract_lets sOld fresh cur
    have old : sOld.thermLatch = s.thermLatch := by
      unfold sOld
      split
      · split <;> simp
      · rfl
    clear_value cur
    split
    · exact old
    · extract_lets a sSet
      have set : sSet.thermLatch = s.thermLatch := old
      split_ifs <;> simp [set]

@[simp] theorem State.sendBatch_thermLatch (f : Nat) (b : SweepBatch) : (s.sendBatch f b).thermLatch = s.thermLatch := by
  unfold State.sendBatch
  dsimp only
  split <;> simp

@[simp] theorem State.segment_thermLatch (f target number : Nat) (dig : BitVec 64) : (s.segment f target number dig).thermLatch = s.thermLatch :=
  (State.modField_thermLatch ..).trans (s.forEach_frame State.thermLatch _ _ fun t b => t.sendBatch_thermLatch f b)

@[simp] theorem State.sweepSegment_thermLatch (f : Nat) (e : CrookEntry) (n : BitVec 48) : (s.sweepSegment f e n).thermLatch = s.thermLatch := by
  unfold State.sweepSegment
  dsimp only
  split
  · split <;> simp
  · rfl

end

section

variable (s : State) (f k : Nat)

/-! What a rail that opens abandons. -/

@[simp] theorem State.giveReplay_thermLatch (tag : Nat) (v : Verdict) (confirmer : Nat) : (s.giveReplay f k tag v confirmer).thermLatch = s.thermLatch := by
  unfold State.giveReplay
  split
  · rfl
  · split
    · rfl
    · split
      · rfl
      · extract_lets e ref u t sCount p sVerdict sSweep d good sWatch
        have verdict : sVerdict.thermLatch = s.thermLatch := by
          unfold sVerdict; cases v <;> simp [sCount]
        have swept : sSweep.thermLatch = sVerdict.thermLatch := by
          unfold sSweep; split <;> simp
        have watched : sWatch.thermLatch = sSweep.thermLatch := by
          unfold sWatch; split <;> simp
        rw [State.releaseTag_thermLatch, State.settleTwin_thermLatch, State.freeEntry_thermLatch, watched, swept, verdict]

@[simp] theorem State.abandonFlock_thermLatch : (s.abandonFlock f k).thermLatch = s.thermLatch := by
  have dropped : ∀ (t : State) (b : Bool) (g : Flock → Flock), (if b then t.modFlock f k g else t).thermLatch = t.thermLatch := by
    intro t b g
    split <;> rfl
  unfold State.abandonFlock
  extract_lets sEach
  rw [dropped]
  exact s.forEach_frame State.thermLatch _ _ fun t p => by
    extract_lets tag sReplay
    have replayed : sReplay.thermLatch = t.thermLatch := by
      unfold sReplay
      split
      · split
        · split
          · split <;> simp
          · rfl
        · rfl
      · rfl
    split
    · split <;> simp [replayed]
    · exact replayed

@[simp] theorem State.abandon_thermLatch (d : Uid) : (s.abandon d).thermLatch = s.thermLatch :=
  s.forEach_frame State.thermLatch _ _ fun t _ => t.abandonFlock_thermLatch ..

@[simp] theorem State.syncField_thermLatch : (s.syncField f).thermLatch = s.thermLatch :=
  (congrArg State.thermLatch (s.sansUnits_syncField f) :)

@[simp] theorem State.railDown_thermLatch : (s.railDown f).thermLatch = s.thermLatch := by
  unfold State.railDown
  dsimp only
  rw [State.abandon_thermLatch, State.forEach_frame _ State.thermLatch _ _ (by exact fun t p => by split <;> rfl),
    State.forEach_frame _ State.thermLatch _ _ (by exact fun t p => rfl), State.sig_thermLatch, State.modField_thermLatch, State.syncField_thermLatch]

/-! A field that goes off, is lost, or fails to return. -/

@[simp] theorem State.leaveResets_thermLatch : (s.leaveResets f).thermLatch = s.thermLatch := by
  unfold State.leaveResets
  dsimp only
  exact (State.forEach_frame _ State.thermLatch _ _ fun t r => t.forEach_frame State.thermLatch _ _ fun t i => t.complete_thermLatch ..).trans rfl

@[simp] theorem State.checkGrade_thermLatch : s.checkGrade.thermLatch = s.thermLatch := by
  unfold State.checkGrade
  dsimp only
  split
  · rfl
  · exact State.note_thermLatch ..

@[simp] theorem State.loseField_thermLatch (cause : Nat) : (s.loseField f cause).thermLatch = s.thermLatch := by
  unfold State.loseField
  dsimp only
  split
  · rfl
  · split
    · simp
    · simp [State.noteLost]

@[simp] theorem State.placeCopies_thermLatch : s.placeCopies.thermLatch = s.thermLatch :=
  s.forEach_frame State.thermLatch _ _ fun t i => by
    extract_lets want
    split <;> rfl

@[simp] theorem State.infraDown_thermLatch : (s.infraDown f).thermLatch = s.thermLatch := by
  unfold State.infraDown
  dsimp only
  rw [State.forEach_frame _ State.thermLatch _ _ (by exact fun t b => by simp), State.placeCopies_thermLatch,
    State.forEach_frame _ State.thermLatch _ _ (by exact fun t v => rfl), State.sig_thermLatch, State.modField_thermLatch]

@[simp] theorem State.returnFailed_thermLatch : (s.returnFailed f).thermLatch = s.thermLatch := by
  unfold State.returnFailed
  extract_lets sDown sInfra start queue sQueue sUnready fd sReturn
  have down : sDown.thermLatch = s.thermLatch := (State.railDown_thermLatch ..).trans (s.note_thermLatch ..)
  have infra : sInfra.thermLatch = sDown.thermLatch := by
    unfold sInfra; split <;> simp
  clear_value sInfra
  have queued : sQueue.thermLatch = sInfra.thermLatch := rfl
  clear_value sQueue
  have unready : sUnready.thermLatch = sQueue.thermLatch := State.forEach_frame _ State.thermLatch _ _ fun t p => State.modFlock_thermLatch ..
  have returned : sReturn.thermLatch = s.thermLatch :=
    (State.modField_thermLatch ..).trans (unready.trans (queued.trans (infra.trans down)))
  split <;> simp [returned]

@[simp] theorem State.orderDierst_thermLatch (code : Nat) : (s.orderDierst code).thermLatch = s.thermLatch := by
  unfold State.orderDierst
  split <;> rfl

@[simp] theorem State.paddockOff_thermLatch (cause code : Nat) : (s.paddockOff f cause code).thermLatch = s.thermLatch := by
  unfold State.paddockOff
  extract_lets sLeft sField sUnready
  have left : sField.thermLatch = s.thermLatch := s.leaveResets_thermLatch f
  have unready : sUnready.thermLatch = s.thermLatch := (State.forEach_frame sField State.thermLatch _ _ (by exact fun t p => rfl)).trans left
  split_ifs <;> simp [unready]

end
end Sys2Proof.Machine
end

section
/-!
The commands that open and return a field's rails: RAIL_TRIP, THERMAL_OFF, THERMAL_RETURN_DEADLINE and PADDOCK_RETURN (R338-R346).
-/
namespace Sys2Proof.Machine

theorem Field.advance_pad (fd : Field) (held : Bool) (now : Nat) : (fd.advance held now).pad = fd.pad := by
  unfold Field.advance
  split <;> rfl

theorem Field.modSensor_sensor (fd : Field) (i : Nat) (g : Sensor → Sensor) : (fd.modSensor i g).sensor i = g (fd.sensor i) :=
  mapGet_set_self ..

theorem State.pins_of_sansUnits {s t : State} (h : s.sansUnits = t.sansUnits) : s.pins = t.pins := (congrArg State.pins h :)

theorem State.thermLatch_eq_iff {s : State} {b : Bool} {f : Nat} : s.thermLatch = (b, f) ↔ s.pins.therm = b ∧ s.pins.thermField = f :=
  Prod.mk_inj

section

variable {s : State} {f i : Nat} {r : Int}

/-! A reading of 115 C or more. -/

/-- The reading of 115 C or more of a sensor, with its comparator fired. -/
def State.heatRead (s : State) (f i : Nat) (r : Int) : State :=
  (((s.takeReading f i r).syncField f).modField f (fun fd => fd.modSensor i (fun x => { x with at115 := true }))).driveTherm f

/-- THERMTRIP_N driven low for a field, unless it is low already. -/
def State.thermTripped (s : State) (f : Nat) : State :=
  if s.pins.therm then s else ({ s with pins := { s.pins with therm := true, thermField := f } } : State).sig .thermTripN 0 0

/-- The compute rail of a field in service, or of one that returns, opened by heat. -/
def State.heatOpens (s : State) (f i : Nat) (r : Int) (trying : Bool) : State :=
  let s := s.railDown f
  let s := s.modField f (fun fd => { fd with openings := recentTimes s.tbase 3600000000000 fd.openings ++ [s.tbase] })
  let n := (s.field f).openings.length
  let s := s.report 0x3103 (fieldUid f) ([0, BitVec.ofNat 8 i] ++ le 2 (toTwos 16 r) ++ [BitVec.ofNat 8 (sat 255 n)])
  let s := s.modField f (fun fd => { fd with coolMet := false })
  if trying then (let s := s.returnFailed f; if (s.field f).padCause = 2 ∧ 3 ≤ n then s.loseField f 2 else s.orderDierst 0x3103)
  else
  let s := s.paddockOff f 2 0x3103
  if (s.field f).pad ≠ .off then s
  else
    let s := s.modField f (fun fd => { fd with attempts := 0, returnedAt := none })
    if 3 ≤ n then s.loseField f 2 else s

/-- THERMAL_OFF of a sensor whose field has its infrastructure rail closed. -/
def State.overheated (s : State) (f i : Nat) (r : Int) : State :=
  let s := (s.heatRead f i r).thermTripped f
  let trying := (s.field f).returning.isSome
  if (s.field f).pad ≠ .inService ∧ !trying then s else s.heatOpens f i r trying

theorem exec_thermalOff (hf : f < Config.fields) (hi : i < Config.sensors) (hpg : (s.field f).infraPg = true) (hr : 920 ≤ r) :
    exec (.thermalOff f i r) s = .next (s.ends (s.begun.overheated f i r)) :=
  calc exec (.thermalOff f i r) s = execThermalOff f i r s := rfl
    _ = .next _ := actIf_answers (by simp [hf, hi, hpg, hr]) (by
      unfold State.overheated State.heatOpens State.heatRead State.thermTripped
      with_reducible rfl)

theorem State.heatRead_field {γ : Type} (p : Field → γ) (htherm : ∀ fd b, p { fd with thermOff := b } = p fd)
    (hsensor : ∀ fd i g, p (fd.modSensor i g) = p fd) (hadvance : ∀ fd held now, p (fd.advance held now) = p fd)
    (hcool : ∀ fd b c d, p { fd with coolMet := b, below100Since := c, coolSince := d } = p fd) :
    p ((s.heatRead f i r).field f) = p (s.field f) := by
  obtain ⟨held, now, hfield⟩ := (s.takeReading f i r).syncField_field f
  rw [State.heatRead, State.driveTherm_field p htherm, State.modField_field, hsensor, hfield, hadvance]
  unfold State.takeReading
  dsimp only
  rw [State.modField_field, hcool, State.driveTherm_field p htherm, State.modField_field, hsensor]

theorem State.heatRead_pad : ((s.heatRead f i r).field f).pad = (s.field f).pad :=
  State.heatRead_field Field.pad (by exact fun _ _ => rfl) (by exact fun _ _ _ => rfl) Field.advance_pad (by exact fun _ _ _ _ => rfl)

theorem State.heatRead_returning : ((s.heatRead f i r).field f).returning = (s.field f).returning :=
  State.heatRead_field Field.returning (by exact fun _ _ => rfl) (by exact fun _ _ _ => rfl) Field.advance_returning (by exact fun _ _ _ _ => rfl)

theorem State.heatRead_pins : (s.heatRead f i r).pins = s.pins := by
  have h : (s.heatRead f i r).sansUnits = s.sansUnits := by
    rw [State.heatRead, State.driveTherm_sansUnits, State.sansUnits_modField, State.sansUnits_syncField, State.takeReading_sansUnits]
  exact State.pins_of_sansUnits h

theorem State.driveTherm_thermOff : ((s.driveTherm f).field f).thermOff =
    (List.range Config.sensors).any (fun j => ((s.field f).sensor j).at115) := by
  unfold State.driveTherm
  dsimp only
  split
  · next h => exact h.symm
  · rw [State.sig_field, State.modField_field]

theorem State.heatRead_thermOff (hi : i < Config.sensors) : ((s.heatRead f i r).field f).thermOff = true := by
  rw [State.heatRead, State.driveTherm_thermOff, List.any_eq_true]
  exact ⟨i, List.mem_range.2 hi, by rw [State.modField_field, Field.modSensor_sensor]⟩

theorem State.thermTripped_field (g : Nat) : (s.thermTripped f).field g = s.field g := by
  unfold State.thermTripped
  split <;> rfl

theorem State.thermTripped_low (h : s.pins.therm = true) : s.thermTripped f = s := if_pos h

theorem State.thermTripped_pins (h : s.pins.therm = false) : (s.thermTripped f).pins = { s.pins with therm := true, thermField := f } := by
  rw [State.thermTripped, if_neg (by simp [h])]
  rfl

theorem State.thermTripped_thermLatch : (s.thermTripped f).thermLatch = (true, if s.pins.therm then s.pins.thermField else f) := by
  cases htherm : s.pins.therm
  · rw [State.thermLatch, State.thermTripped_pins htherm]
    rfl
  · rw [State.thermTripped_low htherm, State.thermLatch, htherm]
    rfl

theorem State.heatOpens_thermLatch (trying : Bool) : (s.heatOpens f i r trying).thermLatch = s.thermLatch := by
  unfold State.heatOpens
  extract_lets sDown sOpen n sReport sCool sFailed sOff sAgain
  have cool : sCool.thermLatch = s.thermLatch :=
    (State.modField_thermLatch ..).trans ((State.report_thermLatch ..).trans ((State.modField_thermLatch ..).trans (s.railDown_thermLatch f)))
  have failed : sFailed.thermLatch = sCool.thermLatch := State.returnFailed_thermLatch ..
  have off : sOff.thermLatch = sCool.thermLatch := State.paddockOff_thermLatch ..
  have again : sAgain.thermLatch = sOff.thermLatch := State.modField_thermLatch ..
  split_ifs <;> simp [failed, off, again, cool]

theorem State.overheated_thermLatch : (s.overheated f i r).thermLatch = (true, if s.pins.therm then s.pins.thermField else f) := by
  have tripped : ((s.heatRead f i r).thermTripped f).thermLatch = (true, if s.pins.therm then s.pins.thermField else f) := by
    rw [State.thermTripped_thermLatch, State.heatRead_pins]
  unfold State.overheated
  dsimp only
  split
  · exact tripped
  · exact (State.heatOpens_thermLatch _).trans tripped

theorem State.overheated_off (hpad : (s.field f).pad ≠ .inService) (hreturning : (s.field f).returning = none) :
    s.overheated f i r = (s.heatRead f i r).thermTripped f := by
  unfold State.overheated
  dsimp only
  rw [State.thermTripped_field, State.heatRead_pad, State.heatRead_returning, hreturning, if_pos ⟨hpad, rfl⟩]

/-! Trips, the deadline of a return, and a return. -/

theorem exec_railTrip_compute (hf : f < Config.fields) (h : (s.field f).compEn = true ∨ (s.field f).compPg = true) :
    exec (.railTrip f false) s = .next (s.ends (s.begun.computeTrip f)) :=
  calc exec (.railTrip f false) s = execRailTrip f false s := rfl
    _ = .next _ := actIf_answers (by rcases h with h | h <;> simp [hf, h]) rfl

theorem exec_railTrip_infra (hf : f < Config.fields) (hpg : (s.field f).infraPg = true) :
    exec (.railTrip f true) s = .next (s.ends (s.begun.infraTrip f)) :=
  calc exec (.railTrip f true) s = execRailTrip f true s := rfl
    _ = .next _ := actIf_answers (by simp [hf, hpg]) rfl

theorem exec_thermalReturnDeadline (hf : f < Config.fields) (hpad : (s.field f).pad = .off) (hcause : (s.field f).padCause = 2)
    (hreturning : (s.field f).returning = none) (hopen : (s.field f).openings ≠ []) (hmet : (s.field f).coolMet = false)
    (hcool : ∀ t, (s.field f).coolSince = some t → (s.field f).openings.getLastD 0 + 3600000000000 < t + 1000000000) :
    exec (.thermalReturnDeadline f) s = .next (s.ends
      (({ s.begun with tbase := max s.tbase ((s.field f).openings.getLastD 0 + 3600000000000) } : State).loseField f 2)) :=
  calc exec (.thermalReturnDeadline f) s = execThermalReturnDeadline f s := rfl
    _ = .next _ := actIf_answers (by
      cases hsince : (s.field f).coolSince with
      | none => simp [hf, hpad, hcause, hreturning, hopen, hmet]
      | some t =>
        have hlate : decide ((s.field f).openings.getLastD 0 + 3600000000000 < t + 1000000000) = true := decide_eq_true (hcool t hsince)
        have hsome : (s.field f).openings.isEmpty = false := by simpa using hopen
        simp only [hf, hpad, hcause, hreturning, hsome, hmet, hlate, decide_true, beq_self_eq_true, Option.isNone_none, Bool.not_false,
          Bool.and_self]) rfl

/-- A return attempt that is due begins: it is counted, at its time. -/
def State.returnBegins (s : State) (f d : Nat) : State :=
  ({ s with tbase := max s.tbase d } : State).modField f (fun fd => { fd with attempts := fd.attempts + 1, infraReturn := false })

theorem exec_paddockReturn {d : Nat} (hf : f < Config.fields) (hfw : s.firmware = true) (hpad : (s.field f).pad = .off)
    (hreturning : (s.field f).returning = none) (hjob : s.job.active = false) (hstarting : s.job.starting = none)
    (hlevel : s.recovery.level1 = none) (hbusy : (s.fields.filter (fun p => p.2.returning.isSome)).length < 8)
    (hdue : (s.field f).returnDue = some d) (hrail : (s.field f).infraPg = true ∨ (s.field (partner f)).infraPg = true) :
    exec (.paddockReturn f) s = .next (s.ends
      (if (s.field f).infraPg then (s.begun.returnBegins f d).closeCompute f else (s.begun.returnBegins f d).closeInfra f)) :=
  calc exec (.paddockReturn f) s = execPaddockReturn f s := rfl
    _ = .next _ := actIf_answers (by
        have hor : ((s.field f).infraPg || (s.field (partner f)).infraPg) = true := by rcases hrail with h | h <;> simp [h]
        simp only [hf, hfw, hpad, hreturning, hjob, hstarting, hlevel, hbusy, hdue, hor, decide_true, beq_self_eq_true, Option.isNone_none,
          Option.isSome_some, Bool.not_false, Bool.and_self]) (by
      have hbegun : (s.begun.field f).returnDue = some d := hdue
      have hpg : ((s.begun.returnBegins f d).field f).infraPg = (s.field f).infraPg := by rw [State.returnBegins, State.modField_field]; rfl
      dsimp only
      rw [hbegun, ← hpg]
      rfl)

end

/-- The partner of a field shares its row and the pair of columns (R338). -/
theorem partner_paired : ∀ f < Config.fields,
    partner f < Config.fields ∧ partner f ≠ f ∧ partner (partner f) = f ∧ partner f / Config.cols = f / Config.cols := by decide

/-- Settles O51: the latch of THERMTRIP_N takes the first field, and nothing that opens or gives up a rail changes it; the rest is each command's
answer by its guard. -/
theorem heatAndTripsPaddockAField : Obligations.HeatAndTripsPaddockAField := by
  unfold Obligations.HeatAndTripsPaddockAField
  refine ⟨fun f s hf => ⟨exec_railTrip_compute hf, exec_railTrip_infra hf, fun i r hi hpg hr hpad hreturning htherm => ?_,
      fun i r hi hpg hr hpad hreturning htherm => ?_, exec_thermalReturnDeadline hf⟩,
    fun f i r s hf hi hpg _ hr => ⟨_, exec_thermalOff hf hi hpg hr, State.thermLatch_eq_iff.1 State.overheated_thermLatch⟩,
    fun f d s u hf hfw hpad hreturning hjob hstarting hlevel hbusy hdue hu => ⟨fun hpg => ?_, fun hpg hpartner => ?_⟩, partner_paired⟩
  · refine ⟨_, exec_thermalOff hf hi hpg hr, ?_⟩
    rw [State.overheated_off (s := s.begun) hpad hreturning, State.thermTripped_field, State.heatRead_thermOff hi,
      State.thermTripped_pins (by rw [State.heatRead_pins]; exact htherm), State.heatRead_pins]
    exact ⟨rfl, rfl⟩
  · refine ⟨_, exec_thermalOff hf hi hpg hr, ?_⟩
    rw [State.overheated_off (s := s.begun) hpad hreturning, State.thermTripped_low (by rw [State.heatRead_pins]; exact htherm),
      State.heatRead_thermOff hi, State.heatRead_pins]
    exact ⟨rfl, rfl⟩
  · rw [exec_paddockReturn hf hfw hpad hreturning hjob hstarting hlevel hbusy hdue (.inl hpg), if_pos hpg, hu]
    rfl
  · rw [exec_paddockReturn hf hfw hpad hreturning hjob hstarting hlevel hbusy hdue (.inr hpartner), if_neg (by simp [hpg]), hu]
    rfl

end Sys2Proof.Machine
end
